-- ==== Sys2Proof/Word.lean ====
section
/-! DEFINITION. The word types of the Z480: 32-bit words, bytes, and the marigold's 64-bit word. -/

namespace Sys2Proof

/-- A 32-bit register or instruction word (R177). -/
abbrev Word := BitVec 32

/-- One byte, the unit of every memory (R8: multi-byte values are little-endian). -/
abbrev Byte := BitVec 8

/-- A general register number k0 to k31 (R152). -/
abbrev Reg := BitVec 5

/-- A condition bit number c0 to c7 (R154). -/
abbrev CBit := BitVec 3

end Sys2Proof
end

