-- ==== Sys2Proof/Machine/Table.lean ====
section
/-! DEFINITION. Sparse tables as plain data: a list of (index, value) pairs with strictly rising indices, in which no
entry equals what an unlisted index reads as. Memories are the tables whose values are bytes (`Host.Cell`). -/

namespace Sys2Proof.Machine

/-- The entry at `k`, or `d` where the table lists none. -/
def tget {α : Type} (d : α) : List (Nat × α) → Nat → α
  | [], _ => d
  | (a, v) :: r, k => if a = k then v else tget d r k

/-- Puts `v` at `k` in a table of rising indices, replacing what stood there. -/
def tput {α : Type} : List (Nat × α) → Nat → α → List (Nat × α)
  | [], k, v => [(k, v)]
  | (a, x) :: r, k, v =>
    if k < a then (k, v) :: (a, x) :: r
    else if a = k then (k, v) :: r
    else (a, x) :: tput r k v

/-- Removes the entry at `k`. -/
def tdel {α : Type} : List (Nat × α) → Nat → List (Nat × α)
  | [], _ => []
  | (a, x) :: r, k => if a = k then tdel r k else (a, x) :: tdel r k

/-- Writes `v` at `k`, where an unlisted `k` reads as `d`: writing `d` removes the entry, so that equal tables are
equal data. -/
def tset {α : Type} [DecidableEq α] (d : α) (t : List (Nat × α)) (k : Nat) (v : α) : List (Nat × α) :=
  match t with
  | [] => if v = d then [] else [(k, v)]
  | x :: r => if v = d then tdel (x :: r) k else tput (x :: r) k v

/-- The canonical form: indices strictly rising from above `lo`, no entry equal to the default of its index. -/
def twfFrom {α : Type} [DecidableEq α] (d : Nat → α) : Option Nat → List (Nat × α) → Bool
  | _, [] => true
  | lo, (a, v) :: r => (match lo with | none => true | some l => decide (l < a)) && decide (v ≠ d a) && twfFrom d (some a) r

/-- The canonical form of a whole table. -/
def twf {α : Type} [DecidableEq α] (d : Nat → α) (t : List (Nat × α)) : Bool := twfFrom d none t

/-- Keeps the entries whose index satisfies `p`. -/
def tfilter {α : Type} (p : Nat → Bool) : List (Nat × α) → List (Nat × α)
  | [] => []
  | (a, x) :: r => if p a then (a, x) :: tfilter p r else tfilter p r

end Sys2Proof.Machine
end

