-- ==== Sys2Proof/Machine/Bits.lean ====
section
/-! DEFINITION. Bit-field, sign-extension, byte-order, saturation and polynomial helpers that the meanings share. -/

namespace Sys2Proof.Machine

/-- Bits `lo` upward, `w` of them, of a number. -/
def bitsOf (v lo w : Nat) : Nat := v / 2 ^ lo % 2 ^ w

/-- `v` with bits `lo` upward, `w` of them, replaced by `x`. -/
def setBitsOf (v lo w x : Nat) : Nat :=
  v % 2 ^ lo + (x % 2 ^ w) * 2 ^ lo + v / 2 ^ (lo + w) * 2 ^ (lo + w)

/-- 1 for true. -/
def b2n (b : Bool) : Nat := if b then 1 else 0

/-- A number as a 32-bit word (modulo 2^32). -/
def w32 (n : Nat) : Word := BitVec.ofNat 32 n

/-- An integer as a 32-bit word (modulo 2^32). -/
def wInt (i : Int) : Word := BitVec.ofInt 32 i

/-- The signed value of the low `w` bits of `n`. -/
def sx (w n : Nat) : Int := if n % 2 ^ w < 2 ^ (w - 1) then (n % 2 ^ w : Nat) else (n % 2 ^ w : Nat) - (2 ^ w : Nat)

/-- Saturates an integer to a signed range of `w` bits. -/
def satS (w : Nat) (i : Int) : Int :=
  if i < -(2 ^ (w - 1) : Nat) then -(2 ^ (w - 1) : Nat) else if i > (2 ^ (w - 1) : Nat) - 1 then (2 ^ (w - 1) : Nat) - 1 else i

/-- `n + 1`, stopping at the largest value of `w` bits (a saturating counter). -/
def satInc (w n : Nat) : Nat := if n + 1 < 2 ^ w then n + 1 else 2 ^ w - 1

/-- `n` limited to the largest value of `w` bits. -/
def satN (w n : Nat) : Nat := min n (2 ^ w - 1)

/-- Little-endian bytes of a number, `n` of them (R8). -/
def leBytes : Nat → Nat → List Byte
  | 0, _ => []
  | n + 1, v => BitVec.ofNat 8 v :: leBytes n (v / 256)

/-- The number that little-endian bytes spell (R8). -/
def leNat : List Byte → Nat
  | [] => 0
  | b :: r => b.toNat + 256 * leNat r

/-- One step of a reflected CRC register: eight shifts with polynomial `p` (R189). -/
def crcRefl8 (p : Word) : Nat → Word → Word
  | 0, c => c
  | n + 1, c => crcRefl8 p n (if c.getLsbD 0 then (c >>> 1) ^^^ p else c >>> 1)

/-- One step of a non-reflected CRC register of `w` bits (R189). -/
def crcFwd8 (w p : Nat) : Nat → Nat → Nat
  | 0, c => c
  | n + 1, c => crcFwd8 w p n ((if c.testBit (w - 1) then (c * 2) ^^^ p else c * 2) % 2 ^ w)

/-- One byte into a CRC register under CRCCTL.POLY (R189): 0 CRC-32C, 1 CRC-32, 2 CRC-16/CCITT, 3 CRC-8. -/
def crcByte (poly : Nat) (crc : Word) (b : Byte) : Word :=
  match poly with
  | 0 => crcRefl8 0x82F63B78#32 8 (crc ^^^ b.setWidth 32)
  | 1 => crcRefl8 0xEDB88320#32 8 (crc ^^^ b.setWidth 32)
  | 2 => w32 (crcFwd8 16 0x1021 8 ((crc.toNat % 65536) ^^^ (b.toNat * 256)))
  | _ => w32 (crcFwd8 8 0x07 8 ((crc.toNat % 256) ^^^ b.toNat))

/-- One byte into the safety code of COP4 (R201). -/
def scByte (crc : Word) (b : Byte) : Word := crcRefl8 0xC8DF352F#32 8 (crc ^^^ b.setWidth 32)

/-- Byte `i` of a word. -/
def byteOf (v : Word) (i : Nat) : Byte := BitVec.ofNat 8 (v.toNat / 2 ^ (8 * i))

/-- The low `n` bytes of a word through a byte step, byte 0 first. -/
def overBytes (f : Word → Byte → Word) (crc v : Word) (n : Nat) : Word :=
  (List.range n).foldl (fun c i => f c (byteOf v i)) crc

/-- CRC-16/CCITT over bytes from an initial value (records, R385; frames, R209). -/
def crc16 (init : Nat) (bs : List Byte) : Nat :=
  (bs.foldl (fun c b => crcByte 2 c b) (w32 init)).toNat

/-- CRC-32 of bytes with initial value and final XOR of all ones. -/
def crc32 (bs : List Byte) : Nat :=
  ((bs.foldl (fun c b => crcByte 1 c b) 0xFFFFFFFF#32) ^^^ 0xFFFFFFFF#32).toNat

/-- The bit-reversed low `n` bits of a number. -/
def revBits : Nat → Nat → Nat
  | 0, _ => 0
  | n + 1, v => v % 2 * 2 ^ n + revBits n (v / 2)

/-- The number of one bits among the low `n` bits. -/
def popc : Nat → Nat → Nat
  | 0, _ => 0
  | n + 1, v => v % 2 + popc n (v / 2)

/-- Leading zeros of the low `n` bits. -/
def clz : Nat → Nat → Nat
  | 0, _ => 0
  | n + 1, v => if v.testBit n then 0 else 1 + clz n v

/-- Trailing zeros of the low `n` bits. -/
def ctz : Nat → Nat → Nat
  | 0, _ => 0
  | n + 1, v => if v % 2 = 1 then 0 else 1 + ctz n (v / 2)

/-- Whether `a` is later than `b` by 32-bit serial arithmetic (R471). -/
def serialLater (a b : Nat) : Bool :=
  let d := (a + 2 ^ 32 - b % 2 ^ 32) % 2 ^ 32
  1 ≤ d && d ≤ 2 ^ 31 - 1

/-- Rounds up to a multiple of `m`. -/
def ceilTo (m v : Nat) : Nat := (v + m - 1) / m * m

/-- Replaces entry `i` of a list. -/
def setAt {α : Type} : List α → Nat → α → List α
  | [], _, _ => []
  | _ :: r, 0, v => v :: r
  | x :: r, n + 1, v => x :: setAt r n v

end Sys2Proof.Machine
end

