-- ==== Sys2Proof/Machine/Types.lean ====
section
/-! DEFINITION. The data a command carries and the data the stores hold: register fields, core selectors, modes,
signed objects with their sections, host descriptors, frames. Types only. -/

namespace Sys2Proof.Machine

/-- A register field: the supervisor address of its register, its lowest bit, its width. -/
structure Fld where
  a : Nat
  lo : Nat
  w : Nat
  deriving DecidableEq, Repr

/-- The field classes of Table 0-6; `none` for read-only and engine-owned registers. -/
inductive FieldClass where
  | none | imm | cycle | stop | pair
  deriving DecidableEq, Repr

/-- The writable bits of a register by access code (Table 0-5) and its class. -/
structure RegAcc where
  rw : Word
  rws : Word
  rwl : Word
  w1c : Word
  wo : Word
  cls : FieldClass
  deriving DecidableEq, Repr

/-- Which core or cores an instruction command runs on: both cores of a lockstep pair (R124), one side of a SPLIT
pair (R134), or the SUP core. -/
inductive CoreSel where
  | pair (n : Fin 4)
  | side (n : Fin 4) (shadow : Bool)
  | sup
  deriving DecidableEq, Repr

/-- The operating modes of Table 2-1. -/
inductive Mode where
  | boot | provision | stop | startup | run | follow | test | debug | service | safe | recovery | parked
  deriving DecidableEq, Repr

/-- The maintenance activities of Table 2-8, in code order from 1. -/
inductive Act where
  | rrf | rcl | scr | nor | fwu | pdl | olc | cht | frc | dbg | cal | cfg
  deriving DecidableEq, Repr

/-- One task row of a pitch file's TASKS section (Table 16-15). -/
structure TaskRow where
  period : Nat := 0
  phase : Nat := 0
  ctrl : Nat := 0
  deadline : Nat := 0
  retain : Nat := 0
  entry : Nat := 0
  gp : Nat := 0
  stkHi : Nat := 0
  stkLo : Nat := 0
  wdgMin : Nat := 0
  wdgMax : Nat := 0
  deriving DecidableEq, Repr

/-- A window descriptor's first four words (Table 3-5). -/
structure DescRow where
  w0 : Nat := 0
  w1 : Nat := 0
  w2 : Nat := 0
  w3 : Nat := 0
  deriving DecidableEq, Repr

/-- An item table entry (Table 3-6). -/
structure ItemRow where
  w0 : Nat := 0
  w1 : Nat := 0
  deriving DecidableEq, Repr

/-- A CODE element with its payload; `hashOk` is whether SHAKE256 of the range equals the manifest's hash. -/
structure CodeRange where
  start : Nat := 0
  len : Nat := 0
  kept : Bool := false
  testlib : Bool := false
  bytes : List Byte := []
  hash : Nat := 0
  hashOk : Bool := true
  deriving DecidableEq, Repr

/-- A DATA or RETAIN_INIT element with its payload. -/
structure DataRange where
  start : Nat := 0
  len : Nat := 0
  owner : Nat := 0
  priv : Bool := false
  noinit : Bool := false
  bytes : List Byte := []
  hashOk : Bool := true
  deriving DecidableEq, Repr

/-- A TIMERS element. -/
structure TimerRow where
  index : Nat := 0
  ident : Nat := 0
  typ : Nat := 0
  owner : Nat := 0
  deriving DecidableEq, Repr

/-- An EDGES element. -/
structure EdgeRow where
  inst : Nat := 0
  ident : Nat := 0
  cleared : Bool := false
  owner : Nat := 0
  deriving DecidableEq, Repr

/-- An EXCHANGE element (R137). -/
structure ExchRow where
  start : Nat := 0
  lines : Nat := 0
  task : Nat := 0
  safety : Bool := false
  deriving DecidableEq, Repr

/-- A CHANNELS element; owner 0xFF for none. -/
structure ChanRow where
  channel : Nat := 0
  owner : Nat := 0xFF
  safety : Bool := false
  deriving DecidableEq, Repr

/-- A FIELDS element: a published telegram field. -/
structure FieldRow where
  session : Nat := 0
  offset : Nat := 0
  len : Nat := 0
  owner : Nat := 0
  safety : Bool := false
  deriving DecidableEq, Repr

/-- A SESSION_INIT record (R267). -/
structure SesInit where
  session : Nat := 0
  offset : Nat := 0
  bytes : List Byte := []
  deriving DecidableEq, Repr

/-- A MAILBOXES element: kind 1 an NV mailbox (R373), kind 2 an event line (R391). -/
structure Mailbox where
  task : Nat := 0
  kind : Nat := 0
  region : Nat := 0
  rights : Nat := 0
  req : Nat := 0
  reply : Nat := 0
  deriving DecidableEq, Repr

/-- A migration map entry (Table 4-4). -/
structure MigRow where
  src : Nat := 0
  dst : Nat := 0
  w2 : Nat := 0
  fillv : Nat := 0
  deriving DecidableEq, Repr

/-- The header of a signed object (Table 16-13) with what verification finds of it: `formatOk` whether every length
and reserved byte is right, `keyDigest` the SHAKE256 digest of the public key the object carries, `romKey` whether
that is the digest SUP ROM holds for firmware key `keyIndex`, `sigOk` whether its
ML-DSA-65 signature verifies under that key, `h` the first 64 bytes of SHAKE256 over its header and body (R429). -/
structure ObjHdr where
  magic : Nat := 0x424F4541
  kind : Nat := 0
  hver : Nat := 1
  flags : Nat := 0
  keyKind : Nat := 1
  keyIndex : Nat := 0
  objId : Nat := 0
  fwRevoke : Nat := 0
  member : Nat := 0x480
  formatOk : Bool := true
  keyDigest : Nat := 0
  romKey : Bool := true
  sigOk : Bool := false
  h : Nat := 0
  deriving DecidableEq, Repr

/-- A configuration record (Table 16-6). -/
inductive CfgRec where
  | run (first : Nat) (words : List Word)
  | sessions (first : Nat) (es : List (List Word))
  | rates (first : Nat) (es : List (Word × Word))
  | pwd (region kind digest : Nat)
  | dirs (first : Nat) (es : List (List Word))
  | keyAdd (slot perm digest : Nat)
  | revoke (mask : Nat) (jtag : Bool)
  deriving DecidableEq, Repr

/-- A configuration section (R433): a signed object whose body repeats SEQ and LAYOUT; `serial` in the individual
section only; `recsOk` whether every record is well formed, `hash` the
SHAKE256 hash of the section. -/
structure CfgSection where
  hdr : ObjHdr := {}
  seq : Nat := 0
  layout : Nat := 0
  serial : Nat := 0
  recs : List CfgRec := []
  recsOk : Bool := true
  hash : Nat := 0
  deriving DecidableEq, Repr

/-- A configuration slot image (Table 16-5) with the bytes CFG_READ returns. -/
structure CfgImage where
  magic : Nat := 0x0480C0F6
  seq : Nat := 0
  layout : Nat := 0
  common : CfgSection := {}
  indiv : CfgSection := {}
  bytes : List Byte := []
  deriving DecidableEq, Repr

/-- A pitch file (R432): the sections of Table 16-15. `layoutOk` is whether the recomputed layout identity equals
LAYOUT; `hash` is the SHAKE256 hash of the whole file; `cfg` the configuration that a flysheet's layout needs (R106). -/
structure Pitch where
  hdr : ObjHdr := {}
  layout : Nat := 0
  layoutOk : Bool := true
  affected : Nat := 0
  hash : Nat := 0
  tasks : List TaskRow := []
  descs : List DescRow := []
  items : List ItemRow := []
  code : List CodeRange := []
  data : List DataRange := []
  retainInit : List DataRange := []
  timers : List TimerRow := []
  edges : List EdgeRow := []
  exch : List ExchRow := []
  chans : List ChanRow := []
  fields : List FieldRow := []
  sesInit : List SesInit := []
  mailboxes : List Mailbox := []
  testref : List Nat := []
  vbase : Nat := 0
  migration : List MigRow := []
  cfg : Option CfgImage := none
  deriving DecidableEq, Repr

/-- A firmware image (KIND 1): its header (OBJ_ID the version) and the payload host software does not interpret. -/
structure FwImage where
  hdr : ObjHdr := {}
  payload : List Byte := []
  deriving DecidableEq, Repr

/-- Where a command came from (R347): ring `r` at slot index `slot`, or the engineering requester of directory index
`dir` with its TRDP sessionId. -/
inductive Src where
  | ring (r slot : Nat)
  | eng (dir sid : Nat)
  | own
  deriving DecidableEq, Repr

/-- Why steps 2 to 5 of the RECOVERY self-test fail (R151, Table 5-8): an injected mismatch of step 2 that goes undetected or does not
resolve (the pair; point 0x201, 0x203 or 0x204), a mismatch that no injection explains (the pair and KIND), or the outcome of step 3,
4 or 5. -/
inductive TestFail where
  | case (pair : Fin 4) (point : Fin 3) (seen : Bool)
  | mismatch (pair kind : Fin 4)
  | step (n : Fin 3)
  deriving DecidableEq, Repr

/-- The object a completed transfer's bytes form (R431 to R433); `bad` where they form none (format). -/
inductive Payload where
  | none
  | pitch (p : Pitch)
  | fw (f : FwImage)
  | cfg (c : CfgImage)
  | bad
  deriving DecidableEq, Repr

/-- A submission descriptor (Table 12-5) with its source and the input data of its buffer: `resv` a reserved field is not
0, `bufErr` the buffer access ends with a PCIe error (R335), `bufLate` that error comes after the command has changed state, `relayed` it came from the follower (R337), `obj` the object the transfer has brought with its last
piece, `aux` what the module finds as it carries the command out (given per command). -/
structure Desc where
  src : Src := .ring 0 0
  op : Nat := 0
  flags : Nat := 0
  tag : Nat := 0
  addr : Nat := 0
  len : Nat := 0
  p0 : Nat := 0
  p1 : Nat := 0
  p2 : Nat := 0
  data : List Byte := []
  obj : Payload := .none
  aux : Nat := 0
  resv : Bool := false
  bufErr : Bool := false
  bufLate : Bool := false
  relayed : Bool := false
  deriving DecidableEq, Repr

/-- A completion (Table 12-6) with the output bytes written into the buffer at `addr` (LEN_OUT of them). -/
structure Compl where
  src : Src := .ring 0 0
  op : Nat := 0
  status : Nat := 0
  tag : Nat := 0
  addr : Nat := 0
  res0 : Nat := 0
  res1 : Nat := 0
  res2 : Nat := 0
  detail : Nat := 0
  event : Nat := 0
  noirq : Bool := false
  out : List Byte := []
  deriving DecidableEq, Repr

/-- A ring of the doorbell page (Tables 12-3 and 12-4): SQ_BASE, CQ_BASE, the word at 0x10, whether a reserved byte at 0x14 to 0x1F is
not 0, and what SQ_PROD and CQ_CONS hold. -/
structure RingIn where
  sqBase : Nat := 0
  cqBase : Nat := 0
  w10 : Nat := 0
  resv : Bool := false
  sqProd : Nat := 0
  cqCons : Nat := 0
  deriving DecidableEq, Repr

/-- A coordinated instant on the sync link (CONTROL frames, R99, R122, R318, R321): `kind` 0 force, 1 class P write, 2 swap
point, 3 revert; `inst` 0 withdraws an instant; `a`, `b`, `c` what it concerns (force words, register address and value). The payload's layout is not given;
this is its content. -/
structure Ctl where
  confirm : Bool := false
  kind : Nat := 0
  inst : Nat := 0
  a : Nat := 0
  b : Nat := 0
  c : Nat := 0
  deriving DecidableEq, Repr

/-- The content of a heartbeat (Table 11-4). -/
structure Beat where
  count : Nat := 0
  mode : Nat := 0
  live : Bool := false
  fault : Bool := false
  preferred : Bool := false
  conflict : Bool := false
  sync : Nat := 0
  guyA : Bool := false
  guyB : Bool := false
  revertReady : Bool := false
  xchk : Nat := 0
  tb : Nat := 0
  mac : Nat := 0
  phb : Nat := 1000
  cfgHash : Nat := 0
  progHash : Nat := 0
  deriving DecidableEq, Repr

/-- A foreign-read entry (R300): address, size, value, task, cycle, execution. -/
structure ReadEntry where
  addr : Nat
  size : Nat
  value : Nat
  task : Nat
  cycle : Nat
  exec : Nat
  deriving DecidableEq, Repr

/-- An item of a STATE frame (R308, R309): bytes of a core-view address, the whole of data SRAM and the retain window by
supervisor-view address, a timer entry, a prime bit, a force entry's words, the whole force table,
the epoch, a cycle number, a session's counters, a task's last released values. -/
inductive StItem where
  | bytes (a : Nat) (bs : List Byte)
  | bulk (cells : List (Nat × Byte))
  | timer (i w0 w1 w2 w3 : Nat)
  | prime (i : Nat) (b : Bool)
  | force (i w0 w1 v : Nat)
  | forceTable (es : List (Nat × Nat × Nat × Nat))
  | epoch (e : Nat)
  | cycle (t k : Nat)
  | counters (s pub pull : Nat)
  | relDo (c : Nat) (b : Bool)
  | relAo (c na ctrl : Nat)
  | relPd (s : Nat) (bs : List Byte)
  deriving DecidableEq, Repr

/-- A frame that this module sends on the sync link, with the content of its payload (Table 11-3). -/
inductive SyncMsg where
  | heartbeat (b : Beat)
  | time (own seen sent : Nat)
  | control (c : Ctl)
  | ack (fseq : Nat)
  | nak (lo hi : Nat)
  | snapshot (task frag k due : Nat) (bs : List Byte) (last : Bool)
  | reads (es : List ReadEntry) (ovr : Bool)
  | digest (task k : Nat) (d : BitVec 64)
  | marker (task k exec : Nat)
  | state (is : List StItem)
  | counters (cs : List (Nat × Nat × Nat))
  | relay (d : Desc)
  | outcome (c : Compl)
  | join (j : Nat)
  | program (p : Option Pitch) (c : Option CfgImage)
  deriving DecidableEq, Repr

/-- What a group's front-ends show when the field side latches its return frame (Table 8-1): the terminals above 8.0 V (R234), the
DO switches that limit (R230), bits 25:0 of the status word of the DI or DO channel whose turn it is (Table 8-5), the controller's
temperature + 64. -/
structure FsSeen where
  high : Nat := 0
  limiting : Nat := 0
  meas : Nat := 0
  temp : Nat := 0
  deriving DecidableEq, Repr

/-- A frame as a port receives it: the port, whether its receive queue is full (R276), the PRP trailer's sequence number and LanId
where there is one, the source's MAC and IPv4 addresses, whether the IPv4 and UDP checks pass, its size in bytes without the PRP trailer. -/
structure RxFrame where
  portB : Bool := false
  full : Bool := false
  trailer : Option (Nat × Nat) := none
  mac : Nat := 0
  ip : Nat := 0
  ok : Bool := true
  size : Nat := 64
  deriving DecidableEq, Repr

/-- A TRDP telegram: whether its header CRC is correct, protocolVersion, msgType, comId, the topography counters, sequenceCounter,
datasetLength, the dataset. -/
structure PdTelegram where
  crcOk : Bool := true
  ver : Nat := 0x0100
  msg : Nat := 0x5064
  comId : Nat := 0
  etb : Nat := 0
  opt : Nat := 0
  seq : Nat := 0
  len : Nat := 0
  bytes : List Byte := []
  deriving DecidableEq, Repr

/-- A PTP announce message: domain, priority1, clockClass, whether the rest of the data set comparison favours its clock, whether
currentUtcOffset is marked valid, currentUtcOffset. -/
structure Announce where
  domain : Nat := 0
  prio1 : Nat := 0
  clockClass : Nat := 0
  tie : Bool := false
  utcValid : Bool := false
  utc : Nat := 0
  deriving DecidableEq, Repr

/-- What a resynchronisation step finds or brings (Table 11-6): the time it took in µs, whether SUP_FAMILY_ID and the two hashes are equal,
whether the active module reports a valid calendar, the program and the configuration that step 2 copies. -/
structure ResyncIn where
  us : Nat := 0
  familyEq : Bool := true
  cfgEq : Bool := true
  progEq : Bool := true
  calValid : Bool := false
  prog : Option Pitch := none
  cfg : Option CfgImage := none
  deriving DecidableEq, Repr

/-- What reaches the receiving end of a line: the frame with the bits of `err` inverted, or nothing. -/
inductive Line where
  | frame (err : Nat)
  | lost
  deriving DecidableEq, Repr

end Sys2Proof.Machine
end

