-- ==== Sys2Proof/Syntax.lean ====
section
/-! DEFINITION. The commands of the block: one constructor for each row of the opcode table, with its operands. -/

namespace Sys2Proof

open Sys2Proof.Machine

/-- The commands, in the table's order. -/
inductive Instr where
  /-- POWER_ON (R421): VIN becomes valid and the boot sequence of Table 16-1 runs. -/
  | powerOn (vin hold : Nat) (liveIn : Bool) (crc : Option Word)
  /-- BOOT_MODE_DECISION (R421): After the boot steps, Table 2-3 selects the mode and SUP event 0x0101 is recorded. -/
  | bootModeDecision (us : Nat)
  /-- PREFERRED_WAIT_EXPIRY (R287): A non-preferred module's 200 us LIVE_IN-low wait ends and the held transition is evaluated. -/
  | preferredWaitExpiry
  /-- BACKUP_RETENTION_TRIP (R403): The backup rail falls below 1.6 V and BKLOST latches. -/
  | backupRetentionTrip
  /-- RESERVE_LATCH (R357): VIN falls below 9.5 V with HOLD at or above 20 V, ARMED falls and the reserve latches. -/
  | reserveLatch (vin : Nat)
  /-- VIN_RESTORED (R357): VIN stays at or above 9.5 V for 1 ms, ARMED returns and the reserve latch drops. -/
  | vinRestored (vin : Nat)
  /-- HOLD_CHARGED (R356): HOLD reaches 20 V with VIN valid, ARMED becomes 1 and deferred write sequences start. -/
  | holdCharged (hold : Nat)
  /-- RESERVE_FAULT (R357): HOLD stays below 20 V for 10 s with VIN valid, and RESERVE_FAULT is set. -/
  | reserveFault
  /-- VIN_LOSS (R357): VIN stays below 8.5 V for 20 us, loss of VIN is declared, LIVE_OUT drops and cycles roll back. -/
  | vinLoss (us hold : Nat) (cut : Option Nat)
  /-- CORE_RAIL_BROWN_OUT (R31): The core rail falls below 0.72 V and the Z480 resets. -/
  | coreRailBrownOut
  /-- DROOP_DETECT (R27): The core rail falls below THRESH and the CORE clock is halved. -/
  | droopDetect
  /-- DROOP_HOLD_EXPIRY (R32): The rail has stayed above the threshold for HOLD_US, 800 MHz returns and SUP event 0x0021 is raised. -/
  | droopHoldExpiry (ns : Nat)
  /-- DROOP_LIMIT_EXPIRY (R32): A stretch lasts longer than LIMIT_MS, LIMIT is set, event 0x0022 is raised and SAFE follows if ACTION is 1. -/
  | droopLimitExpiry
  /-- CLKMON_WINDOW (R33): A 100 us monitor window ends, and a second out-of-band count declares the domain faulty. -/
  | clkmonWindow (dom : Fin 12) (count : Nat)
  /-- CLOCK_STOP_DETECT (R33): CORE or NET shows no edge for 400 ns and is declared faulty. -/
  | clockStopDetect (core : Bool)
  /-- CORE_FAULT_RESET (R33): 1 ms after a CORE clock fault, the monitor resets the Z480. -/
  | coreFaultReset
  /-- MON_CHECK (R36): The once-per-second check of MON against CORE runs, and two failed checks give MON_SUSPECT and SAFE. -/
  | monCheck (dev : Int)
  /-- SAFE_RETAIN_FLUSH (R360): After SAFE entry, the retain pass completes once ARMED allows, and SUP event 0x0031 is recorded. -/
  | safeRetainFlush
  /-- AUTOMATIC_RECOVERY (R50): 100 ms after a SAFE cause with AUTO_LEFT not 0, RECOVERY is entered and AUTO_LEFT decrements. -/
  | automaticRecovery
  /-- STARTUP_LIMIT_EXPIRY (R51): INIT tasks have not completed within STARTUP_LIMIT_MS, and the Z480 enters SAFE with cause 0x36. -/
  | startupLimitExpiry
  /-- RECOVERY_BOUND_EXPIRY (R49): RECOVERY exceeds 500 ms and fails to SAFE with cause 0x37. -/
  | recoveryBoundExpiry
  /-- SELF_TEST_COMPLETE (R151): The RECOVERY self-test ends, and a pass or failure selects the next mode. -/
  | selfTestComplete (cmp : Option (Fin 4 × Nat)) (bad : Option TestFail) (fails : List (Fin 48 × Nat))
  /-- START (R45): MODE_REQ START moves STOP to STARTUP or RECOVERY. -/
  | start (d : Desc)
  /-- STOP (R475): MODE_REQ STOP ends running cycles without FAULT and enters STOP. -/
  | stop (d : Desc)
  /-- TEST (R52): MODE_REQ TEST moves STOP to TEST while LIVE_IN is low. -/
  | test (d : Desc)
  /-- SERVICE (R45): MODE_REQ SERVICE moves STOP or SAFE to SERVICE, resuming a journalled firmware update. -/
  | service (d : Desc)
  /-- SERVICE_EXIT (R45): MODE_REQ SERVICE_EXIT leaves SERVICE for STOP, or for SAFE when the latch is set. -/
  | serviceExit (d : Desc)
  /-- PARK (R53): MODE_REQ PARK completes activities, flushes retain and powers down to PARKED. -/
  | park (d : Desc)
  /-- SAFE (R45): MODE_REQ SAFE enters SAFE with cause 0x10. -/
  | safe (d : Desc)
  /-- RECOVER (R49): MODE_REQ RECOVER moves SAFE to RECOVERY without a start intent. -/
  | recover (d : Desc)
  /-- RESET (R336): MODE_REQ RESET completes OK and schedules a commanded reset. -/
  | reset (d : Desc)
  /-- PROV_COMMIT (R336): MODE_REQ PROV_COMMIT commits provisioning and schedules a commanded reset. -/
  | provCommit (d : Desc)
  /-- COMMANDED_RESET_EXPIRY (R336): 1 ms after a RESET or PROV_COMMIT completion, the module resets to BOOT. -/
  | commandedResetExpiry
  /-- PARKED_WAKE (R412): The wake timer expires in PARKED, and housekeeping starts or the wake is skipped without VIN. -/
  | parkedWake
  /-- HOUSEKEEPING_END (R53): The housekeeping wake finishes, and the module powers down again. -/
  | housekeepingEnd (ms : Nat)
  /-- WAKE_N_LOW (R53): WAKE_N held low for 10 ms ends PARKED and starts BOOT. -/
  | wakeNLow
  /-- DEFERRED_REQUEST_START (R61): A deferred activity request becomes free and starts. -/
  | deferredRequestStart
  /-- DEFERRED_REQUEST_EXPIRY (R61): A deferred request has waited 30 s, completes BUSY and SUP event 0x0042 is recorded. -/
  | deferredRequestExpiry
  /-- RELEASE_DUE (R67): The release comparator reaches a due instant, the sample set freezes and the input window is built. -/
  | releaseDue (t : Fin 32)
  /-- DISPATCH (R68): A task's window is complete and the scheduler dispatches or pre-empts on its target. -/
  | dispatch (i : Fin 8) (gap : Nat) (cache : Option Bool) (ecc : Bool)
  /-- WINDOW_COMPARE (R131): A compare window closes and CMP compares the two marigolds and the close gap. -/
  | windowCompare (p : Fin 4) (gap : Nat) (cache : Option Bool) (ecc : Bool)
  /-- DEADLINE_RELEASE (R77): A RELEASE=1 task's held outputs are released at its deadline instant. -/
  | deadlineRelease (t : Fin 32)
  /-- DEADLINE_EXPIRY (R79): A cycle has not agreed by its deadline instant, an overrun is counted and its policy acts. -/
  | deadlineExpiry (t : Fin 32)
  /-- TIMER_SWEEP (R87): At each whole second, TSK sets SAT on running timers whose elapsed time reaches 2^44 us. -/
  | timerSweep
  /-- RETAIN_PASS_START (R91): Every PASS_MS a retain pass starts toward the next buffer. -/
  | retainPassStart
  /-- RETAIN_STRETCH_COPY (R91): TSK copies one idle task's dirty retain lines when the stretch fits before its next due instant. -/
  | retainStretchCopy (t : Fin 32)
  /-- CLASS_C_MS_LATCH (R440): A class C field without owning task or group latches at the next whole millisecond. -/
  | classCMsLatch
  /-- CLASS_P_INSTANT (R321): A confirmed class P value latches on both modules at instant E. -/
  | classPInstant
  /-- FORCE_EFFECTIVE (R99): A force set or clear takes effect at its effective instant E. -/
  | forceEffective
  /-- SWAP_POINT_FOUND (R109): The armed online change finds swap point s and runs the swap sequence. -/
  | swapPointFound
  /-- SWAP_SEARCH_TIMEOUT (R109): No swap point occurs within WAIT_MS and the OLC rolls back with reason 10. -/
  | swapSearchTimeout
  /-- INJECTION_ACT (R446): An armed injection point acts at its occasion and records its block's injection event. -/
  | injectionAct (n : Fin 12)
  /-- WDG_EXPIRY (R414): A task entry's COUNT reaches MAX with its window open and the watchdog trap is raised. -/
  | wdgExpiry (t : Fin 32)
  /-- SUP_WDG_EXPIRY (R415): The SUP entry reaches SUP MAX and the trap is raised with cause 5. -/
  | supWdgExpiry
  /-- WDG_SUP_CHECK (R415): A write to WDG_SUP_CHECK checks the SUP firmware in or raises a sequence error. -/
  | wdgSupCheck (v : Word)
  /-- WDG_KEY (R419): A write to WDG_KEY advances, completes, refuses or abandons the disable sequence. -/
  | wdgKey (src : Nat) (v : Word)
  /-- WDG_KEY_TIMEOUT (R419): The second key write does not arrive within 1 ms and the disable sequence lapses. -/
  | wdgKeyTimeout
  /-- WDG_LOCK (R419): Writing LOCK = 1 in WDG_CTRL locks the watchdog against disabling until reset. -/
  | wdgLock
  /-- HARD_RESET_EXPIRY (R417): The hard reset timer expires and the Z480 resets with cause 0x03 and the SAFE latch set. -/
  | hardResetExpiry
  /-- SUP_IRQ (R167): An enabled block interrupt makes the SUP core enter slot 16. -/
  | supIrq (req : BitVec 12)
  /-- CAL_SECOND (R408): A calendar second ends and the counters advance. -/
  | calSecond
  /-- TEMP_READING (R411): A new temperature reading recomputes the compensation correction. -/
  | tempReading (t : Int)
  /-- CAL_DATE_READ (R405): A read of CAL_DATE captures all calendar counters. -/
  | calDateRead
  /-- CALENDAR_SET_ACK (R406): The BKP domain loads a calendar set at one edge and acknowledges it. -/
  | calendarSetAck
  /-- CAL_SET_FROM_TIMEBASE (R407): The SUP firmware sets the calendar from the timebase on lock, hourly, or on follower join. -/
  | calSetFromTimebase
  /-- PAGE_WRITE_DONE (R353): An MRAM page write completes with its commit group written. -/
  | pageWriteDone
  /-- RECORD_WRITE_DONE (R354): An MRAM record write completes. -/
  | recordWriteDone
  /-- NOR_OP_DONE (R375): A NOR erase or program completes or fails. -/
  | norOpDone (ok : Bool)
  /-- SCRUB_SLICE (R364): A scrub slice margin-reads 256 pages and refreshes correctable groups. -/
  | scrubSlice
  /-- UNLOCK_EXPIRY (R369): A password unlock lapses after 600 s without access. -/
  | unlockExpiry
  /-- EVENT_REQUEST (R388): A raising circuit's event request enters the EVR input queue or is lost. -/
  | eventRequest (code : BitVec 16) (p0 p1 p2 : Word)
  /-- RECORD_WRITE (R385): The writer takes a queued request, applies rate limits and writes the record to the ring or holding queue. -/
  | recordWrite
  /-- TOKEN_REFILL (R390): A rate bucket gains a token, spent on a suppression summary if occurrences were suppressed. -/
  | tokenRefill (i : Fin 1024)
  /-- FREEZE_LIMIT (R394): A freeze reaches 10 s and the held records are written. -/
  | freezeLimit
  /-- CHALLENGE_EXPIRY (R396): A recorder challenge lapses 60 s after issue. -/
  | challengeExpiry
  /-- ARCHIVE_PAGE (R399): A ring page the writer has left is copied to the NOR archive. -/
  | archivePage
  /-- RATE_COUNTER_SAVE (R386): Once per hour the rate-limit suppression counters are written to MRAM. -/
  | rateCounterSave
  /-- USAGE_COUNTER_SAVE (R443): Once per hour the SUP usage counters are written. -/
  | usageCounterSave
  /-- ETH_LINK_CHANGE (R260): A port's link goes up or down and NET event 0x5001 or 0x5002 is recorded. -/
  | ethLinkChange (b up fast : Bool)
  /-- PD_TELEGRAM_RECEIVE (R269): A process-data telegram is checked and accepted or discarded by its subscribe session. -/
  | pdTelegramReceive (f : RxFrame) (t : PdTelegram)
  /-- PULL_REQUEST_RECEIVE (R271): A Pr is answered by a Pp with the publish buffer, within rate limits. -/
  | pullRequestReceive (f : RxFrame) (t : PdTelegram) (replyIp : Word)
  /-- MESSAGE_RECEIVE (R278): A message-data datagram is queued for the SUP firmware or dropped. -/
  | messageReceive (f : RxFrame) (comId : Word) (sid : Nat) (bs : List Byte)
  /-- ENG_REQUEST (R343): An engineering Mr on an ENG session executes its descriptor and is answered by Mp. -/
  | engRequest (obj : Payload) (aux : Nat)
  /-- PTP_MEASUREMENT (R282): An offset measurement slews, steps or slowly corrects the timebase. -/
  | ptpMeasurement (b : Bool) (o : Int) (aSync : Bool)
  /-- PTP_ANNOUNCE_TIMEOUT (R283): No Sync for three announce intervals puts PTP in HOLDOVER. -/
  | ptpAnnounceTimeout
  /-- ARP_REQUEST (R261): The SUP firmware answers an ARP request for its addresses. -/
  | arpRequest (f : RxFrame) (ip : Word)
  /-- ICMP_ECHO (R261): The SUP firmware answers an ICMP echo request. -/
  | icmpEcho (f : RxFrame) (ip : Word) (bs : List Byte)
  /-- IGMP_QUERY (R261): The SUP firmware sends membership reports for subscribed groups. -/
  | igmpQuery (f : RxFrame)
  /-- PRP_SUPERVISION_SEND (R262): Every 2 s a PRP supervision frame is sent. -/
  | prpSupervisionSend
  /-- PRP_ENTRY_FORGET (R263): A discard-table entry is forgotten FORGET_MS after it was made. -/
  | prpEntryForget
  /-- PUBLICATION_INSTANT (R266): At a session's publication instant the publish buffer is copied and the telegram sent. -/
  | publicationInstant (i : Fin 512) (late : Bool)
  /-- PULL_SUBSCRIBE_INSTANT (R271): A pull subscribe session sends a Pr at its instant. -/
  | pullSubscribeInstant (i : Fin 512)
  /-- SESSION_TIMEOUT (R270): TIMEOUT_MS passes without an accepted telegram and VALID becomes 0. -/
  | sessionTimeout (i : Fin 512)
  /-- HEARTBEAT_INSTANT (R312): At each P_HB instant a heartbeat is sent on both guy lines. -/
  | heartbeatInstant
  /-- HEARTBEAT_RECEIVE (R313): A partner heartbeat arrives on a guy line and updates pair state. -/
  | heartbeatReceive (fseq : Nat) (f : Option RxFrame) (b : Beat)
  /-- GUY_LINE_MISS (R313): A guy line misses a period, and after three misses it is failed. -/
  | guyLineMiss (b : Bool)
  /-- SYNC_LINK_UP (R293): 64 valid idle ordered sets bring the sync link up. -/
  | syncLinkUp
  /-- SYNC_LINK_DOWN (R293): 1 us without comma alignment takes the sync link down. -/
  | syncLinkDown
  /-- SYNC_FRAME_ERROR (R293): A sync-link frame with a CRC error or code violation is discarded. -/
  | syncFrameError
  /-- TIME_RECEIVE (R295): A TIME frame gives the follower an offset measurement against the active module. -/
  | timeReceive (fseq own seen sent : Nat)
  /-- CONTROL_RECEIVE (R318): A CONTROL frame proposes or confirms a coordinated instant. -/
  | controlReceive (fseq : Nat) (m : SyncMsg)
  /-- ACK_RECEIVE (R294): An ACK or NAK frame acknowledges frames or requests resends. -/
  | ackReceive (fseq lo : Nat) (hi : Option Nat)
  /-- ACK_TIMEOUT (R294): An acknowledged frame unacknowledged for 20 us is resent, and after 8 resends guy line A fails. -/
  | ackTimeout
  /-- SNAPSHOT_RECEIVE (R297): The follower writes a snapshot fragment into the input window and dispatches on the last. -/
  | snapshotReceive (fseq : Nat) (t : Fin 32) (frag k due : Nat) (bs : List Byte) (last : Bool)
  /-- READS_RECEIVE (R300): Foreign-read entries arrive and feed the follower's lead core. -/
  | readsReceive (fseq : Nat) (es : List ReadEntry) (ovr : Bool)
  /-- RELEASE_RECEIVE (R302): The active module's release digest is compared at the follower's agreement. -/
  | releaseReceive (fseq : Nat) (t : Fin 32) (k : Nat) (d : BitVec 64)
  /-- REEXEC_MARKER (R301): A re-execution marker makes the follower roll back and restart the cycle. -/
  | reexecMarker (fseq : Nat) (t : Fin 32) (k exec : Nat)
  /-- STATE_RECEIVE (R309): Resynchronisation bulk or mirror items are applied in arrival order. -/
  | stateReceive (fseq : Nat) (is : List StItem)
  /-- COUNTERS_RECEIVE (R305): The follower corrects publish counters that differ from the active module's. -/
  | countersReceive (fseq : Nat) (cs : List (Nat × Nat × Nat)) (age : Nat)
  /-- COUNTERS_SEND (R305): Every 100 ms the active module sends a COUNTERS frame. -/
  | countersSend
  /-- RESYNC_START (R303): At the next whole second, or 1 s after a failure, the follower starts resynchronisation. -/
  | resyncStart
  /-- RESYNC_STEP_DONE (R308): A resynchronisation step completes and the next step of Table 11-6 starts. -/
  | resyncStepDone (x : ResyncIn)
  /-- LIVE_IN_DROP (R291): LIVE_IN stays low for 256 ns after asserted and a drop is registered. -/
  | liveInDrop
  /-- LIVE_IN_GLITCH (R291): A LIVE_IN low pulse shorter than 256 ns is counted and ignored. -/
  | liveInGlitch
  /-- LIVE_IN_ASSERT (R52): LIVE_IN becomes asserted, holding outputs off or recording 0x0033 in TEST. -/
  | liveInAssert
  /-- TAKEOVER_HOLD_EXPIRY (R316): N due instants pass without a release and the held channel goes to groundsheet. -/
  | takeoverHoldExpiry (c : Fin 48)
  /-- REVERT_HOLD_COMPLETE (R317): The preferred follower completes REVERT_HOLD_S and reports REVERT_READY. -/
  | revertHoldComplete
  /-- REVERT_PROPOSE (R318): The active module proposes revert instant S by a CONTROL frame. -/
  | revertPropose
  /-- REVERT_CONFIRM_TIMEOUT (R318): S is not confirmed 5 ms before it and both modules discard it. -/
  | revertConfirmTimeout
  /-- REVERT_INSTANT (R319): At S the modules exchange roles by break-before-make or make-before-break. -/
  | revertInstant
  /-- REVERT_HANDOVER_EXPIRY (R319): At S plus 40 or 41 us the second role change happens or a takeover follows. -/
  | revertHandoverExpiry
  /-- OUTBOUND_BOUNDARY (R208): At a native period boundary the link controller sends the outbound frame. -/
  | outboundBoundary (g : Fin 6)
  /-- RETURN_FRAME_CHECK (R212): A native return frame is checked, timestamped and passed to the image engine. -/
  | returnFrameCheck (g : Fin 6) (l : Line)
  /-- FIELD_FRAME_RECEIVE (R213): The field side checks an outbound frame and applies DO, AO, configuration or test content. -/
  | fieldFrameReceive (g : Fin 6) (l : Line) (x : FsSeen)
  /-- AUTONOMY_TIMEOUT (R216): No valid outbound frame for 16 us puts the field side in autonomy at groundsheet. -/
  | autonomyTimeout (g : Fin 6)
  /-- CARRIER_FAULT (R217): The carrier current leaves its band and the carrier stops. -/
  | carrierFault (g : Fin 6)
  /-- CARRIER_RESTART (R217): 10 ms after a carrier fault the carrier restarts and the group start-up runs. -/
  | carrierRestart (g : Fin 6)
  /-- ZIREK_BOUNDARY (R219): At a 20 us boundary the Zirek outbound frame is sent. -/
  | zirekBoundary (g : Fin 6)
  /-- ZIREK_RETURN (R220): A Zirek return or identity frame is checked and the link brought up or down. -/
  | zirekReturn (g : Fin 6) (w : Nat)
  /-- DI_FILTER_EXPIRY (R224): A comparator level held for FILTER_US becomes the filtered DI state. -/
  | diFilterExpiry (c : Fin 48) (v : Int)
  /-- PULSE_COUNT (R226): A level held for PC_MIN counts as a rise or fall. -/
  | pulseCount (c : Fin 48) (v : Int)
  /-- WIREBREAK_SET (R225): Input current below 0.5 mA for 10 ms reports a wire-break. -/
  | wirebreakSet (c : Fin 48) (i : Nat)
  /-- WIREBREAK_CLEAR (R225): Input current at or above 1.0 mA for 10 ms clears the wire-break. -/
  | wirebreakClear (c : Fin 48) (i : Nat)
  /-- OVERLOAD_SWITCH_OFF (R231): A DO limits for LIM_MS and switches off for overload. -/
  | overloadSwitchOff (c : Fin 48) (ma : Nat)
  /-- THERMAL_SWITCH_OFF (R231): A DO switch reaches 150 C and switches off. -/
  | thermalSwitchOff (c : Fin 48) (temp : Nat)
  /-- RETRY_EXPIRY (R232): RETRY x 10 ms after a switch-off the DO turns on again if permitted. -/
  | retryExpiry (c : Fin 48)
  /-- INRUSH_EXPIRY (R230): 20 ms after turn-on the current limit returns to CURLIM. -/
  | inrushExpiry (c : Fin 48)
  /-- SUPPLY_MEASUREMENT (R236): Every 10 us the field side measures L+. -/
  | supplyMeasurement (g : Fin 6) (v : Nat)
  /-- SUPPLY_FLAG_CHANGE (R236): Ten consecutive measurements beyond a threshold change a supply flag. -/
  | supplyFlagChange (g : Fin 6)
  /-- CONVERSION_END (R241): An AI conversion or AO readback conversion ends at an outbound boundary. -/
  | conversionEnd (c : Fin 48) (v : Int) (fault : Bool)
  /-- LIMITER_ENGAGE (R244): An AI overcurrent engages the limiter and sets LIMITER. -/
  | limiterEngage (c : Fin 48) (na : Int)
  /-- LIMITER_DISCONNECT (R244): The limiter has acted for 100 ms and the input is disconnected. -/
  | limiterDisconnect (c : Fin 48)
  /-- LIMITER_RECONNECT (R244): 10 s after disconnection the input is reconnected. -/
  | limiterReconnect (c : Fin 48)
  /-- LIMITER_CLEAR (R244): Current below 25 mA for 100 ms clears LIMITER. -/
  | limiterClear (c : Fin 48)
  /-- AO_THERMAL (R252): The AO stage reaches 150 C and switches off, or returns below 130 C. -/
  | aoThermal (c : Fin 48) (off : Bool)
  /-- CHANNEL_TEST_END (R239): A channel test's DURATION ends and the channel returns to the application. -/
  | channelTestEnd (c : Fin 48) (pass : Bool) (v : Nat)
  /-- TABLE_WRITE (R248): A write to a characteristic table or its control register re-evaluates OK. -/
  | tableWrite (t : Fin 16) (i : Option (Fin 64)) (v : Word)
  /-- FLD_AN_TEST_WRITE (R257): A write to FLD_AN_TEST or FLD_AN_TEST_NA sets the AO test current or is rejected. -/
  | fldAnTestWrite (na : Bool) (v : Word)
  /-- FLD_LATCH_CLR (R232): Writing 1 to a channel bit of FLD_LATCH_CLR clears its DO latch. -/
  | fldLatchClr (hi : Bool) (v : Word)
  /-- DOORBELL_POLL (R329): Every POLL_US the ring indices are read and new descriptors fetched. -/
  | doorbellPoll (is : List (Nat × Nat))
  /-- DESCRIPTOR_FETCH_DONE (R329): Fetched descriptors enter the SUP command queue and SQ_CONS is written. -/
  | descriptorFetchDone (fs : List (Option (List Desc)))
  /-- COMPLETION_WRITE (R330): A command's completion, CQ_PROD and MSI-X message are written. -/
  | completionWrite
  /-- COMPLETION_ROOM (R330): A full completion ring gains room and held completions are written. -/
  | completionRoom (r : Fin 8)
  /-- GO (R327): Writing GO from 0 to 1 reads the ring table and starts the rings. -/
  | go (pollUs : BitVec 8) (tab : List RingIn)
  /-- GO_CLEAR (R332): Writing GO = 0 stops all fetching. -/
  | goClear (pollUs : BitVec 8)
  /-- PCIE_LINK_LOSS (R333): A link loss, hot reset, function-level reset or PERST_N clears GO and discards completions. -/
  | pcieLinkLoss (c : Fin 3)
  /-- PCIE_LINK_UP (R324): The PCIe link trains and HIF event 0x7001 is recorded. -/
  | pcieLinkUp (gen2 two : Bool)
  /-- PIECE_GAP_TIMEOUT (R338): More than 10 s between pieces of a transfer discards the partial image. -/
  | pieceGapTimeout
  /-- EVENT_WAIT_TIMEOUT (R342): An EVENT_WAIT reaches its limit P2 and completes with TIMEOUT. -/
  | eventWaitTimeout
  /-- NOP (R334): The NOP command completes OK. -/
  | nop (d : Desc)
  /-- IDENTIFY (R334): IDENTIFY returns the module status summary. -/
  | identify (d : Desc)
  /-- REG_READ (R372): REG_READ returns supervisor-view words, refusing MRAM, NOR and OTP. -/
  | regRead (d : Desc)
  /-- REG_WRITE (R441): REG_WRITE writes a masked register value and completes when latched. -/
  | regWrite (d : Desc)
  /-- EVENT_WAIT (R342): EVENT_WAIT returns the first matching record recorded after the command. -/
  | eventWait (d : Desc)
  /-- PROG_LOAD_SRAM (R477): PROG_LOAD with P0 = 0 loads a pitch file into code SRAM and the unused NOR slot. -/
  | progLoadSram (d : Desc)
  /-- PROG_LOAD_NOR (R477): PROG_LOAD with P0 = 1 loads a pitch file into the unused NOR slot only. -/
  | progLoadNor (d : Desc)
  /-- PROG_STRIKE (R94): PROG_STRIKE removes the loaded program and clears the force table. -/
  | progStrike (d : Desc)
  /-- PROG_INFO (R334): PROG_INFO returns the manifest summary of both NOR slots and code SRAM. -/
  | progInfo (d : Desc)
  /-- FORCE_SET (R95): FORCE_SET sets or replaces a force entry effective at E. -/
  | forceSet (d : Desc)
  /-- FORCE_CLEAR (R100): FORCE_CLEAR clears the force with the given identity at E. -/
  | forceClear (d : Desc)
  /-- FORCE_CLEAR_ALL (R100): FORCE_CLEAR_ALL clears every active force. -/
  | forceClearAll (d : Desc)
  /-- FORCE_LIST (R344): FORCE_LIST returns the active force entries from an offset. -/
  | forceList (d : Desc)
  /-- OLC_STAGE (R102): OLC_STAGE verifies and stages the flysheet from the unused NOR slot. -/
  | olcStage (d : Desc)
  /-- OLC_ARM (R109): OLC_ARM starts the search for a swap point. -/
  | olcArm (d : Desc)
  /-- OLC_CANCEL (R119): OLC_CANCEL rolls back an online change before step 6. -/
  | olcCancel (d : Desc)
  /-- REC_READ (R392): REC_READ returns records in ascending sequence, freezing the ring when FREEZE = 1. -/
  | recRead (d : Desc)
  /-- REC_RELEASE (R393): REC_RELEASE ends the freeze held by its source. -/
  | recRelease (d : Desc)
  /-- REC_CHALLENGE (R396): REC_CHALLENGE returns a fresh 32-byte challenge. -/
  | recChallenge (d : Desc)
  /-- REC_CLEAR (R397): REC_CLEAR verifies a signed response and clears the recorder. -/
  | recClear (d : Desc)
  /-- NV_READ (R368): NV_READ reads a user region, subject to its read password. -/
  | nvRead (d : Desc)
  /-- NV_WRITE (R367): NV_WRITE writes a user region page by page, subject to its write password. -/
  | nvWrite (d : Desc)
  /-- NV_UNLOCK (R370): NV_UNLOCK checks a region password and counts failures toward lockout. -/
  | nvUnlock (d : Desc)
  /-- NV_SCRUB (R366): NV_SCRUB runs a full scrub pass of all slices. -/
  | nvScrub (d : Desc)
  /-- NOR_ERASE_ARCHIVE (R400): NOR_ERASE with P0 = 0 erases archive sectors older than CLEAR_SEQ. -/
  | norEraseArchive (d : Desc)
  /-- NOR_ERASE_PROGRAM_SLOT (R377): NOR_ERASE with P0 = 1 erases the unused program slot. -/
  | norEraseProgramSlot (d : Desc)
  /-- FW_UPDATE (R378): FW_UPDATE receives, verifies and copies a firmware image via the journal. -/
  | fwUpdate (d : Desc)
  /-- CAL_SET (R406): CAL_SET loads the calendar date and time words. -/
  | calSet (d : Desc)
  /-- CAL_GET (R405): CAL_GET returns the calendar date, time and VALID. -/
  | calGet (d : Desc)
  /-- CFG_WRITE (R435): CFG_WRITE verifies a configuration slot image and writes it to the non-applied slot. -/
  | cfgWrite (d : Desc)
  /-- CFG_READ (R344): CFG_READ returns slot contents from an offset. -/
  | cfgRead (d : Desc)
  /-- CFG_CHOOSE (R437): CFG_CHOOSE applies the named slot and invalidates the other, clearing CONFLICT. -/
  | cfgChoose (d : Desc)
  /-- DBG_ATTACH (R62): DBG_ATTACH admits a debugger and enters DEBUG. -/
  | dbgAttach (d : Desc)
  /-- DBG_DETACH (R62): DBG_DETACH ends the debug session and returns to STOP. -/
  | dbgDetach (d : Desc)
  /-- DBG_HALT (R148): DBG_HALT stops the lead at an instruction boundary with the shadow following. -/
  | dbgHalt (d : Desc)
  /-- DBG_RESUME (R148): DBG_RESUME replays queued actions on the shadow and continues both cores. -/
  | dbgResume (d : Desc)
  /-- DBG_STEP (R148): DBG_STEP executes one instruction and halts again. -/
  | dbgStep (d : Desc)
  /-- DBG_BREAK (R339): DBG_BREAK sets or clears a breakpoint, up to 16. -/
  | dbgBreak (d : Desc)
  /-- DBG_READ (R339): DBG_READ returns lead registers, condition word or memory. -/
  | dbgRead (d : Desc)
  /-- DBG_WRITE (R149): DBG_WRITE changes the halted lead and appends a replay-queue action. -/
  | dbgWrite (d : Desc)
  /-- CHT_START (R239): CHT_START drives one channel through a test code or test current. -/
  | chtStart (d : Desc)
  /-- CHT_END (R239): CHT_END ends a channel test with DURATION 0. -/
  | chtEnd (d : Desc)
  /-- INJ_ARM (R444): INJ_ARM arms an injection point in its permitted modes. -/
  | injArm (d : Desc)
  /-- ATTEST (R442): ATTEST returns a signed attestation report over a nonce. -/
  | attest (d : Desc)
  /-- PROV_KEY (R425): PROV_KEY programs one OTP key slot in PROVISION. -/
  | provKey (d : Desc)
  /-- EPOCH_LO_READ (R65): A read of TSK_EPOCH_LO latches EPOCH_HI. -/
  | epochLoRead
  /-- TB_LO_READ (R280): A read of NET_TB_LO latches NET_TB_HI. -/
  | tbLoRead
  /-- POINT_LO_READ (R109): A read of TSK_OLC_POINT_LO latches POINT_HI. -/
  | pointLoRead
  /-- TMR_DATA_COMMIT (R11): A write of TSK_TMR_DATA3 commits all four words of the timer entry. -/
  | tmrDataCommit (v : Word)
  /-- SES_DATA_COMMIT (R272): A write of NET_SES_DATA7 commits the session entry. -/
  | sesDataCommit (v : Word)
  /-- DIR_DATA_COMMIT (R274): A write of NET_DIR_DATA3 commits the directory entry. -/
  | dirDataCommit (v : Word)
  /-- RL_DATA_COMMIT (R389): A write of EVR_RL_DATA1 commits a rate entry or is rejected. -/
  | rlDataCommit (v : Word)
  /-- EVR_LOOKUP (R389): A write of EVR_LOOKUP.CODE looks up the code's severity and bucket. -/
  | evrLookup (c : BitVec 16)
  /-- REGISTER_WRITE (R11): A write to a register without its own row takes effect by access code and field class. -/
  | registerWrite (bar0 : Bool) (a v : Word)
  /-- UNDEFINED_WORD (R179): An undefined encoding raises ILLEGAL. -/
  | undefinedWord (sel : CoreSel) (w : Word)
  /-- ADD (R183): Adds two registers. -/
  | add (sel : CoreSel) (rd : Reg) (rs1 : Reg) (rs2 : Reg)
  /-- SUB (R183): Subtracts two registers. -/
  | sub (sel : CoreSel) (rd : Reg) (rs1 : Reg) (rs2 : Reg)
  /-- AND (R183): Bitwise AND of two registers. -/
  | and (sel : CoreSel) (rd : Reg) (rs1 : Reg) (rs2 : Reg)
  /-- OR (R183): Bitwise OR of two registers. -/
  | or (sel : CoreSel) (rd : Reg) (rs1 : Reg) (rs2 : Reg)
  /-- XOR (R183): Bitwise XOR of two registers. -/
  | xor (sel : CoreSel) (rd : Reg) (rs1 : Reg) (rs2 : Reg)
  /-- ANDN (R183): AND with the inverted second register. -/
  | andn (sel : CoreSel) (rd : Reg) (rs1 : Reg) (rs2 : Reg)
  /-- ORN (R183): OR with the inverted second register. -/
  | orn (sel : CoreSel) (rd : Reg) (rs1 : Reg) (rs2 : Reg)
  /-- XNOR (R183): Inverted XOR of two registers. -/
  | xnor (sel : CoreSel) (rd : Reg) (rs1 : Reg) (rs2 : Reg)
  /-- SLL (R183): Shift left logical by register. -/
  | sll (sel : CoreSel) (rd : Reg) (rs1 : Reg) (rs2 : Reg)
  /-- SRL (R183): Shift right logical by register. -/
  | srl (sel : CoreSel) (rd : Reg) (rs1 : Reg) (rs2 : Reg)
  /-- SRA (R183): Shift right arithmetic by register. -/
  | sra (sel : CoreSel) (rd : Reg) (rs1 : Reg) (rs2 : Reg)
  /-- ROL (R183): Rotate left by register. -/
  | rol (sel : CoreSel) (rd : Reg) (rs1 : Reg) (rs2 : Reg)
  /-- ROR (R183): Rotate right by register. -/
  | ror (sel : CoreSel) (rd : Reg) (rs1 : Reg) (rs2 : Reg)
  /-- MIN (R183): Signed minimum. -/
  | min (sel : CoreSel) (rd : Reg) (rs1 : Reg) (rs2 : Reg)
  /-- MAX (R183): Signed maximum. -/
  | max (sel : CoreSel) (rd : Reg) (rs1 : Reg) (rs2 : Reg)
  /-- MINU (R183): Unsigned minimum. -/
  | minu (sel : CoreSel) (rd : Reg) (rs1 : Reg) (rs2 : Reg)
  /-- MAXU (R183): Unsigned maximum. -/
  | maxu (sel : CoreSel) (rd : Reg) (rs1 : Reg) (rs2 : Reg)
  /-- ADDS (R183): Saturating signed add. -/
  | adds (sel : CoreSel) (rd : Reg) (rs1 : Reg) (rs2 : Reg)
  /-- SUBS (R183): Saturating signed subtract. -/
  | subs (sel : CoreSel) (rd : Reg) (rs1 : Reg) (rs2 : Reg)
  /-- MUL (R183): Low 32 bits of the product. -/
  | mul (sel : CoreSel) (rd : Reg) (rs1 : Reg) (rs2 : Reg)
  /-- MULH (R183): High 32 bits of the signed product. -/
  | mulh (sel : CoreSel) (rd : Reg) (rs1 : Reg) (rs2 : Reg)
  /-- MULHU (R183): High 32 bits of the unsigned product. -/
  | mulhu (sel : CoreSel) (rd : Reg) (rs1 : Reg) (rs2 : Reg)
  /-- DIV (R184): Signed division, with DIVZ or defined result on zero. -/
  | div (sel : CoreSel) (rd : Reg) (rs1 : Reg) (rs2 : Reg)
  /-- DIVU (R184): Unsigned division. -/
  | divu (sel : CoreSel) (rd : Reg) (rs1 : Reg) (rs2 : Reg)
  /-- REM (R184): Signed remainder. -/
  | rem (sel : CoreSel) (rd : Reg) (rs1 : Reg) (rs2 : Reg)
  /-- REMU (R184): Unsigned remainder. -/
  | remu (sel : CoreSel) (rd : Reg) (rs1 : Reg) (rs2 : Reg)
  /-- ADDI (R183): Adds a sign-extended immediate. -/
  | addi (sel : CoreSel) (rd : Reg) (rs1 : Reg) (imm : BitVec 15)
  /-- ANDI (R183): ANDs a zero-extended immediate. -/
  | andi (sel : CoreSel) (rd : Reg) (rs1 : Reg) (imm : BitVec 15)
  /-- ORI (R183): ORs a zero-extended immediate. -/
  | ori (sel : CoreSel) (rd : Reg) (rs1 : Reg) (imm : BitVec 15)
  /-- XORI (R183): XORs a zero-extended immediate. -/
  | xori (sel : CoreSel) (rd : Reg) (rs1 : Reg) (imm : BitVec 15)
  /-- SLLI (R183): Shift left by immediate. -/
  | slli (sel : CoreSel) (rd : Reg) (rs1 : Reg) (sh : BitVec 5)
  /-- SRLI (R183): Shift right logical by immediate. -/
  | srli (sel : CoreSel) (rd : Reg) (rs1 : Reg) (sh : BitVec 5)
  /-- SRAI (R183): Shift right arithmetic by immediate. -/
  | srai (sel : CoreSel) (rd : Reg) (rs1 : Reg) (sh : BitVec 5)
  /-- RORI (R183): Rotate right by immediate. -/
  | rori (sel : CoreSel) (rd : Reg) (rs1 : Reg) (sh : BitVec 5)
  /-- LUI (R183): Loads an upper immediate. -/
  | lui (sel : CoreSel) (rd : Reg) (imm20 : BitVec 20)
  /-- AUIPC (R183): Adds an upper immediate to pc. -/
  | auipc (sel : CoreSel) (rd : Reg) (imm20 : BitVec 20)
  /-- LI (R183): Loads a sign-extended 20-bit immediate. -/
  | li (sel : CoreSel) (rd : Reg) (imm20 : BitVec 20)
  /-- CEQ (R185): Compares registers for equality into a condition bit. -/
  | ceq (sel : CoreSel) (cd : CBit) (rs1 : Reg) (rs2 : Reg)
  /-- CNE (R185): Compares registers for inequality. -/
  | cne (sel : CoreSel) (cd : CBit) (rs1 : Reg) (rs2 : Reg)
  /-- CLT (R185): Signed less-than compare. -/
  | clt (sel : CoreSel) (cd : CBit) (rs1 : Reg) (rs2 : Reg)
  /-- CGE (R185): Signed greater-or-equal compare. -/
  | cge (sel : CoreSel) (cd : CBit) (rs1 : Reg) (rs2 : Reg)
  /-- CLTU (R185): Unsigned less-than compare. -/
  | cltu (sel : CoreSel) (cd : CBit) (rs1 : Reg) (rs2 : Reg)
  /-- CGEU (R185): Unsigned greater-or-equal compare. -/
  | cgeu (sel : CoreSel) (cd : CBit) (rs1 : Reg) (rs2 : Reg)
  /-- CEQI (R185): Equality compare with immediate. -/
  | ceqi (sel : CoreSel) (cd : CBit) (rs1 : Reg) (imm : BitVec 15)
  /-- CNEI (R185): Inequality compare with immediate. -/
  | cnei (sel : CoreSel) (cd : CBit) (rs1 : Reg) (imm : BitVec 15)
  /-- CLTI (R185): Signed less-than compare with immediate. -/
  | clti (sel : CoreSel) (cd : CBit) (rs1 : Reg) (imm : BitVec 15)
  /-- CGEI (R185): Signed greater-or-equal compare with immediate. -/
  | cgei (sel : CoreSel) (cd : CBit) (rs1 : Reg) (imm : BitVec 15)
  /-- CLTUI (R185): Unsigned less-than compare with immediate. -/
  | cltui (sel : CoreSel) (cd : CBit) (rs1 : Reg) (imm : BitVec 15)
  /-- CGEUI (R185): Unsigned greater-or-equal compare with immediate. -/
  | cgeui (sel : CoreSel) (cd : CBit) (rs1 : Reg) (imm : BitVec 15)
  /-- CAND (R185): ANDs two condition bits. -/
  | cand (sel : CoreSel) (cd : CBit) (ca : CBit) (cb : CBit)
  /-- COR (R185): ORs two condition bits. -/
  | cor (sel : CoreSel) (cd : CBit) (ca : CBit) (cb : CBit)
  /-- CXOR (R185): XORs two condition bits. -/
  | cxor (sel : CoreSel) (cd : CBit) (ca : CBit) (cb : CBit)
  /-- CANDN (R185): ANDs with an inverted condition bit. -/
  | candn (sel : CoreSel) (cd : CBit) (ca : CBit) (cb : CBit)
  /-- CMOV (R185): Copies a condition bit. -/
  | cmov (sel : CoreSel) (cd : CBit) (ca : CBit)
  /-- CNOT (R185): Inverts a condition bit. -/
  | cnot (sel : CoreSel) (cd : CBit) (ca : CBit)
  /-- CSET (R185): Sets a condition bit. -/
  | cset (sel : CoreSel) (cd : CBit)
  /-- CCLR (R185): Clears a condition bit. -/
  | cclr (sel : CoreSel) (cd : CBit)
  /-- SETC (R185): Copies a condition bit into a register. -/
  | setc (sel : CoreSel) (rd : Reg) (ca : CBit)
  /-- SEL (R185): Selects one of two registers by a condition bit. -/
  | sel (sel : CoreSel) (rd : Reg) (rs1 : Reg) (rs2 : Reg) (c : CBit)
  /-- SELN (R185): Selects by an inverted condition bit. -/
  | seln (sel : CoreSel) (rd : Reg) (rs1 : Reg) (rs2 : Reg) (c : CBit)
  /-- BC (R186): Conditional branch on a condition bit. -/
  | bc (sel : CoreSel) (c : CBit) (v : Bool) (disp21 : BitVec 21)
  /-- J (R186): Unconditional pc-relative jump. -/
  | j (sel : CoreSel) (disp25 : BitVec 25)
  /-- CALL (R186): Jump writing the return address to k1. -/
  | call (sel : CoreSel) (disp25 : BitVec 25)
  /-- JALR (R186): Register-indirect jump with link. -/
  | jalr (sel : CoreSel) (rd : Reg) (rs1 : Reg) (imm : BitVec 15)
  /-- LB (R187): Loads a sign-extended byte. -/
  | lb (sel : CoreSel) (rt : Reg) (rs1 : Reg) (disp : BitVec 15)
  /-- LBU (R187): Loads a zero-extended byte. -/
  | lbu (sel : CoreSel) (rt : Reg) (rs1 : Reg) (disp : BitVec 15)
  /-- LH (R187): Loads a sign-extended halfword. -/
  | lh (sel : CoreSel) (rt : Reg) (rs1 : Reg) (disp : BitVec 15)
  /-- LHU (R187): Loads a zero-extended halfword. -/
  | lhu (sel : CoreSel) (rt : Reg) (rs1 : Reg) (disp : BitVec 15)
  /-- LW (R187): Loads a word. -/
  | lw (sel : CoreSel) (rt : Reg) (rs1 : Reg) (disp : BitVec 15)
  /-- LD (R188): Loads a doubleword into an even register pair. -/
  | ld (sel : CoreSel) (rt : Reg) (rs1 : Reg) (disp : BitVec 15)
  /-- SB (R187): Stores a byte. -/
  | sb (sel : CoreSel) (rt : Reg) (rs1 : Reg) (disp : BitVec 15)
  /-- SH (R187): Stores a halfword. -/
  | sh (sel : CoreSel) (rt : Reg) (rs1 : Reg) (disp : BitVec 15)
  /-- SW (R187): Stores a word. -/
  | sw (sel : CoreSel) (rt : Reg) (rs1 : Reg) (disp : BitVec 15)
  /-- SD (R188): Stores a doubleword from an even register pair. -/
  | sd (sel : CoreSel) (rt : Reg) (rs1 : Reg) (disp : BitVec 15)
  /-- CRCB (R189): Advances a CRC over one byte. -/
  | crcb (sel : CoreSel) (rd : Reg) (rs1 : Reg) (rs2 : Reg)
  /-- CRCH (R189): Advances a CRC over two bytes. -/
  | crch (sel : CoreSel) (rd : Reg) (rs1 : Reg) (rs2 : Reg)
  /-- CRCW (R189): Advances a CRC over four bytes. -/
  | crcw (sel : CoreSel) (rd : Reg) (rs1 : Reg) (rs2 : Reg)
  /-- PAR (R190): Parity of a word. -/
  | par (sel : CoreSel) (rd : Reg) (rs1 : Reg)
  /-- PARB (R190): Parity of each byte. -/
  | parb (sel : CoreSel) (rd : Reg) (rs1 : Reg)
  /-- BREV (R190): Reverses the bit order of a word. -/
  | brev (sel : CoreSel) (rd : Reg) (rs1 : Reg)
  /-- BREVB (R190): Reverses the bit order within each byte. -/
  | brevb (sel : CoreSel) (rd : Reg) (rs1 : Reg)
  /-- BSWAP (R190): Reverses the byte order. -/
  | bswap (sel : CoreSel) (rd : Reg) (rs1 : Reg)
  /-- CLZ (R190): Counts leading zeros. -/
  | clz (sel : CoreSel) (rd : Reg) (rs1 : Reg)
  /-- CTZ (R190): Counts trailing zeros. -/
  | ctz (sel : CoreSel) (rd : Reg) (rs1 : Reg)
  /-- POPC (R190): Counts 1 bits. -/
  | popc (sel : CoreSel) (rd : Reg) (rs1 : Reg)
  /-- SEXTB (R190): Sign-extends a byte. -/
  | sextb (sel : CoreSel) (rd : Reg) (rs1 : Reg)
  /-- SEXTH (R190): Sign-extends a halfword. -/
  | sexth (sel : CoreSel) (rd : Reg) (rs1 : Reg)
  /-- ZEXTH (R190): Zero-extends a halfword. -/
  | zexth (sel : CoreSel) (rd : Reg) (rs1 : Reg)
  /-- BLD (R192): Loads a bit into the accumulator. -/
  | bld (sel : CoreSel) (n : Bool) (rs1 : Reg) (boff : BitVec 15)
  /-- BAND (R192): ANDs a bit into the accumulator. -/
  | band (sel : CoreSel) (n : Bool) (rs1 : Reg) (boff : BitVec 15)
  /-- BOR (R192): ORs a bit into the accumulator. -/
  | bor (sel : CoreSel) (n : Bool) (rs1 : Reg) (boff : BitVec 15)
  /-- BXOR (R192): XORs a bit into the accumulator. -/
  | bxor (sel : CoreSel) (n : Bool) (rs1 : Reg) (boff : BitVec 15)
  /-- BST (R192): Stores the accumulator into a bit. -/
  | bst (sel : CoreSel) (n : Bool) (rs1 : Reg) (boff : BitVec 15)
  /-- BSET (R192): Sets a bit. -/
  | bset (sel : CoreSel) (rs1 : Reg) (boff : BitVec 15)
  /-- BCLR (R192): Clears a bit. -/
  | bclr (sel : CoreSel) (rs1 : Reg) (boff : BitVec 15)
  /-- BTGL (R192): Toggles a bit. -/
  | btgl (sel : CoreSel) (rs1 : Reg) (boff : BitVec 15)
  /-- BSETA (R192): Sets a bit when the accumulator condition holds. -/
  | bseta (sel : CoreSel) (n : Bool) (rs1 : Reg) (boff : BitVec 15)
  /-- BRSTA (R192): Clears a bit when the accumulator condition holds. -/
  | brsta (sel : CoreSel) (n : Bool) (rs1 : Reg) (boff : BitVec 15)
  /-- EDGR (R193): Detects a rising edge of the accumulator on an edge instance. -/
  | edgr (sel : CoreSel) (rs1 : Reg) (boff : BitVec 15)
  /-- EDGF (R193): Detects a falling edge of the accumulator on an edge instance. -/
  | edgf (sel : CoreSel) (rs1 : Reg) (boff : BitVec 15)
  /-- ACLD (R194): Loads a condition bit into the accumulator. -/
  | acld (sel : CoreSel) (cb : CBit)
  /-- ACST (R194): Stores the accumulator into a condition bit. -/
  | acst (sel : CoreSel) (cd : CBit)
  /-- ACAND (R194): ANDs a condition bit into the accumulator. -/
  | acand (sel : CoreSel) (cb : CBit)
  /-- ACOR (R194): ORs a condition bit into the accumulator. -/
  | acor (sel : CoreSel) (cb : CBit)
  /-- ALDR (R194): Loads register non-zero into the accumulator. -/
  | aldr (sel : CoreSel) (rs1 : Reg)
  /-- ASTR (R194): Stores the accumulator into a register. -/
  | astr (sel : CoreSel) (rd : Reg)
  /-- ANOT (R194): Inverts the accumulator. -/
  | anot (sel : CoreSel)
  /-- ASET (R194): Sets the accumulator. -/
  | aset (sel : CoreSel)
  /-- ACLR (R194): Clears the accumulator. -/
  | aclr (sel : CoreSel)
  /-- ACXOR (R194): XORs a condition bit into the accumulator. -/
  | acxor (sel : CoreSel) (cb : CBit)
  /-- TEND (R196): Ends the task and closes the window. -/
  | tend (sel : CoreSel)
  /-- TFAULT (R163): Raises a task fault with a reason byte. -/
  | tfault (sel : CoreSel) (rs1 : Reg)
  /-- SYSCALL (R196): Enters slot 13. -/
  | syscall (sel : CoreSel)
  /-- BRK (R196): Enters slot 14, or halts as a breakpoint in DEBUG. -/
  | brk (sel : CoreSel)
  /-- ERET (R160): Returns from a trap, restoring PC and PSR fields. -/
  | eret (sel : CoreSel)
  /-- WDCHK (R136): Issues a held watchdog check-in. -/
  | wdchk (sel : CoreSel)
  /-- MFCR (R158): Reads a control register. -/
  | mfcr (sel : CoreSel) (rd : Reg) (cr : BitVec 5)
  /-- MTCR (R197): Writes a control register, effective for the next instruction. -/
  | mtcr (sel : CoreSel) (cr : BitVec 5) (rs1 : Reg)
  /-- MFC (R196): Moves condition bits and accumulator into a register. -/
  | mfc (sel : CoreSel) (rd : Reg)
  /-- MTC (R196): Moves a register into condition bits and accumulator. -/
  | mtc (sel : CoreSel) (rs1 : Reg)
  /-- FADD (R198): Single-precision add. -/
  | fadd (sel : CoreSel) (rd : Reg) (rs1 : Reg) (rs2 : Reg)
  /-- FSUB (R198): Single-precision subtract. -/
  | fsub (sel : CoreSel) (rd : Reg) (rs1 : Reg) (rs2 : Reg)
  /-- FMUL (R198): Single-precision multiply. -/
  | fmul (sel : CoreSel) (rd : Reg) (rs1 : Reg) (rs2 : Reg)
  /-- FDIV (R198): Single-precision divide. -/
  | fdiv (sel : CoreSel) (rd : Reg) (rs1 : Reg) (rs2 : Reg)
  /-- FSQRT (R198): Single-precision square root. -/
  | fsqrt (sel : CoreSel) (rd : Reg) (rs1 : Reg)
  /-- FMIN (R198): Single-precision minimum. -/
  | fmin (sel : CoreSel) (rd : Reg) (rs1 : Reg) (rs2 : Reg)
  /-- FMAX (R198): Single-precision maximum. -/
  | fmax (sel : CoreSel) (rd : Reg) (rs1 : Reg) (rs2 : Reg)
  /-- FABS (R198): Clears the sign bit. -/
  | fabs (sel : CoreSel) (rd : Reg) (rs1 : Reg)
  /-- FNEG (R198): Inverts the sign bit. -/
  | fneg (sel : CoreSel) (rd : Reg) (rs1 : Reg)
  /-- FCVTSW (R198): Signed integer to single. -/
  | fcvtsw (sel : CoreSel) (rd : Reg) (rs1 : Reg)
  /-- FCVTSWU (R198): Unsigned integer to single. -/
  | fcvtswu (sel : CoreSel) (rd : Reg) (rs1 : Reg)
  /-- FCVTWS (R198): Single to signed integer, saturating. -/
  | fcvtws (sel : CoreSel) (rd : Reg) (rs1 : Reg)
  /-- FCVTWUS (R198): Single to unsigned integer, saturating. -/
  | fcvtwus (sel : CoreSel) (rd : Reg) (rs1 : Reg)
  /-- FEQ (R198): Single-precision equality into a condition bit. -/
  | feq (sel : CoreSel) (cd : CBit) (rs1 : Reg) (rs2 : Reg)
  /-- FLT (R198): Single-precision less-than into a condition bit. -/
  | flt (sel : CoreSel) (cd : CBit) (rs1 : Reg) (rs2 : Reg)
  /-- FLE (R198): Single-precision less-or-equal into a condition bit. -/
  | fle (sel : CoreSel) (cd : CBit) (rs1 : Reg) (rs2 : Reg)
  /-- FUN (R198): Unordered test into a condition bit. -/
  | fun (sel : CoreSel) (cd : CBit) (rs1 : Reg) (rs2 : Reg)
  /-- FCLASS (R198): Classifies a single-precision value. -/
  | fclass (sel : CoreSel) (rd : Reg) (rs1 : Reg)
  /-- TEV (R199): Evaluates a timer entry with a 32-bit preset. -/
  | tev (sel : CoreSel) (rd : Reg) (rs1 : Reg) (rs2 : Reg)
  /-- TEVX (R199): Evaluates a timer entry with a 40-bit preset. -/
  | tevx (sel : CoreSel) (rd : Reg) (rs1 : Reg) (rs2 : Reg)
  /-- TETH (R199): Returns the high bits of a timer's elapsed time. -/
  | teth (sel : CoreSel) (rd : Reg) (rs1 : Reg)
  /-- TRST (R199): Resets a timer entry's IN, Q, RUN and SAT. -/
  | trst (sel : CoreSel) (rs1 : Reg)
  /-- TRDS (R199): Reads word 0 of a timer entry. -/
  | trds (sel : CoreSel) (rd : Reg) (rs1 : Reg)
  /-- FSTAT (R200): Reads TSK_FORCE_STATUS. -/
  | fstat (sel : CoreSel) (rd : Reg)
  /-- FQRY (R200): Queries force state of an item. -/
  | fqry (sel : CoreSel) (rd : Reg) (rs1 : Reg)
  /-- IREC (R200): Returns the record address of an item. -/
  | irec (sel : CoreSel) (rd : Reg) (rs1 : Reg)
  /-- IBIT (R200): Returns the bit address of a bit of an item's record. -/
  | ibit (sel : CoreSel) (rd : Reg) (rs1 : Reg) (rs2 : Reg)
  /-- SCB (R201): Advances the safety code over one byte. -/
  | scb (sel : CoreSel) (rd : Reg) (rs1 : Reg) (rs2 : Reg)
  /-- SCH (R201): Advances the safety code over two bytes. -/
  | sch (sel : CoreSel) (rd : Reg) (rs1 : Reg) (rs2 : Reg)
  /-- SCW (R201): Advances the safety code over four bytes. -/
  | scw (sel : CoreSel) (rd : Reg) (rs1 : Reg) (rs2 : Reg)
  /-- XQ (R202): Sends an extension-port query and writes the response. -/
  | xq (sel : CoreSel) (slot : BitVec 2) (rd : Reg) (rs1 : Reg) (rs2 : Reg) (opc : BitVec 8)
  /-- XP (R202): Issues a held posted extension-port operation. -/
  | xp (sel : CoreSel) (slot : BitVec 2) (rs1 : Reg) (rs2 : Reg) (opc : BitVec 8)
  /-- EXT_QUERY_TIMEOUT (R176): A query without response within TIMEOUT raises COP detail 7. -/
  | extQueryTimeout (i : Fin 8)
  /-- EXT_RESPONSE_RECEIVE (R465): An extension-port response frame arrives and is matched to its query. -/
  | extResponseReceive (src : Fin 8) (v : Word)
  /-- PARTNER_CONFIRM_TIMEOUT (R99): 500 us before a coordinated instant E or s without the follower's confirmation, the active module discards the force, class P value or online change. -/
  | partnerConfirmTimeout
  /-- PAIR_DEADLINE_COPY (R298): With the pair unit enabled, an agreed cycle's process-data fields enter the publish buffers at its deadline instant. -/
  | pairDeadlineCopy (t : Fin 32)
  /-- LANTERN_FLASH_TOGGLE (R101): With FLASH = 1 and the lantern lit, LANTERN goes high at each whole second and low 500 ms later. -/
  | lanternFlashToggle
  /-- AUTONOMY_RETURN_FRAME (R216): In autonomy the field side starts a TYPE 2 return frame 5.0 us after the previous one. -/
  | autonomyReturnFrame (g : Fin 6) (x : FsSeen)
  /-- DO_SWITCH_COOLED (R232): A DO switch that waits for its retry cools below 130 C and turns on again if OUT is still 1. -/
  | doSwitchCooled (c : Fin 48)
  /-- EXT_RST_N_RELEASE (R465): EXT_RST_N goes high 1 us after SLOT_EN first becomes non-zero. -/
  | extRstNRelease
  /-- EXT_BUSY_LOW (R465): EXT_BUSY falls low, and a waiting extension-port request starts at the next edge. -/
  | extBusyLow (again : Bool)
  /-- JTAG_ACCESS (R148): A JTAG access to the lead in DEBUG acts on the lead and is appended to the replay queue. -/
  | jtagAccess (kind num : Nat) (v : Word) (be : BitVec 4)
  /-- PTP_ANNOUNCE_RECEIVE (R281): A PTP announce message updates OFFSET_S when marked valid and feeds grandmaster selection. -/
  | ptpAnnounceReceive (a : Announce)
  /-- HOLD_COLLAPSE (R362): HOLD falls below 12 V or the NVS domain loses power during a write sequence, and the write is torn. -/
  | holdCollapse (step : Fin 4) (n : Fin 32) (g : Fin 3)
  deriving DecidableEq, Repr

end Sys2Proof
end

