-- ==== Sys2Proof/Decode.lean ====
section
/-! DEFINITION. The table's words: its rows give no bits, so no word spells a command. Beside it the encoding of the
Kyoquel instructions (spec/07, Tables 7-1 to 7-17): `kyEncode` and `kyDecode` over the
instructions as a type of their own, from which EINSN and the undefined words of R179 are taken. -/

namespace Sys2Proof

open Sys2Proof.Machine

/-- The command that a word spells by the table's bits: the table gives no row any bits. -/
def decodeTableWord (_nbits _w : Nat) : Option Instr := none

/-! ## Words of the formats (Table 7-1, R178) -/

/-- R format, and C format with func in place of fn. -/
def wR (op rd rs1 rs2 fn : Nat) : Word := w32 (op * 2 ^ 25 + rd * 2 ^ 20 + rs1 * 2 ^ 15 + rs2 * 2 ^ 10 + fn)
/-- I and M formats: a 15-bit low field. -/
def wI (op rd rs1 : Nat) (imm : BitVec 15) : Word := w32 (op * 2 ^ 25 + rd * 2 ^ 20 + rs1 * 2 ^ 15 + imm.toNat)
/-- L format. -/
def wL (op rd : Nat) (imm : BitVec 20) : Word := w32 (op * 2 ^ 25 + rd * 2 ^ 20 + imm.toNat)
/-- B format. -/
def wB (op : Nat) (c : CBit) (s : Bool) (d : BitVec 21) : Word := w32 (op * 2 ^ 25 + c.toNat * 2 ^ 22 + b2n s * 2 ^ 21 + d.toNat)
/-- J format. -/
def wJ (op : Nat) (d : BitVec 25) : Word := w32 (op * 2 ^ 25 + d.toNat)
/-- X format. -/
def wX (op bop : Nat) (n : Bool) (rs1 : Reg) (b : BitVec 15) : Word := wI op (bop * 2 + b2n n) rs1.toNat b


/-- The Kyoquel instructions with their operand fields. -/
inductive Ky where
  | add (rd : Reg) (rs1 : Reg) (rs2 : Reg)
  | sub (rd : Reg) (rs1 : Reg) (rs2 : Reg)
  | and (rd : Reg) (rs1 : Reg) (rs2 : Reg)
  | or (rd : Reg) (rs1 : Reg) (rs2 : Reg)
  | xor (rd : Reg) (rs1 : Reg) (rs2 : Reg)
  | andn (rd : Reg) (rs1 : Reg) (rs2 : Reg)
  | orn (rd : Reg) (rs1 : Reg) (rs2 : Reg)
  | xnor (rd : Reg) (rs1 : Reg) (rs2 : Reg)
  | sll (rd : Reg) (rs1 : Reg) (rs2 : Reg)
  | srl (rd : Reg) (rs1 : Reg) (rs2 : Reg)
  | sra (rd : Reg) (rs1 : Reg) (rs2 : Reg)
  | rol (rd : Reg) (rs1 : Reg) (rs2 : Reg)
  | ror (rd : Reg) (rs1 : Reg) (rs2 : Reg)
  | min (rd : Reg) (rs1 : Reg) (rs2 : Reg)
  | max (rd : Reg) (rs1 : Reg) (rs2 : Reg)
  | minu (rd : Reg) (rs1 : Reg) (rs2 : Reg)
  | maxu (rd : Reg) (rs1 : Reg) (rs2 : Reg)
  | adds (rd : Reg) (rs1 : Reg) (rs2 : Reg)
  | subs (rd : Reg) (rs1 : Reg) (rs2 : Reg)
  | mul (rd : Reg) (rs1 : Reg) (rs2 : Reg)
  | mulh (rd : Reg) (rs1 : Reg) (rs2 : Reg)
  | mulhu (rd : Reg) (rs1 : Reg) (rs2 : Reg)
  | div (rd : Reg) (rs1 : Reg) (rs2 : Reg)
  | divu (rd : Reg) (rs1 : Reg) (rs2 : Reg)
  | rem (rd : Reg) (rs1 : Reg) (rs2 : Reg)
  | remu (rd : Reg) (rs1 : Reg) (rs2 : Reg)
  | addi (rd : Reg) (rs1 : Reg) (imm : BitVec 15)
  | andi (rd : Reg) (rs1 : Reg) (imm : BitVec 15)
  | ori (rd : Reg) (rs1 : Reg) (imm : BitVec 15)
  | xori (rd : Reg) (rs1 : Reg) (imm : BitVec 15)
  | slli (rd : Reg) (rs1 : Reg) (sh : BitVec 5)
  | srli (rd : Reg) (rs1 : Reg) (sh : BitVec 5)
  | srai (rd : Reg) (rs1 : Reg) (sh : BitVec 5)
  | rori (rd : Reg) (rs1 : Reg) (sh : BitVec 5)
  | lui (rd : Reg) (imm20 : BitVec 20)
  | auipc (rd : Reg) (imm20 : BitVec 20)
  | li (rd : Reg) (imm20 : BitVec 20)
  | ceq (cd : CBit) (rs1 : Reg) (rs2 : Reg)
  | cne (cd : CBit) (rs1 : Reg) (rs2 : Reg)
  | clt (cd : CBit) (rs1 : Reg) (rs2 : Reg)
  | cge (cd : CBit) (rs1 : Reg) (rs2 : Reg)
  | cltu (cd : CBit) (rs1 : Reg) (rs2 : Reg)
  | cgeu (cd : CBit) (rs1 : Reg) (rs2 : Reg)
  | ceqi (cd : CBit) (rs1 : Reg) (imm : BitVec 15)
  | cnei (cd : CBit) (rs1 : Reg) (imm : BitVec 15)
  | clti (cd : CBit) (rs1 : Reg) (imm : BitVec 15)
  | cgei (cd : CBit) (rs1 : Reg) (imm : BitVec 15)
  | cltui (cd : CBit) (rs1 : Reg) (imm : BitVec 15)
  | cgeui (cd : CBit) (rs1 : Reg) (imm : BitVec 15)
  | cand (cd : CBit) (ca : CBit) (cb : CBit)
  | cor (cd : CBit) (ca : CBit) (cb : CBit)
  | cxor (cd : CBit) (ca : CBit) (cb : CBit)
  | candn (cd : CBit) (ca : CBit) (cb : CBit)
  | cmov (cd : CBit) (ca : CBit)
  | cnot (cd : CBit) (ca : CBit)
  | cset (cd : CBit)
  | cclr (cd : CBit)
  | setc (rd : Reg) (ca : CBit)
  | sel (rd : Reg) (rs1 : Reg) (rs2 : Reg) (c : CBit)
  | seln (rd : Reg) (rs1 : Reg) (rs2 : Reg) (c : CBit)
  | bc (c : CBit) (v : Bool) (disp21 : BitVec 21)
  | j (disp25 : BitVec 25)
  | call (disp25 : BitVec 25)
  | jalr (rd : Reg) (rs1 : Reg) (imm : BitVec 15)
  | lb (rt : Reg) (rs1 : Reg) (disp : BitVec 15)
  | lbu (rt : Reg) (rs1 : Reg) (disp : BitVec 15)
  | lh (rt : Reg) (rs1 : Reg) (disp : BitVec 15)
  | lhu (rt : Reg) (rs1 : Reg) (disp : BitVec 15)
  | lw (rt : Reg) (rs1 : Reg) (disp : BitVec 15)
  | ld (rt : Reg) (rs1 : Reg) (disp : BitVec 15)
  | sb (rt : Reg) (rs1 : Reg) (disp : BitVec 15)
  | sh (rt : Reg) (rs1 : Reg) (disp : BitVec 15)
  | sw (rt : Reg) (rs1 : Reg) (disp : BitVec 15)
  | sd (rt : Reg) (rs1 : Reg) (disp : BitVec 15)
  | crcb (rd : Reg) (rs1 : Reg) (rs2 : Reg)
  | crch (rd : Reg) (rs1 : Reg) (rs2 : Reg)
  | crcw (rd : Reg) (rs1 : Reg) (rs2 : Reg)
  | par (rd : Reg) (rs1 : Reg)
  | parb (rd : Reg) (rs1 : Reg)
  | brev (rd : Reg) (rs1 : Reg)
  | brevb (rd : Reg) (rs1 : Reg)
  | bswap (rd : Reg) (rs1 : Reg)
  | clz (rd : Reg) (rs1 : Reg)
  | ctz (rd : Reg) (rs1 : Reg)
  | popc (rd : Reg) (rs1 : Reg)
  | sextb (rd : Reg) (rs1 : Reg)
  | sexth (rd : Reg) (rs1 : Reg)
  | zexth (rd : Reg) (rs1 : Reg)
  | bld (n : Bool) (rs1 : Reg) (boff : BitVec 15)
  | band (n : Bool) (rs1 : Reg) (boff : BitVec 15)
  | bor (n : Bool) (rs1 : Reg) (boff : BitVec 15)
  | bxor (n : Bool) (rs1 : Reg) (boff : BitVec 15)
  | bst (n : Bool) (rs1 : Reg) (boff : BitVec 15)
  | bset (rs1 : Reg) (boff : BitVec 15)
  | bclr (rs1 : Reg) (boff : BitVec 15)
  | btgl (rs1 : Reg) (boff : BitVec 15)
  | bseta (n : Bool) (rs1 : Reg) (boff : BitVec 15)
  | brsta (n : Bool) (rs1 : Reg) (boff : BitVec 15)
  | edgr (rs1 : Reg) (boff : BitVec 15)
  | edgf (rs1 : Reg) (boff : BitVec 15)
  | acld (cb : CBit)
  | acst (cd : CBit)
  | acand (cb : CBit)
  | acor (cb : CBit)
  | aldr (rs1 : Reg)
  | astr (rd : Reg)
  | anot
  | aset
  | aclr
  | acxor (cb : CBit)
  | tend
  | tfault (rs1 : Reg)
  | syscall
  | brk
  | eret
  | wdchk
  | mfcr (rd : Reg) (cr : BitVec 5)
  | mtcr (cr : BitVec 5) (rs1 : Reg)
  | mfc (rd : Reg)
  | mtc (rs1 : Reg)
  | fadd (rd : Reg) (rs1 : Reg) (rs2 : Reg)
  | fsub (rd : Reg) (rs1 : Reg) (rs2 : Reg)
  | fmul (rd : Reg) (rs1 : Reg) (rs2 : Reg)
  | fdiv (rd : Reg) (rs1 : Reg) (rs2 : Reg)
  | fmin (rd : Reg) (rs1 : Reg) (rs2 : Reg)
  | fmax (rd : Reg) (rs1 : Reg) (rs2 : Reg)
  | fsqrt (rd : Reg) (rs1 : Reg)
  | fabs (rd : Reg) (rs1 : Reg)
  | fneg (rd : Reg) (rs1 : Reg)
  | fcvtsw (rd : Reg) (rs1 : Reg)
  | fcvtswu (rd : Reg) (rs1 : Reg)
  | fcvtws (rd : Reg) (rs1 : Reg)
  | fcvtwus (rd : Reg) (rs1 : Reg)
  | fclass (rd : Reg) (rs1 : Reg)
  | feq (cd : CBit) (rs1 : Reg) (rs2 : Reg)
  | flt (cd : CBit) (rs1 : Reg) (rs2 : Reg)
  | fle (cd : CBit) (rs1 : Reg) (rs2 : Reg)
  | fun (cd : CBit) (rs1 : Reg) (rs2 : Reg)
  | tev (rd : Reg) (rs1 : Reg) (rs2 : Reg)
  | tevx (rd : Reg) (rs1 : Reg) (rs2 : Reg)
  | teth (rd : Reg) (rs1 : Reg)
  | trst (rs1 : Reg)
  | trds (rd : Reg) (rs1 : Reg)
  | fstat (rd : Reg)
  | fqry (rd : Reg) (rs1 : Reg)
  | irec (rd : Reg) (rs1 : Reg)
  | ibit (rd : Reg) (rs1 : Reg) (rs2 : Reg)
  | scb (rd : Reg) (rs1 : Reg) (rs2 : Reg)
  | sch (rd : Reg) (rs1 : Reg) (rs2 : Reg)
  | scw (rd : Reg) (rs1 : Reg) (rs2 : Reg)
  | xq (slot : BitVec 2) (rd : Reg) (rs1 : Reg) (rs2 : Reg) (opc : BitVec 8)
  | xp (slot : BitVec 2) (rs1 : Reg) (rs2 : Reg) (opc : BitVec 8)
  deriving DecidableEq, Repr

/-- The word of a Kyoquel instruction. -/
def kyEncode : Ky → Word
  | .add rd rs1 rs2 => wR 0x01 rd.toNat rs1.toNat rs2.toNat 0x000
  | .sub rd rs1 rs2 => wR 0x01 rd.toNat rs1.toNat rs2.toNat 0x001
  | .and rd rs1 rs2 => wR 0x01 rd.toNat rs1.toNat rs2.toNat 0x002
  | .or rd rs1 rs2 => wR 0x01 rd.toNat rs1.toNat rs2.toNat 0x003
  | .xor rd rs1 rs2 => wR 0x01 rd.toNat rs1.toNat rs2.toNat 0x004
  | .andn rd rs1 rs2 => wR 0x01 rd.toNat rs1.toNat rs2.toNat 0x005
  | .orn rd rs1 rs2 => wR 0x01 rd.toNat rs1.toNat rs2.toNat 0x006
  | .xnor rd rs1 rs2 => wR 0x01 rd.toNat rs1.toNat rs2.toNat 0x007
  | .sll rd rs1 rs2 => wR 0x01 rd.toNat rs1.toNat rs2.toNat 0x008
  | .srl rd rs1 rs2 => wR 0x01 rd.toNat rs1.toNat rs2.toNat 0x009
  | .sra rd rs1 rs2 => wR 0x01 rd.toNat rs1.toNat rs2.toNat 0x00A
  | .rol rd rs1 rs2 => wR 0x01 rd.toNat rs1.toNat rs2.toNat 0x00B
  | .ror rd rs1 rs2 => wR 0x01 rd.toNat rs1.toNat rs2.toNat 0x00C
  | .min rd rs1 rs2 => wR 0x01 rd.toNat rs1.toNat rs2.toNat 0x010
  | .max rd rs1 rs2 => wR 0x01 rd.toNat rs1.toNat rs2.toNat 0x011
  | .minu rd rs1 rs2 => wR 0x01 rd.toNat rs1.toNat rs2.toNat 0x012
  | .maxu rd rs1 rs2 => wR 0x01 rd.toNat rs1.toNat rs2.toNat 0x013
  | .adds rd rs1 rs2 => wR 0x01 rd.toNat rs1.toNat rs2.toNat 0x014
  | .subs rd rs1 rs2 => wR 0x01 rd.toNat rs1.toNat rs2.toNat 0x015
  | .mul rd rs1 rs2 => wR 0x02 rd.toNat rs1.toNat rs2.toNat 0x000
  | .mulh rd rs1 rs2 => wR 0x02 rd.toNat rs1.toNat rs2.toNat 0x001
  | .mulhu rd rs1 rs2 => wR 0x02 rd.toNat rs1.toNat rs2.toNat 0x002
  | .div rd rs1 rs2 => wR 0x02 rd.toNat rs1.toNat rs2.toNat 0x004
  | .divu rd rs1 rs2 => wR 0x02 rd.toNat rs1.toNat rs2.toNat 0x005
  | .rem rd rs1 rs2 => wR 0x02 rd.toNat rs1.toNat rs2.toNat 0x006
  | .remu rd rs1 rs2 => wR 0x02 rd.toNat rs1.toNat rs2.toNat 0x007
  | .addi rd rs1 imm => wI 0x08 rd.toNat rs1.toNat imm
  | .andi rd rs1 imm => wI 0x09 rd.toNat rs1.toNat imm
  | .ori rd rs1 imm => wI 0x0A rd.toNat rs1.toNat imm
  | .xori rd rs1 imm => wI 0x0B rd.toNat rs1.toNat imm
  | .slli rd rs1 sh => wI 0x0C rd.toNat rs1.toNat (BitVec.ofNat 15 (sh.toNat + 0))
  | .srli rd rs1 sh => wI 0x0C rd.toNat rs1.toNat (BitVec.ofNat 15 (sh.toNat + 32))
  | .srai rd rs1 sh => wI 0x0C rd.toNat rs1.toNat (BitVec.ofNat 15 (sh.toNat + 64))
  | .rori rd rs1 sh => wI 0x0C rd.toNat rs1.toNat (BitVec.ofNat 15 (sh.toNat + 96))
  | .lui rd imm20 => wL 0x18 rd.toNat imm20
  | .auipc rd imm20 => wL 0x19 rd.toNat imm20
  | .li rd imm20 => wL 0x1A rd.toNat imm20
  | .ceq cd rs1 rs2 => wR 0x04 cd.toNat rs1.toNat rs2.toNat 0x000
  | .cne cd rs1 rs2 => wR 0x04 cd.toNat rs1.toNat rs2.toNat 0x001
  | .clt cd rs1 rs2 => wR 0x04 cd.toNat rs1.toNat rs2.toNat 0x002
  | .cge cd rs1 rs2 => wR 0x04 cd.toNat rs1.toNat rs2.toNat 0x003
  | .cltu cd rs1 rs2 => wR 0x04 cd.toNat rs1.toNat rs2.toNat 0x004
  | .cgeu cd rs1 rs2 => wR 0x04 cd.toNat rs1.toNat rs2.toNat 0x005
  | .ceqi cd rs1 imm => wI 0x10 cd.toNat rs1.toNat imm
  | .cnei cd rs1 imm => wI 0x11 cd.toNat rs1.toNat imm
  | .clti cd rs1 imm => wI 0x12 cd.toNat rs1.toNat imm
  | .cgei cd rs1 imm => wI 0x13 cd.toNat rs1.toNat imm
  | .cltui cd rs1 imm => wI 0x14 cd.toNat rs1.toNat imm
  | .cgeui cd rs1 imm => wI 0x15 cd.toNat rs1.toNat imm
  | .cand cd ca cb => wR 0x05 cd.toNat ca.toNat cb.toNat 0x000
  | .cor cd ca cb => wR 0x05 cd.toNat ca.toNat cb.toNat 0x001
  | .cxor cd ca cb => wR 0x05 cd.toNat ca.toNat cb.toNat 0x002
  | .candn cd ca cb => wR 0x05 cd.toNat ca.toNat cb.toNat 0x003
  | .cmov cd ca => wR 0x05 cd.toNat ca.toNat 0 0x004
  | .cnot cd ca => wR 0x05 cd.toNat ca.toNat 0 0x005
  | .cset cd => wR 0x05 cd.toNat 0 0 0x006
  | .cclr cd => wR 0x05 cd.toNat 0 0 0x007
  | .setc rd ca => wR 0x05 rd.toNat ca.toNat 0 0x008
  | .sel rd rs1 rs2 c => wR 0x06 rd.toNat rs1.toNat rs2.toNat (0x000 + c.toNat)
  | .seln rd rs1 rs2 c => wR 0x06 rd.toNat rs1.toNat rs2.toNat (0x008 + c.toNat)
  | .bc c v disp21 => wB 0x20 c v disp21
  | .j disp25 => wJ 0x21 disp25
  | .call disp25 => wJ 0x22 disp25
  | .jalr rd rs1 imm => wI 0x23 rd.toNat rs1.toNat imm
  | .lb rt rs1 disp => wI 0x28 rt.toNat rs1.toNat disp
  | .lbu rt rs1 disp => wI 0x29 rt.toNat rs1.toNat disp
  | .lh rt rs1 disp => wI 0x2A rt.toNat rs1.toNat disp
  | .lhu rt rs1 disp => wI 0x2B rt.toNat rs1.toNat disp
  | .lw rt rs1 disp => wI 0x2C rt.toNat rs1.toNat disp
  | .ld rt rs1 disp => wI 0x2D rt.toNat rs1.toNat disp
  | .sb rt rs1 disp => wI 0x30 rt.toNat rs1.toNat disp
  | .sh rt rs1 disp => wI 0x31 rt.toNat rs1.toNat disp
  | .sw rt rs1 disp => wI 0x32 rt.toNat rs1.toNat disp
  | .sd rt rs1 disp => wI 0x33 rt.toNat rs1.toNat disp
  | .crcb rd rs1 rs2 => wR 0x03 rd.toNat rs1.toNat rs2.toNat 0x000
  | .crch rd rs1 rs2 => wR 0x03 rd.toNat rs1.toNat rs2.toNat 0x001
  | .crcw rd rs1 rs2 => wR 0x03 rd.toNat rs1.toNat rs2.toNat 0x002
  | .par rd rs1 => wR 0x03 rd.toNat rs1.toNat 0 0x008
  | .parb rd rs1 => wR 0x03 rd.toNat rs1.toNat 0 0x009
  | .brev rd rs1 => wR 0x03 rd.toNat rs1.toNat 0 0x00A
  | .brevb rd rs1 => wR 0x03 rd.toNat rs1.toNat 0 0x00B
  | .bswap rd rs1 => wR 0x03 rd.toNat rs1.toNat 0 0x00C
  | .clz rd rs1 => wR 0x03 rd.toNat rs1.toNat 0 0x00D
  | .ctz rd rs1 => wR 0x03 rd.toNat rs1.toNat 0 0x00E
  | .popc rd rs1 => wR 0x03 rd.toNat rs1.toNat 0 0x00F
  | .sextb rd rs1 => wR 0x03 rd.toNat rs1.toNat 0 0x010
  | .sexth rd rs1 => wR 0x03 rd.toNat rs1.toNat 0 0x011
  | .zexth rd rs1 => wR 0x03 rd.toNat rs1.toNat 0 0x012
  | .bld n rs1 boff => wX 0x38 0 n rs1 boff
  | .band n rs1 boff => wX 0x38 1 n rs1 boff
  | .bor n rs1 boff => wX 0x38 2 n rs1 boff
  | .bxor n rs1 boff => wX 0x38 3 n rs1 boff
  | .bst n rs1 boff => wX 0x38 4 n rs1 boff
  | .bset rs1 boff => wX 0x38 5 false rs1 boff
  | .bclr rs1 boff => wX 0x38 6 false rs1 boff
  | .btgl rs1 boff => wX 0x38 7 false rs1 boff
  | .bseta n rs1 boff => wX 0x38 8 n rs1 boff
  | .brsta n rs1 boff => wX 0x38 9 n rs1 boff
  | .edgr rs1 boff => wX 0x39 0 false rs1 boff
  | .edgf rs1 boff => wX 0x39 1 false rs1 boff
  | .acld cb => wR 0x3A 0 0 cb.toNat 0x000
  | .acst cd => wR 0x3A cd.toNat 0 0 0x001
  | .acand cb => wR 0x3A 0 0 cb.toNat 0x002
  | .acor cb => wR 0x3A 0 0 cb.toNat 0x003
  | .aldr rs1 => wR 0x3A 0 rs1.toNat 0 0x004
  | .astr rd => wR 0x3A rd.toNat 0 0 0x005
  | .anot => wR 0x3A 0 0 0 0x006
  | .aset => wR 0x3A 0 0 0 0x007
  | .aclr => wR 0x3A 0 0 0 0x008
  | .acxor cb => wR 0x3A 0 0 cb.toNat 0x009
  | .tend => wR 0x70 0 0 0 0x000
  | .tfault rs1 => wR 0x70 0 rs1.toNat 0 0x001
  | .syscall => wR 0x70 0 0 0 0x002
  | .brk => wR 0x70 0 0 0 0x003
  | .eret => wR 0x70 0 0 0 0x004
  | .wdchk => wR 0x70 0 0 0 0x008
  | .mfcr rd cr => wR 0x70 rd.toNat cr.toNat 0 0x010
  | .mtcr cr rs1 => wR 0x70 cr.toNat rs1.toNat 0 0x011
  | .mfc rd => wR 0x70 rd.toNat 0 0 0x012
  | .mtc rs1 => wR 0x70 0 rs1.toNat 0 0x013
  | .fadd rd rs1 rs2 => wR 0x71 rd.toNat rs1.toNat rs2.toNat 0x000
  | .fsub rd rs1 rs2 => wR 0x71 rd.toNat rs1.toNat rs2.toNat 0x001
  | .fmul rd rs1 rs2 => wR 0x71 rd.toNat rs1.toNat rs2.toNat 0x002
  | .fdiv rd rs1 rs2 => wR 0x71 rd.toNat rs1.toNat rs2.toNat 0x003
  | .fmin rd rs1 rs2 => wR 0x71 rd.toNat rs1.toNat rs2.toNat 0x005
  | .fmax rd rs1 rs2 => wR 0x71 rd.toNat rs1.toNat rs2.toNat 0x006
  | .fsqrt rd rs1 => wR 0x71 rd.toNat rs1.toNat 0 0x004
  | .fabs rd rs1 => wR 0x71 rd.toNat rs1.toNat 0 0x008
  | .fneg rd rs1 => wR 0x71 rd.toNat rs1.toNat 0 0x009
  | .fcvtsw rd rs1 => wR 0x71 rd.toNat rs1.toNat 0 0x010
  | .fcvtswu rd rs1 => wR 0x71 rd.toNat rs1.toNat 0 0x011
  | .fcvtws rd rs1 => wR 0x71 rd.toNat rs1.toNat 0 0x012
  | .fcvtwus rd rs1 => wR 0x71 rd.toNat rs1.toNat 0 0x013
  | .fclass rd rs1 => wR 0x71 rd.toNat rs1.toNat 0 0x01C
  | .feq cd rs1 rs2 => wR 0x71 cd.toNat rs1.toNat rs2.toNat 0x018
  | .flt cd rs1 rs2 => wR 0x71 cd.toNat rs1.toNat rs2.toNat 0x019
  | .fle cd rs1 rs2 => wR 0x71 cd.toNat rs1.toNat rs2.toNat 0x01A
  | .fun cd rs1 rs2 => wR 0x71 cd.toNat rs1.toNat rs2.toNat 0x01B
  | .tev rd rs1 rs2 => wR 0x72 rd.toNat rs1.toNat rs2.toNat 0x000
  | .tevx rd rs1 rs2 => wR 0x72 rd.toNat rs1.toNat rs2.toNat 0x001
  | .teth rd rs1 => wR 0x72 rd.toNat rs1.toNat 0 0x002
  | .trst rs1 => wR 0x72 0 rs1.toNat 0 0x003
  | .trds rd rs1 => wR 0x72 rd.toNat rs1.toNat 0 0x004
  | .fstat rd => wR 0x73 rd.toNat 0 0 0x000
  | .fqry rd rs1 => wR 0x73 rd.toNat rs1.toNat 0 0x001
  | .irec rd rs1 => wR 0x73 rd.toNat rs1.toNat 0 0x002
  | .ibit rd rs1 rs2 => wR 0x73 rd.toNat rs1.toNat rs2.toNat 0x003
  | .scb rd rs1 rs2 => wR 0x74 rd.toNat rs1.toNat rs2.toNat 0x000
  | .sch rd rs1 rs2 => wR 0x74 rd.toNat rs1.toNat rs2.toNat 0x001
  | .scw rd rs1 rs2 => wR 0x74 rd.toNat rs1.toNat rs2.toNat 0x002
  | .xq slot rd rs1 rs2 opc => wR (0x7C + slot.toNat) rd.toNat rs1.toNat rs2.toNat opc.toNat
  | .xp slot rs1 rs2 opc => wR (0x7C + slot.toNat) 0 rs1.toNat rs2.toNat (256 + opc.toNat)

/-- Bits `lo` upward, `w` of them, of a word as a bit vector. -/
def fld (v : Word) (lo w : Nat) : BitVec w := BitVec.ofNat w (v.toNat / 2 ^ lo)
/-- The same as a number. -/
def fnat (v : Word) (lo w : Nat) : Nat := v.toNat / 2 ^ lo % 2 ^ w

/-- Table 7-5, op 0x01. -/
def decAlu (w : Word) : Option Ky :=
  match fnat w 0 10 with
  | 0x000 => some (.add (fld w 20 5) (fld w 15 5) (fld w 10 5))
  | 0x001 => some (.sub (fld w 20 5) (fld w 15 5) (fld w 10 5))
  | 0x002 => some (.and (fld w 20 5) (fld w 15 5) (fld w 10 5))
  | 0x003 => some (.or (fld w 20 5) (fld w 15 5) (fld w 10 5))
  | 0x004 => some (.xor (fld w 20 5) (fld w 15 5) (fld w 10 5))
  | 0x005 => some (.andn (fld w 20 5) (fld w 15 5) (fld w 10 5))
  | 0x006 => some (.orn (fld w 20 5) (fld w 15 5) (fld w 10 5))
  | 0x007 => some (.xnor (fld w 20 5) (fld w 15 5) (fld w 10 5))
  | 0x008 => some (.sll (fld w 20 5) (fld w 15 5) (fld w 10 5))
  | 0x009 => some (.srl (fld w 20 5) (fld w 15 5) (fld w 10 5))
  | 0x00A => some (.sra (fld w 20 5) (fld w 15 5) (fld w 10 5))
  | 0x00B => some (.rol (fld w 20 5) (fld w 15 5) (fld w 10 5))
  | 0x00C => some (.ror (fld w 20 5) (fld w 15 5) (fld w 10 5))
  | 0x010 => some (.min (fld w 20 5) (fld w 15 5) (fld w 10 5))
  | 0x011 => some (.max (fld w 20 5) (fld w 15 5) (fld w 10 5))
  | 0x012 => some (.minu (fld w 20 5) (fld w 15 5) (fld w 10 5))
  | 0x013 => some (.maxu (fld w 20 5) (fld w 15 5) (fld w 10 5))
  | 0x014 => some (.adds (fld w 20 5) (fld w 15 5) (fld w 10 5))
  | 0x015 => some (.subs (fld w 20 5) (fld w 15 5) (fld w 10 5))
  | _ => none

/-- Table 7-5, op 0x02. -/
def decMul (w : Word) : Option Ky :=
  match fnat w 0 10 with
  | 0x000 => some (.mul (fld w 20 5) (fld w 15 5) (fld w 10 5))
  | 0x001 => some (.mulh (fld w 20 5) (fld w 15 5) (fld w 10 5))
  | 0x002 => some (.mulhu (fld w 20 5) (fld w 15 5) (fld w 10 5))
  | 0x004 => some (.div (fld w 20 5) (fld w 15 5) (fld w 10 5))
  | 0x005 => some (.divu (fld w 20 5) (fld w 15 5) (fld w 10 5))
  | 0x006 => some (.rem (fld w 20 5) (fld w 15 5) (fld w 10 5))
  | 0x007 => some (.remu (fld w 20 5) (fld w 15 5) (fld w 10 5))
  | _ => none

/-- Table 7-10, op 0x03. -/
def decChr (w : Word) : Option Ky :=
  match fnat w 0 10 with
  | 0x000 => some (.crcb (fld w 20 5) (fld w 15 5) (fld w 10 5))
  | 0x001 => some (.crch (fld w 20 5) (fld w 15 5) (fld w 10 5))
  | 0x002 => some (.crcw (fld w 20 5) (fld w 15 5) (fld w 10 5))
  | 0x008 => if fnat w 10 5 = 0 then some (.par (fld w 20 5) (fld w 15 5)) else none
  | 0x009 => if fnat w 10 5 = 0 then some (.parb (fld w 20 5) (fld w 15 5)) else none
  | 0x00A => if fnat w 10 5 = 0 then some (.brev (fld w 20 5) (fld w 15 5)) else none
  | 0x00B => if fnat w 10 5 = 0 then some (.brevb (fld w 20 5) (fld w 15 5)) else none
  | 0x00C => if fnat w 10 5 = 0 then some (.bswap (fld w 20 5) (fld w 15 5)) else none
  | 0x00D => if fnat w 10 5 = 0 then some (.clz (fld w 20 5) (fld w 15 5)) else none
  | 0x00E => if fnat w 10 5 = 0 then some (.ctz (fld w 20 5) (fld w 15 5)) else none
  | 0x00F => if fnat w 10 5 = 0 then some (.popc (fld w 20 5) (fld w 15 5)) else none
  | 0x010 => if fnat w 10 5 = 0 then some (.sextb (fld w 20 5) (fld w 15 5)) else none
  | 0x011 => if fnat w 10 5 = 0 then some (.sexth (fld w 20 5) (fld w 15 5)) else none
  | 0x012 => if fnat w 10 5 = 0 then some (.zexth (fld w 20 5) (fld w 15 5)) else none
  | _ => none

/-- Table 7-7, op 0x04. -/
def decCmp (w : Word) : Option Ky :=
  match fnat w 0 10 with
  | 0x000 => if fnat w 23 2 = 0 then some (.ceq (fld w 20 3) (fld w 15 5) (fld w 10 5)) else none
  | 0x001 => if fnat w 23 2 = 0 then some (.cne (fld w 20 3) (fld w 15 5) (fld w 10 5)) else none
  | 0x002 => if fnat w 23 2 = 0 then some (.clt (fld w 20 3) (fld w 15 5) (fld w 10 5)) else none
  | 0x003 => if fnat w 23 2 = 0 then some (.cge (fld w 20 3) (fld w 15 5) (fld w 10 5)) else none
  | 0x004 => if fnat w 23 2 = 0 then some (.cltu (fld w 20 3) (fld w 15 5) (fld w 10 5)) else none
  | 0x005 => if fnat w 23 2 = 0 then some (.cgeu (fld w 20 3) (fld w 15 5) (fld w 10 5)) else none
  | _ => none

/-- Table 7-7, op 0x05. -/
def decCnd (w : Word) : Option Ky :=
  match fnat w 0 10 with
  | 0x000 => if fnat w 23 2 = 0 ∧ fnat w 18 2 = 0 ∧ fnat w 13 2 = 0 then some (.cand (fld w 20 3) (fld w 15 3) (fld w 10 3)) else none
  | 0x001 => if fnat w 23 2 = 0 ∧ fnat w 18 2 = 0 ∧ fnat w 13 2 = 0 then some (.cor (fld w 20 3) (fld w 15 3) (fld w 10 3)) else none
  | 0x002 => if fnat w 23 2 = 0 ∧ fnat w 18 2 = 0 ∧ fnat w 13 2 = 0 then some (.cxor (fld w 20 3) (fld w 15 3) (fld w 10 3)) else none
  | 0x003 => if fnat w 23 2 = 0 ∧ fnat w 18 2 = 0 ∧ fnat w 13 2 = 0 then some (.candn (fld w 20 3) (fld w 15 3) (fld w 10 3)) else none
  | 0x004 => if fnat w 23 2 = 0 ∧ fnat w 18 2 = 0 ∧ fnat w 10 5 = 0 then some (.cmov (fld w 20 3) (fld w 15 3)) else none
  | 0x005 => if fnat w 23 2 = 0 ∧ fnat w 18 2 = 0 ∧ fnat w 10 5 = 0 then some (.cnot (fld w 20 3) (fld w 15 3)) else none
  | 0x006 => if fnat w 23 2 = 0 ∧ fnat w 15 5 = 0 ∧ fnat w 10 5 = 0 then some (.cset (fld w 20 3)) else none
  | 0x007 => if fnat w 23 2 = 0 ∧ fnat w 15 5 = 0 ∧ fnat w 10 5 = 0 then some (.cclr (fld w 20 3)) else none
  | 0x008 => if fnat w 18 2 = 0 ∧ fnat w 10 5 = 0 then some (.setc (fld w 20 5) (fld w 15 3)) else none
  | _ => none

/-- Table 7-12, op 0x3A. -/
def decAcc (w : Word) : Option Ky :=
  match fnat w 0 10 with
  | 0x000 => if fnat w 20 5 = 0 ∧ fnat w 15 5 = 0 ∧ fnat w 13 2 = 0 then some (.acld (fld w 10 3)) else none
  | 0x001 => if fnat w 23 2 = 0 ∧ fnat w 15 5 = 0 ∧ fnat w 10 5 = 0 then some (.acst (fld w 20 3)) else none
  | 0x002 => if fnat w 20 5 = 0 ∧ fnat w 15 5 = 0 ∧ fnat w 13 2 = 0 then some (.acand (fld w 10 3)) else none
  | 0x003 => if fnat w 20 5 = 0 ∧ fnat w 15 5 = 0 ∧ fnat w 13 2 = 0 then some (.acor (fld w 10 3)) else none
  | 0x004 => if fnat w 20 5 = 0 ∧ fnat w 10 5 = 0 then some (.aldr (fld w 15 5)) else none
  | 0x005 => if fnat w 15 5 = 0 ∧ fnat w 10 5 = 0 then some (.astr (fld w 20 5)) else none
  | 0x006 => if fnat w 20 5 = 0 ∧ fnat w 15 5 = 0 ∧ fnat w 10 5 = 0 then some (.anot) else none
  | 0x007 => if fnat w 20 5 = 0 ∧ fnat w 15 5 = 0 ∧ fnat w 10 5 = 0 then some (.aset) else none
  | 0x008 => if fnat w 20 5 = 0 ∧ fnat w 15 5 = 0 ∧ fnat w 10 5 = 0 then some (.aclr) else none
  | 0x009 => if fnat w 20 5 = 0 ∧ fnat w 15 5 = 0 ∧ fnat w 13 2 = 0 then some (.acxor (fld w 10 3)) else none
  | _ => none

/-- Table 7-13, op 0x70. -/
def decCop0 (w : Word) : Option Ky :=
  match fnat w 0 9 with
  | 0x000 => if fnat w 20 5 = 0 ∧ fnat w 15 5 = 0 ∧ fnat w 10 5 = 0 then some (.tend) else none
  | 0x001 => if fnat w 20 5 = 0 ∧ fnat w 10 5 = 0 then some (.tfault (fld w 15 5)) else none
  | 0x002 => if fnat w 20 5 = 0 ∧ fnat w 15 5 = 0 ∧ fnat w 10 5 = 0 then some (.syscall) else none
  | 0x003 => if fnat w 20 5 = 0 ∧ fnat w 15 5 = 0 ∧ fnat w 10 5 = 0 then some (.brk) else none
  | 0x004 => if fnat w 20 5 = 0 ∧ fnat w 15 5 = 0 ∧ fnat w 10 5 = 0 then some (.eret) else none
  | 0x008 => if fnat w 20 5 = 0 ∧ fnat w 15 5 = 0 ∧ fnat w 10 5 = 0 then some (.wdchk) else none
  | 0x010 => if fnat w 10 5 = 0 then some (.mfcr (fld w 20 5) (fld w 15 5)) else none
  | 0x011 => if fnat w 10 5 = 0 then some (.mtcr (fld w 20 5) (fld w 15 5)) else none
  | 0x012 => if fnat w 15 5 = 0 ∧ fnat w 10 5 = 0 then some (.mfc (fld w 20 5)) else none
  | 0x013 => if fnat w 20 5 = 0 ∧ fnat w 10 5 = 0 then some (.mtc (fld w 15 5)) else none
  | _ => none

/-- Table 7-14, op 0x71. -/
def decCop1 (w : Word) : Option Ky :=
  match fnat w 0 9 with
  | 0x000 => some (.fadd (fld w 20 5) (fld w 15 5) (fld w 10 5))
  | 0x001 => some (.fsub (fld w 20 5) (fld w 15 5) (fld w 10 5))
  | 0x002 => some (.fmul (fld w 20 5) (fld w 15 5) (fld w 10 5))
  | 0x003 => some (.fdiv (fld w 20 5) (fld w 15 5) (fld w 10 5))
  | 0x005 => some (.fmin (fld w 20 5) (fld w 15 5) (fld w 10 5))
  | 0x006 => some (.fmax (fld w 20 5) (fld w 15 5) (fld w 10 5))
  | 0x004 => if fnat w 10 5 = 0 then some (.fsqrt (fld w 20 5) (fld w 15 5)) else none
  | 0x008 => if fnat w 10 5 = 0 then some (.fabs (fld w 20 5) (fld w 15 5)) else none
  | 0x009 => if fnat w 10 5 = 0 then some (.fneg (fld w 20 5) (fld w 15 5)) else none
  | 0x010 => if fnat w 10 5 = 0 then some (.fcvtsw (fld w 20 5) (fld w 15 5)) else none
  | 0x011 => if fnat w 10 5 = 0 then some (.fcvtswu (fld w 20 5) (fld w 15 5)) else none
  | 0x012 => if fnat w 10 5 = 0 then some (.fcvtws (fld w 20 5) (fld w 15 5)) else none
  | 0x013 => if fnat w 10 5 = 0 then some (.fcvtwus (fld w 20 5) (fld w 15 5)) else none
  | 0x01C => if fnat w 10 5 = 0 then some (.fclass (fld w 20 5) (fld w 15 5)) else none
  | 0x018 => if fnat w 23 2 = 0 then some (.feq (fld w 20 3) (fld w 15 5) (fld w 10 5)) else none
  | 0x019 => if fnat w 23 2 = 0 then some (.flt (fld w 20 3) (fld w 15 5) (fld w 10 5)) else none
  | 0x01A => if fnat w 23 2 = 0 then some (.fle (fld w 20 3) (fld w 15 5) (fld w 10 5)) else none
  | 0x01B => if fnat w 23 2 = 0 then some (.fun (fld w 20 3) (fld w 15 5) (fld w 10 5)) else none
  | _ => none

/-- Table 7-15, op 0x72. -/
def decCop2 (w : Word) : Option Ky :=
  match fnat w 0 9 with
  | 0x000 => some (.tev (fld w 20 5) (fld w 15 5) (fld w 10 5))
  | 0x001 => some (.tevx (fld w 20 5) (fld w 15 5) (fld w 10 5))
  | 0x002 => if fnat w 10 5 = 0 then some (.teth (fld w 20 5) (fld w 15 5)) else none
  | 0x003 => if fnat w 20 5 = 0 ∧ fnat w 10 5 = 0 then some (.trst (fld w 15 5)) else none
  | 0x004 => if fnat w 10 5 = 0 then some (.trds (fld w 20 5) (fld w 15 5)) else none
  | _ => none

/-- Table 7-16, op 0x73. -/
def decCop3 (w : Word) : Option Ky :=
  match fnat w 0 9 with
  | 0x000 => if fnat w 15 5 = 0 ∧ fnat w 10 5 = 0 then some (.fstat (fld w 20 5)) else none
  | 0x001 => if fnat w 10 5 = 0 then some (.fqry (fld w 20 5) (fld w 15 5)) else none
  | 0x002 => if fnat w 10 5 = 0 then some (.irec (fld w 20 5) (fld w 15 5)) else none
  | 0x003 => some (.ibit (fld w 20 5) (fld w 15 5) (fld w 10 5))
  | _ => none

/-- Table 7-17, op 0x74. -/
def decCop4 (w : Word) : Option Ky :=
  match fnat w 0 9 with
  | 0x000 => some (.scb (fld w 20 5) (fld w 15 5) (fld w 10 5))
  | 0x001 => some (.sch (fld w 20 5) (fld w 15 5) (fld w 10 5))
  | 0x002 => some (.scw (fld w 20 5) (fld w 15 5) (fld w 10 5))
  | _ => none

/-- Table 7-11, op 0x38. -/
def decBit (w : Word) : Option Ky :=
  match fnat w 21 4 with
  | 0 => some (.bld (fnat w 20 1 == 1) (fld w 15 5) (fld w 0 15))
  | 1 => some (.band (fnat w 20 1 == 1) (fld w 15 5) (fld w 0 15))
  | 2 => some (.bor (fnat w 20 1 == 1) (fld w 15 5) (fld w 0 15))
  | 3 => some (.bxor (fnat w 20 1 == 1) (fld w 15 5) (fld w 0 15))
  | 4 => some (.bst (fnat w 20 1 == 1) (fld w 15 5) (fld w 0 15))
  | 5 => if fnat w 20 1 = 0 then some (.bset (fld w 15 5) (fld w 0 15)) else none
  | 6 => if fnat w 20 1 = 0 then some (.bclr (fld w 15 5) (fld w 0 15)) else none
  | 7 => if fnat w 20 1 = 0 then some (.btgl (fld w 15 5) (fld w 0 15)) else none
  | 8 => some (.bseta (fnat w 20 1 == 1) (fld w 15 5) (fld w 0 15))
  | 9 => some (.brsta (fnat w 20 1 == 1) (fld w 15 5) (fld w 0 15))
  | _ => none

/-- R193, op 0x39. -/
def decEdge (w : Word) : Option Ky :=
  match fnat w 21 4 with
  | 0 => if fnat w 20 1 = 0 then some (.edgr (fld w 15 5) (fld w 0 15)) else none
  | 1 => if fnat w 20 1 = 0 then some (.edgf (fld w 15 5) (fld w 0 15)) else none
  | _ => none

/-- SEL and SELN (Table 7-7): fn bits 2:0 c, bit 3 i, bits 9:4 0. -/
def decSel (w : Word) : Option Ky :=
  if fnat w 4 6 = 0 then
    (if fnat w 3 1 = 0 then some (.sel (fld w 20 5) (fld w 15 5) (fld w 10 5) (fld w 0 3)) else some (.seln (fld w 20 5) (fld w 15 5) (fld w 10 5) (fld w 0 3)))
  else none

/-- SLLI, SRLI, SRAI, RORI (Table 7-6): imm15 bits 6:5 select, bits 14:7 are 0. -/
def decShi (w : Word) : Option Ky :=
  if fnat w 7 8 = 0 then
    match fnat w 5 2 with
    | 0 => some (.slli (fld w 20 5) (fld w 15 5) (fld w 0 5))
    | 1 => some (.srli (fld w 20 5) (fld w 15 5) (fld w 0 5))
    | 2 => some (.srai (fld w 20 5) (fld w 15 5) (fld w 0 5))
    | _ => some (.rori (fld w 20 5) (fld w 15 5) (fld w 0 5))
  else none

/-- COP12 to COP15 (R202): func bit 8 selects query or posted. -/
def decExt (w : Word) : Option Ky :=
  if fnat w 8 1 = 0 then some (.xq (fld w 25 2) (fld w 20 5) (fld w 15 5) (fld w 10 5) (fld w 0 8))
  else if fnat w 20 5 = 0 then some (.xp (fld w 25 2) (fld w 15 5) (fld w 10 5) (fld w 0 8)) else none

/-- A C-format word with bit 9 not 0 is no instruction (R179). -/
def decCop (d : Word → Option Ky) (w : Word) : Option Ky :=
  if fnat w 9 1 = 0 then d w else none

/-- The instruction of a word (R177 to R179, Table 7-2), or none where no table defines one. -/
def kyDecode (w : Word) : Option Ky :=
  match fnat w 25 7 with
  | 0x01 => decAlu w
  | 0x02 => decMul w
  | 0x03 => decChr w
  | 0x04 => decCmp w
  | 0x05 => decCnd w
  | 0x06 => decSel w
  | 0x08 => some (.addi (fld w 20 5) (fld w 15 5) (fld w 0 15))
  | 0x09 => some (.andi (fld w 20 5) (fld w 15 5) (fld w 0 15))
  | 0x0A => some (.ori (fld w 20 5) (fld w 15 5) (fld w 0 15))
  | 0x0B => some (.xori (fld w 20 5) (fld w 15 5) (fld w 0 15))
  | 0x0C => decShi w
  | 0x10 => if fnat w 23 2 = 0 then some (.ceqi (fld w 20 3) (fld w 15 5) (fld w 0 15)) else none
  | 0x11 => if fnat w 23 2 = 0 then some (.cnei (fld w 20 3) (fld w 15 5) (fld w 0 15)) else none
  | 0x12 => if fnat w 23 2 = 0 then some (.clti (fld w 20 3) (fld w 15 5) (fld w 0 15)) else none
  | 0x13 => if fnat w 23 2 = 0 then some (.cgei (fld w 20 3) (fld w 15 5) (fld w 0 15)) else none
  | 0x14 => if fnat w 23 2 = 0 then some (.cltui (fld w 20 3) (fld w 15 5) (fld w 0 15)) else none
  | 0x15 => if fnat w 23 2 = 0 then some (.cgeui (fld w 20 3) (fld w 15 5) (fld w 0 15)) else none
  | 0x18 => some (.lui (fld w 20 5) (fld w 0 20))
  | 0x19 => some (.auipc (fld w 20 5) (fld w 0 20))
  | 0x1A => some (.li (fld w 20 5) (fld w 0 20))
  | 0x20 => some (.bc (fld w 22 3) (fnat w 21 1 == 1) (fld w 0 21))
  | 0x21 => some (.j (fld w 0 25))
  | 0x22 => some (.call (fld w 0 25))
  | 0x23 => some (.jalr (fld w 20 5) (fld w 15 5) (fld w 0 15))
  | 0x28 => some (.lb (fld w 20 5) (fld w 15 5) (fld w 0 15))
  | 0x29 => some (.lbu (fld w 20 5) (fld w 15 5) (fld w 0 15))
  | 0x2A => some (.lh (fld w 20 5) (fld w 15 5) (fld w 0 15))
  | 0x2B => some (.lhu (fld w 20 5) (fld w 15 5) (fld w 0 15))
  | 0x2C => some (.lw (fld w 20 5) (fld w 15 5) (fld w 0 15))
  | 0x2D => some (.ld (fld w 20 5) (fld w 15 5) (fld w 0 15))
  | 0x30 => some (.sb (fld w 20 5) (fld w 15 5) (fld w 0 15))
  | 0x31 => some (.sh (fld w 20 5) (fld w 15 5) (fld w 0 15))
  | 0x32 => some (.sw (fld w 20 5) (fld w 15 5) (fld w 0 15))
  | 0x33 => some (.sd (fld w 20 5) (fld w 15 5) (fld w 0 15))
  | 0x38 => decBit w
  | 0x39 => decEdge w
  | 0x3A => decAcc w
  | 0x70 => decCop decCop0 w
  | 0x71 => decCop decCop1 w
  | 0x72 => decCop decCop2 w
  | 0x73 => decCop decCop3 w
  | 0x74 => decCop decCop4 w
  | 0x7C => decCop decExt w
  | 0x7D => decCop decExt w
  | 0x7E => decCop decExt w
  | 0x7F => decCop decExt w
  | _ => none

end Sys2Proof
end

