-- ==== Sys2Proof/Config.lean ====
section
/-! DEFINITION. What the spec leaves to the part or leaves open: constants without a body, so that no proof can rest on a
value of theirs. -/

namespace Sys2Proof.Config

/-- A fresh free value: the `n`-th value the spec does not fix (log 3). -/
opaque freeValue : Nat → BitVec 64

/-- The severity the factory area holds for a module event code outside Table 14-8 (R382's SEV; log 6). -/
opaque severity : Nat → BitVec 3

/-- The number by which event 0x8001 names requester `i`: 0 a load of the SUP core, 1 the retain restore, 2 a host command, 3 a mailbox, 4 the
scrubber, 5 the recorder. The spec gives no numbers (log 136). -/
opaque requester : Nat → BitVec 32

/-- Which of the lines that core `k`'s cache holds gives way to line `l`: the organisation of the caches is left open (log 116). -/
opaque cacheVictim : Nat → Nat → Nat

/-- Whether a supervisor address lies in the patch area of SUP SRAM: Table 1-5 lets the SUP core fetch there and gives no bounds (log 96). -/
opaque patchArea : Nat → Bool

/-- Point `i` of the compensation curve in the factory area (R410, log 23). -/
opaque curvePoint : Nat → BitVec 16

/-- Byte `i` of SHAKE256 over a message (R442; the spec names the function and does not define it). -/
opaque shake256 : List (BitVec 8) → Nat → BitVec 8

/-- Byte `i` of the device's public key (R442). -/
opaque devicePub : Nat → BitVec 8

/-- Byte `i` of the manufacturing endorsement of the device key for a serial number (R442). -/
opaque endorsement : Nat → Nat → BitVec 8

/-- Byte `i` of the device key's signature over a message; the second argument is the free number of the signing. -/
opaque deviceSign : List (BitVec 8) → Nat → Nat → BitVec 8

end Sys2Proof.Config
end

