-- ==== Sys2Proof/Machine/Regs.lean ====
section
/-! DEFINITION. The register map of the spec: every register of the twelve blocks as an address of the supervisor
view (R4), every field of it as a named bit range (`Fld`), the reset word the register tables state, and the access
code and field class of every bit (R9, R11). Where a table gives no number ("From OTP", "By R387", ...) the word is 0
until the boot step the table names has loaded it. -/

namespace Sys2Proof.Machine.R

set_option linter.unusedVariables false

/-- SUP_FAMILY_ID (spec/00_scope.md). -/
def SUP_FAMILY_ID : Nat := 0x40000004
def SUP_FAMILY_ID_MEMBER : Fld := ⟨SUP_FAMILY_ID, 20, 12⟩
def SUP_FAMILY_ID_EP_COUNT : Fld := ⟨SUP_FAMILY_ID, 16, 4⟩
def SUP_FAMILY_ID_GROUPS : Fld := ⟨SUP_FAMILY_ID, 12, 4⟩
def SUP_FAMILY_ID_SESSIONS_32 : Fld := ⟨SUP_FAMILY_ID, 6, 6⟩
def SUP_FAMILY_ID_CODE_MIB : Fld := ⟨SUP_FAMILY_ID, 0, 6⟩

/-- BLOCK_ID (spec/01_architecture.md). -/
def BLOCK_ID (b : Nat) : Nat := 0x40000000 + b * 0x10000
def BLOCK_ID_TAG (b : Nat) : Fld := ⟨BLOCK_ID b, 16, 16⟩
def BLOCK_ID_N (b : Nat) : Fld := ⟨BLOCK_ID b, 12, 4⟩
def BLOCK_ID_BLOCK_REV (b : Nat) : Fld := ⟨BLOCK_ID b, 0, 8⟩

/-- BLOCK_STATUS (spec/01_architecture.md). -/
def BLOCK_STATUS (b : Nat) : Nat := 0x40000008 + b * 0x10000
def BLOCK_STATUS_PENDING (b : Nat) : Fld := ⟨BLOCK_STATUS b, 0, 1⟩
def BLOCK_STATUS_REJECT (b : Nat) : Fld := ⟨BLOCK_STATUS b, 1, 1⟩
def BLOCK_STATUS_REJ_OFFSET (b : Nat) : Fld := ⟨BLOCK_STATUS b, 16, 16⟩

/-- SUP_DROOP_CFG (spec/01_architecture.md). -/
def SUP_DROOP_CFG : Nat := 0x40000100
def SUP_DROOP_CFG_THRESH : Fld := ⟨SUP_DROOP_CFG, 0, 3⟩
def SUP_DROOP_CFG_HOLD_US : Fld := ⟨SUP_DROOP_CFG, 8, 8⟩
def SUP_DROOP_CFG_LIMIT_MS : Fld := ⟨SUP_DROOP_CFG, 16, 12⟩
def SUP_DROOP_CFG_ACTION : Fld := ⟨SUP_DROOP_CFG, 28, 1⟩

/-- SUP_DROOP_STATUS (spec/01_architecture.md). -/
def SUP_DROOP_STATUS : Nat := 0x40000104
def SUP_DROOP_STATUS_STRETCH : Fld := ⟨SUP_DROOP_STATUS, 0, 1⟩
def SUP_DROOP_STATUS_LIMIT : Fld := ⟨SUP_DROOP_STATUS, 1, 1⟩
def SUP_DROOP_STATUS_LAST_US : Fld := ⟨SUP_DROOP_STATUS, 4, 12⟩
def SUP_DROOP_STATUS_COUNT : Fld := ⟨SUP_DROOP_STATUS, 16, 16⟩

/-- SUP_CLKMON_STATUS (spec/01_architecture.md). -/
def SUP_CLKMON_STATUS : Nat := 0x40000110
def SUP_CLKMON_STATUS_CORE_F : Fld := ⟨SUP_CLKMON_STATUS, 0, 1⟩
def SUP_CLKMON_STATUS_NET_F : Fld := ⟨SUP_CLKMON_STATUS, 1, 1⟩
def SUP_CLKMON_STATUS_PCIE_F : Fld := ⟨SUP_CLKMON_STATUS, 2, 1⟩
def SUP_CLKMON_STATUS_SYNC_F : Fld := ⟨SUP_CLKMON_STATUS, 3, 1⟩
def SUP_CLKMON_STATUS_FIELD_F : Fld := ⟨SUP_CLKMON_STATUS, 4, 6⟩
def SUP_CLKMON_STATUS_NVS_F : Fld := ⟨SUP_CLKMON_STATUS, 10, 1⟩
def SUP_CLKMON_STATUS_BKP_F : Fld := ⟨SUP_CLKMON_STATUS, 11, 1⟩
def SUP_CLKMON_STATUS_MON_SUSPECT : Fld := ⟨SUP_CLKMON_STATUS, 15, 1⟩

/-- SUP_MODE_STATUS (spec/02_operating_modes.md). -/
def SUP_MODE_STATUS : Nat := 0x40000010
def SUP_MODE_STATUS_MODE : Fld := ⟨SUP_MODE_STATUS, 0, 4⟩
def SUP_MODE_STATUS_PREV_MODE : Fld := ⟨SUP_MODE_STATUS, 4, 4⟩
def SUP_MODE_STATUS_CAUSE : Fld := ⟨SUP_MODE_STATUS, 8, 8⟩
def SUP_MODE_STATUS_PROG_VALID : Fld := ⟨SUP_MODE_STATUS, 16, 1⟩
def SUP_MODE_STATUS_CFG_VALID : Fld := ⟨SUP_MODE_STATUS, 17, 1⟩
def SUP_MODE_STATUS_SAFE_LATCH : Fld := ⟨SUP_MODE_STATUS, 18, 1⟩
def SUP_MODE_STATUS_LIVE_OUT : Fld := ⟨SUP_MODE_STATUS, 19, 1⟩
def SUP_MODE_STATUS_LIVE_IN : Fld := ⟨SUP_MODE_STATUS, 20, 1⟩
def SUP_MODE_STATUS_HOUSEKEEP : Fld := ⟨SUP_MODE_STATUS, 21, 1⟩
def SUP_MODE_STATUS_AUTO_LEFT : Fld := ⟨SUP_MODE_STATUS, 22, 3⟩

/-- SUP_MODE_CFG (spec/02_operating_modes.md). -/
def SUP_MODE_CFG : Nat := 0x40000018
def SUP_MODE_CFG_AUTOSTART : Fld := ⟨SUP_MODE_CFG, 0, 1⟩
def SUP_MODE_CFG_AUTO_RECOVER : Fld := ⟨SUP_MODE_CFG, 1, 3⟩
def SUP_MODE_CFG_DEBUG_FROM_RUN : Fld := ⟨SUP_MODE_CFG, 4, 1⟩
def SUP_MODE_CFG_STARTUP_LIMIT_MS : Fld := ⟨SUP_MODE_CFG, 8, 12⟩

/-- CMP_EP_PROFILE (spec/02_operating_modes.md). -/
def CMP_EP_PROFILE : Nat := 0x40020010
def CMP_EP_PROFILE_EP0_PROF : Fld := ⟨CMP_EP_PROFILE, 0, 2⟩
def CMP_EP_PROFILE_EP1_PROF : Fld := ⟨CMP_EP_PROFILE, 2, 2⟩
def CMP_EP_PROFILE_EP2_PROF : Fld := ⟨CMP_EP_PROFILE, 4, 2⟩
def CMP_EP_PROFILE_EP3_PROF : Fld := ⟨CMP_EP_PROFILE, 6, 2⟩

/-- SUP_ADMIT_STATUS (spec/02_operating_modes.md). -/
def SUP_ADMIT_STATUS : Nat := 0x40000020
def SUP_ADMIT_STATUS_RUNNING : Fld := ⟨SUP_ADMIT_STATUS, 0, 12⟩
def SUP_ADMIT_STATUS_DEFERRED : Fld := ⟨SUP_ADMIT_STATUS, 12, 4⟩
def SUP_ADMIT_STATUS_LAST_REQ : Fld := ⟨SUP_ADMIT_STATUS, 16, 4⟩
def SUP_ADMIT_STATUS_LAST_RESULT : Fld := ⟨SUP_ADMIT_STATUS, 20, 2⟩
def SUP_ADMIT_STATUS_LAST_BLOCKER : Fld := ⟨SUP_ADMIT_STATUS, 24, 4⟩

/-- TSK_Tn_PERIOD (spec/03_task_engine.md). -/
def TSK_Tn_PERIOD (t : Nat) : Nat := 0x40030100 + t * 0x20
def TSK_Tn_PERIOD_PERIOD_US (t : Nat) : Fld := ⟨TSK_Tn_PERIOD t, 0, 26⟩

/-- TSK_Tn_PHASE (spec/03_task_engine.md). -/
def TSK_Tn_PHASE (t : Nat) : Nat := 0x40030104 + t * 0x20
def TSK_Tn_PHASE_PHASE_US (t : Nat) : Fld := ⟨TSK_Tn_PHASE t, 0, 26⟩

/-- TSK_Tn_CTRL (spec/03_task_engine.md). -/
def TSK_Tn_CTRL (t : Nat) : Nat := 0x40030108 + t * 0x20
def TSK_Tn_CTRL_KIND (t : Nat) : Fld := ⟨TSK_Tn_CTRL t, 0, 2⟩
def TSK_Tn_CTRL_PRIO (t : Nat) : Fld := ⟨TSK_Tn_CTRL t, 2, 4⟩
def TSK_Tn_CTRL_EP (t : Nat) : Fld := ⟨TSK_Tn_CTRL t, 6, 2⟩
def TSK_Tn_CTRL_SIDE (t : Nat) : Fld := ⟨TSK_Tn_CTRL t, 8, 1⟩
def TSK_Tn_CTRL_SAFETY (t : Nat) : Fld := ⟨TSK_Tn_CTRL t, 9, 1⟩
def TSK_Tn_CTRL_RELEASE (t : Nat) : Fld := ⟨TSK_Tn_CTRL t, 10, 1⟩
def TSK_Tn_CTRL_OVR_POL (t : Nat) : Fld := ⟨TSK_Tn_CTRL t, 11, 2⟩
def TSK_Tn_CTRL_OVR_LIMIT (t : Nat) : Fld := ⟨TSK_Tn_CTRL t, 13, 4⟩

/-- TSK_Tn_DEADLINE (spec/03_task_engine.md). -/
def TSK_Tn_DEADLINE (t : Nat) : Nat := 0x4003010C + t * 0x20
def TSK_Tn_DEADLINE_DEADLINE_US (t : Nat) : Fld := ⟨TSK_Tn_DEADLINE t, 0, 26⟩

/-- TSK_Tn_STAT (spec/03_task_engine.md). -/
def TSK_Tn_STAT (t : Nat) : Nat := 0x40030110 + t * 0x20
def TSK_Tn_STAT_STATE (t : Nat) : Fld := ⟨TSK_Tn_STAT t, 0, 3⟩
def TSK_Tn_STAT_LATE (t : Nat) : Fld := ⟨TSK_Tn_STAT t, 3, 1⟩
def TSK_Tn_STAT_OVR_CONSEC (t : Nat) : Fld := ⟨TSK_Tn_STAT t, 4, 4⟩
def TSK_Tn_STAT_OVR_COUNT (t : Nat) : Fld := ⟨TSK_Tn_STAT t, 16, 16⟩

/-- TSK_Tn_TIMING (spec/03_task_engine.md). -/
def TSK_Tn_TIMING (t : Nat) : Nat := 0x40030114 + t * 0x20
def TSK_Tn_TIMING_LAST_RESP_US (t : Nat) : Fld := ⟨TSK_Tn_TIMING t, 0, 16⟩
def TSK_Tn_TIMING_MAX_RESP_US (t : Nat) : Fld := ⟨TSK_Tn_TIMING t, 16, 16⟩

/-- TSK_Tn_RETAIN (spec/03_task_engine.md). -/
def TSK_Tn_RETAIN (t : Nat) : Nat := 0x40030118 + t * 0x20
def TSK_Tn_RETAIN_RET_FIRST (t : Nat) : Fld := ⟨TSK_Tn_RETAIN t, 0, 12⟩
def TSK_Tn_RETAIN_RET_LINES (t : Nat) : Fld := ⟨TSK_Tn_RETAIN t, 16, 13⟩

/-- TSK_EPOCH_LO (spec/03_task_engine.md). -/
def TSK_EPOCH_LO : Nat := 0x40030020
def TSK_EPOCH_LO_EPOCH_LO : Fld := ⟨TSK_EPOCH_LO, 0, 32⟩

/-- TSK_EPOCH_HI (spec/03_task_engine.md). -/
def TSK_EPOCH_HI : Nat := 0x40030024
def TSK_EPOCH_HI_EPOCH_HI : Fld := ⟨TSK_EPOCH_HI, 0, 32⟩

/-- TSK_TMR_INDEX (spec/03_task_engine.md). -/
def TSK_TMR_INDEX : Nat := 0x40030700
def TSK_TMR_INDEX_INDEX : Fld := ⟨TSK_TMR_INDEX, 0, 13⟩

/-- TSK_TMR_DATAw (spec/03_task_engine.md). -/
def TSK_TMR_DATAw (w : Nat) : Nat := 0x40030704 + w * 0x4
def TSK_TMR_DATAw_DATA (w : Nat) : Fld := ⟨TSK_TMR_DATAw w, 0, 32⟩

/-- TSK_RETAIN_CFG (spec/03_task_engine.md). -/
def TSK_RETAIN_CFG : Nat := 0x40030600
def TSK_RETAIN_CFG_PASS_MS : Fld := ⟨TSK_RETAIN_CFG, 0, 14⟩

/-- TSK_RETAIN_STATUS (spec/03_task_engine.md). -/
def TSK_RETAIN_STATUS : Nat := 0x40030604
def TSK_RETAIN_STATUS_RESTORED_FROM : Fld := ⟨TSK_RETAIN_STATUS, 0, 2⟩
def TSK_RETAIN_STATUS_COLD : Fld := ⟨TSK_RETAIN_STATUS, 2, 1⟩
def TSK_RETAIN_STATUS_PASS_ACTIVE : Fld := ⟨TSK_RETAIN_STATUS, 3, 1⟩
def TSK_RETAIN_STATUS_NEXT : Fld := ⟨TSK_RETAIN_STATUS, 4, 1⟩
def TSK_RETAIN_STATUS_PASSES : Fld := ⟨TSK_RETAIN_STATUS, 16, 16⟩

/-- TSK_FORCE_STATUS (spec/04_forcing_online_change.md). -/
def TSK_FORCE_STATUS : Nat := 0x40030800
def TSK_FORCE_STATUS_LANTERN : Fld := ⟨TSK_FORCE_STATUS, 0, 1⟩
def TSK_FORCE_STATUS_PENDING : Fld := ⟨TSK_FORCE_STATUS, 1, 1⟩
def TSK_FORCE_STATUS_COUNT : Fld := ⟨TSK_FORCE_STATUS, 16, 11⟩

/-- TSK_FORCE_CFG (spec/04_forcing_online_change.md). -/
def TSK_FORCE_CFG : Nat := 0x40030804
def TSK_FORCE_CFG_FLASH : Fld := ⟨TSK_FORCE_CFG, 0, 1⟩

/-- TSK_FORCE_INDEX (spec/04_forcing_online_change.md). -/
def TSK_FORCE_INDEX : Nat := 0x40030808
def TSK_FORCE_INDEX_INDEX : Fld := ⟨TSK_FORCE_INDEX, 0, 10⟩

/-- TSK_FORCE_DATAw (spec/04_forcing_online_change.md). -/
def TSK_FORCE_DATAw (w : Nat) : Nat := 0x4003080C + w * 0x4
def TSK_FORCE_DATAw_DATA (w : Nat) : Fld := ⟨TSK_FORCE_DATAw w, 0, 32⟩

/-- TSK_OLC_STATUS (spec/04_forcing_online_change.md). -/
def TSK_OLC_STATUS : Nat := 0x40030900
def TSK_OLC_STATUS_STATE : Fld := ⟨TSK_OLC_STATUS, 0, 3⟩
def TSK_OLC_STATUS_REASON : Fld := ⟨TSK_OLC_STATUS, 3, 4⟩
def TSK_OLC_STATUS_PAIRED : Fld := ⟨TSK_OLC_STATUS, 7, 1⟩

/-- TSK_OLC_CFG (spec/04_forcing_online_change.md). -/
def TSK_OLC_CFG : Nat := 0x40030904
def TSK_OLC_CFG_WAIT_MS : Fld := ⟨TSK_OLC_CFG, 0, 16⟩

/-- TSK_OLC_POINT_LO (spec/04_forcing_online_change.md). -/
def TSK_OLC_POINT_LO : Nat := 0x40030908
def TSK_OLC_POINT_LO_POINT_LO : Fld := ⟨TSK_OLC_POINT_LO, 0, 32⟩

/-- TSK_OLC_POINT_HI (spec/04_forcing_online_change.md). -/
def TSK_OLC_POINT_HI : Nat := 0x4003090C
def TSK_OLC_POINT_HI_POINT_HI : Fld := ⟨TSK_OLC_POINT_HI, 0, 32⟩

/-- TSK_OLC_AFFECTED (spec/04_forcing_online_change.md). -/
def TSK_OLC_AFFECTED : Nat := 0x40030910
def TSK_OLC_AFFECTED_MASK : Fld := ⟨TSK_OLC_AFFECTED, 0, 32⟩

/-- TSK_OLC_COST (spec/04_forcing_online_change.md). -/
def TSK_OLC_COST : Nat := 0x40030914
def TSK_OLC_COST_SWAP_CLOCKS : Fld := ⟨TSK_OLC_COST, 0, 17⟩

/-- TSK_OLC_LAST (spec/04_forcing_online_change.md). -/
def TSK_OLC_LAST : Nat := 0x40030918
def TSK_OLC_LAST_LAST_CLOCKS : Fld := ⟨TSK_OLC_LAST, 0, 17⟩
def TSK_OLC_LAST_ENTRIES : Fld := ⟨TSK_OLC_LAST, 17, 13⟩

/-- CMP_EPn_STATUS (spec/05_comparison.md). -/
def CMP_EPn_STATUS (n : Nat) : Nat := 0x40020100 + n * 0x40
def CMP_EPn_STATUS_PROFILE (n : Nat) : Fld := ⟨CMP_EPn_STATUS n, 0, 2⟩
def CMP_EPn_STATUS_ACTIVE (n : Nat) : Fld := ⟨CMP_EPn_STATUS n, 2, 1⟩
def CMP_EPn_STATUS_REEXEC (n : Nat) : Fld := ⟨CMP_EPn_STATUS n, 3, 1⟩
def CMP_EPn_STATUS_OVF (n : Nat) : Fld := ⟨CMP_EPn_STATUS n, 4, 1⟩
def CMP_EPn_STATUS_TASK (n : Nat) : Fld := ⟨CMP_EPn_STATUS n, 5, 5⟩
def CMP_EPn_STATUS_HALTED (n : Nat) : Fld := ⟨CMP_EPn_STATUS n, 10, 1⟩
def CMP_EPn_STATUS_WINDOW (n : Nat) : Fld := ⟨CMP_EPn_STATUS n, 16, 16⟩

/-- CMP_EPn_WINDOWS (spec/05_comparison.md). -/
def CMP_EPn_WINDOWS (n : Nat) : Nat := 0x40020104 + n * 0x40
def CMP_EPn_WINDOWS_COUNT (n : Nat) : Fld := ⟨CMP_EPn_WINDOWS n, 0, 32⟩

/-- CMP_EPn_MISMATCH (spec/05_comparison.md). -/
def CMP_EPn_MISMATCH (n : Nat) : Nat := 0x40020108 + n * 0x40
def CMP_EPn_MISMATCH_MISMATCHES (n : Nat) : Fld := ⟨CMP_EPn_MISMATCH n, 0, 16⟩
def CMP_EPn_MISMATCH_RESOLVED (n : Nat) : Fld := ⟨CMP_EPn_MISMATCH n, 16, 16⟩

/-- CMP_EPn_LAST (spec/05_comparison.md). -/
def CMP_EPn_LAST (n : Nat) : Nat := 0x4002010C + n * 0x40
def CMP_EPn_LAST_TASK (n : Nat) : Fld := ⟨CMP_EPn_LAST n, 0, 5⟩
def CMP_EPn_LAST_KIND (n : Nat) : Fld := ⟨CMP_EPn_LAST n, 5, 3⟩
def CMP_EPn_LAST_IN_REEXEC (n : Nat) : Fld := ⟨CMP_EPn_LAST n, 8, 1⟩
def CMP_EPn_LAST_WINDOW (n : Nat) : Fld := ⟨CMP_EPn_LAST n, 16, 16⟩

/-- CMP_EPn_UNDO (spec/05_comparison.md). -/
def CMP_EPn_UNDO (n : Nat) : Nat := 0x40020110 + n * 0x40
def CMP_EPn_UNDO_USED (n : Nat) : Fld := ⟨CMP_EPn_UNDO n, 0, 13⟩
def CMP_EPn_UNDO_HIGH (n : Nat) : Fld := ⟨CMP_EPn_UNDO n, 16, 13⟩
def CMP_EPn_UNDO_OVF_SEEN (n : Nat) : Fld := ⟨CMP_EPn_UNDO n, 29, 1⟩

/-- CMP_EPn_HELD (spec/05_comparison.md). -/
def CMP_EPn_HELD (n : Nat) : Nat := 0x40020114 + n * 0x40
def CMP_EPn_HELD_USED (n : Nat) : Fld := ⟨CMP_EPn_HELD n, 0, 11⟩
def CMP_EPn_HELD_HIGH (n : Nat) : Fld := ⟨CMP_EPn_HELD n, 16, 11⟩
def CMP_EPn_HELD_FULL_SEEN (n : Nat) : Fld := ⟨CMP_EPn_HELD n, 27, 1⟩

/-- CMP_EPn_MGw (spec/05_comparison.md). -/
def CMP_EPn_MGw (n : Nat) (w : Nat) : Nat := 0x40020118 + n * 0x40 + w * 0x4
def CMP_EPn_MGw_MG (n : Nat) (w : Nat) : Fld := ⟨CMP_EPn_MGw n w, 0, 32⟩

/-- CMP_REPLAY_STATUS (spec/05_comparison.md). -/
def CMP_REPLAY_STATUS : Nat := 0x40020020
def CMP_REPLAY_STATUS_DEPTH : Fld := ⟨CMP_REPLAY_STATUS, 0, 7⟩
def CMP_REPLAY_STATUS_FULL : Fld := ⟨CMP_REPLAY_STATUS, 7, 1⟩
def CMP_REPLAY_STATUS_EP : Fld := ⟨CMP_REPLAY_STATUS, 8, 2⟩
def CMP_REPLAY_STATUS_DISCARDED : Fld := ⟨CMP_REPLAY_STATUS, 10, 1⟩
def CMP_REPLAY_STATUS_ACTIONS : Fld := ⟨CMP_REPLAY_STATUS, 16, 16⟩

/-- CMP_INJ_CTRL (spec/05_comparison.md). -/
def CMP_INJ_CTRL : Nat := 0x40020030
def CMP_INJ_CTRL_POINT : Fld := ⟨CMP_INJ_CTRL, 0, 4⟩
def CMP_INJ_CTRL_EP : Fld := ⟨CMP_INJ_CTRL, 4, 2⟩
def CMP_INJ_CTRL_BIT : Fld := ⟨CMP_INJ_CTRL, 6, 6⟩
def CMP_INJ_CTRL_ARM : Fld := ⟨CMP_INJ_CTRL, 16, 1⟩
def CMP_INJ_CTRL_DONE : Fld := ⟨CMP_INJ_CTRL, 17, 1⟩

/-- EXE_VBASE (spec/06_kyoquel_model.md). -/
def EXE_VBASE : Nat := 0x40010020
def EXE_VBASE_BASE : Fld := ⟨EXE_VBASE, 9, 15⟩

/-- EXE_Tn_ENTRY (spec/06_kyoquel_model.md). -/
def EXE_Tn_ENTRY (t : Nat) : Nat := 0x40010200 + t * 0x10
def EXE_Tn_ENTRY_ENTRY (t : Nat) : Fld := ⟨EXE_Tn_ENTRY t, 2, 22⟩

/-- EXE_Tn_GP (spec/06_kyoquel_model.md). -/
def EXE_Tn_GP (t : Nat) : Nat := 0x40010204 + t * 0x10
def EXE_Tn_GP_GP (t : Nat) : Fld := ⟨EXE_Tn_GP t, 0, 32⟩

/-- EXE_Tn_STK_HI (spec/06_kyoquel_model.md). -/
def EXE_Tn_STK_HI (t : Nat) : Nat := 0x40010208 + t * 0x10
def EXE_Tn_STK_HI_STK_HI (t : Nat) : Fld := ⟨EXE_Tn_STK_HI t, 0, 32⟩

/-- EXE_Tn_STK_LO (spec/06_kyoquel_model.md). -/
def EXE_Tn_STK_LO (t : Nat) : Nat := 0x4001020C + t * 0x10
def EXE_Tn_STK_LO_STK_LO (t : Nat) : Fld := ⟨EXE_Tn_STK_LO t, 0, 32⟩

/-- EXE_EXT_CFG (spec/06_kyoquel_model.md). -/
def EXE_EXT_CFG : Nat := 0x40010100
def EXE_EXT_CFG_SLOT_EN : Fld := ⟨EXE_EXT_CFG, 0, 4⟩
def EXE_EXT_CFG_TIMEOUT : Fld := ⟨EXE_EXT_CFG, 8, 8⟩

/-- FLD_GRPg_CFG (spec/08_field_digital.md). -/
def FLD_GRPg_CFG (g : Nat) : Nat := 0x40040100 + g * 0x40
def FLD_GRPg_CFG_LINK (g : Nat) : Fld := ⟨FLD_GRPg_CFG g, 0, 1⟩
def FLD_GRPg_CFG_LOW_THRESH (g : Nat) : Fld := ⟨FLD_GRPg_CFG g, 8, 9⟩

/-- FLD_GRPg_STATUS (spec/08_field_digital.md). -/
def FLD_GRPg_STATUS (g : Nat) : Nat := 0x40040104 + g * 0x40
def FLD_GRPg_STATUS_BARRIER_OK (g : Nat) : Fld := ⟨FLD_GRPg_STATUS g, 0, 1⟩
def FLD_GRPg_STATUS_ZIREK (g : Nat) : Fld := ⟨FLD_GRPg_STATUS g, 1, 1⟩
def FLD_GRPg_STATUS_SUPPLY_OK (g : Nat) : Fld := ⟨FLD_GRPg_STATUS g, 2, 1⟩
def FLD_GRPg_STATUS_SUPPLY_LOW (g : Nat) : Fld := ⟨FLD_GRPg_STATUS g, 3, 1⟩
def FLD_GRPg_STATUS_SUPPLY_OVER (g : Nat) : Fld := ⟨FLD_GRPg_STATUS g, 4, 1⟩
def FLD_GRPg_STATUS_AUTONOMY (g : Nat) : Fld := ⟨FLD_GRPg_STATUS g, 5, 1⟩
def FLD_GRPg_STATUS_STARTING (g : Nat) : Fld := ⟨FLD_GRPg_STATUS g, 6, 1⟩
def FLD_GRPg_STATUS_CARRIER (g : Nat) : Fld := ⟨FLD_GRPg_STATUS g, 7, 1⟩
def FLD_GRPg_STATUS_ID_OK (g : Nat) : Fld := ⟨FLD_GRPg_STATUS g, 8, 1⟩

/-- FLD_GRPg_ERR (spec/08_field_digital.md). -/
def FLD_GRPg_ERR (g : Nat) : Nat := 0x40040108 + g * 0x40
def FLD_GRPg_ERR_MISSED (g : Nat) : Fld := ⟨FLD_GRPg_ERR g, 0, 16⟩
def FLD_GRPg_ERR_DOWNS (g : Nat) : Fld := ⟨FLD_GRPg_ERR g, 16, 8⟩
def FLD_GRPg_ERR_FS_LOSS (g : Nat) : Fld := ⟨FLD_GRPg_ERR g, 24, 8⟩

/-- FLD_GRPg_SUPPLY (spec/08_field_digital.md). -/
def FLD_GRPg_SUPPLY (g : Nat) : Nat := 0x4004010C + g * 0x40
def FLD_GRPg_SUPPLY_LPLUS (g : Nat) : Fld := ⟨FLD_GRPg_SUPPLY g, 0, 10⟩
def FLD_GRPg_SUPPLY_FS_TEMP (g : Nat) : Fld := ⟨FLD_GRPg_SUPPLY g, 16, 8⟩

/-- FLD_GRPg_ZIREK (spec/08_field_digital.md). -/
def FLD_GRPg_ZIREK (g : Nat) : Nat := 0x40040110 + g * 0x40
def FLD_GRPg_ZIREK_UNIT_TYPE (g : Nat) : Fld := ⟨FLD_GRPg_ZIREK g, 0, 8⟩
def FLD_GRPg_ZIREK_DIR_MAP (g : Nat) : Fld := ⟨FLD_GRPg_ZIREK g, 8, 8⟩

/-- FLD_CHc_CFG (spec/08_field_digital.md). -/
def FLD_CHc_CFG (c : Nat) : Nat := 0x40041000 + c * 0x20
def FLD_CHc_CFG_MODE (c : Nat) : Fld := ⟨FLD_CHc_CFG c, 0, 3⟩
def FLD_CHc_CFG_GS (c : Nat) : Fld := ⟨FLD_CHc_CFG c, 3, 1⟩

/-- FLD_CHc_DI_THRESH (spec/08_field_digital.md). -/
def FLD_CHc_DI_THRESH (c : Nat) : Nat := 0x40041004 + c * 0x20
def FLD_CHc_DI_THRESH_ON (c : Nat) : Fld := ⟨FLD_CHc_DI_THRESH c, 0, 11⟩
def FLD_CHc_DI_THRESH_HYST (c : Nat) : Fld := ⟨FLD_CHc_DI_THRESH c, 16, 8⟩
def FLD_CHc_DI_THRESH_WB_EN (c : Nat) : Fld := ⟨FLD_CHc_DI_THRESH c, 24, 1⟩

/-- FLD_CHc_DI_FILTER (spec/08_field_digital.md). -/
def FLD_CHc_DI_FILTER (c : Nat) : Nat := 0x40041008 + c * 0x20
def FLD_CHc_DI_FILTER_FILTER_US (c : Nat) : Fld := ⟨FLD_CHc_DI_FILTER c, 0, 16⟩
def FLD_CHc_DI_FILTER_PC_MIN (c : Nat) : Fld := ⟨FLD_CHc_DI_FILTER c, 16, 8⟩
def FLD_CHc_DI_FILTER_COS_RISE (c : Nat) : Fld := ⟨FLD_CHc_DI_FILTER c, 24, 1⟩
def FLD_CHc_DI_FILTER_COS_FALL (c : Nat) : Fld := ⟨FLD_CHc_DI_FILTER c, 25, 1⟩

/-- FLD_CHc_DO_CFG (spec/08_field_digital.md). -/
def FLD_CHc_DO_CFG (c : Nat) : Nat := 0x4004100C + c * 0x20
def FLD_CHc_DO_CFG_CURLIM (c : Nat) : Fld := ⟨FLD_CHc_DO_CFG c, 0, 4⟩
def FLD_CHc_DO_CFG_INRUSH (c : Nat) : Fld := ⟨FLD_CHc_DO_CFG c, 4, 1⟩
def FLD_CHc_DO_CFG_POLICY (c : Nat) : Fld := ⟨FLD_CHc_DO_CFG c, 5, 1⟩
def FLD_CHc_DO_CFG_LIM_MS (c : Nat) : Fld := ⟨FLD_CHc_DO_CFG c, 8, 8⟩
def FLD_CHc_DO_CFG_RETRY (c : Nat) : Fld := ⟨FLD_CHc_DO_CFG c, 16, 8⟩

/-- FLD_CHc_MEAS (spec/08_field_digital.md). -/
def FLD_CHc_MEAS (c : Nat) : Nat := 0x40041018 + c * 0x20
def FLD_CHc_MEAS_VALUE (c : Nat) : Fld := ⟨FLD_CHc_MEAS c, 0, 26⟩

/-- FLD_CHc_STATUS (spec/08_field_digital.md). -/
def FLD_CHc_STATUS (c : Nat) : Nat := 0x4004101C + c * 0x20
def FLD_CHc_STATUS_MODE_APPLIED (c : Nat) : Fld := ⟨FLD_CHc_STATUS c, 0, 3⟩
def FLD_CHc_STATUS_STATE (c : Nat) : Fld := ⟨FLD_CHc_STATUS c, 3, 1⟩
def FLD_CHc_STATUS_WIREBREAK (c : Nat) : Fld := ⟨FLD_CHc_STATUS c, 4, 1⟩
def FLD_CHc_STATUS_LIMITING (c : Nat) : Fld := ⟨FLD_CHc_STATUS c, 5, 1⟩
def FLD_CHc_STATUS_OVL_OFF (c : Nat) : Fld := ⟨FLD_CHc_STATUS c, 6, 1⟩
def FLD_CHc_STATUS_THERMAL (c : Nat) : Fld := ⟨FLD_CHc_STATUS c, 7, 1⟩
def FLD_CHc_STATUS_LATCHED (c : Nat) : Fld := ⟨FLD_CHc_STATUS c, 8, 1⟩
def FLD_CHc_STATUS_WB_SEEN (c : Nat) : Fld := ⟨FLD_CHc_STATUS c, 16, 1⟩
def FLD_CHc_STATUS_OVL_SEEN (c : Nat) : Fld := ⟨FLD_CHc_STATUS c, 17, 1⟩
def FLD_CHc_STATUS_THERM_SEEN (c : Nat) : Fld := ⟨FLD_CHc_STATUS c, 18, 1⟩
def FLD_CHc_STATUS_PC_LOST_SEEN (c : Nat) : Fld := ⟨FLD_CHc_STATUS c, 19, 1⟩
def FLD_CHc_STATUS_SHUTDOWNS (c : Nat) : Fld := ⟨FLD_CHc_STATUS c, 24, 8⟩

/-- FLD_LATCH_CLR_LO (spec/08_field_digital.md). -/
def FLD_LATCH_CLR_LO : Nat := 0x40040040
def FLD_LATCH_CLR_LO_CLR : Fld := ⟨FLD_LATCH_CLR_LO, 0, 32⟩

/-- FLD_LATCH_CLR_HI (spec/08_field_digital.md). -/
def FLD_LATCH_CLR_HI : Nat := 0x40040044
def FLD_LATCH_CLR_HI_CLR : Fld := ⟨FLD_LATCH_CLR_HI, 0, 16⟩

/-- FLD_INJ_CTRL (spec/08_field_digital.md). -/
def FLD_INJ_CTRL : Nat := 0x40040030
def FLD_INJ_CTRL_POINT : Fld := ⟨FLD_INJ_CTRL, 0, 4⟩
def FLD_INJ_CTRL_CHANNEL : Fld := ⟨FLD_INJ_CTRL, 4, 6⟩
def FLD_INJ_CTRL_GROUP : Fld := ⟨FLD_INJ_CTRL, 10, 3⟩
def FLD_INJ_CTRL_ARM : Fld := ⟨FLD_INJ_CTRL, 16, 1⟩
def FLD_INJ_CTRL_DONE : Fld := ⟨FLD_INJ_CTRL, 17, 1⟩

/-- FLD_CHc_AN_CFG (spec/09_field_analogue.md). -/
def FLD_CHc_AN_CFG (c : Nat) : Nat := 0x40041010 + c * 0x20
def FLD_CHc_AN_CFG_RATE (c : Nat) : Fld := ⟨FLD_CHc_AN_CFG c, 0, 3⟩
def FLD_CHc_AN_CFG_NE43_EN (c : Nat) : Fld := ⟨FLD_CHc_AN_CFG c, 3, 1⟩
def FLD_CHc_AN_CFG_GS_AO (c : Nat) : Fld := ⟨FLD_CHc_AN_CFG c, 4, 2⟩
def FLD_CHc_AN_CFG_ALM_LO (c : Nat) : Fld := ⟨FLD_CHc_AN_CFG c, 8, 6⟩
def FLD_CHc_AN_CFG_ALM_HI (c : Nat) : Fld := ⟨FLD_CHc_AN_CFG c, 16, 8⟩

/-- FLD_CHc_AN_TRIM (spec/09_field_analogue.md). -/
def FLD_CHc_AN_TRIM (c : Nat) : Nat := 0x40041014 + c * 0x20
def FLD_CHc_AN_TRIM_TRIM4 (c : Nat) : Fld := ⟨FLD_CHc_AN_TRIM c, 0, 13⟩
def FLD_CHc_AN_TRIM_TRIM20 (c : Nat) : Fld := ⟨FLD_CHc_AN_TRIM c, 13, 13⟩

/-- FLD_CHc_SCALE_CFG (spec/09_field_analogue.md). -/
def FLD_CHc_SCALE_CFG (c : Nat) : Nat := 0x40042000 + c * 0x20
def FLD_CHc_SCALE_CFG_CHAR (c : Nat) : Fld := ⟨FLD_CHc_SCALE_CFG c, 0, 2⟩
def FLD_CHc_SCALE_CFG_TABLE (c : Nat) : Fld := ⟨FLD_CHc_SCALE_CFG c, 4, 4⟩

/-- FLD_CHc_SCALE_LO (spec/09_field_analogue.md). -/
def FLD_CHc_SCALE_LO (c : Nat) : Nat := 0x40042004 + c * 0x20
def FLD_CHc_SCALE_LO_LO (c : Nat) : Fld := ⟨FLD_CHc_SCALE_LO c, 0, 32⟩

/-- FLD_CHc_SCALE_HI (spec/09_field_analogue.md). -/
def FLD_CHc_SCALE_HI (c : Nat) : Nat := 0x40042008 + c * 0x20
def FLD_CHc_SCALE_HI_HI (c : Nat) : Fld := ⟨FLD_CHc_SCALE_HI c, 0, 32⟩

/-- FLD_CHc_SCALE_CUT (spec/09_field_analogue.md). -/
def FLD_CHc_SCALE_CUT (c : Nat) : Nat := 0x4004200C + c * 0x20
def FLD_CHc_SCALE_CUT_CUT (c : Nat) : Fld := ⟨FLD_CHc_SCALE_CUT c, 0, 32⟩

/-- FLD_CHc_AN_STATUS (spec/09_field_analogue.md). -/
def FLD_CHc_AN_STATUS (c : Nat) : Nat := 0x40042010 + c * 0x20
def FLD_CHc_AN_STATUS_LIMITER (c : Nat) : Fld := ⟨FLD_CHc_AN_STATUS c, 0, 1⟩
def FLD_CHc_AN_STATUS_DISCONNECTED (c : Nat) : Fld := ⟨FLD_CHc_AN_STATUS c, 1, 1⟩
def FLD_CHc_AN_STATUS_ADC_FAULT (c : Nat) : Fld := ⟨FLD_CHc_AN_STATUS c, 2, 1⟩
def FLD_CHc_AN_STATUS_NE43_LOW (c : Nat) : Fld := ⟨FLD_CHc_AN_STATUS c, 3, 1⟩
def FLD_CHc_AN_STATUS_NE43_HIGH (c : Nat) : Fld := ⟨FLD_CHc_AN_STATUS c, 4, 1⟩
def FLD_CHc_AN_STATUS_LOW_FLOW_CUT (c : Nat) : Fld := ⟨FLD_CHc_AN_STATUS c, 5, 1⟩
def FLD_CHc_AN_STATUS_COMPLIANCE (c : Nat) : Fld := ⟨FLD_CHc_AN_STATUS c, 6, 1⟩
def FLD_CHc_AN_STATUS_THERMAL (c : Nat) : Fld := ⟨FLD_CHc_AN_STATUS c, 7, 1⟩
def FLD_CHc_AN_STATUS_RB_FAULT (c : Nat) : Fld := ⟨FLD_CHc_AN_STATUS c, 8, 1⟩
def FLD_CHc_AN_STATUS_TABLE_BAD (c : Nat) : Fld := ⟨FLD_CHc_AN_STATUS c, 9, 1⟩
def FLD_CHc_AN_STATUS_LIM_SEEN (c : Nat) : Fld := ⟨FLD_CHc_AN_STATUS c, 16, 1⟩
def FLD_CHc_AN_STATUS_NE43_SEEN (c : Nat) : Fld := ⟨FLD_CHc_AN_STATUS c, 17, 1⟩
def FLD_CHc_AN_STATUS_COMPL_SEEN (c : Nat) : Fld := ⟨FLD_CHc_AN_STATUS c, 18, 1⟩
def FLD_CHc_AN_STATUS_EPISODES (c : Nat) : Fld := ⟨FLD_CHc_AN_STATUS c, 24, 8⟩

/-- FLD_TBL_CTRLt (spec/09_field_analogue.md). -/
def FLD_TBL_CTRLt (t : Nat) : Nat := 0x40040C00 + t * 0x4
def FLD_TBL_CTRLt_N (t : Nat) : Fld := ⟨FLD_TBL_CTRLt t, 0, 6⟩
def FLD_TBL_CTRLt_OK (t : Nat) : Fld := ⟨FLD_TBL_CTRLt t, 8, 1⟩

/-- FLD_TBLt_Xi (spec/09_field_analogue.md). -/
def FLD_TBLt_Xi (t : Nat) (i : Nat) : Nat := 0x40044000 + t * 0x100 + i * 0x8
def FLD_TBLt_Xi_X (t : Nat) (i : Nat) : Fld := ⟨FLD_TBLt_Xi t i, 0, 32⟩

/-- FLD_TBLt_Yi (spec/09_field_analogue.md). -/
def FLD_TBLt_Yi (t : Nat) (i : Nat) : Nat := 0x40044004 + t * 0x100 + i * 0x8
def FLD_TBLt_Yi_Y (t : Nat) (i : Nat) : Fld := ⟨FLD_TBLt_Yi t i, 0, 32⟩

/-- FLD_AN_TEST (spec/09_field_analogue.md). -/
def FLD_AN_TEST : Nat := 0x40040050
def FLD_AN_TEST_CHANNEL : Fld := ⟨FLD_AN_TEST, 0, 6⟩
def FLD_AN_TEST_ACTIVE : Fld := ⟨FLD_AN_TEST, 8, 1⟩
def FLD_AN_TEST_PASS : Fld := ⟨FLD_AN_TEST, 9, 1⟩

/-- FLD_AN_TEST_NA (spec/09_field_analogue.md). -/
def FLD_AN_TEST_NA : Nat := 0x40040054
def FLD_AN_TEST_NA_CMD_NA : Fld := ⟨FLD_AN_TEST_NA, 0, 32⟩

/-- NET_PORT_CFG (spec/10_network.md). -/
def NET_PORT_CFG : Nat := 0x40050040
def NET_PORT_CFG_A_MODE : Fld := ⟨NET_PORT_CFG, 0, 2⟩
def NET_PORT_CFG_B_MODE : Fld := ⟨NET_PORT_CFG, 4, 2⟩

/-- NET_PORT_STATUS (spec/10_network.md). -/
def NET_PORT_STATUS : Nat := 0x40050044
def NET_PORT_STATUS_A_LINK : Fld := ⟨NET_PORT_STATUS, 0, 1⟩
def NET_PORT_STATUS_A_1000 : Fld := ⟨NET_PORT_STATUS, 1, 1⟩
def NET_PORT_STATUS_B_LINK : Fld := ⟨NET_PORT_STATUS, 2, 1⟩
def NET_PORT_STATUS_B_1000 : Fld := ⟨NET_PORT_STATUS, 3, 1⟩
def NET_PORT_STATUS_A_DOWNS : Fld := ⟨NET_PORT_STATUS, 16, 8⟩
def NET_PORT_STATUS_B_DOWNS : Fld := ⟨NET_PORT_STATUS, 24, 8⟩

/-- NET_IP (spec/10_network.md). -/
def NET_IP : Nat := 0x40050048
def NET_IP_IP : Fld := ⟨NET_IP, 0, 32⟩

/-- NET_MAC_LO (spec/10_network.md). -/
def NET_MAC_LO : Nat := 0x4005004C
def NET_MAC_LO_MAC_LO : Fld := ⟨NET_MAC_LO, 0, 32⟩

/-- NET_MAC_HI (spec/10_network.md). -/
def NET_MAC_HI : Nat := 0x40050050
def NET_MAC_HI_MAC_HI : Fld := ⟨NET_MAC_HI, 0, 16⟩

/-- NET_TOPO_ETB (spec/10_network.md). -/
def NET_TOPO_ETB : Nat := 0x40050054
def NET_TOPO_ETB_TOPO : Fld := ⟨NET_TOPO_ETB, 0, 32⟩

/-- NET_TOPO_OPT (spec/10_network.md). -/
def NET_TOPO_OPT : Nat := 0x40050058
def NET_TOPO_OPT_TOPO : Fld := ⟨NET_TOPO_OPT, 0, 32⟩

/-- NET_PRP_CFG (spec/10_network.md). -/
def NET_PRP_CFG : Nat := 0x40050060
def NET_PRP_CFG_FORGET_MS : Fld := ⟨NET_PRP_CFG, 0, 10⟩
def NET_PRP_CFG_SUP_EN : Fld := ⟨NET_PRP_CFG, 10, 1⟩
def NET_PRP_CFG_SUP_ADDR : Fld := ⟨NET_PRP_CFG, 16, 8⟩

/-- NET_PRP_CNT (spec/10_network.md). -/
def NET_PRP_CNT : Nat := 0x40050064
def NET_PRP_CNT_DISCARDS : Fld := ⟨NET_PRP_CNT, 0, 32⟩

/-- NET_PRP_STATUS (spec/10_network.md). -/
def NET_PRP_STATUS : Nat := 0x40050068
def NET_PRP_STATUS_WRONG_LAN : Fld := ⟨NET_PRP_STATUS, 0, 16⟩
def NET_PRP_STATUS_TABLE_FULL : Fld := ⟨NET_PRP_STATUS, 16, 16⟩

/-- NET_TRDP_CFG (spec/10_network.md). -/
def NET_TRDP_CFG : Nat := 0x40050070
def NET_TRDP_CFG_RESTART_N : Fld := ⟨NET_TRDP_CFG, 0, 4⟩

/-- NET_RX_DROP (spec/10_network.md). -/
def NET_RX_DROP : Nat := 0x40050074
def NET_RX_DROP_A_DROP : Fld := ⟨NET_RX_DROP, 0, 16⟩
def NET_RX_DROP_B_DROP : Fld := ⟨NET_RX_DROP, 16, 16⟩

/-- NET_SES_INDEX (spec/10_network.md). -/
def NET_SES_INDEX : Nat := 0x40050100
def NET_SES_INDEX_INDEX : Fld := ⟨NET_SES_INDEX, 0, 9⟩

/-- NET_SES_DATAw (spec/10_network.md). -/
def NET_SES_DATAw (w : Nat) : Nat := 0x40050104 + w * 0x4
def NET_SES_DATAw_DATA (w : Nat) : Fld := ⟨NET_SES_DATAw w, 0, 32⟩

/-- NET_SES_STAT (spec/10_network.md). -/
def NET_SES_STAT : Nat := 0x40050124
def NET_SES_STAT_VALID : Fld := ⟨NET_SES_STAT, 0, 1⟩
def NET_SES_STAT_NEVER : Fld := ⟨NET_SES_STAT, 1, 1⟩
def NET_SES_STAT_PUBLISHING : Fld := ⟨NET_SES_STAT, 2, 1⟩
def NET_SES_STAT_WAIT_FIRST : Fld := ⟨NET_SES_STAT, 3, 1⟩
def NET_SES_STAT_RESTART_RUN : Fld := ⟨NET_SES_STAT, 4, 4⟩

/-- NET_SES_SEQ (spec/10_network.md). -/
def NET_SES_SEQ : Nat := 0x40050128
def NET_SES_SEQ_SEQ : Fld := ⟨NET_SES_SEQ, 0, 32⟩

/-- NET_SES_CNT (spec/10_network.md). -/
def NET_SES_CNT : Nat := 0x4005012C
def NET_SES_CNT_DUP : Fld := ⟨NET_SES_CNT, 0, 8⟩
def NET_SES_CNT_OLD : Fld := ⟨NET_SES_CNT, 8, 8⟩
def NET_SES_CNT_TIMEOUTS : Fld := ⟨NET_SES_CNT, 16, 8⟩
def NET_SES_CNT_RESTARTS : Fld := ⟨NET_SES_CNT, 24, 8⟩

/-- NET_DIR_INDEX (spec/10_network.md). -/
def NET_DIR_INDEX : Nat := 0x40050140
def NET_DIR_INDEX_INDEX : Fld := ⟨NET_DIR_INDEX, 0, 14⟩

/-- NET_DIR_DATAw (spec/10_network.md). -/
def NET_DIR_DATAw (w : Nat) : Nat := 0x40050144 + w * 0x4
def NET_DIR_DATAw_DATA (w : Nat) : Fld := ⟨NET_DIR_DATAw w, 0, 32⟩

/-- NET_TB_LO (spec/10_network.md). -/
def NET_TB_LO : Nat := 0x40050200
def NET_TB_LO_TB : Fld := ⟨NET_TB_LO, 0, 32⟩

/-- NET_TB_HI (spec/10_network.md). -/
def NET_TB_HI : Nat := 0x40050204
def NET_TB_HI_TB : Fld := ⟨NET_TB_HI, 0, 32⟩

/-- NET_TB_RATE (spec/10_network.md). -/
def NET_TB_RATE : Nat := 0x40050208
def NET_TB_RATE_RATE : Fld := ⟨NET_TB_RATE, 0, 32⟩

/-- NET_TB_CFG (spec/10_network.md). -/
def NET_TB_CFG : Nat := 0x4005020C
def NET_TB_CFG_STEP_US : Fld := ⟨NET_TB_CFG, 0, 16⟩
def NET_TB_CFG_SLEW_MAX : Fld := ⟨NET_TB_CFG, 16, 9⟩
def NET_TB_CFG_STEP_RUN : Fld := ⟨NET_TB_CFG, 25, 1⟩
def NET_TB_CFG_FIRST_STEP : Fld := ⟨NET_TB_CFG, 26, 1⟩

/-- NET_UTC_OFFSET (spec/10_network.md). -/
def NET_UTC_OFFSET : Nat := 0x40050210
def NET_UTC_OFFSET_OFFSET_S : Fld := ⟨NET_UTC_OFFSET, 0, 16⟩
def NET_UTC_OFFSET_FROM_PTP : Fld := ⟨NET_UTC_OFFSET, 16, 1⟩

/-- NET_PTP_CFG (spec/10_network.md). -/
def NET_PTP_CFG : Nat := 0x40050240
def NET_PTP_CFG_ENABLE : Fld := ⟨NET_PTP_CFG, 0, 1⟩
def NET_PTP_CFG_TRANSPORT : Fld := ⟨NET_PTP_CFG, 1, 1⟩
def NET_PTP_CFG_DELAY : Fld := ⟨NET_PTP_CFG, 2, 1⟩
def NET_PTP_CFG_MASTER_EN : Fld := ⟨NET_PTP_CFG, 3, 1⟩
def NET_PTP_CFG_DOMAIN : Fld := ⟨NET_PTP_CFG, 8, 8⟩
def NET_PTP_CFG_PRIORITY1 : Fld := ⟨NET_PTP_CFG, 16, 8⟩

/-- NET_PTP_STATUS (spec/10_network.md). -/
def NET_PTP_STATUS : Nat := 0x40050244
def NET_PTP_STATUS_STATE : Fld := ⟨NET_PTP_STATUS, 0, 2⟩
def NET_PTP_STATUS_PORT : Fld := ⟨NET_PTP_STATUS, 2, 1⟩
def NET_PTP_STATUS_MASTER : Fld := ⟨NET_PTP_STATUS, 3, 1⟩
def NET_PTP_STATUS_STEPS : Fld := ⟨NET_PTP_STATUS, 16, 16⟩

/-- NET_PTP_OFFSET (spec/10_network.md). -/
def NET_PTP_OFFSET : Nat := 0x40050248
def NET_PTP_OFFSET_OFFSET : Fld := ⟨NET_PTP_OFFSET, 0, 32⟩

/-- NET_INJ_CTRL (spec/10_network.md). -/
def NET_INJ_CTRL : Nat := 0x40050030
def NET_INJ_CTRL_POINT : Fld := ⟨NET_INJ_CTRL, 0, 4⟩
def NET_INJ_CTRL_SESSION : Fld := ⟨NET_INJ_CTRL, 4, 9⟩
def NET_INJ_CTRL_PORT : Fld := ⟨NET_INJ_CTRL, 13, 1⟩
def NET_INJ_CTRL_ARM : Fld := ⟨NET_INJ_CTRL, 16, 1⟩
def NET_INJ_CTRL_DONE : Fld := ⟨NET_INJ_CTRL, 17, 1⟩

/-- PAIR_CFG (spec/11_hot_standby.md). -/
def PAIR_CFG : Nat := 0x40060010
def PAIR_CFG_ENABLE : Fld := ⟨PAIR_CFG, 0, 1⟩
def PAIR_CFG_PREFERRED : Fld := ⟨PAIR_CFG, 1, 1⟩
def PAIR_CFG_REVERT_EN : Fld := ⟨PAIR_CFG, 2, 1⟩
def PAIR_CFG_HOLD_CYCLES : Fld := ⟨PAIR_CFG, 4, 3⟩
def PAIR_CFG_OVERLAP : Fld := ⟨PAIR_CFG, 8, 6⟩

/-- PAIR_REVERT_CFG (spec/11_hot_standby.md). -/
def PAIR_REVERT_CFG : Nat := 0x40060014
def PAIR_REVERT_CFG_REVERT_HOLD_S : Fld := ⟨PAIR_REVERT_CFG, 0, 12⟩

/-- PAIR_PARTNER (spec/11_hot_standby.md). -/
def PAIR_PARTNER : Nat := 0x40060018
def PAIR_PARTNER_PARTNER_DIR : Fld := ⟨PAIR_PARTNER, 0, 14⟩

/-- PAIR_HB_COMID (spec/11_hot_standby.md). -/
def PAIR_HB_COMID : Nat := 0x4006001C
def PAIR_HB_COMID_HB_COMID : Fld := ⟨PAIR_HB_COMID, 0, 32⟩

/-- PAIR_XCHK_CFG (spec/11_hot_standby.md). -/
def PAIR_XCHK_CFG : Nat := 0x40060020
def PAIR_XCHK_CFG_XCHK_MS : Fld := ⟨PAIR_XCHK_CFG, 0, 16⟩
def PAIR_XCHK_CFG_XCHK_UA : Fld := ⟨PAIR_XCHK_CFG, 16, 16⟩

/-- PAIR_INJ_CTRL (spec/11_hot_standby.md). -/
def PAIR_INJ_CTRL : Nat := 0x40060030
def PAIR_INJ_CTRL_POINT : Fld := ⟨PAIR_INJ_CTRL, 0, 4⟩
def PAIR_INJ_CTRL_ARM : Fld := ⟨PAIR_INJ_CTRL, 16, 1⟩
def PAIR_INJ_CTRL_DONE : Fld := ⟨PAIR_INJ_CTRL, 17, 1⟩

/-- PAIR_STATUS (spec/11_hot_standby.md). -/
def PAIR_STATUS : Nat := 0x40060040
def PAIR_STATUS_ROLE : Fld := ⟨PAIR_STATUS, 0, 2⟩
def PAIR_STATUS_SYNC : Fld := ⟨PAIR_STATUS, 2, 3⟩
def PAIR_STATUS_GUY_A : Fld := ⟨PAIR_STATUS, 5, 1⟩
def PAIR_STATUS_GUY_B : Fld := ⟨PAIR_STATUS, 6, 1⟩
def PAIR_STATUS_PARTNER_LOST : Fld := ⟨PAIR_STATUS, 7, 1⟩
def PAIR_STATUS_PARTNER_LIVE : Fld := ⟨PAIR_STATUS, 8, 1⟩
def PAIR_STATUS_CONFLICT : Fld := ⟨PAIR_STATUS, 9, 1⟩
def PAIR_STATUS_PREF_CLASH : Fld := ⟨PAIR_STATUS, 10, 1⟩
def PAIR_STATUS_REVERT_PENDING : Fld := ⟨PAIR_STATUS, 11, 1⟩
def PAIR_STATUS_PARTNER_MODE : Fld := ⟨PAIR_STATUS, 12, 4⟩
def PAIR_STATUS_HOLD_LEFT_S : Fld := ⟨PAIR_STATUS, 16, 12⟩

/-- PAIR_JOINED (spec/11_hot_standby.md). -/
def PAIR_JOINED : Nat := 0x40060044
def PAIR_JOINED_JOINED : Fld := ⟨PAIR_JOINED, 0, 32⟩

/-- PAIR_LINK_CNT (spec/11_hot_standby.md). -/
def PAIR_LINK_CNT : Nat := 0x40060048
def PAIR_LINK_CNT_FRAME_ERR : Fld := ⟨PAIR_LINK_CNT, 0, 16⟩
def PAIR_LINK_CNT_SYNC_LOSSES : Fld := ⟨PAIR_LINK_CNT, 16, 8⟩
def PAIR_LINK_CNT_GLITCHES : Fld := ⟨PAIR_LINK_CNT, 24, 8⟩

/-- PAIR_XCHK_STATUS (spec/11_hot_standby.md). -/
def PAIR_XCHK_STATUS : Nat := 0x4006004C
def PAIR_XCHK_STATUS_DIG : Fld := ⟨PAIR_XCHK_STATUS, 0, 6⟩
def PAIR_XCHK_STATUS_AN : Fld := ⟨PAIR_XCHK_STATUS, 6, 6⟩
def PAIR_XCHK_STATUS_EPISODES : Fld := ⟨PAIR_XCHK_STATUS, 16, 16⟩

/-- PAIR_TB_OFFSET (spec/11_hot_standby.md). -/
def PAIR_TB_OFFSET : Nat := 0x40060050
def PAIR_TB_OFFSET_OFFSET : Fld := ⟨PAIR_TB_OFFSET, 0, 32⟩

/-- HIF_LINK (spec/12_host_rings.md). -/
def HIF_LINK : Nat := 0x40070004
def HIF_LINK_UP : Fld := ⟨HIF_LINK, 0, 1⟩
def HIF_LINK_SPEED : Fld := ⟨HIF_LINK, 1, 2⟩
def HIF_LINK_WIDTH : Fld := ⟨HIF_LINK, 3, 2⟩
def HIF_LINK_DOWNS : Fld := ⟨HIF_LINK, 16, 8⟩
def HIF_LINK_FLRS : Fld := ⟨HIF_LINK, 24, 8⟩

/-- HIF_CTRL (spec/12_host_rings.md). -/
def HIF_CTRL : Nat := 0x40070010
def HIF_CTRL_GO : Fld := ⟨HIF_CTRL, 0, 1⟩
def HIF_CTRL_POLL_US : Fld := ⟨HIF_CTRL, 8, 8⟩

/-- HIF_STATUS (spec/12_host_rings.md). -/
def HIF_STATUS : Nat := 0x40070014
def HIF_STATUS_READY : Fld := ⟨HIF_STATUS, 0, 1⟩
def HIF_STATUS_IDLE : Fld := ⟨HIF_STATUS, 1, 1⟩
def HIF_STATUS_MODE : Fld := ⟨HIF_STATUS, 4, 4⟩
def HIF_STATUS_RING_ERR : Fld := ⟨HIF_STATUS, 8, 8⟩
def HIF_STATUS_RING_ON : Fld := ⟨HIF_STATUS, 16, 8⟩
def HIF_STATUS_QUEUED : Fld := ⟨HIF_STATUS, 24, 7⟩

/-- HIF_DB_LO (spec/12_host_rings.md). -/
def HIF_DB_LO : Nat := 0x40070018
def HIF_DB_LO_ADDR : Fld := ⟨HIF_DB_LO, 12, 20⟩

/-- HIF_DB_HI (spec/12_host_rings.md). -/
def HIF_DB_HI : Nat := 0x4007001C
def HIF_DB_HI_ADDR : Fld := ⟨HIF_DB_HI, 0, 32⟩

/-- HIF_ENG_CFG (spec/12_host_rings.md). -/
def HIF_ENG_CFG : Nat := 0x40070020
def HIF_ENG_CFG_ENG_WRITE : Fld := ⟨HIF_ENG_CFG, 0, 1⟩
def HIF_ENG_CFG_ENG_DEBUG : Fld := ⟨HIF_ENG_CFG, 1, 1⟩

/-- HIF_INJ_CTRL (spec/12_host_rings.md). -/
def HIF_INJ_CTRL : Nat := 0x40070030
def HIF_INJ_CTRL_POINT : Fld := ⟨HIF_INJ_CTRL, 0, 4⟩
def HIF_INJ_CTRL_RING : Fld := ⟨HIF_INJ_CTRL, 4, 3⟩
def HIF_INJ_CTRL_ARM : Fld := ⟨HIF_INJ_CTRL, 16, 1⟩
def HIF_INJ_CTRL_DONE : Fld := ⟨HIF_INJ_CTRL, 17, 1⟩

/-- NVS_STATUS (spec/13_nv_store.md). -/
def NVS_STATUS : Nat := 0x40080010
def NVS_STATUS_ARMED : Fld := ⟨NVS_STATUS, 0, 1⟩
def NVS_STATUS_VIN_LOW : Fld := ⟨NVS_STATUS, 1, 1⟩
def NVS_STATUS_HOLD_LOW : Fld := ⟨NVS_STATUS, 2, 1⟩
def NVS_STATUS_RESERVE : Fld := ⟨NVS_STATUS, 3, 1⟩
def NVS_STATUS_FLUSHING : Fld := ⟨NVS_STATUS, 4, 1⟩
def NVS_STATUS_RESERVE_FAULT : Fld := ⟨NVS_STATUS, 5, 1⟩
def NVS_STATUS_BUSY : Fld := ⟨NVS_STATUS, 6, 1⟩
def NVS_STATUS_LAST_FLUSH : Fld := ⟨NVS_STATUS, 8, 2⟩
def NVS_STATUS_QUEUED : Fld := ⟨NVS_STATUS, 16, 7⟩

/-- NVS_SUPPLY (spec/13_nv_store.md). -/
def NVS_SUPPLY : Nat := 0x40080014
def NVS_SUPPLY_VIN : Fld := ⟨NVS_SUPPLY, 0, 9⟩
def NVS_SUPPLY_HOLD : Fld := ⟨NVS_SUPPLY, 16, 9⟩

/-- NVS_ECC_CNT (spec/13_nv_store.md). -/
def NVS_ECC_CNT : Nat := 0x40080020
def NVS_ECC_CNT_CORR : Fld := ⟨NVS_ECC_CNT, 0, 16⟩
def NVS_ECC_CNT_REFRESH : Fld := ⟨NVS_ECC_CNT, 16, 8⟩
def NVS_ECC_CNT_UNCORR : Fld := ⟨NVS_ECC_CNT, 24, 8⟩

/-- NVS_ECC_LAST (spec/13_nv_store.md). -/
def NVS_ECC_LAST : Nat := 0x40080024
def NVS_ECC_LAST_ADDR : Fld := ⟨NVS_ECC_LAST, 0, 32⟩

/-- NVS_SCRUB_STATUS (spec/13_nv_store.md). -/
def NVS_SCRUB_STATUS : Nat := 0x40080040
def NVS_SCRUB_STATUS_SLICE : Fld := ⟨NVS_SCRUB_STATUS, 0, 7⟩
def NVS_SCRUB_STATUS_ACTIVE : Fld := ⟨NVS_SCRUB_STATUS, 7, 1⟩
def NVS_SCRUB_STATUS_AGE_H : Fld := ⟨NVS_SCRUB_STATUS, 16, 16⟩

/-- NVS_FWU_STATUS (spec/13_nv_store.md). -/
def NVS_FWU_STATUS : Nat := 0x40080050
def NVS_FWU_STATUS_STATE : Fld := ⟨NVS_FWU_STATUS, 0, 3⟩
def NVS_FWU_STATUS_TARGET : Fld := ⟨NVS_FWU_STATUS, 3, 1⟩
def NVS_FWU_STATUS_SECTOR : Fld := ⟨NVS_FWU_STATUS, 12, 8⟩

/-- NVS_PWD_LOCK (spec/13_nv_store.md). -/
def NVS_PWD_LOCK : Nat := 0x40080060
def NVS_PWD_LOCK_LOCK : Fld := ⟨NVS_PWD_LOCK, 0, 32⟩

/-- NVS_INJ_CTRL (spec/13_nv_store.md). -/
def NVS_INJ_CTRL : Nat := 0x40080030
def NVS_INJ_CTRL_POINT : Fld := ⟨NVS_INJ_CTRL, 0, 4⟩
def NVS_INJ_CTRL_ARM : Fld := ⟨NVS_INJ_CTRL, 16, 1⟩
def NVS_INJ_CTRL_DONE : Fld := ⟨NVS_INJ_CTRL, 17, 1⟩

/-- EVR_STATUS (spec/14_event_recorder.md). -/
def EVR_STATUS : Nat := 0x40090010
def EVR_STATUS_FROZEN : Fld := ⟨EVR_STATUS, 0, 1⟩
def EVR_STATUS_CLEARING : Fld := ⟨EVR_STATUS, 1, 1⟩
def EVR_STATUS_ARCHIVING : Fld := ⟨EVR_STATUS, 2, 1⟩
def EVR_STATUS_HELD : Fld := ⟨EVR_STATUS, 4, 9⟩
def EVR_STATUS_QUEUED : Fld := ⟨EVR_STATUS, 16, 10⟩

/-- EVR_SEQ (spec/14_event_recorder.md). -/
def EVR_SEQ : Nat := 0x40090014
def EVR_SEQ_NEXT_SEQ : Fld := ⟨EVR_SEQ, 0, 32⟩

/-- EVR_OLDEST (spec/14_event_recorder.md). -/
def EVR_OLDEST : Nat := 0x40090018
def EVR_OLDEST_OLDEST : Fld := ⟨EVR_OLDEST, 0, 32⟩

/-- EVR_LOST (spec/14_event_recorder.md). -/
def EVR_LOST : Nat := 0x4009001C
def EVR_LOST_LOST : Fld := ⟨EVR_LOST, 0, 16⟩
def EVR_LOST_ARCH_GAPS : Fld := ⟨EVR_LOST, 16, 16⟩

/-- EVR_FREEZE (spec/14_event_recorder.md). -/
def EVR_FREEZE : Nat := 0x40090020
def EVR_FREEZE_ELAPSED_MS : Fld := ⟨EVR_FREEZE, 0, 14⟩
def EVR_FREEZE_LAST_END : Fld := ⟨EVR_FREEZE, 16, 3⟩

/-- EVR_INJ_CTRL (spec/14_event_recorder.md). -/
def EVR_INJ_CTRL : Nat := 0x40090030
def EVR_INJ_CTRL_POINT : Fld := ⟨EVR_INJ_CTRL, 0, 4⟩
def EVR_INJ_CTRL_ARM : Fld := ⟨EVR_INJ_CTRL, 16, 1⟩
def EVR_INJ_CTRL_DONE : Fld := ⟨EVR_INJ_CTRL, 17, 1⟩

/-- EVR_LOOKUP (spec/14_event_recorder.md). -/
def EVR_LOOKUP : Nat := 0x40090040
def EVR_LOOKUP_CODE : Fld := ⟨EVR_LOOKUP, 0, 16⟩
def EVR_LOOKUP_SEV : Fld := ⟨EVR_LOOKUP, 16, 3⟩
def EVR_LOOKUP_LIMITED : Fld := ⟨EVR_LOOKUP, 19, 1⟩
def EVR_LOOKUP_BUCKET : Fld := ⟨EVR_LOOKUP, 20, 10⟩

/-- EVR_RL_INDEX (spec/14_event_recorder.md). -/
def EVR_RL_INDEX : Nat := 0x40090100
def EVR_RL_INDEX_INDEX : Fld := ⟨EVR_RL_INDEX, 0, 10⟩

/-- EVR_RL_DATA0 (spec/14_event_recorder.md). -/
def EVR_RL_DATA0 : Nat := 0x40090104
def EVR_RL_DATA0_CODE : Fld := ⟨EVR_RL_DATA0, 0, 16⟩
def EVR_RL_DATA0_BURST : Fld := ⟨EVR_RL_DATA0, 16, 8⟩

/-- EVR_RL_DATA1 (spec/14_event_recorder.md). -/
def EVR_RL_DATA1 : Nat := 0x40090108
def EVR_RL_DATA1_PERIOD_MS : Fld := ⟨EVR_RL_DATA1, 0, 16⟩

/-- EVR_RL_STAT (spec/14_event_recorder.md). -/
def EVR_RL_STAT : Nat := 0x4009010C
def EVR_RL_STAT_TOKENS : Fld := ⟨EVR_RL_STAT, 0, 8⟩
def EVR_RL_STAT_SUPP : Fld := ⟨EVR_RL_STAT, 16, 16⟩

/-- CAL_DATE (spec/15_time_watchdog.md). -/
def CAL_DATE : Nat := 0x400A0010
def CAL_DATE_DAY : Fld := ⟨CAL_DATE, 0, 5⟩
def CAL_DATE_WEEKDAY : Fld := ⟨CAL_DATE, 5, 3⟩
def CAL_DATE_MONTH : Fld := ⟨CAL_DATE, 8, 4⟩
def CAL_DATE_YEAR : Fld := ⟨CAL_DATE, 16, 16⟩

/-- CAL_TIME (spec/15_time_watchdog.md). -/
def CAL_TIME : Nat := 0x400A0014
def CAL_TIME_SECOND : Fld := ⟨CAL_TIME, 0, 6⟩
def CAL_TIME_MINUTE : Fld := ⟨CAL_TIME, 8, 6⟩
def CAL_TIME_HOUR : Fld := ⟨CAL_TIME, 16, 5⟩
def CAL_TIME_FRAC : Fld := ⟨CAL_TIME, 24, 8⟩

/-- CAL_STATUS (spec/15_time_watchdog.md). -/
def CAL_STATUS : Nat := 0x400A0018
def CAL_STATUS_VALID : Fld := ⟨CAL_STATUS, 0, 1⟩
def CAL_STATUS_BKLOST : Fld := ⟨CAL_STATUS, 1, 1⟩
def CAL_STATUS_RANGE_OK : Fld := ⟨CAL_STATUS, 2, 1⟩
def CAL_STATUS_SOURCE : Fld := ⟨CAL_STATUS, 3, 2⟩
def CAL_STATUS_CURVE_BAD : Fld := ⟨CAL_STATUS, 5, 1⟩
def CAL_STATUS_SETS : Fld := ⟨CAL_STATUS, 16, 16⟩

/-- CAL_CFG (spec/15_time_watchdog.md). -/
def CAL_CFG : Nat := 0x400A001C
def CAL_CFG_CHARGE : Fld := ⟨CAL_CFG, 0, 1⟩

/-- CAL_COMP (spec/15_time_watchdog.md). -/
def CAL_COMP : Nat := 0x400A0024
def CAL_COMP_CORR : Fld := ⟨CAL_COMP, 0, 16⟩
def CAL_COMP_TEMP : Fld := ⟨CAL_COMP, 16, 12⟩

/-- CAL_CURVEi (spec/15_time_watchdog.md). -/
def CAL_CURVEi (i : Nat) : Nat := 0x400A0100 + i * 0x4
def CAL_CURVEi_POINT (i : Nat) : Fld := ⟨CAL_CURVEi i, 0, 16⟩

/-- CAL_WAKE (spec/15_time_watchdog.md). -/
def CAL_WAKE : Nat := 0x400A0020
def CAL_WAKE_PERIOD : Fld := ⟨CAL_WAKE, 0, 24⟩
def CAL_WAKE_EN : Fld := ⟨CAL_WAKE, 31, 1⟩

/-- WDG_CTRL (spec/15_time_watchdog.md). -/
def WDG_CTRL : Nat := 0x400B0010
def WDG_CTRL_DISABLED : Fld := ⟨WDG_CTRL, 0, 1⟩
def WDG_CTRL_LOCK : Fld := ⟨WDG_CTRL, 1, 1⟩
def WDG_CTRL_TRAPPED : Fld := ⟨WDG_CTRL, 2, 1⟩
def WDG_CTRL_HARD_LEFT_MS : Fld := ⟨WDG_CTRL, 16, 6⟩

/-- WDG_KEY (spec/15_time_watchdog.md). -/
def WDG_KEY : Nat := 0x400B0014
def WDG_KEY_KEY : Fld := ⟨WDG_KEY, 0, 16⟩

/-- WDG_CFG (spec/15_time_watchdog.md). -/
def WDG_CFG : Nat := 0x400B0018
def WDG_CFG_HARD_MS : Fld := ⟨WDG_CFG, 0, 6⟩

/-- WDG_SUP_WIN (spec/15_time_watchdog.md). -/
def WDG_SUP_WIN : Nat := 0x400B001C
def WDG_SUP_WIN_MIN : Fld := ⟨WDG_SUP_WIN, 0, 12⟩
def WDG_SUP_WIN_MAX : Fld := ⟨WDG_SUP_WIN, 16, 12⟩

/-- WDG_SUP_CHECK (spec/15_time_watchdog.md). -/
def WDG_SUP_CHECK : Nat := 0x400B0020
def WDG_SUP_CHECK_CHECK : Fld := ⟨WDG_SUP_CHECK, 0, 32⟩

/-- WDG_Tn_MIN (spec/15_time_watchdog.md). -/
def WDG_Tn_MIN (t : Nat) : Nat := 0x400B0100 + t * 0x8
def WDG_Tn_MIN_MIN (t : Nat) : Fld := ⟨WDG_Tn_MIN t, 0, 24⟩
def WDG_Tn_MIN_EN (t : Nat) : Fld := ⟨WDG_Tn_MIN t, 31, 1⟩

/-- WDG_Tn_MAX (spec/15_time_watchdog.md). -/
def WDG_Tn_MAX (t : Nat) : Nat := 0x400B0104 + t * 0x8
def WDG_Tn_MAX_MAX (t : Nat) : Fld := ⟨WDG_Tn_MAX t, 0, 24⟩

/-- WDG_TRAPw (spec/15_time_watchdog.md). -/
def WDG_TRAPw (w : Nat) : Nat := 0x400B0040 + w * 0x4
def WDG_TRAPw_DATA (w : Nat) : Fld := ⟨WDG_TRAPw w, 0, 32⟩

/-- WDG_INJ_CTRL (spec/15_time_watchdog.md). -/
def WDG_INJ_CTRL : Nat := 0x400B0030
def WDG_INJ_CTRL_POINT : Fld := ⟨WDG_INJ_CTRL, 0, 4⟩
def WDG_INJ_CTRL_TASK : Fld := ⟨WDG_INJ_CTRL, 4, 5⟩
def WDG_INJ_CTRL_ARM : Fld := ⟨WDG_INJ_CTRL, 16, 1⟩
def WDG_INJ_CTRL_DONE : Fld := ⟨WDG_INJ_CTRL, 17, 1⟩

/-- SUP_BOOT_STATUS (spec/16_startup_trust_config.md). -/
def SUP_BOOT_STATUS : Nat := 0x40000200
def SUP_BOOT_STATUS_FW_SLOT : Fld := ⟨SUP_BOOT_STATUS, 0, 1⟩
def SUP_BOOT_STATUS_FW_FALLBACK : Fld := ⟨SUP_BOOT_STATUS, 1, 1⟩
def SUP_BOOT_STATUS_PROG_SLOT : Fld := ⟨SUP_BOOT_STATUS, 2, 1⟩
def SUP_BOOT_STATUS_PROG_VERIFIED : Fld := ⟨SUP_BOOT_STATUS, 3, 1⟩
def SUP_BOOT_STATUS_PROG_REASON : Fld := ⟨SUP_BOOT_STATUS, 4, 4⟩
def SUP_BOOT_STATUS_BOOT_MS : Fld := ⟨SUP_BOOT_STATUS, 16, 16⟩

/-- SUP_CFG_STATUS (spec/16_startup_trust_config.md). -/
def SUP_CFG_STATUS : Nat := 0x40000204
def SUP_CFG_STATUS_APPLIED : Fld := ⟨SUP_CFG_STATUS, 0, 2⟩
def SUP_CFG_STATUS_A_INTACT : Fld := ⟨SUP_CFG_STATUS, 2, 1⟩
def SUP_CFG_STATUS_B_INTACT : Fld := ⟨SUP_CFG_STATUS, 3, 1⟩
def SUP_CFG_STATUS_A_AUTH : Fld := ⟨SUP_CFG_STATUS, 4, 1⟩
def SUP_CFG_STATUS_B_AUTH : Fld := ⟨SUP_CFG_STATUS, 5, 1⟩
def SUP_CFG_STATUS_CONFLICT : Fld := ⟨SUP_CFG_STATUS, 6, 1⟩
def SUP_CFG_STATUS_A_REASON : Fld := ⟨SUP_CFG_STATUS, 8, 4⟩
def SUP_CFG_STATUS_B_REASON : Fld := ⟨SUP_CFG_STATUS, 12, 4⟩

/-- SUP_CFG_SEQ (spec/16_startup_trust_config.md). -/
def SUP_CFG_SEQ : Nat := 0x40000208
def SUP_CFG_SEQ_SEQ : Fld := ⟨SUP_CFG_SEQ, 0, 32⟩

/-- SUP_INJ_CTRL (spec/16_startup_trust_config.md). -/
def SUP_INJ_CTRL : Nat := 0x40000030
def SUP_INJ_CTRL_POINT : Fld := ⟨SUP_INJ_CTRL, 0, 4⟩
def SUP_INJ_CTRL_DOMAIN : Fld := ⟨SUP_INJ_CTRL, 4, 6⟩
def SUP_INJ_CTRL_ARM : Fld := ⟨SUP_INJ_CTRL, 16, 1⟩
def SUP_INJ_CTRL_DONE : Fld := ⟨SUP_INJ_CTRL, 17, 1⟩

/-- CAL_INJ_CTRL (spec/15_time_watchdog.md). -/
def CAL_INJ_CTRL : Nat := 0x400A0030
def CAL_INJ_CTRL_POINT : Fld := ⟨CAL_INJ_CTRL, 0, 4⟩
def CAL_INJ_CTRL_ARM : Fld := ⟨CAL_INJ_CTRL, 16, 1⟩
def CAL_INJ_CTRL_DONE : Fld := ⟨CAL_INJ_CTRL, 17, 1⟩

/-- CAL_BKREC0 (spec/15_time_watchdog.md). -/
def CAL_BKREC0 : Nat := 0x400A0200
def CAL_BKREC0_RESET_CAUSE : Fld := ⟨CAL_BKREC0, 0, 8⟩
def CAL_BKREC0_CLK_DOMAIN : Fld := ⟨CAL_BKREC0, 8, 8⟩
def CAL_BKREC0_FLUSH_ACTIVE : Fld := ⟨CAL_BKREC0, 16, 1⟩
def CAL_BKREC0_SAFE_COPY : Fld := ⟨CAL_BKREC0, 17, 1⟩
def CAL_BKREC0_FORCE_COUNT : Fld := ⟨CAL_BKREC0, 18, 11⟩

/-- CAL_BKREC1 (spec/15_time_watchdog.md). -/
def CAL_BKREC1 : Nat := 0x400A0204
def CAL_BKREC1_FLUSH_PAGES : Fld := ⟨CAL_BKREC1, 0, 16⟩
def CAL_BKREC1_FLUSH_US : Fld := ⟨CAL_BKREC1, 16, 16⟩

/-- CAL_BKREC2 (spec/15_time_watchdog.md). -/
def CAL_BKREC2 : Nat := 0x400A0208
def CAL_BKREC2_FLUSH_HOLD : Fld := ⟨CAL_BKREC2, 0, 9⟩
def CAL_BKREC2_RECORDED : Fld := ⟨CAL_BKREC2, 16, 1⟩
def CAL_BKREC2_WAKE_SKIPS : Fld := ⟨CAL_BKREC2, 24, 8⟩

/-- CAL_BKTRAP (spec/15_time_watchdog.md). -/
def CAL_BKTRAP (w : Nat) : Nat := 0x400A020C + w * 0x4
def CAL_BKTRAP_DATA (w : Nat) : Fld := ⟨CAL_BKTRAP w, 0, 32⟩

end Sys2Proof.Machine.R

namespace Sys2Proof.Machine

/-- Whether `a` is an entry of an array of `n` words at `base`, `stride` bytes apart. -/
def inArr (base stride n a : Nat) : Bool := base ≤ a && a < base + stride * n && (a - base) % stride == 0

/-- The reset word of the register at supervisor address `a`, from the Reset columns of the register tables; 0 elsewhere
(R10: reserved bits and unlisted offsets read 0). -/
def resetWord (a : Nat) : Word :=
  if a == 0x40000004 then 0x48046410#32 else
  if inArr 0x40000000 0x10000 12 a then BitVec.ofNat 32 (0xAE100001 + (a - 0x40000000) / 0x10000 * 0x1000) else
  if a == 0x40000100 then 0x00640A05#32 else
  if a == 0x40000010 then 0x00000100#32 else
  if a == 0x40000018 then 0x00006400#32 else
  if a == 0x40020010 then 0x00000055#32 else
  if inArr 0x40030108 0x20 32 a then 0x0000003C#32 else
  if inArr 0x40030110 0x20 32 a then 0x00000007#32 else
  if a == 0x40030600 then 0x00000064#32 else
  if a == 0x40030904 then 0x000003E8#32 else
  if inArr 0x40020100 0x40 4 a then 0x00000001#32 else
  if a == 0x40010100 then 0x00000A00#32 else
  if inArr 0x40040100 0x40 6 a then 0x0000B400#32 else
  if inArr 0x40041004 0x20 48 a then 0x0014006E#32 else
  if inArr 0x40041008 0x20 48 a then 0x000A03E8#32 else
  if inArr 0x4004100C 0x20 48 a then 0x00640A1A#32 else
  if inArr 0x40041010 0x20 48 a then 0x00D72308#32 else
  if inArr 0x40042000 0x20 48 a then 0x00000003#32 else
  if inArr 0x40042008 0x20 48 a then 0x41800000#32 else
  if a == 0x40050060 then 0x00000590#32 else
  if a == 0x40050070 then 0x00000003#32 else
  if a == 0x40050124 then 0x00000002#32 else
  if a == 0x4005020C then 0x04640064#32 else
  if a == 0x40050210 then 0x00000025#32 else
  if a == 0x40050240 then 0x00F80001#32 else
  if a == 0x40060010 then 0x00000014#32 else
  if a == 0x40060014 then 0x0000003C#32 else
  if a == 0x4006001C then 0x0000E480#32 else
  if a == 0x40060020 then 0x00C80064#32 else
  if a == 0x40070010 then 0x00000500#32 else
  if a == 0x40070014 then 0x00000002#32 else
  if a == 0x40080010 then 0x00000004#32 else
  if a == 0x400A0010 then 0x07D00101#32 else
  if a == 0x400A0018 then 0x00000006#32 else
  if a == 0x400A0020 then 0x800E1000#32 else
  if a == 0x400B0018 then 0x00000009#32 else
  if a == 0x400B001C then 0x07A10000#32 else
  0#32

/-- The access code and class of the writable bits of the register at supervisor address `a`. -/
def regAccess (a : Nat) : RegAcc :=
  if inArr 0x40000008 0x10000 12 a then ⟨0x0#32, 0x0#32, 0x0#32, 0x2#32, 0x0#32, .imm⟩ else
  if a == 0x40000100 then ⟨0x0#32, 0x1FFFFF07#32, 0x0#32, 0x0#32, 0x0#32, .stop⟩ else
  if a == 0x40000104 then ⟨0x0#32, 0x0#32, 0x0#32, 0x2#32, 0x0#32, .none⟩ else
  if a == 0x40000110 then ⟨0x0#32, 0x0#32, 0x0#32, 0x8FFF#32, 0x0#32, .none⟩ else
  if a == 0x40000018 then ⟨0x0#32, 0xFFF1F#32, 0x0#32, 0x0#32, 0x0#32, .stop⟩ else
  if a == 0x40020010 then ⟨0x0#32, 0xFF#32, 0x0#32, 0x0#32, 0x0#32, .stop⟩ else
  if inArr 0x40030114 0x20 32 a then ⟨0xFFFF0000#32, 0x0#32, 0x0#32, 0x0#32, 0x0#32, .imm⟩ else
  if a == 0x40030700 then ⟨0x1FFF#32, 0x0#32, 0x0#32, 0x0#32, 0x0#32, .imm⟩ else
  if inArr 0x40030704 0x4 4 a then ⟨0x0#32, 0xFFFFFFFF#32, 0x0#32, 0x0#32, 0x0#32, .stop⟩ else
  if a == 0x40030600 then ⟨0x0#32, 0x3FFF#32, 0x0#32, 0x0#32, 0x0#32, .stop⟩ else
  if a == 0x40030804 then ⟨0x0#32, 0x1#32, 0x0#32, 0x0#32, 0x0#32, .stop⟩ else
  if a == 0x40030808 then ⟨0x3FF#32, 0x0#32, 0x0#32, 0x0#32, 0x0#32, .imm⟩ else
  if a == 0x40030904 then ⟨0x0#32, 0xFFFF#32, 0x0#32, 0x0#32, 0x0#32, .stop⟩ else
  if inArr 0x40020110 0x40 4 a then ⟨0x0#32, 0x0#32, 0x0#32, 0x20000000#32, 0x0#32, .none⟩ else
  if inArr 0x40020114 0x40 4 a then ⟨0x0#32, 0x0#32, 0x0#32, 0x8000000#32, 0x0#32, .none⟩ else
  if a == 0x40020020 then ⟨0x0#32, 0x0#32, 0x0#32, 0x400#32, 0x0#32, .none⟩ else
  if a == 0x40020030 then ⟨0x10FFF#32, 0x0#32, 0x0#32, 0x20000#32, 0x0#32, .imm⟩ else
  if a == 0x40010100 then ⟨0x0#32, 0xFF0F#32, 0x0#32, 0x0#32, 0x0#32, .stop⟩ else
  if inArr 0x40040100 0x40 6 a then ⟨0x0#32, 0x1FF01#32, 0x0#32, 0x0#32, 0x0#32, .stop⟩ else
  if inArr 0x40041000 0x20 48 a then ⟨0x0#32, 0xF#32, 0x0#32, 0x0#32, 0x0#32, .stop⟩ else
  if inArr 0x40041004 0x20 48 a then ⟨0x1FF07FF#32, 0x0#32, 0x0#32, 0x0#32, 0x0#32, .cycle⟩ else
  if inArr 0x40041008 0x20 48 a then ⟨0x3FFFFFF#32, 0x0#32, 0x0#32, 0x0#32, 0x0#32, .cycle⟩ else
  if inArr 0x4004100C 0x20 48 a then ⟨0xFFFF3F#32, 0x0#32, 0x0#32, 0x0#32, 0x0#32, .cycle⟩ else
  if inArr 0x4004101C 0x20 48 a then ⟨0x0#32, 0x0#32, 0x0#32, 0xF0000#32, 0x0#32, .none⟩ else
  if a == 0x40040040 then ⟨0x0#32, 0x0#32, 0x0#32, 0x0#32, 0xFFFFFFFF#32, .imm⟩ else
  if a == 0x40040044 then ⟨0x0#32, 0x0#32, 0x0#32, 0x0#32, 0xFFFF#32, .imm⟩ else
  if a == 0x40040030 then ⟨0x11FFF#32, 0x0#32, 0x0#32, 0x20000#32, 0x0#32, .imm⟩ else
  if inArr 0x40041010 0x20 48 a then ⟨0x0#32, 0xFF3F3F#32, 0x0#32, 0x0#32, 0x0#32, .stop⟩ else
  if inArr 0x40041014 0x20 48 a then ⟨0x3FFFFFF#32, 0x0#32, 0x0#32, 0x0#32, 0x0#32, .cycle⟩ else
  if inArr 0x40042000 0x20 48 a then ⟨0xF3#32, 0x0#32, 0x0#32, 0x0#32, 0x0#32, .cycle⟩ else
  if inArr 0x40042004 0x20 48 a then ⟨0xFFFFFFFF#32, 0x0#32, 0x0#32, 0x0#32, 0x0#32, .cycle⟩ else
  if inArr 0x40042008 0x20 48 a then ⟨0xFFFFFFFF#32, 0x0#32, 0x0#32, 0x0#32, 0x0#32, .cycle⟩ else
  if inArr 0x4004200C 0x20 48 a then ⟨0xFFFFFFFF#32, 0x0#32, 0x0#32, 0x0#32, 0x0#32, .cycle⟩ else
  if inArr 0x40042010 0x20 48 a then ⟨0x0#32, 0x0#32, 0x0#32, 0x70000#32, 0x0#32, .none⟩ else
  if inArr 0x40040C00 0x4 16 a then ⟨0x0#32, 0x3F#32, 0x0#32, 0x0#32, 0x0#32, .stop⟩ else
  if inArr (0x40044000 + (a - 0x40044000) / 0x100 * 0x100) 0x8 32 a && (0x40044000 ≤ a && a < 0x40045000) then ⟨0x0#32, 0xFFFFFFFF#32, 0x0#32, 0x0#32, 0x0#32, .stop⟩ else
  if inArr (0x40044004 + (a - 0x40044004) / 0x100 * 0x100) 0x8 32 a && (0x40044004 ≤ a && a < 0x40045004) then ⟨0x0#32, 0xFFFFFFFF#32, 0x0#32, 0x0#32, 0x0#32, .stop⟩ else
  if a == 0x40040050 then ⟨0x3F#32, 0x0#32, 0x0#32, 0x0#32, 0x0#32, .imm⟩ else
  if a == 0x40040054 then ⟨0xFFFFFFFF#32, 0x0#32, 0x0#32, 0x0#32, 0x0#32, .imm⟩ else
  if a == 0x40050040 then ⟨0x0#32, 0x33#32, 0x0#32, 0x0#32, 0x0#32, .stop⟩ else
  if a == 0x40050048 then ⟨0x0#32, 0xFFFFFFFF#32, 0x0#32, 0x0#32, 0x0#32, .stop⟩ else
  if a == 0x4005004C then ⟨0x0#32, 0xFFFFFFFF#32, 0x0#32, 0x0#32, 0x0#32, .stop⟩ else
  if a == 0x40050050 then ⟨0x0#32, 0xFFFF#32, 0x0#32, 0x0#32, 0x0#32, .stop⟩ else
  if a == 0x40050054 then ⟨0xFFFFFFFF#32, 0x0#32, 0x0#32, 0x0#32, 0x0#32, .imm⟩ else
  if a == 0x40050058 then ⟨0xFFFFFFFF#32, 0x0#32, 0x0#32, 0x0#32, 0x0#32, .imm⟩ else
  if a == 0x40050060 then ⟨0x0#32, 0xFF07FF#32, 0x0#32, 0x0#32, 0x0#32, .stop⟩ else
  if a == 0x40050070 then ⟨0x0#32, 0xF#32, 0x0#32, 0x0#32, 0x0#32, .stop⟩ else
  if a == 0x40050100 then ⟨0x1FF#32, 0x0#32, 0x0#32, 0x0#32, 0x0#32, .imm⟩ else
  if inArr 0x40050104 0x4 8 a then ⟨0x0#32, 0xFFFFFFFF#32, 0x0#32, 0x0#32, 0x0#32, .stop⟩ else
  if a == 0x40050140 then ⟨0x3FFF#32, 0x0#32, 0x0#32, 0x0#32, 0x0#32, .imm⟩ else
  if inArr 0x40050144 0x4 4 a then ⟨0xFFFFFFFF#32, 0x0#32, 0x0#32, 0x0#32, 0x0#32, .imm⟩ else
  if a == 0x4005020C then ⟨0x0#32, 0x7FFFFFF#32, 0x0#32, 0x0#32, 0x0#32, .stop⟩ else
  if a == 0x40050210 then ⟨0xFFFF#32, 0x0#32, 0x0#32, 0x0#32, 0x0#32, .imm⟩ else
  if a == 0x40050240 then ⟨0x0#32, 0xFFFF0F#32, 0x0#32, 0x0#32, 0x0#32, .stop⟩ else
  if a == 0x40050030 then ⟨0x13FFF#32, 0x0#32, 0x0#32, 0x20000#32, 0x0#32, .imm⟩ else
  if a == 0x40060010 then ⟨0x0#32, 0x3F77#32, 0x0#32, 0x0#32, 0x0#32, .stop⟩ else
  if a == 0x40060014 then ⟨0x0#32, 0xFFF#32, 0x0#32, 0x0#32, 0x0#32, .stop⟩ else
  if a == 0x40060018 then ⟨0x0#32, 0x3FFF#32, 0x0#32, 0x0#32, 0x0#32, .stop⟩ else
  if a == 0x4006001C then ⟨0x0#32, 0xFFFFFFFF#32, 0x0#32, 0x0#32, 0x0#32, .stop⟩ else
  if a == 0x40060020 then ⟨0x0#32, 0xFFFFFFFF#32, 0x0#32, 0x0#32, 0x0#32, .stop⟩ else
  if a == 0x40060030 then ⟨0x1000F#32, 0x0#32, 0x0#32, 0x20000#32, 0x0#32, .imm⟩ else
  if a == 0x40070010 then ⟨0xFF01#32, 0x0#32, 0x0#32, 0x0#32, 0x0#32, .imm⟩ else
  if a == 0x40070014 then ⟨0x0#32, 0x0#32, 0x0#32, 0xFF00#32, 0x0#32, .none⟩ else
  if a == 0x40070018 then ⟨0xFFFFF000#32, 0x0#32, 0x0#32, 0x0#32, 0x0#32, .imm⟩ else
  if a == 0x4007001C then ⟨0xFFFFFFFF#32, 0x0#32, 0x0#32, 0x0#32, 0x0#32, .imm⟩ else
  if a == 0x40070020 then ⟨0x0#32, 0x3#32, 0x0#32, 0x0#32, 0x0#32, .stop⟩ else
  if a == 0x40070030 then ⟨0x1007F#32, 0x0#32, 0x0#32, 0x20000#32, 0x0#32, .imm⟩ else
  if a == 0x40080010 then ⟨0x0#32, 0x0#32, 0x0#32, 0x20#32, 0x0#32, .none⟩ else
  if a == 0x40080030 then ⟨0x1000F#32, 0x0#32, 0x0#32, 0x20000#32, 0x0#32, .imm⟩ else
  if a == 0x40090030 then ⟨0x1000F#32, 0x0#32, 0x0#32, 0x20000#32, 0x0#32, .imm⟩ else
  if a == 0x40090040 then ⟨0xFFFF#32, 0x0#32, 0x0#32, 0x0#32, 0x0#32, .imm⟩ else
  if a == 0x40090100 then ⟨0x3FF#32, 0x0#32, 0x0#32, 0x0#32, 0x0#32, .imm⟩ else
  if a == 0x40090104 then ⟨0x0#32, 0xFFFFFF#32, 0x0#32, 0x0#32, 0x0#32, .stop⟩ else
  if a == 0x40090108 then ⟨0x0#32, 0xFFFF#32, 0x0#32, 0x0#32, 0x0#32, .stop⟩ else
  if a == 0x400A0018 then ⟨0x0#32, 0x0#32, 0x0#32, 0x2#32, 0x0#32, .none⟩ else
  if a == 0x400A001C then ⟨0x0#32, 0x1#32, 0x0#32, 0x0#32, 0x0#32, .stop⟩ else
  if a == 0x400A0020 then ⟨0x0#32, 0x80FFFFFF#32, 0x0#32, 0x0#32, 0x0#32, .stop⟩ else
  if a == 0x400B0010 then ⟨0x0#32, 0x0#32, 0x2#32, 0x0#32, 0x0#32, .imm⟩ else
  if a == 0x400B0014 then ⟨0x0#32, 0x0#32, 0x0#32, 0x0#32, 0xFFFF#32, .imm⟩ else
  if a == 0x400B0018 then ⟨0x0#32, 0x0#32, 0x3F#32, 0x0#32, 0x0#32, .stop⟩ else
  if a == 0x400B001C then ⟨0x0#32, 0x0#32, 0xFFF0FFF#32, 0x0#32, 0x0#32, .stop⟩ else
  if a == 0x400B0020 then ⟨0x0#32, 0x0#32, 0x0#32, 0x0#32, 0xFFFFFFFF#32, .imm⟩ else
  if a == 0x400B0030 then ⟨0x101FF#32, 0x0#32, 0x0#32, 0x20000#32, 0x0#32, .imm⟩ else
  if a == 0x40000030 then ⟨0x103FF#32, 0x0#32, 0x0#32, 0x20000#32, 0x0#32, .imm⟩ else
  if a == 0x400A0030 then ⟨0x1000F#32, 0x0#32, 0x0#32, 0x20000#32, 0x0#32, .imm⟩ else
  ⟨0#32, 0#32, 0#32, 0#32, 0#32, .none⟩

end Sys2Proof.Machine
end

