-- ==== Sys2Proof/Machine/State.lean ====
section
/-! DEFINITION. The machine's state as plain data, and the state after reset. -/

namespace Sys2Proof.Machine

/-- The faults a step can end in: none. No command of the table stops the block (the meanings are total), so this
closed type has the one constructor a closed inductive needs; no meaning raises it. Safe. -/
inductive Fault where
  /-- Raised by nobody: kept so that the type is inhabited. Safe. -/
  | stuck
  deriving DecidableEq, Repr

/-- The refusals a step can end in. -/
inductive Refusal where
  /-- Raised by a dispatch arm whose command has no meaning yet, with its mnemonic. Safe: the run stops. -/
  | notModelled (mnemonic : String)
  deriving DecidableEq, Repr

/-- The clocks the model keeps: `tb` the system timebase in ns (R280), `up` the elapsed time since power in ns (every
interval that no timebase correction moves), `frac` the timebase's fraction of a ns in units of 10^-11 ns, which NET_TB_RATE
accumulates, `core` the CORE clocks in fifths of a nominal clock (800 MHz is 32 fifths
in 8 ns, 400 MHz is 16). -/
structure Clk where
  tb : Nat := 0
  frac : Nat := 0
  up : Nat := 0
  core : Nat := 0
  deriving DecidableEq, Repr

/-- One Kyoquel core (Tables 6-1 and 6-4): general registers, pc, c0 to c7, the accumulator, the control registers,
the marigold (R128) and the commit count (Table 5-6). -/
structure Cpu where
  k : List (Nat × Word) := []
  pc : Word := 0#32
  c : BitVec 8 := 0#8
  acc : Bool := false
  psr : Word := 0#32
  epc : Word := 0#32
  ecause : Word := 0#32
  eaddr : Word := 0#32
  einsn : Word := 0#32
  epsr : Word := 0#32
  vbase : Word := 0#32
  trapcfg : Word := 0#32
  stkLo : Word := 0#32
  stkHi : Word := 0#32
  crcctl : Word := 0#32
  taskid : Word := 0#32
  scratch0 : Word := 0#32
  scratch1 : Word := 0#32
  fpcsr : Word := 0#32
  nepc : Word := 0#32
  nepsr : Word := 0#32
  ipend : Word := 0#32
  imask : Word := 0#32
  mg : BitVec 64 := 0#64
  commits : Nat := 0
  deriving DecidableEq, Repr

/-- An undo log entry (Table 5-3). -/
structure Undo where
  kind : Nat
  group : Nat
  task : Nat
  old : Nat
  deriving DecidableEq, Repr

/-- A held item of a task (R136): an exchange-area group with byte enables (R137), a posted extension-port operation
(R145), a watchdog check-in. -/
inductive Held where
  | exch (task group be data : Nat)
  | post (task slot opc : Nat) (a b : Word)
  | check (task : Nat)
  deriving DecidableEq, Repr

/-- Why a compare window closed (R131). -/
inductive CloseWhy where
  /-- the profile's window length -/
  | length
  /-- retirement of TEND -/
  | taskEnd
  /-- TFAULT or a double fault with its reason (R163) -/
  | taskFault (reason : Nat)
  /-- a debugger halt (R148) -/
  | halt
  deriving DecidableEq, Repr

/-- One core's replicated caches (R126), by 64-byte lines of the core view: the lines its instruction cache and its data cache hold. A line
holds what memory holds (the caches are write-through and the task fabric keeps them so, R169), but for the bytes `own` that a shadow's
own stores put beside it (R125). `one`, `two`: the lines with a 1-bit, with an uncorrectable error. -/
structure Caches where
  icode : List Nat := []
  data : List Nat := []
  own : List (Nat × Byte) := []
  one : List Nat := []
  two : List Nat := []
  deriving DecidableEq, Repr

/-- An extension-port query a core waits for (R145, R465): the instruction's slot, OPC, destination and operands, its
word, whether its request has started, and the elapsed time at which it times out, once it has. -/
structure Query where
  slot : Nat
  opc : Nat
  rd : Reg
  a : Word
  b : Word
  word : Word
  started : Bool
  limit : Nat
  deriving DecidableEq, Repr

/-- A pre-empted context (R69): both cores' contexts and the task's window state. `restart`: the window closed at the
pre-emption disagreed, so the task resumes at step 4 of R142 (R144); `wb` as in Target. -/
structure Saved where
  task : Nat
  lead : Cpu
  shadow : Cpu
  window : Nat
  commits : Nat
  reexec : Bool
  restart : Bool
  wb : Nat := 0
  deriving DecidableEq, Repr

/-- A dispatch target: a lockstep pair, or one side of a SPLIT pair (R68, R134). `task` the running task; `window`,
`commits` the open window's index and commits (R131); `closing` a close that awaits its comparison; `undo` the log, top
first (R140); `filter` the groups last journalled in the segment; `saved` the pre-empted contexts, innermost first; `wb` the
entries written back before a re-execution;
`query` an extension-port query waited for; `cacheErr` the core in whose caches the open window has met an error (R127: false the lead,
true the shadow); `rest` the lead's and the shadow's commit words of an SD's second store, where its first completed the window (R131);
`undoBad`: a read of the log gives an uncorrectable error (R143; no command brings it). -/
structure Target where
  task : Option Nat := none
  window : Nat := 0
  commits : Nat := 0
  closing : Option CloseWhy := none
  reexec : Bool := false
  undo : List Undo := []
  filter : List (Nat × Nat) := []
  saved : List Saved := []
  wb : Nat := 0
  query : Option Query := none
  cacheErr : Option Bool := none
  rest : List (BitVec 64) × List (BitVec 64) := ([], [])
  undoBad : Bool := false
  deriving DecidableEq, Repr

/-- A hardware timer entry, words 0 to 3 (Table 3-11). -/
structure Timer where
  w0 : Nat := 0
  w1 : Nat := 0
  w2 : Nat := 0
  w3 : Nat := 0
  deriving DecidableEq, Repr

/-- A debugger replay queue entry (Table 5-6). -/
structure Replay where
  action : Nat
  reg : Nat := 0
  be : Nat := 0
  ep : Nat
  commit : Nat
  value : Nat := 0
  addr : Nat := 0
  deriving DecidableEq, Repr

/-- The execution pairs, CMP and the extension port: cores by 2 × pair + side, dispatch targets likewise (side 0 for a
lockstep pair), held items by pair, the SUP core, the replay queue, breakpoints; the extension port's frames sent,
requests waiting for EXT_BUSY to fall (source,
whether a query, frame), when SLOT_EN became non-zero (elapsed), EXT_BUSY and EXT_RST_N; memory groups (8 bytes, by supervisor address / 8) that
hold an uncorrectable error; the debugger's source and whether it steps one instruction; the caches by core; the form × 4 + pair of an
injection that has acted and causes a mismatch at the next close; by pair the case of point 0x207 that a failing comparator gets wrong
(as `poison`, no command brings it). -/
structure Exe where
  cpus : List (Nat × Cpu) := []
  tgts : List (Nat × Target) := []
  held : List (Nat × List Held) := []
  sup : Cpu := { psr := 0x82#32, einsn := 0#32 }
  supRunning : Bool := false
  replay : List Replay := []
  breaks : List Nat := []
  dbgSrc : Option Src := none
  stepping : Bool := false
  extOut : List (List Byte) := []
  extWait : List (Nat × Bool × List Byte) := []
  extAt : Nat := 0
  extBusy : Bool := false
  extRst : Bool := false
  poison : List Nat := []
  caches : List (Nat × Caches) := []
  injMis : Option Nat := none
  cmpBad : List (Nat × Nat) := []
  deriving DecidableEq, Repr

/-- The cycle of a task (R65 to R86): its number and due instant, deadline, overflow of the undo log, execution number
for READS, the SUP_MODE_STATUS word of its sampling instant, and what its policy and skips have come to; `passed` the due
instants a timebase correction has moved past (R67), `foll` whether the window comes from the partner's snapshot, `own` the follower's own records for the cross-check (R307). -/
structure Cycle where
  k : Nat := 0
  nextK : Nat := 0
  due : Nat := 0
  dead : Nat := 0
  ovf : Bool := false
  exec : Nat := 0
  status : Word := 0#32
  ovr : Bool := false
  skipped : Nat := 0
  reads : Nat := 0
  agreed : Bool := false
  pdPend : Bool := false
  passed : Nat := 0
  foll : Bool := false
  own : List (Nat × List Byte) := []
  deriving DecidableEq, Repr

/-- A force entry (Table 4-1). -/
structure Force where
  target : Nat := 0
  dir : Nat := 0
  active : Bool := false
  channel : Nat := 0
  session : Nat := 0
  off : Nat := 0
  len : Nat := 0
  fvalid : Bool := false
  source : Nat := 0
  value : Nat := 0
  deriving DecidableEq, Repr

/-- A force set, clear or clear of all that awaits its effective instant (R99): the entry it names (or none), whether it
sets, the entry as it will stand, E, the command, whether the follower has confirmed. -/
structure FEff where
  idx : Nat
  set : Bool
  new : Force
  eff : Nat
  d : Desc
  confirmed : Bool
  deriving DecidableEq, Repr

/-- The online change in progress (R102 to R122): the staged flysheet, the arm command with its time, the swap point s (0 while none
is chosen), whether the partner has confirmed it, the configuration slot and image that staging wrote. -/
structure Olc where
  staged : Option Pitch := none
  armCmd : Option Desc := none
  armAt : Nat := 0
  point : Nat := 0
  confirmed : Bool := false
  slot : Nat := 0
  cfg : Option CfgImage := none
  deriving DecidableEq, Repr

/-- The pending release of an EVENT task (R84): the arrival of its last interrupt, the records frozen then, SUP_MODE_STATUS then. -/
structure PendEv where
  task : Nat
  inst : Nat
  recs : List (Nat × List Byte)
  status : Word
  deriving DecidableEq, Repr

/-- The task and image engine: cycles, timers, prime bits, edge identities, forces, pending EVENT releases
(R84), the epoch (R65), pulse-catch accumulation by task × 64 + channel (bit 0 rise, bit 1 fall, R85) and what of it the frozen
records of a pending EVENT release have taken, tasks that have a previous window (R97) and STATE and FORCED of its digital records by
task × 8 + group (bit 8 beside FORCED), the last swept whole second, force changes awaiting E, the online change,
TSK_RETAIN_STATUS as left by boot (the status page's offset 0x08). -/
structure Tsk where
  cycles : List (Nat × Cycle) := []
  timers : List (Nat × Timer) := []
  prime : List (Nat × Bool) := []
  edgeIdent : List (Nat × Nat) := []
  forces : List (Nat × Force) := []
  pendEv : List PendEv := []
  epoch : Option Nat := none
  pcAcc : List (Nat × Nat) := []
  pcPend : List (Nat × Nat) := []
  wins : List (Nat × Bool) := []
  prevDi : List (Nat × Nat × Nat) := []
  taskSec : Nat := 0
  feffs : List FEff := []
  olc : Olc := {}
  retBoot : Word := 0#32
  deriving DecidableEq, Repr

/-- A channel test in progress (R239, R256): its command, CODE or current, DURATION, start. -/
structure ChTest where
  d : Desc
  code : Nat
  dur : Nat
  start : Nat
  deriving DecidableEq, Repr

/-- A channel at the field side: its applied configuration words (REG 0 to 5 of Table 8-6; none before a COMMIT), OUT and
CTRL of the last frame, the DO switch and whether its inrush allowance runs, the comparator's level, the filtered state and the
level that pulse catch has counted, pulse counters, wire-break, protection, the times of the last switch-off and turn-on
(elapsed), whether the retry delay has passed, whether a frame carried 0 since the latch, whether the switch is at or above 130 °C,
the value of its status word (Table 8-5), the AO command received, the one in force with its recent changes (elapsed time and the
value before, R254) and the current it drives (R251), the conversion that runs (the timebase at its start boundary, R241), the last one
with its end and whether one has ended since the COMMIT, analogue flags (Table 9-1) with the limiter's engagement, disconnection and
reconnection times, runs (R254), the channel test (code, DURATION, start) and its result, an injected reading with its end; when the
filtered state, the level counted and the wire-break report last changed (elapsed; R224 to R226). -/
structure FsCh where
  w : List Nat := []
  cmd : Bool := false
  ctl : Bool := false
  on : Bool := false
  inrush : Bool := false
  lvl : Bool := false
  filt : Bool := false
  pcl : Bool := false
  rises : Nat := 0
  falls : Nat := 0
  wb : Bool := false
  limiting : Bool := false
  ovl : Bool := false
  therm : Bool := false
  latched : Bool := false
  offAt : Nat := 0
  onAt : Nat := 0
  retry : Bool := false
  zero : Bool := false
  hot : Bool := false
  meas : Nat := 0
  aoC : Nat := 0
  cNow : Nat := 0
  cPast : List (Nat × Nat) := []
  drive : Int := 0
  convAt : Nat := 0
  conv : Int := 0
  convEnd : Nat := 0
  convOk : Bool := false
  lim : Bool := false
  disc : Bool := false
  adc : Bool := false
  limAt : Nat := 0
  discAt : Nat := 0
  recAt : Nat := 0
  filtAt : Nat := 0
  pclAt : Nat := 0
  wbAt : Nat := 0
  compl : Bool := false
  rb : Bool := false
  shortRun : Nat := 0
  okRun : Nat := 0
  test : Option (Nat × Nat × Nat) := none
  result : Option Nat := none
  inj : Option (Nat × Nat) := none
  deriving DecidableEq, Repr

/-- The field-side controller of a group: power, autonomy, consecutive valid outbound frames, the start of the last one
(elapsed), expected SEQ and LOSS_CNT, return SEQ, OFF frames in force, the configuration batch and the word to echo, supply
measurements (their number, the time of the last, whether the initial flags have been settled), runs (R236) and when SUPPLY_OK last fell (elapsed), the start of the last return frame, an injected
supply reading with its end, its channels. -/
structure Fs where
  powered : Bool := false
  autonomy : Bool := false
  valid : Nat := 0
  lastAt : Nat := 0
  expSeq : Option Nat := none
  loss : Nat := 0
  retSeq : Nat := 0
  off : Bool := false
  batch : List Nat := []
  echo : Option Nat := none
  supN : Nat := 0
  supAt : Nat := 0
  supInit : Bool := false
  supOk : Bool := false
  supLow : Bool := true
  supOver : Bool := false
  okRun : Nat := 0
  lowRun : Nat := 0
  overRun : Nat := 0
  lostAt : Nat := 0
  lplus : Nat := 0
  temp : Nat := 0
  retAt : Nat := 0
  inj : Option (Nat × Nat) := none
  chs : List (Nat × FsCh) := []
  deriving DecidableEq, Repr

/-- A group's link controller: outbound SEQ and SLOT, frames since the last refresh and the refresh position (R214), the start
of the last outbound frame (elapsed), the frames on the lines; configuration (R213): the words (CH × 8 + REG) written since the last
batch, the running batch, what of it is still to be sent and whether its COMMIT has gone out, the words sent at the last boundary and
at the one before, failed sends by word; test words to be sent; whether the last frame was OFF; whether a valid return was checked since the last boundary, runs of missed and of valid
returns, since when eight valid ones had been checked, the start-up's beginning, whether its configuration has been started, the
carrier's restart time, the last LOSS_CNT, each channel's last PCNT with the time of its report (R226) and the channels whose next
report is a gap (R227), the end of the conversion that the return frame carries (R242), the Zirek unit's last FLAGS and STATE, return frames to be corrupted and outbound frames to be suppressed by injection, whether what a suppression
brings down is still to return, whether the next echo is corrupted by injection. -/
structure Lnk where
  seq : Nat := 0
  slot : Nat := 0
  frames : Nat := 0
  refresh : Nat := 0
  startAt : Option Nat := none
  out : Option Nat := none
  ret : Option Nat := none
  want : List Nat := []
  batch : List Nat := []
  toSend : List Nat := []
  committed : Bool := false
  sent : Option Nat := none
  await : Option Nat := none
  fails : List (Nat × Nat) := []
  tests : List Nat := []
  wasOff : Bool := false
  seen : Bool := false
  missRun : Nat := 0
  goodRun : Nat := 0
  readyAt : Option Nat := none
  upFrom : Nat := 0
  configured : Bool := false
  restartAt : Option Nat := none
  loss : Option Nat := none
  pcnt : List (Nat × Nat × Nat) := []
  pcGap : Nat := 0
  conv : Option Nat := none
  flags : Nat := 0
  zst : Option Nat := none
  auto3 : Bool := false
  injCrc : Nat := 0
  injSupp : Nat := 0
  injDown : Bool := false
  injEcho : Bool := false
  deriving DecidableEq, Repr

/-- The image engine's latest sample of a group: STATE and its timestamp in ns. -/
structure GImg where
  state : Nat := 0
  ts : Nat := 0
  deriving DecidableEq, Repr

/-- The image engine's latest conversion of an analogue channel: the current, SCALED, the end of the conversion in ns, whether
one completed since the configuration was applied; the record's STATUS then (bits 0 and 6 apart), which a channel test keeps (R256);
the table fault already recorded. -/
structure AImg where
  na : Nat := 0
  scaled : Word := 0#32
  ts : Nat := 0
  done : Bool := false
  st : Nat := 0
  bad : Bool := false
  deriving DecidableEq, Repr

/-- What a channel's release has replaced (Table 8-1): the channel, when (elapsed), whether it was driven, its carried values. -/
structure Late where
  c : Nat
  up : Nat
  driven : Bool
  carDo : Bool
  carAo : Nat × Nat
  deriving DecidableEq, Repr

/-- The field channel complex: link controllers, field sides, samples, channel tests, and per channel the last released and
the last carried value (R474): a DO's state, an AO's current and alarm bits; `driven` whether the channel has been released
(R210), `rekind` whether an online change has given it a new kind whose owner has not released it yet (R116), `held` the takeover
hold's due instants left (R316), `late` the releases of the last 40 ns (Table 8-1). -/
structure FldSt where
  lnk : List (Nat × Lnk) := []
  fs : List (Nat × Fs) := []
  img : List (Nat × GImg) := []
  aimg : List (Nat × AImg) := []
  tests : List (Nat × ChTest) := []
  relDo : List (Nat × Bool) := []
  relAo : List (Nat × Nat × Nat) := []
  carDo : List (Nat × Bool) := []
  carAo : List (Nat × Nat × Nat) := []
  driven : List (Nat × Bool) := []
  rekind : List (Nat × Bool) := []
  held : List (Nat × Nat) := []
  late : List Late := []
  deriving DecidableEq, Repr

/-- A guy line: the last HB_COUNT, the arrival of the last valid heartbeat (elapsed), runs of misses and of valid ones. -/
structure Guy where
  count : Option Nat := none
  arr : Nat := 0
  misses : Nat := 0
  goods : Nat := 0
  deriving DecidableEq, Repr

/-- A class P write that waits for its instant E (R321): address, word, E, its command, whether it is confirmed. -/
structure PWrite where
  addr : Nat
  val : Word
  eff : Nat
  d : Option Desc
  confirmed : Bool
  deriving DecidableEq, Repr

/-- The hot-standby pair unit: READS in, guy lines (0 A, 1 B), the partner's last heartbeat, runs of dual LIVE assertion with the
HB_COUNT they were counted at, the heartbeats sent (the timebase of the last), when the last TIME frame came and was sent, the sync
link and its sequence numbers, FSEQ values asked for again, frames sent (FSEQ, wrong CRC by injection) and those that await an
acknowledgement (FSEQ, sending time, resends), frames resent after a NAK, the last COUNTERS frame, snapshots in progress (task:
cycle, next fragment), digests of both modules by task (cycle + 1), cross-check disagreements (channel:
since, reported; by group when last seen), resynchronisation (step, start,
J, mirror restarts, an overflow seen, when to try again), revert (S, confirmed, 1 while handing back and 2 while taking back,
the same until the heartbeats show it, when to propose again, since when the conditions hold, REVERT_READY), class P writes, the
timebase at the drop of LIVE_IN that a takeover started from, relayed commands, whether the active module has reported a valid
calendar (R407). -/
structure Pair where
  readsIn : List (Nat × List ReadEntry) := []
  lines : List (Nat × Guy) := []
  partner : Option Beat := none
  liveRuns : Nat := 0
  hbCount : Nat := 0
  hbAt : Option Nat := none
  hbSeen : Nat := 0
  timeRx : Nat × Nat := (0, 0)
  linkUp : Bool := false
  txSeq : Nat := 0
  rxSeq : Option Nat := none
  missing : List Nat := []
  out : List (Nat × Bool × SyncMsg) := []
  unacked : List (Nat × Nat × Nat × SyncMsg) := []
  resent : List Nat := []
  countersAt : Nat := 0
  snaps : List (Nat × Nat × Nat) := []
  ownDig : List (Nat × Nat × BitVec 64) := []
  rxDig : List (Nat × Nat × BitVec 64) := []
  xchkSince : List (Nat × Nat × Bool) := []
  xchkClear : List (Nat × Nat) := []
  step : Nat := 0
  stepAt : Nat := 0
  joinAt : Nat := 0
  restarts : Nat := 0
  ovfSeen : Bool := false
  retryAt : Option Nat := none
  copied : List (Nat × Bool) := []
  revertS : Option Nat := none
  revertConf : Bool := false
  reverting : Nat := 0
  swapped : Nat := 0
  proposeAt : Nat := 0
  okSince : Option Nat := none
  ready : Bool := false
  pwrites : List PWrite := []
  dropAt : Option Nat := none
  relayed : List Desc := []
  injA : Nat := 0
  injB : Nat := 0
  injCrc : Bool := false
  calOk : Bool := false
  deriving DecidableEq, Repr

/-- An event request or held record (Table 14-1): code, parameters, event instant, the mode or task of SOURCE, the
KIND, and the INJECTED and TIME_UNSYNC bits. -/
structure Ev where
  code : Nat
  p0 : Nat := 0
  p1 : Nat := 0
  p2 : Nat := 0
  time : Nat := 0
  src : Nat := 0
  app : Bool := false
  injected : Bool := false
  unsync : Bool := false
  deriving DecidableEq, Repr

/-- A rate entry and its token bucket (R389, R390): `since` the elapsed time at which TOKENS first fell below BURST,
`lastSupp` that of the last suppressed occurrence. -/
structure Rate where
  code : Nat := 0
  burst : Nat := 1
  period : Nat := 1000
  tokens : Nat := 1
  supp : Nat := 0
  since : Nat := 0
  lastSupp : Nat := 0
  deriving DecidableEq, Repr

/-- The event recorder: the input queue (R388), the first loss not yet reported and whether an injection caused it, whether the timebase counts as
synchronised (Table 14-1), whether an injected effect is being carried out; the freeze (source, start) and an earlier end
not yet reported to its source (R395), the holding queue, a clear in progress (command, records discarded), the rate
table, the challenge with its issue time (R396), the archive page being copied, the SEQ last handled of each event line
(R391), the records written since reset with their sequence numbers, newest last, and armed injections' effects. -/
structure Evr where
  inq : List Ev := []
  lostCount : Nat := 0
  lostCode : Nat := 0
  lostAt : Nat := 0
  lostInj : Bool := false
  synced : Bool := false
  injecting : Bool := false
  frozen : Option (Src × Nat) := none
  ended : List (Src × Nat) := []
  freezing : Option (Desc × Nat) := none
  heldq : List Ev := []
  clearing : Option (Option Desc × Nat) := none
  rates : List (Nat × Rate) := []
  challenge : Option (List Byte × Nat) := none
  archiving : Option Nat := none
  appSeq : List (Nat × Nat) := []
  log : List (Nat × Ev) := []
  injFull : Bool := false
  injCrc : Bool := false
  injHeld : Bool := false
  deriving DecidableEq, Repr

/-- A copy pair of the counters region (R350): each page's generation and record, or not committed. -/
structure CopyPair (α : Type) where
  a : Option (Nat × α) := none
  b : Option (Nat × α) := none
  deriving DecidableEq, Repr

/-- The slot markers: active firmware slot, active program slot and its layout identity (Table 13-2). -/
structure Marker where
  fw : Nat := 0
  prog : Nat := 0
  layout : Nat := 0
  deriving DecidableEq, Repr

/-- The update journal record (Table 13-8). -/
structure Journal where
  st : Nat := 0
  target : Nat := 0
  len : Nat := 0
  sector : Nat := 0
  hash : Nat := 0
  deriving DecidableEq, Repr

/-- The recorder pointer record (Table 14-2). -/
structure RecPtr where
  page : Nat := 0
  firstSeq : Nat := 0
  offset : Nat := 0
  clearState : Nat := 0
  clearKey : Nat := 0
  clearSeq : Nat := 0
  clearCount : Nat := 0
  archNext : Nat := 0
  archHigh : Nat := 0
  archLow : Nat := 0
  deriving DecidableEq, Repr

/-- Who waits for a user-region write: a command with its remaining pages, or a mailbox with its reply line. -/
inductive UserWho where
  | cmd (d : Desc) (last : Bool)
  | mailbox (reply seq len off : Nat)
  | sys
  deriving DecidableEq, Repr

/-- A write sequence of the page engine (R355, R356). -/
inductive NvWrite where
  | state (latch : Bool) (auto : Nat)
  | marker (m : Marker)
  | invalBuf (buf : Nat)
  | retCommit (buf seq layout : Nat)
  | pagePair (buf seq layout : Nat) (m : Marker)
  | journal (j : Journal)
  | pwd (fails : List (Nat × Nat)) (lock : Nat) (d : Option Desc) (status : Nat)
  | recPtr (r : RecPtr)
  | usage (ws : List Nat)
  | rates (page : Nat) (supp : List Nat)
  | retPage (buf : Nat) (page : Nat) (lines : List (Nat × List Byte))
  | record (addr : Nat) (bytes : List Byte)
  | clearRing
  | cfgInval (slot : Nat) (choose : Option Desc)
  | cfgData (slot : Nat) (bytes : List Byte)
  | cfgHeader (slot : Nat) (img : CfgImage) (d : Option Desc) (apply : Bool)
  | user (addr : Nat) (bytes : List Byte) (who : UserWho)
  | refresh (addr : Nat)
  deriving DecidableEq, Repr

/-- A NOR program or firmware slot (R376): VALID and RETIRED words and the object it holds. -/
structure NorSlot where
  valid : Bool := false
  retired : Bool := false
  pitch : Option Pitch := none
  fw : Option FwImage := none
  deriving DecidableEq, Repr

/-- A NOR operation in progress (R375). -/
inductive NorOp where
  | eraseSlot (slot : Nat) (d : Desc)
  | eraseArchive (sector : Nat) (d : Desc)
  | progSlot (slot : Nat) (p : Pitch) (d : Desc) (mark : Bool)
  | copySector (sector : Nat)
  | archive (page : Nat)
  deriving DecidableEq, Repr

/-- An unlocked region password (R369): password (region × 2 + kind), source, last access (elapsed time). -/
structure Unlock where
  pwd : Nat
  src : Nat
  last : Nat
  deriving DecidableEq, Repr

/-- The non-volatile store: the supply comparisons, the page engine's queue and write in progress, the counters region's
records, committed pages (WRITES by page index; `badPages` those whose CRC fails), uncorrectable and correctable groups,
retain passes, configuration slots, NOR slots and journal image, scrub, passwords, how the last loss of VIN ended (0 no flush, 1 flushed, 3 no reserve); the addresses of NOR operations that a reset has cut; since when HOLD has been low, the end of injection 0x804; when the background
slice was last due (R364), when the hourly counters were last saved (R386, R443), whether the next group margin-read shows a 1-bit error by injection, and whether the next group read carries 3 wrong bits by injection. -/
structure Nvs where
  vin : Nat := 0
  hold : Nat := 0
  vinLost : Bool := true
  queue : List NvWrite := []
  busy : Option NvWrite := none
  stateRec : CopyPair (Bool × Nat) := {}
  markerRec : CopyPair Marker := {}
  retA : Option (Nat × Nat) := none
  retB : Option (Nat × Nat) := none
  journalRec : CopyPair Journal := {}
  pwdRec : CopyPair (List (Nat × Nat) × Nat) := {}
  recPtrRec : CopyPair RecPtr := {}
  usageRec : CopyPair (List Nat) := {}
  rateTotals : List (Nat × Nat) := []
  writes : List (Nat × Nat) := []
  badPages : List Nat := []
  uncorr : List Nat := []
  corr : List Nat := []
  passSeq : Nat := 0
  passTasks : List Nat := []
  passDue : Nat := 0
  passPending : Bool := false
  passLayout : Nat := 0
  pairLayout : Option (Nat × Nat) := none
  cfgA : Option CfgImage := none
  cfgB : Option CfgImage := none
  norProg : List (Nat × NorSlot) := []
  norFw : List (Nat × NorSlot) := []
  journalImage : Option FwImage := none
  norOps : List NorOp := []
  norFail : Bool := false
  scrubCmd : Option Desc := none
  scrubCorr : Nat := 0
  scrubUncorr : Nat := 0
  unlocks : List Unlock := []
  pwdDigests : List (Nat × Nat) := []
  mboxSeq : List (Nat × Nat) := []
  flushSt : Nat := 0
  holdLowSince : Option Nat := none
  holdInj : Option Nat := none
  norCut : List Nat := []
  scrubRef : Bool := false
  scrubAt : Nat := 0
  hourAt : Nat := 0
  ratesAt : Nat := 0
  injRead : Bool := false
  deriving DecidableEq, Repr

/-- A deferred request (R61): the command, its activity, the activity that blocked it, when it was made (elapsed time). -/
structure Deferred where
  d : Desc
  act : Act
  blocker : Nat
  since : Nat
  deriving DecidableEq, Repr

/-- A command that completes once its values have latched (R336, R440): the register address it waits for, or none for every
value of a configuration, and its results. -/
structure Latch where
  d : Desc
  addr : Option Nat
  res0 : Nat := 0
  res1 : Nat := 0
  event : Nat := 0
  deriving DecidableEq, Repr

/-- An EVENT_WAIT that is pending (R342): its limit in elapsed time. -/
structure EWait where
  d : Desc
  limit : Nat
  deriving DecidableEq, Repr

/-- A piecewise transfer in progress (R338): the command's opcode and source, the offset the next piece must have, and
the time of the last piece. -/
structure Xfer where
  op : Nat
  src : Src
  p0 : Nat
  next : Nat
  last : Nat
  deriving DecidableEq, Repr

/-- A ring pair (Tables 12-3 and 12-4, R328): its table entry and the indices; `on` while it is enabled and fetching, `start` CQ_PROD
at GO, `fullSeen` whether this episode of a full completion ring is recorded, `holdUntil` the end of injection 0x703 (elapsed), `err`
in error (R331). -/
structure Ring where
  sqBase : Nat := 0
  cqBase : Nat := 0
  sizeLog2 : Nat := 0
  on : Bool := false
  prio : Nat := 0
  vector : Nat := 0
  sqProd : Nat := 0
  sqCons : Nat := 0
  cqProd : Nat := 0
  cqCons : Nat := 0
  start : Nat := 0
  fullSeen : Bool := false
  holdUntil : Nat := 0
  err : Bool := false
  deriving DecidableEq, Repr

/-- What the module writes into host memory (R329, R330), in order. -/
inductive HostOut where
  | compl (ring slot : Nat) (words : List Nat)
  | buffer (addr : Nat) (bytes : List Byte)
  | cqProd (ring v : Nat)
  | sqCons (ring v : Nat)
  | msi (addr data : Nat)
  deriving DecidableEq, Repr

/-- The host interface and the SUP command queue: queued commands, deferred requests, commands that run, completions to be written,
pending EVENT_WAITs, commands that wait for a latch, transfers in pieces, rings, what was written to host memory, commands whose
completions a link loss discards (R333), the doorbell page as last read and when (elapsed), the words of the MSI-X table and its pending
bits, injections 0x701 to 0x703 by ring. -/
structure Hif where
  queue : List Desc := []
  deferred : List Deferred := []
  running : List Desc := []
  done : List Compl := []
  waits : List EWait := []
  latching : List Latch := []
  xfers : List Xfer := []
  rings : List (Nat × Ring) := []
  out : List HostOut := []
  lost : List Desc := []
  tab : List RingIn := []
  pollAt : Nat := 0
  msix : List (Nat × Word) := []
  msixPend : List (Nat × Bool) := []
  injBuf : Option Nat := none
  injPoll : Option Nat := none
  injHold : Option Nat := none
  deriving DecidableEq, Repr

/-- The supervisor's sequencing state: boot steps 1 to 8 done, and whether 0x0101 is still to come; a transition that waits for R287 with
the time its 200 µs end and its command; when STARTUP, SAFE, RECOVERY were entered (elapsed time); the SAFE cause, and
the tasks whose undo log had overflowed at its entry; the
hash of the pair-common configuration in force, and h (R429) of the two sections applied; the start intent of RECOVERY (R49) and whether a command started it (R50); when the wake timer was loaded or a housekeeping wake began
(R412); a commanded reset and a clock-monitor reset to come; a stretch: its start, the pairs that had a task running, whether its
limit has been reported (R32), until when injection 0x001 holds the rail low (elapsed); out-of-band runs by clock domain (R33), the domain
and the windows left of injections 0x003 and 0x004, the last check of MON and failed ones (R36); injections 0x002
and 0x006; the FAULT and LANTERN lands; when VIN became valid; whether the SUP core runs from ROM alone (R423); whether injection 0x005 awaits a verification; the
usage counters of Table 16-9 (BOOTS, resets by cause 1 to 5, SAFE entries, configuration slots written, hours). -/
structure Sup where
  bootDone : Bool := false
  booting : Bool := false
  waitTo : Option Mode := none
  waitDue : Nat := 0
  waitCmd : Option Desc := none
  waitCause : Nat := 0
  heldReqs : List (Nat × Desc) := []
  startupAt : Nat := 0
  safeAt : Nat := 0
  safeCause : Nat := 0
  safeDetail : Nat := 0
  safePrev : Nat := 0
  safeRecorded : Bool := true
  safeOvf : List Nat := []
  recoveryAt : Nat := 0
  selfTested : Bool := false
  intent : Bool := false
  byCommand : Bool := false
  parkedAt : Nat := 0
  injSig : Bool := false
  cfgHash : Nat := 0
  cfgH : Nat × Nat := (0, 0)
  resetDue : Option Nat := none
  coreResetDue : Option Nat := none
  stretchAt : Nat := 0
  stretchMask : Nat := 0
  stretchLim : Bool := false
  injDroop : Bool := false
  railLow : Nat := 0
  injClk : Nat × Nat := (0, 0)
  oob : List (Nat × Nat) := []
  monAt : Nat := 0
  monBad : Nat := 0
  injMon : Nat := 0
  fault : Bool := true
  lantern : Bool := false
  usage : List Nat := []
  bootAt : Nat := 0
  romOnly : Bool := false
  deriving DecidableEq, Repr

/-- What a process-data telegram carries beside its counter, type and ComId (R265): the topography counters, datasetLength, the reply fields,
and below TRDP the IP source address, the TOS byte, the VLAN tag (identifier, priority) and the destination MAC address (R268).
protocolVersion is 0x0100, reserved01 0 and headerFcs the header's CRC-32 in each. -/
structure PdHdr where
  etb : Nat := 0
  opt : Nat := 0
  len : Nat := 0
  replyComId : Nat := 0
  replyIp : Nat := 0
  srcIp : Nat := 0
  tos : Nat := 0
  vlan : Option (Nat × Nat) := none
  mac : Nat := 0
  deriving DecidableEq, Repr

/-- What the network engine sends, each frame on ports A and B alike (R262). -/
inductive NetOut where
  | mp (dir sid : Nat) (c : Compl)
  | me (dir sid : Nat)
  | pd (session msg seq comId ip : Nat) (payload : List Byte) (badCrc : Bool) (hdr : PdHdr)
  | pr (session seq comId ip : Nat) (payload : List Byte) (hdr : PdHdr)
  | heartbeat (b : Beat)
  | arpReply (ip : Nat)
  | garp (ip : Nat)
  | icmpReply (ip : Nat) (bytes : List Byte)
  | igmpReport (group : Nat)
  | prpSup (addr : Nat)
  deriving DecidableEq, Repr

/-- A frame sent (R262): the PRP sequence number and the source MAC address of both copies, and the port (B true) with the LanId of each. -/
structure NetFrame where
  prp : Nat
  mac : Nat
  copies : List (Bool × Nat) := [(false, 0xA), (true, 0xB)]
  body : NetOut
  deriving DecidableEq, Repr

/-- A session: the eight words of its entry (Table 10-2), the entry that a flysheet's configuration has for its first publication (R116), its registers, the latest valid telegram and its reception instant
(elapsed), the publish buffer as released and as carried (R474), the pull counter and the time of the last pull reply with the requests discarded since, the timebase at the last publication
instant, the last discarded counter of a restart run, tasks that have released since publishing began, drops by injection. -/
structure Sess where
  words : List Word := []
  next : Option (List Word) := none
  valid : Bool := false
  never : Bool := true
  publishing : Bool := false
  restartRun : Nat := 0
  runSeq : Nat := 0
  seq : Nat := 0
  dup : Nat := 0
  old : Nat := 0
  timeouts : Nat := 0
  restarts : Nat := 0
  rxAt : Nat := 0
  rxBuf : List Byte := []
  relBuf : List Byte := []
  txBuf : List Byte := []
  pulls : Nat := 0
  pullAt : Option Nat := none
  pullDrops : Nat := 0
  pubAt : Option Nat := none
  released : List (Nat × Bool) := []
  nodir : Bool := false
  dropUntil : Nat := 0
  badCrc : Bool := false
  deriving DecidableEq, Repr

/-- A message waiting for the SUP firmware (R278): its session and source directory index. -/
structure Msg where
  session : Nat
  dir : Nat
  sid : Nat
  bytes : List Byte
  deriving DecidableEq, Repr

/-- The network engine: sessions, directory, PRP discard table (MAC, sequence number, when made) and the next sequence number
sent, the servo (frequency estimate F in sixteenths of a ppb, run of small offsets, first correction made, slew episode), the last measurement
and announce (elapsed), messages queued with the start of their second and how many came in it, what was sent with its PRP sequence number, the
engineering requests answered or being answered, the last supervision frame (elapsed), the port that injection 0x503
holds down with its end (elapsed). -/
structure Net where
  sess : List (Nat × Sess) := []
  dirs : List (Nat × List Word) := []
  prp : List (Nat × Nat × Nat) := []
  prpSeq : Nat := 0
  freq : Int := 0
  smallRun : Nat := 0
  corrected : Bool := false
  slewing : Bool := false
  offA : Option Int := none
  offB : Option Int := none
  msgs : List Msg := []
  msgSec : Nat := 0
  msgCount : Nat := 0
  out : List NetFrame := []
  supAt : Nat := 0
  replies : List (Nat × Nat × Option Compl) := []
  injPort : Option (Bool × Nat) := none
  deriving DecidableEq, Repr

/-- The watchdog: each open task window with the CORE clocks at its opening (R413), the CORE clocks at the last SUP
check-in, whether the boot limits hold (R415), the elapsed time at which the hard reset timer expires, the elapsed time of
the first key write (R419), whether the SUP entry has reached SUP MAX since; whether a check-in suppressed by injection 0xB03 is still to show,
the entry whose next check-in injection 0xB02 doubles, whether 0xB03 suppresses the next SUP check-in. -/
structure Wdg where
  opens : List (Nat × Nat) := []
  last : List (Nat × Nat) := []
  supAt : Nat := 0
  supOver : Bool := false
  bootLimits : Bool := true
  hardDue : Option Nat := none
  keyAt : Option Nat := none
  injLate : Bool := false
  injTwice : Option Nat := none
  injSup : Bool := false
  deriving DecidableEq, Repr

/-- A calendar set on its way to the BKP domain (R406): date and time words, its source, the CAL_SET command. -/
structure CalSet where
  date : Nat
  time : Nat
  source : Nat
  d : Option Desc
  deriving DecidableEq, Repr

/-- The calendar: the counters (CAL_DATE and CAL_TIME show the last capture), the compensation accumulator, the cycles
of the current second and when it began (elapsed, R411), sets on their way, when the timebase last set it, whether PTP has just
locked (R407), the retention detector's latch (R403), the CRC read where the factory curve's is wrong (R410), the injected reading. -/
structure Cal where
  date : Nat := 0x07D00101
  time : Nat := 0
  acc : Nat := 0
  cycles : Nat := 32768
  secAt : Nat := 0
  sets : List CalSet := []
  ptpSetAt : Nat := 0
  ptpNow : Bool := false
  tripped : Bool := true
  curveCrc : Option Nat := none
  injTemp : Bool := false
  deriving DecidableEq, Repr

/-- The hardware but for the OTP store and the queue of commands. -/
structure Hw where
  clk : Clk := {}
  regs : List (Nat × Word) := []
  pend : List (Nat × Word) := []
  mem : List (Nat × Byte) := []
  sup : Sup := {}
  exe : Exe := {}
  tsk : Tsk := {}
  hif : Hif := {}
  nvs : Nvs := {}
  net : Net := {}
  fld : FldSt := {}
  pair : Pair := {}
  evr : Evr := {}
  wdg : Wdg := {}
  cal : Cal := {}
  prog : Pitch := {}
  free : Nat := 0
  deriving DecidableEq, Repr

/-- The one-time programmable stores: the key store's bytes by offset (Table 16-2), and the device seed of the second bank,
which no view maps. -/
structure Otp where
  bytes : List (Nat × Byte) := []
  seed : Nat := 0
  deriving DecidableEq, Repr

/-- The machine: the hardware, the OTP store, and the commands that wait, first in, first out. -/
structure State where
  hw : Hw := {}
  otp : Otp := {}
  pending : List Instr := []
  deriving DecidableEq, Repr

/-- The firmware in slot A of a delivered module: it verifies (R6, log 24). -/
def deliveredFw : FwImage := { hdr := { kind := 1, keyKind := 0, sigOk := true } }

/-- The machine as delivered (R6), before VIN is valid: every register at the reset value of its table, memory with
nothing listed, no command waiting; firmware slot A holds its firmware. -/
def State.reset : State := { hw := { nvs := { norFw := [(0, { valid := true, fw := some deliveredFw })] } } }

end Sys2Proof.Machine
end

