-- ==== Sys2Proof/Machine/Ops.lean ====
section
/-! DEFINITION. The named operations over registers, memory, time and events that the meanings share. -/

namespace Sys2Proof.Machine

/-! ## Modes and activities -/

/-- Table 2-1. -/
def Mode.code : Mode → Nat
  | .boot => 0 | .provision => 1 | .stop => 2 | .startup => 3 | .run => 4 | .follow => 5 | .test => 6
  | .debug => 7 | .service => 8 | .safe => 9 | .recovery => 10 | .parked => 11

/-- The mode a code names; codes 0xC to 0xF are never reported (R39). -/
def Mode.ofCode : Nat → Mode
  | 0 => .boot | 1 => .provision | 2 => .stop | 3 => .startup | 4 => .run | 5 => .follow | 6 => .test
  | 7 => .debug | 8 => .service | 9 => .safe | 10 => .recovery | _ => .parked

/-- The modes in which tasks run (R21). -/
def Mode.runsTasks : Mode → Bool
  | .startup | .run | .follow | .test | .debug => true
  | _ => false

/-- The modes in which a task's watchdog entry counts (R413). -/
def Mode.counts : Mode → Bool
  | .startup | .run | .follow | .test => true
  | _ => false

/-- The modes that assert LIVE_OUT (R42). -/
def Mode.drivesLive : Mode → Bool
  | .startup | .run | .test => true
  | _ => false

/-- The modes that publish (Table 2-2). -/
def Mode.publishes : Mode → Bool
  | .startup | .run | .follow | .test => true
  | _ => false

/-- The activity codes of Table 2-8. -/
def Act.code : Act → Nat
  | .rrf => 1 | .rcl => 2 | .scr => 3 | .nor => 4 | .fwu => 5 | .pdl => 6 | .olc => 7 | .cht => 8 | .frc => 9
  | .dbg => 10 | .cal => 11 | .cfg => 12

/-! ## Registers -/

/-- The word of the register at supervisor address `a`. -/
def Hw.reg (h : Hw) (a : Nat) : Word := tget (resetWord a) h.regs a

/-- Puts a word into the register at `a`. -/
def Hw.setReg (h : Hw) (a : Nat) (v : Word) : Hw := { h with regs := tset (resetWord a) h.regs a v }

/-- The value of a register field. -/
def Hw.fget (h : Hw) (f : Fld) : Nat := bitsOf (h.reg f.a).toNat f.lo f.w

/-- Whether a one-bit register field is 1. -/
def Hw.fbit (h : Hw) (f : Fld) : Bool := h.fget f == 1

/-- Puts a value (modulo the field's width) into a register field. -/
def Hw.fset (h : Hw) (f : Fld) (v : Nat) : Hw := h.setReg f.a (w32 (setBitsOf (h.reg f.a).toNat f.lo f.w v))

/-- Adds 1 to a counter field that saturates at its largest value. -/
def Hw.finc (h : Hw) (f : Fld) : Hw := h.fset f (satInc f.w (h.fget f))

/-- The operating mode (R39). -/
def Hw.mode (h : Hw) : Mode := Mode.ofCode (h.fget R.SUP_MODE_STATUS_MODE)

/-! ## Memory

One byte memory keyed by the supervisor view's addresses (Table 1-5): SUP ROM and SRAM, MRAM, NOR, code SRAM, data SRAM,
image region, retain window. -/

/-- What a byte nothing has written reads as: 0xFF in NOR (erased flash), 0 elsewhere. DESIGN CHOICE, unsafe (log 5). -/
def memDefault (a : Nat) : Byte := if 0x60000000 ≤ a && a < 0x70000000 then 0xFF#8 else 0#8

/-- The canonical form of a memory: addresses strictly rising, no entry equal to what an unlisted address reads as. -/
def Memory.wf (m : List (Nat × Byte)) : Bool := twf memDefault m

/-- Reads one byte. -/
def Hw.mb (h : Hw) (a : Nat) : Byte := tget (memDefault a) h.mem a

/-- Writes one byte. -/
def Hw.setMb (h : Hw) (a : Nat) (b : Byte) : Hw := { h with mem := tset (memDefault a) h.mem a b }

/-- Reads `n` bytes from `a` upward. -/
def Hw.mbs (h : Hw) (a : Nat) : Nat → List Byte
  | 0 => []
  | n + 1 => h.mb a :: h.mbs (a + 1) n

/-- Writes bytes from `a` upward. -/
def Hw.setMbs (h : Hw) (a : Nat) : List Byte → Hw
  | [] => h
  | b :: r => (h.setMb a b).setMbs (a + 1) r

/-- Reads a little-endian number of `n` bytes (R8). -/
def Hw.ml (h : Hw) (a n : Nat) : Nat := leNat (h.mbs a n)

/-- Writes a little-endian number of `n` bytes (R8). -/
def Hw.setMl (h : Hw) (a n v : Nat) : Hw := h.setMbs a (leBytes n v)

/-- Base addresses of the regions in the supervisor view. -/
def codeBase : Nat := 0x80000000
def dataBase : Nat := 0x90000000
def imgBase : Nat := 0xA0000000
def retBase : Nat := 0xA1000000

/-- The supervisor-view address of a core-view byte (Tables 1-4 and 1-5), for code SRAM, data SRAM, the image region and
the retain window. -/
def coreToSup (a : Nat) : Nat :=
  if a < 0x01000000 then codeBase + a
  else if a < 0x20000000 then dataBase + (a - 0x10000000)
  else if a < 0x21000000 then imgBase + (a - 0x20000000)
  else retBase + (a - 0x21000000)

/-! ## Time -/

/-- The next whole multiple of `m` ns of the timebase at or after `t`. -/
def nextWhole (m t : Nat) : Nat := ceilTo m t

/-- CORE clocks elapsed, whole. -/
def Hw.coreClocks (h : Hw) : Nat := h.clk.core / 5

/-- The applied rate correction of the timebase in 10^-11 (NET_TB_RATE, R282). -/
def Hw.tbRate (h : Hw) : Int := sx 32 (h.reg R.NET_TB_RATE).toNat

/-- Whether only the BKP domain and the power sequencer run (R35): no VIN, or PARKED outside a housekeeping wake, once the 1 ms that the
carriers may still run is over. -/
def Hw.dark (h : Hw) : Bool :=
  h.nvs.vinLost || (h.mode == .parked && !h.fbit R.SUP_MODE_STATUS_HOUSEKEEP && decide (h.sup.parkedAt + 1000000 ≤ h.clk.up))

/-- Lets `d` ns pass on every clock: the timebase with its rate correction (R280), the elapsed time, and the CORE clock at 4 fifths
a ns, or 2 while it is stretched (R27). Without power to their domains the timebase and CORE stand. -/
def Hw.pass (h : Hw) (d : Nat) : Hw :=
  let g : Int := d * h.tbRate + (h.clk.frac % 100000000000 : Nat)
  { h with clk := { tb := if h.dark then h.clk.tb else ((h.clk.tb + d : Nat) + g / 100000000000).toNat % 2 ^ 64,
                    frac := if h.dark then h.clk.frac else (g % 100000000000).toNat, up := h.clk.up + d,
                    core := h.clk.core + d * (if h.dark then 0 else if h.fbit R.SUP_DROOP_STATUS_STRETCH then 2 else 4) } }

/-- Lets time pass until the timebase reads at least `t` (log 2). -/
def Hw.untilTb (h : Hw) (t : Nat) : Hw :=
  let n := (100000000000 + h.tbRate).toNat
  h.pass (((t - h.clk.tb) * 100000000000 + n - 1) / n)

/-- Lets time pass until at least the elapsed time `t` (log 2). -/
def Hw.untilUp (h : Hw) (t : Nat) : Hw := h.pass (t - h.clk.up)

/-- NET_MAC as a number. -/
def Hw.ownMac (h : Hw) : Nat := (h.reg R.NET_MAC_LO).toNat + (h.reg R.NET_MAC_HI).toNat % 65536 * 2 ^ 32

/-- The frame that carries `x`: the next PRP sequence number, the module's own MAC address (R262). -/
def Hw.netFrame (h : Hw) (x : NetOut) : NetFrame := { prp := h.net.prpSeq, mac := h.ownMac, body := x }

/-- A frame leaves on both ports with the next PRP sequence number (R262). -/
def Hw.netSend (h : Hw) (x : NetOut) : Hw :=
  { h with net := { h.net with out := h.net.out ++ [h.netFrame x], prpSeq := (h.net.prpSeq + 1) % 65536 } }

/-! ## The sync link's sending side (R293, R294) -/

/-- Whether a frame is delivered with acknowledgement (Table 11-3). -/
def SyncMsg.acked : SyncMsg → Bool
  | .control _ | .state _ | .relay _ | .outcome _ | .join _ | .program .. => true
  | _ => false

/-- A frame is handed to the sync link with the next FSEQ. -/
def Hw.pairSend (h : Hw) (m : SyncMsg) : Hw :=
  let n := h.pair.txSeq
  { h with pair := { h.pair with txSeq := (n + 1) % 2 ^ 32, out := h.pair.out ++ [(n, h.pair.injCrc, m)], injCrc := false,
                                 unacked := if m.acked then h.pair.unacked ++ [(n, h.clk.up, 0, m)] else h.pair.unacked } }

/-! ## Publishing -/

/-- Publish sessions stop (R44, R303). -/
def Hw.stopPublishing (h : Hw) : Hw :=
  { h with net := { h.net with sess := h.net.sess.map (fun p => (p.1, { p.2 with publishing := false, released := [] })) } }

/-! ## Events -/

/-- An event request enters the recorder's input queue; at a full queue (or one that injection 0x901 makes
appear full) it is lost and LOST counts (R388). -/
def Hw.raiseEv (h : Hw) (e : Ev) : Hw :=
  if h.evr.inq.length < 512 ∧ h.evr.injFull = false then { h with evr := { h.evr with inq := h.evr.inq ++ [e] } }
  else
    let h1 := h.finc R.EVR_LOST_LOST
    { h1 with evr := { h1.evr with lostCount := h.evr.lostCount + 1,
                                   lostCode := if h.evr.lostCount = 0 then e.code else h.evr.lostCode,
                                   lostAt := if h.evr.lostCount = 0 then h.clk.up else h.evr.lostAt,
                                   lostInj := h.evr.lostInj || h.evr.injFull, injFull := false } }

/-- An event the module raises: the record's TIME is the timebase now and SOURCE holds the mode (Table 14-1, R382). -/
def Hw.raise (h : Hw) (code : Nat) (p0 p1 p2 : Nat := 0) : Hw :=
  h.raiseEv { code := code, p0 := p0, p1 := p1, p2 := p2, time := h.clk.tb, src := h.mode.code,
              injected := h.evr.injecting, unsync := !h.evr.synced }

/-- Carries out `f`; where `b` holds an injection causes it, and the records it makes have INJECTED = 1 (R446). -/
def Hw.asInj (h : Hw) (b : Bool) (f : Hw → Hw) : Hw :=
  let h1 := f { h with evr := { h.evr with injecting := h.evr.injecting || b } }
  { h1 with evr := { h1.evr with injecting := h.evr.injecting } }

/-- The parameter "execution pair and task" (R473). -/
def epTask (pair task : Nat) : Nat := task % 32 + pair % 4 * 32

/-! ## Results -/

/-- A step that changes the hardware only. -/
def onHw (s : State) (f : Hw → Hw) : Host.Outcome State Fault Refusal := .next { s with hw := f s.hw }

/-- The idle step: one NET clock of 8 ns passes (log 1). -/
def idle (s : State) : State := { s with hw := s.hw.pass 8 }

/-- A fresh free value's number: the counter advances (log 3). -/
def Hw.bump (h : Hw) : Hw := { h with free := h.free + 1 }

end Sys2Proof.Machine
end

