-- ==== Sys2Proof/Machine/Operands.lean ====
section
/-! DEFINITION. The operand forms of the Kyoquel instructions and the register, condition and commit-word operations on
one core (spec/05, 06 and 07). -/

namespace Sys2Proof.Machine

/-! ## General registers (R152) -/

/-- Reads k[r]; k0 reads 0. -/
def Cpu.rd (c : Cpu) (r : Reg) : Word := if r = 0#5 then 0#32 else tget 0#32 c.k r.toNat

/-- Writes k[r]; a write to k0 is discarded. -/
def Cpu.wr (c : Cpu) (r : Reg) (v : Word) : Cpu := if r = 0#5 then c else { c with k := tset 0#32 c.k r.toNat v }

/-- The odd register of an even pair (R188). -/
def regSucc (r : Reg) : Reg := r + 1#5

/-! ## Operand forms -/

/-- A sign-extended 15-bit immediate. -/
def sxImm (i : BitVec 15) : Word := i.signExtend 32

/-- A zero-extended 15-bit immediate. -/
def zxImm (i : BitVec 15) : Word := i.setWidth 32

/-- k[rs1] + sext(disp15): the effective address of loads and stores (R187), the bit address of BIT and EDGE (R191). -/
def Cpu.ea (c : Cpu) (rs1 : Reg) (d : BitVec 15) : Word := c.rd rs1 + sxImm d

/-- A pair of words as pt of TEVX: k[rs2 + 1][7:0] ‖ k[rs2]; 0 for rs2 = 0 (Table 7-15). -/
def Cpu.pt40 (c : Cpu) (rs2 : Reg) : Nat :=
  if rs2 = 0#5 then 0 else (c.rd rs2).toNat + ((c.rd (regSucc rs2)).toNat % 256) * 2 ^ 32

/-! ## Status fields -/

/-- PSR.PL. -/
def Cpu.pl (c : Cpu) : Nat := bitsOf c.psr.toNat 0 2
/-- PSR.IE. -/
def Cpu.ie (c : Cpu) : Bool := c.psr.getLsbD 2
/-- PSR.INEXC. -/
def Cpu.inexc (c : Cpu) : Bool := c.psr.getLsbD 3
/-- PSR.NMIACT. -/
def Cpu.nmiact (c : Cpu) : Bool := c.psr.getLsbD 4
/-- PSR.SPLIT. -/
def Cpu.isSplit (c : Cpu) : Bool := c.psr.getLsbD 5
/-- PSR.SUPCORE. -/
def Cpu.isSup (c : Cpu) : Bool := c.psr.getLsbD 7

/-- A status word from its fields: PL, IE, INEXC, NMIACT, and the identity bits 7:5 of `idw`. -/
def psrOf (pl : Nat) (ie inexc nmi : Bool) (idw : Word) : Word :=
  w32 (pl % 4 + b2n ie * 4 + b2n inexc * 8 + b2n nmi * 16 + bitsOf idw.toNat 5 3 * 32)

/-! ## Commits (R128, R182, Table 5-1) -/

/-- One fold of a commit word into the marigold (R128). -/
def fold (m w : BitVec 64) : BitVec 64 :=
  (if m.getLsbD 63 then (m <<< 1) ^^^ 0x1B#64 else m <<< 1) ^^^ w

/-- The condition bits and accumulator as bits 40:32 of a commit word. -/
def Cpu.flags (c : Cpu) : Nat := c.c.toNat + b2n c.acc * 256

/-- A commit word: bits 31:0, bits 40:32, bits 45:41, kind in 47:46, instruction address bits 17:2 in 63:48. -/
def cword (lo mid dest kind : Nat) (pc : Word) : BitVec 64 :=
  BitVec.ofNat 64 (lo % 2 ^ 32 + mid % 512 * 2 ^ 32 + dest % 32 * 2 ^ 41 + kind % 4 * 2 ^ 46 + bitsOf pc.toNat 2 16 * 2 ^ 48)

/-- Folds commit words and counts `n` commits. -/
def Cpu.commit (c : Cpu) (ws : List (BitVec 64)) (n : Nat) : Cpu :=
  { c with mg := ws.foldl fold c.mg, commits := c.commits + n }

/-- A register-result commit of the instruction at `pc`, flags as after the instruction. -/
def Cpu.commitReg (c : Cpu) (pc : Word) (dest : Reg) (v : Word) : Cpu :=
  c.commit [cword (if dest = 0#5 then 0 else v.toNat) c.flags dest.toNat 0 pc] 1

/-- A branch commit: the next address and the link register. -/
def Cpu.commitBr (c : Cpu) (pc : Word) (next : Word) (link : Nat) : Cpu :=
  c.commit [cword next.toNat c.flags link 2 pc] 1

/-- A store commit: data and address words. The byte enables are those of the addressed 4-byte word. -/
def Cpu.commitSt (c : Cpu) (pc a : Word) (n : Nat) (data : Nat) : Cpu :=
  c.commit [cword data c.flags 0 1 pc, cword a.toNat (((2 ^ n - 1) * 2 ^ (a.toNat % 4)) % 16) 0 1 pc] 1

/-- A coprocessor-request commit: slot, function, both operands, destination. -/
def Cpu.commitCop (c : Cpu) (pc : Word) (slot func : Nat) (a b : Word) (dest : Nat) : Cpu :=
  c.commit [cword a.toNat c.flags (slot % 16) 3 pc, cword b.toNat func dest 3 pc] 1

/-- The pc after an instruction that does not branch. -/
def Cpu.next (c : Cpu) : Cpu := { c with pc := c.pc + 4#32 }

/-- A register result: k[rd] := v, the commit, and the next pc. -/
def Cpu.result (c : Cpu) (rd : Reg) (v : Word) : Cpu := ((c.wr rd v).commitReg c.pc rd v).next

/-! ## Control registers (Table 6-4) -/

/-- The value of control register `n` where Table 6-4 defines it. -/
def Cpu.cr (c : Cpu) : Nat → Option Word
  | 0 => some c.psr | 1 => some c.epc | 2 => some c.ecause | 3 => some c.eaddr | 4 => some c.einsn | 5 => some c.epsr
  | 6 => some c.vbase | 7 => some c.trapcfg | 8 => some c.stkLo | 9 => some c.stkHi | 10 => some c.crcctl
  | 11 => some c.taskid | 12 => some c.scratch0 | 13 => some c.scratch1 | 16 => some c.fpcsr
  | 20 => some 0x48000001#32
  | 22 => if c.isSup then some c.nepc else none
  | 23 => if c.isSup then some c.nepsr else none
  | 24 => if c.isSup then some c.ipend else none
  | 25 => if c.isSup then some c.imask else none
  | _ => none

/-- Whether control register `n` may be read at the core's level (Table 6-4; the SUP core reads every one it has). -/
def Cpu.crReadable (c : Cpu) (n : Nat) : Bool := c.isSup || 1 ≤ c.pl || !(decide (n ∈ [1, 2, 3, 4, 5, 12, 13]))

/-- Whether control register `n` may be written at the core's level (Table 6-4, R197). On the SUP core cr0, the
registers that HANDLER may write, cr22, cr23 and cr25 are writable. -/
def Cpu.crWritable (c : Cpu) (n : Nat) : Bool :=
  if n = 10 || n = 16 then true
  else if c.isSup then decide (n ∈ [0, 1, 5, 7, 12, 13, 22, 23, 25])
  else if 1 ≤ c.pl then decide (n ∈ [1, 5, 7, 12, 13])
  else false

/-- Writes control register `n`; reserved bits are written as 0 (Table 7-13). On the SUP core a write of cr0 writes only
IE (R197); a write of EPSR writes only bits 3:0 (R160); VBASE and the read-only registers keep their value. -/
def Cpu.setCr (c : Cpu) (n : Nat) (v : Word) : Cpu :=
  match n with
  | 0 => if c.isSup then { c with psr := (c.psr &&& ~~~4#32) ||| (v &&& 4#32) } else c
  | 1 => { c with epc := v }
  | 5 => { c with epsr := (c.epsr &&& 0xF0#32) ||| (v &&& 0xF#32) }
  | 7 => { c with trapcfg := v &&& 1#32 }
  | 10 => { c with crcctl := v &&& 3#32 }
  | 12 => { c with scratch0 := v }
  | 13 => { c with scratch1 := v }
  | 16 => { c with fpcsr := v &&& 0x1F1F03#32 }
  | 22 => if c.isSup then { c with nepc := v } else c
  | 23 => if c.isSup then { c with nepsr := v &&& 0xFF#32 } else c
  | 25 => if c.isSup then { c with imask := v &&& 0xFFF#32 } else c
  | _ => c

end Sys2Proof.Machine
end

