-- ==== Sys2Proof/Machine/Flags.lean ====
section
/-! DEFINITION. Condition bits and the accumulator (R154), the compare relations (R185), and the binary32 arithmetic of
COP1 with its FPCSR flags (R198). -/

namespace Sys2Proof.Machine

/-! ## Condition bits -/

/-- Reads c[i]. -/
def Cpu.cb (c : Cpu) (i : CBit) : Bool := c.c.getLsbD i.toNat

/-- Writes c[i]. -/
def Cpu.setC (c : Cpu) (i : CBit) (b : Bool) : Cpu :=
  { c with c := BitVec.ofNat 8 (setBitsOf c.c.toNat i.toNat 1 (b2n b)) }

/-- The six relations of Table 7-7. -/
inductive Rel where
  | eq | ne | lt | ge | ltu | geu
  deriving DecidableEq, Repr

/-- A relation between two words. -/
def Rel.holds : Rel → Word → Word → Bool
  | .eq, a, b => a == b
  | .ne, a, b => !(a == b)
  | .lt, a, b => a.slt b
  | .ge, a, b => !(a.slt b)
  | .ltu, a, b => a.ult b
  | .geu, a, b => !(a.ult b)

/-! ## Binary32 -/

/-- The exception flags an operation raises: NX, UF, OF, DZ, NV are bits 0 to 4 (FPCSR bits 8 to 12). -/
structure FpFlags where
  nx : Bool := false
  uf : Bool := false
  of : Bool := false
  dz : Bool := false
  nv : Bool := false
  deriving DecidableEq, Repr

/-- A finite nonzero magnitude m × 2^e with its sign, or a special. -/
inductive Fp where
  | zero (s : Bool)
  | fin (s : Bool) (m : Nat) (e : Int)
  | inf (s : Bool)
  | nan (signalling : Bool)
  deriving DecidableEq, Repr

/-- The quiet NaN every NaN result is (R198). -/
def qnan : Word := 0x7FC00000#32

/-- Unpacks a binary32 pattern. -/
def Fp.of (w : Word) : Fp :=
  let n := w.toNat
  let s := n.testBit 31
  let e := bitsOf n 23 8
  let f := bitsOf n 0 23
  if e = 255 then (if f = 0 then .inf s else .nan (!(f.testBit 22)))
  else if e = 0 then (if f = 0 then .zero s else .fin s f (-149))
  else .fin s (f + 2 ^ 23) ((e : Int) - 150)

/-- Sign bit 31. -/
def signBit (s : Bool) : Nat := b2n s * 2 ^ 31

/-- The number of significant bits of a natural number. -/
def bitLen (n : Nat) : Nat := if n = 0 then 0 else Nat.log2 n + 1

/-- Whether a truncated magnitude is incremented: `rm` 0 nearest even, 1 toward zero, 2 toward −∞, 3 toward +∞; `odd` the
last kept bit, `rem` against `half` the discarded part. -/
def roundUp (rm : Nat) (s odd : Bool) (rem half : Nat) : Bool :=
  match rm with
  | 0 => decide (rem > half) || (decide (rem = half) && odd)
  | 1 => false
  | 2 => s && decide (rem > 0)
  | _ => !s && decide (rem > 0)

/-- Discards `sh` low bits of `m`, rounding; answers the rounded value and whether it is inexact. -/
def roundShift (rm : Nat) (s : Bool) (m sh : Nat) : Nat × Bool :=
  let q := m / 2 ^ sh
  let r := m % 2 ^ sh
  (q + b2n (sh != 0 && roundUp rm s (q % 2 == 1) r (2 ^ sh / 2)), r != 0)

/-- Rounds the exact magnitude m × 2^e, m ≠ 0 (`sticky`: plus something positive below its last bit), to a pattern with
its flags; tininess is detected after rounding (R198). -/
def fpRound (rm : Nat) (s : Bool) (m0 : Nat) (e0 : Int) (sticky : Bool) : Word × FpFlags :=
  -- widen so that the sticky bit lies below every rounding position
  let m := m0 * 2 ^ 30 + b2n sticky
  let e := e0 - 30
  let len : Int := bitLen m
  -- exponent of the unit in the last place of a 24-bit result, and with the subnormal limit
  let ulpN := e + len - 24
  let ulp := if ulpN < -149 then -149 else ulpN
  let sh := (ulp - e).toNat
  let r := roundShift rm s m sh
  let up := if ulp < e then m * 2 ^ (e - ulp).toNat else r.1
  let inexact := if ulp < e then false else r.2
  let v := up
  -- rounding to 24 bits with unbounded exponent, for tininess after rounding
  let rN := roundShift rm s m (ulpN - e).toNat
  let tiny := ulpN < -149 && !(decide (ulpN = -150) && decide (rN.1 ≥ 2 ^ 24))
  let v2 := if v = 2 ^ 24 then 2 ^ 23 else v
  let ulp2 := if v = 2 ^ 24 then ulp + 1 else ulp
  if v2 = 0 then (w32 (signBit s), { nx := inexact, uf := inexact })
  else if v2 < 2 ^ 23 then (w32 (signBit s + v2), { nx := inexact, uf := inexact && tiny })
  else
    let be := ulp2 + 150
    if be ≥ 255 then
      let toInf := rm = 0 || (rm = 2 && s) || (rm = 3 && !s)
      (w32 (signBit s + if toInf then 0x7F800000 else 0x7F7FFFFF), { nx := true, of := true })
    else (w32 (signBit s + be.toNat * 2 ^ 23 + (v2 - 2 ^ 23)), { nx := inexact, uf := inexact && tiny })

/-- NaN results: quiet NaN, NV where an operand signals. -/
def fpNan (x y : Fp) : Word × FpFlags :=
  (qnan, { nv := decide (x = .nan true) || decide (y = .nan true) })

/-- Whether an operand is a NaN. -/
def Fp.isNan : Fp → Bool
  | .nan _ => true
  | _ => false

/-- Whether an operand is a signalling NaN. -/
def Fp.isSnan : Fp → Bool
  | .nan s => s
  | _ => false

/-- An invalid operation. -/
def fpInvalid : Word × FpFlags := (qnan, { nv := true })

/-- Addition of unpacked operands. -/
def fpAdd (rm : Nat) (x y : Fp) : Word × FpFlags :=
  match x, y with
  | .nan _, _ => fpNan x y
  | _, .nan _ => fpNan x y
  | .inf a, .inf b => if a = b then (w32 (signBit a + 0x7F800000), {}) else fpInvalid
  | .inf a, _ => (w32 (signBit a + 0x7F800000), {})
  | _, .inf b => (w32 (signBit b + 0x7F800000), {})
  | .zero a, .zero b => (w32 (signBit (if a = b then a else rm == 2)), {})
  | .zero _, .fin s m e => fpRound rm s m e false
  | .fin s m e, .zero _ => fpRound rm s m e false
  | .fin s m e, .fin t n f =>
    let g := min e f
    let a : Int := (m * 2 ^ (e - g).toNat : Nat)
    let b : Int := (n * 2 ^ (f - g).toNat : Nat)
    let v := (if s then -a else a) + (if t then -b else b)
    if v = 0 then (w32 (signBit (rm == 2)), {}) else fpRound rm (decide (v < 0)) v.natAbs g false

/-- The opposite sign. -/
def Fp.neg : Fp → Fp
  | .zero s => .zero (!s)
  | .fin s m e => .fin (!s) m e
  | .inf s => .inf (!s)
  | .nan q => .nan q

/-- The sign of an operand that is no NaN. -/
def Fp.sign : Fp → Bool
  | .zero s => s | .fin s _ _ => s | .inf s => s | .nan _ => false

/-- Multiplication. -/
def fpMul (rm : Nat) (x y : Fp) : Word × FpFlags :=
  let s := x.sign != y.sign
  match x, y with
  | .nan _, _ => fpNan x y
  | _, .nan _ => fpNan x y
  | .inf _, .zero _ => fpInvalid
  | .zero _, .inf _ => fpInvalid
  | .inf _, _ => (w32 (signBit s + 0x7F800000), {})
  | _, .inf _ => (w32 (signBit s + 0x7F800000), {})
  | .zero _, _ => (w32 (signBit s), {})
  | _, .zero _ => (w32 (signBit s), {})
  | .fin _ m e, .fin _ n f => fpRound rm s (m * n) (e + f) false

/-- Division. -/
def fpDiv (rm : Nat) (x y : Fp) : Word × FpFlags :=
  let s := x.sign != y.sign
  match x, y with
  | .nan _, _ => fpNan x y
  | _, .nan _ => fpNan x y
  | .inf _, .inf _ => fpInvalid
  | .zero _, .zero _ => fpInvalid
  | .inf _, _ => (w32 (signBit s + 0x7F800000), {})
  | _, .inf _ => (w32 (signBit s), {})
  | .zero _, _ => (w32 (signBit s), {})
  | _, .zero _ => (w32 (signBit s + 0x7F800000), { dz := true })
  | .fin _ m e, .fin _ n f => fpRound rm s (m * 2 ^ 60 / n) (e - f - 60) (m * 2 ^ 60 % n != 0)

/-- The integer square root by `n` bit decisions from bit n − 1 down, starting at `r`. -/
def isqrtGo (v : Nat) : Nat → Nat → Nat
  | 0, r => r
  | n + 1, r => isqrtGo v n (if (r + 2 ^ n) * (r + 2 ^ n) ≤ v then r + 2 ^ n else r)

/-- Square root. -/
def fpSqrt (rm : Nat) (x : Fp) : Word × FpFlags :=
  match x with
  | .nan _ => fpNan x x
  | .zero s => (w32 (signBit s), {})
  | .inf s => if s then fpInvalid else (0x7F800000#32, {})
  | .fin true _ _ => fpInvalid
  | .fin false m e =>
    let odd := e % 2 != 0
    let m2 := (if odd then m * 2 else m) * 2 ^ 60
    let e2 := (if odd then e - 1 else e) - 60
    let r := isqrtGo m2 44 0
    fpRound rm false r (e2 / 2) (r * r != m2)

/-- Less-than of operands that are no NaN; zeros compare equal. -/
def Fp.lt (x y : Fp) : Bool :=
  match x, y with
  | .inf s, .inf t => s && !t
  | .inf s, _ => s
  | _, .inf t => !t
  | _, _ =>
    let v : Fp → Int × Int := fun | .fin s m e => (if s then -(m : Int) else m, e) | _ => (0, 0)
    let a := v x
    let b := v y
    let g := min a.2 b.2
    decide (a.1 * 2 ^ (a.2 - g).toNat < b.1 * 2 ^ (b.2 - g).toNat)

/-- Equality of operands that are no NaN. -/
def Fp.eqv (x y : Fp) : Bool := !x.lt y && !y.lt x

/-- Minimum (`mx` false) or maximum: −0 below +0, one NaN gives the other operand, NV only for a signalling NaN. -/
def fpMinMax (mx : Bool) (a b : Word) : Word × FpFlags :=
  let x := Fp.of a
  let y := Fp.of b
  let fl : FpFlags := { nv := x.isSnan || y.isSnan }
  if x.isNan && y.isNan then (qnan, fl)
  else if x.isNan then (b, fl)
  else if y.isNan then (a, fl)
  else
    let less := x.lt y || (x.eqv y && x.sign && !y.sign)
    (if less != mx then a else b, fl)

/-- A signed integer to binary32. -/
def fpOfInt (rm : Nat) (i : Int) : Word × FpFlags :=
  if i = 0 then (0#32, {}) else fpRound rm (decide (i < 0)) i.natAbs 0 false

/-- A finite value rounded to an integer, with whether it is inexact. -/
def fpToInt (rm : Nat) (s : Bool) (m : Nat) (e : Int) : Int × Bool :=
  if e ≥ 0 then let v : Int := (m * 2 ^ e.toNat : Nat); (if s then -v else v, false)
  else
    let r := roundShift rm s m (-e).toNat
    (if s then -(r.1 : Int) else (r.1 : Int), r.2)

/-- Binary32 to an integer range, saturating: NaN gives 0; NV on NaN or out of range (Table 7-14). -/
def fpToRange (rm : Nat) (lo hi : Int) (x : Fp) : Word × FpFlags :=
  match x with
  | .nan _ => (0#32, { nv := true })
  | .inf s => (wInt (if s then lo else hi), { nv := true })
  | .zero _ => (0#32, {})
  | .fin s m e =>
    -- magnitudes of 2^40 and above saturate without building the number
    if e > 40 then (wInt (if s then lo else hi), { nv := true })
    else
      let r := fpToInt rm s m e
      if r.1 < lo then (wInt lo, { nv := true })
      else if r.1 > hi then (wInt hi, { nv := true })
      else (wInt r.1, { nx := r.2 })

/-- FCLASS: one bit set (Table 7-14). -/
def fpClass (w : Word) : Word :=
  let n := w.toNat
  match Fp.of w with
  | .inf s => if s then 1#32 else 0x80#32
  | .zero s => if s then 8#32 else 0x10#32
  | .nan sg => if sg then 0x100#32 else 0x200#32
  | .fin s _ _ => if bitsOf n 23 8 = 0 then (if s then 4#32 else 0x20#32) else (if s then 2#32 else 0x40#32)

/-- The flags as FPCSR bits 12:8. -/
def FpFlags.bits (f : FpFlags) : Nat :=
  b2n f.nx + b2n f.uf * 2 + b2n f.of * 4 + b2n f.dz * 8 + b2n f.nv * 16

/-- The first enabled flag in the order NV, DZ, OF, UF, NX, as its FPCSR bit number (R198). -/
def FpFlags.trapBit (f : FpFlags) (en : Nat) : Option Nat :=
  if f.nv && en.testBit 4 then some 12
  else if f.dz && en.testBit 3 then some 11
  else if f.of && en.testBit 2 then some 10
  else if f.uf && en.testBit 1 then some 9
  else if f.nx && en.testBit 0 then some 8
  else none

/-- FPCSR.RM. -/
def Cpu.rm (c : Cpu) : Nat := bitsOf c.fpcsr.toNat 0 2

/-- FPCSR.EN. -/
def Cpu.fpEn (c : Cpu) : Nat := bitsOf c.fpcsr.toNat 16 5

/-- Sets the sticky flags an operation raised. -/
def Cpu.setFp (c : Cpu) (f : FpFlags) : Cpu := { c with fpcsr := c.fpcsr ||| w32 (f.bits * 256) }

end Sys2Proof.Machine
end

