-- ==== Sys2Proof/Machine/Cores.lean ====
section
/-! DEFINITION. The execution pairs' shared operations: dispatch targets, the undo log (R139 to R141), held items (R136,
R137), the core view and its access checks (R20, R70, R90), rollback (R93, R142), the timer table (R86), the requests a
core makes and their answers. -/

namespace Sys2Proof.Machine

/-! ## Accessors -/

def Hw.cpu (h : Hw) (i : Nat) : Cpu := tget {} h.exe.cpus i
def Hw.setCpu (h : Hw) (i : Nat) (c : Cpu) : Hw := { h with exe := { h.exe with cpus := tset {} h.exe.cpus i c } }
def Hw.tgt (h : Hw) (i : Nat) : Target := tget {} h.exe.tgts i
def Hw.setTgt (h : Hw) (i : Nat) (t : Target) : Hw := { h with exe := { h.exe with tgts := tset {} h.exe.tgts i t } }
def Hw.cyc (h : Hw) (t : Nat) : Cycle := tget {} h.tsk.cycles t
def Hw.setCyc (h : Hw) (t : Nat) (c : Cycle) : Hw := { h with tsk := { h.tsk with cycles := tset {} h.tsk.cycles t c } }
def Hw.timer (h : Hw) (i : Nat) : Timer := tget {} h.tsk.timers i
def Hw.setTimer (h : Hw) (i : Nat) (e : Timer) : Hw := { h with tsk := { h.tsk with timers := tset {} h.tsk.timers i e } }
def Hw.primeOf (h : Hw) (i : Nat) : Bool := tget false h.tsk.prime i
def Hw.setPrime (h : Hw) (i : Nat) (b : Bool) : Hw := { h with tsk := { h.tsk with prime := tset false h.tsk.prime i b } }
def Hw.heldOf (h : Hw) (p : Nat) : List Held := tget [] h.exe.held p
def Hw.cache (h : Hw) (i : Nat) : Caches := tget {} h.exe.caches i
def Hw.setCache (h : Hw) (i : Nat) (c : Caches) : Hw := { h with exe := { h.exe with caches := tset {} h.exe.caches i c } }

/-- The task's STATE field (TSK_Tn_STAT). -/
def Hw.tstate (h : Hw) (t : Nat) : Nat := h.fget (R.TSK_Tn_STAT_STATE t)
/-- A pair that has a task running during a stretch enters its mask (R32). -/
def Hw.stretchPair (h : Hw) (p : Nat) : Hw := { h with sup := { h.sup with stretchMask := h.sup.stretchMask ||| 2 ^ p } }

def Hw.setTstate (h : Hw) (t v : Nat) : Hw :=
  let h1 := h.fset (R.TSK_Tn_STAT_STATE t) v
  if v = 3 && h.fbit R.SUP_DROOP_STATUS_STRETCH then h1.stretchPair (h.fget (R.TSK_Tn_CTRL_EP t)) else h1

/-- The profile in force on pair `n` (Table 2-7): 0 TIGHT, 1 BALANCED, 2 WIDE, 3 SPLIT. -/
def Hw.profile (h : Hw) (n : Nat) : Nat := h.fget (R.CMP_EPn_STATUS_PROFILE n)
def Hw.split (h : Hw) (n : Nat) : Bool := h.profile n == 3

/-- The dispatch target of task `t` (R68). -/
def Hw.targetOf (h : Hw) (t : Nat) : Nat :=
  let ep := h.fget (R.TSK_Tn_CTRL_EP t)
  2 * ep + if h.split ep then h.fget (R.TSK_Tn_CTRL_SIDE t) else 0

/-- The window length in commits of a profile (Table 2-7). -/
def windowLen : Nat → Nat
  | 0 => 64
  | 1 => 1024
  | _ => 16384

/-- Whether an entry takes held-queue space (a check-in takes none, R136). -/
def Held.takes : Held → Bool
  | .check _ => false
  | _ => true

/-- The task of a held item. -/
def Held.task : Held → Nat
  | .exch t _ _ _ => t
  | .post t _ _ _ _ => t
  | .check t => t

/-- Puts pair `p`'s held items, with CMP_EPn_HELD.USED and HIGH. -/
def Hw.setHeld (h : Hw) (p : Nat) (l : List Held) : Hw :=
  let n := (l.filter Held.takes).length
  let h1 := { h with exe := { h.exe with held := tset [] h.exe.held p l } }
  (h1.fset (R.CMP_EPn_HELD_USED p) n).fset (R.CMP_EPn_HELD_HIGH p) (max n (h1.fget (R.CMP_EPn_HELD_HIGH p)))

/-- Discards the held items of task `t` on pair `p`. -/
def Hw.dropHeld (h : Hw) (p t : Nat) : Hw := h.setHeld p ((h.heldOf p).filter (fun x => x.task != t))

/-- Puts target `i`'s undo log, with CMP_EPn_UNDO.USED and HIGH (the lead side's on a SPLIT pair). -/
def Hw.setUndo (h : Hw) (i : Nat) (l : List Undo) : Hw :=
  let h1 := h.setTgt i { h.tgt i with undo := l }
  if i % 2 = 1 then h1
  else (h1.fset (R.CMP_EPn_UNDO_USED (i / 2)) l.length).fset (R.CMP_EPn_UNDO_HIGH (i / 2))
    (max l.length (h1.fget (R.CMP_EPn_UNDO_HIGH (i / 2))))

/-- Whether `n` bytes at `a` lie inside a range (start, size). -/
def within (r : Nat × Nat) (a n : Nat) : Bool := r.1 ≤ a && a + n ≤ r.1 + r.2

/-! ## The caches (R126) -/

/-- Whether a core-view address is cached (R169): code SRAM and data SRAM. -/
def cacheable (a : Nat) : Bool := a < 0x01000000 || (0x10000000 ≤ a && a < 0x10800000)

/-- The cache line of a core-view address. -/
def lineOf (a : Nat) : Nat := a / 64

/-- Line `l` enters a cache of 512 lines (32 KiB); at a full cache another one gives way (log 116). -/
def cacheFill (core l : Nat) (xs : List Nat) : List Nat :=
  if xs.contains l then xs else l :: (if xs.length < 512 then xs else xs.eraseIdx (Config.cacheVictim core l % 512))

/-- Lines out of a core's caches. -/
def Caches.drop (ls : List Nat) (c : Caches) : Caches :=
  { icode := c.icode.filter (fun l => !ls.contains l), data := c.data.filter (fun l => !ls.contains l),
    own := c.own.filter (fun p => !ls.contains (lineOf p.1)), one := c.one.filter (fun l => !ls.contains l),
    two := c.two.filter (fun l => !ls.contains l) }

/-- The task fabric invalidates the lines of `n` bytes at core-view address `a` in the caches of every core but those of pair `keep`
(R169). -/
def Hw.inval (h : Hw) (keep : Option Nat) (a n : Nat) : Hw :=
  let ls := (List.range ((a + n - 1) / 64 - a / 64 + 1)).map (· + a / 64)
  { h with exe := { h.exe with caches := (h.exe.caches.map (fun (p : Nat × Caches) =>
      if keep = some (p.1 / 2) then p else (p.1, p.2.drop ls))).filter (fun p => p.2 != {}) } }

/-- A write of `n` bytes at supervisor address `a` by another master than a core invalidates the lines that it touches (R169). -/
def Hw.invalSup (h : Hw) (a n : Nat) : Hw :=
  if within (codeBase, 0x1000000) a n then h.inval none (a - codeBase) n
  else if within (dataBase, 0x800000) a n then h.inval none (a - dataBase + 0x10000000) n
  else h

/-! ## The undo log -/

/-- The contents an undo entry of `kind` and `group` would keep (Table 5-3). -/
def Hw.undoOld (h : Hw) (kind group : Nat) : Nat :=
  match kind with
  | 0 => h.ml (dataBase + group * 8) 8
  | 1 => h.ml (retBase + group * 8) 8
  | 2 => let e := h.timer (group / 2)
    if group % 2 = 0 then e.w0 + e.w1 * 2 ^ 32 else e.w2 + e.w3 * 2 ^ 32
  | _ => b2n (h.primeOf group)

/-- Writes an undo entry's old contents back. -/
def Hw.undoPut (h : Hw) (u : Undo) : Hw :=
  match u.kind with
  | 0 => (h.setMl (dataBase + u.group * 8) 8 u.old).inval none (0x10000000 + u.group * 8) 8
  | 1 => h.setMl (retBase + u.group * 8) 8 u.old
  | 2 => let e := h.timer (u.group / 2)
    h.setTimer (u.group / 2)
      (if u.group % 2 = 0 then { e with w0 := u.old % 2 ^ 32, w1 := u.old / 2 ^ 32 }
       else { e with w2 := u.old % 2 ^ 32, w3 := u.old / 2 ^ 32 })
  | _ => h.setPrime u.group (u.old % 2 == 1)

/-- The log's capacity: 4,096 entries of a lockstep pair (R139), 2,048 of a SPLIT core (R134). -/
def Hw.undoCap (h : Hw) (i : Nat) : Nat := if h.split (i / 2) then 2048 else 4096

/-- Removes the segment of task `t` without writing it back: the task agreed (R140). -/
def Hw.dropSegment (h : Hw) (i t : Nat) : Hw :=
  let h1 := h.setUndo i ((h.tgt i).undo.filter (fun u => u.task != t))
  h1.setTgt i { h1.tgt i with filter := [] }

/-- Writes back every entry of target `i`'s log, the top segment first (R93); a log that cannot be read gives nothing (R143, log 118). -/
def Hw.rollAll (h : Hw) (i : Nat) : Hw :=
  let l := if (h.tgt i).undoBad then [] else (h.tgt i).undo
  (l.foldl (fun h u => h.undoPut u) h).setUndo i []

/-! ## The core view -/

/-- The first byte and size of task `t`'s input and output windows in the core view (Table 3-5). -/
def Hw.inWin (h : Hw) (t : Nat) : Nat × Nat :=
  let d := imgBase + t * 32
  (0x20000000 + bitsOf (h.ml d 4) 0 10 * 64, bitsOf (h.ml d 4) 16 9 * 64)
def Hw.outWin (h : Hw) (t : Nat) : Nat × Nat :=
  let d := imgBase + t * 32
  (0x20000000 + bitsOf (h.ml (d + 4) 4) 0 10 * 64, bitsOf (h.ml (d + 4) 4) 16 8 * 64)

/-- The exchange area that holds address `a`, by index (R137). -/
def exchOf (es : List ExchRow) (a : Nat) : Option (Nat × ExchRow) :=
  ((es.zipIdx).find? (fun p => within (p.1.start, p.1.lines * 64) a 1)).map (fun p => (p.2, p.1))

/-- Whether retain line `l` belongs to task `t` (TSK_Tn_RETAIN). -/
def Hw.ownsLine (h : Hw) (t l : Nat) : Bool :=
  let f := h.fget (R.TSK_Tn_RETAIN_RET_FIRST t)
  f ≤ l && l < f + h.fget (R.TSK_Tn_RETAIN_RET_LINES t)

/-- Why a load of `n` bytes at `a` by task `t` is refused, as a detail of Table 6-7. -/
def Hw.loadFault (h : Hw) (t a n : Nat) : Option Nat :=
  if a + n ≤ 0x01000000 then none
  else if 0x10000000 ≤ a && a + n ≤ 0x10800000 then none
  else if 0x20000000 ≤ a && a + n ≤ 0x20001000 then none
  else if 0x20001000 ≤ a && a + n ≤ 0x20010000 then
    if within (h.inWin t) a n || within (h.outWin t) a n then none else some 4
  else if 0x21000000 ≤ a && a + n ≤ 0x21040000 then none
  else if 0x40000000 ≤ a && a < 0x400C0000 then if n = 4 then none else some 3
  else some 1

/-- Why a store of `n` bytes at `a` by task `t` is refused (`split`: by a SPLIT core), as a detail of Table 6-7. -/
def Hw.storeFault (h : Hw) (split : Bool) (t a n : Nat) : Option Nat :=
  if a + n ≤ 0x01000000 then some 7
  else if 0x10000000 ≤ a && a + n ≤ 0x10800000 then
    match exchOf h.prog.exch a with
    | none => none
    | some (_, e) => if split && e.safety then some 6 else if e.task != t then some 8 else none
  else if 0x20000000 ≤ a && a + n ≤ 0x20010000 then if within (h.outWin t) a n then none else some 4
  else if 0x21000000 ≤ a && a + n ≤ 0x21040000 then
    if h.ownsLine t ((a - 0x21000000) / 64) then none else some 5
  else if 0x40000000 ≤ a && a < 0x400C0000 then some 2
  else some 1

/-- The MCHECK detail of a byte region (Table 6-7), where a group holds an uncorrectable error. -/
def Hw.poisoned (h : Hw) (a : Nat) : Option Nat :=
  if h.exe.poison.contains (coreToSup a / 8) then
    some (if a < 0x01000000 then 1 else if a < 0x20000000 then 2 else 3)
  else none

/-- A byte of the core view as task `t` on pair `p` reads it: its own held bytes over memory (R137), the status page from
its cycle, the force status and the retain status that boot left (Table 3-3, R101). -/
def Hw.viewByte (h : Hw) (p t a : Nat) : Byte :=
  let base := h.mb (coreToSup a)
  if 0x20000400 ≤ a && a < 0x20000404 then byteOf (h.cyc t).status (a - 0x20000400)
  else if 0x20000404 ≤ a && a < 0x20000408 then
    byteOf (w32 (h.fget R.TSK_FORCE_STATUS_LANTERN + h.fget R.TSK_FORCE_STATUS_COUNT * 2 ^ 16)) (a - 0x20000404)
  else if 0x20000408 ≤ a && a < 0x2000040C then byteOf h.tsk.retBoot (a - 0x20000408)
  else
    (h.heldOf p).foldl (fun b x => match x with
      | .exch t' g be d =>
        if t' = t && (g = a / 8) && be.testBit (a % 8) then BitVec.ofNat 8 (d / 2 ^ (8 * (a % 8))) else b
      | _ => b) base

/-- `n` bytes from `a` upward as task `t` reads them, little-endian. -/
def Hw.viewNat (h : Hw) (p t a n : Nat) : Nat :=
  leNat ((List.range n).map (fun i => h.viewByte p t (a + i)))

/-- The 64-bit merge of `n` bytes of `v` at byte `o` into `d`. -/
def mergeBytes (d o n v : Nat) : Nat := setBitsOf d (8 * o) (8 * n) v

/-- Enters a store into the held-store queue: merges into the task's entry of the group or takes a new one. -/
def heldPut (t g o n v : Nat) : List Held → List Held
  | [] => [.exch t g ((2 ^ n - 1) * 2 ^ o) (mergeBytes 0 o n v)]
  | .exch t' g' be d :: r =>
    if t' = t && g' = g then .exch t g (be ||| ((2 ^ n - 1) * 2 ^ o)) (mergeBytes d o n v) :: r
    else .exch t' g' be d :: heldPut t g o n v r
  | x :: r => x :: heldPut t g o n v r

/-- Whether the task already holds the group. -/
def heldHas (t g : Nat) (l : List Held) : Bool :=
  l.any (fun x => match x with | .exch t' g' _ _ => t' == t && g' == g | _ => false)

/-! ## Requests and answers -/

/-- An exception with its cause (vector slot), detail, EADDR, whether EPC is the next instruction (R160), and whether a
machine check met the instruction's own fetch. -/
structure Trap where
  cause : Nat
  detail : Nat := 0
  eaddr : Word := 0#32
  next : Bool := false
  fetch : Bool := false
  deriving DecidableEq, Repr

/-- What a write-kind bit instruction stores (Table 7-11). -/
inductive BitOp where
  | put (b : Bool) | toggle | keep
  deriving DecidableEq, Repr

/-- The bit a write-kind instruction stores over `old`. -/
def BitOp.apply : BitOp → Bool → Bool
  | .put b, _ => b
  | .toggle, o => !o
  | .keep, o => o

/-- The timer functions of Table 7-15. -/
inductive TmrOp where
  | eval (inp : Bool) (pt : Nat) | high | reset | word0
  deriving DecidableEq, Repr

/-- What leaves a core (R125): only the lead's request is performed. -/
inductive Req where
  | none
  | load (a : Word) (n : Nat)
  | store (a : Word) (n v : Nat)
  | bitLoad (ba : Word)
  | bitStore (ba : Word) (op : BitOp)
  | edge (ba : Word) (cur : Bool)
  | timer (x : Word) (op : TmrOp)
  | fstat
  | fqry (x : Word)
  | irec (x : Word)
  | ibit (x n : Word)
  | post (slot opc : Nat) (a b : Word)
  | query (slot opc : Nat) (rd : Reg) (a b : Word) (w : Word)
  | checkin
  deriving DecidableEq, Repr

/-- The answer to a request: two values, an exception, or none yet. -/
inductive Resp where
  | val (a b : Nat)
  | trap (t : Trap)
  | stall
  deriving DecidableEq, Repr

/-- The byte and bit of a bit address in spaces 0x1 to 0x3 (Table 6-10). -/
def bitPlace (ba : Nat) : Option (Nat × Nat) :=
  let o := ba % 2 ^ 28
  match ba / 2 ^ 28 with
  | 1 => if o < 0x4000000 then some (0x10000000 + o / 8, o % 8) else none
  | 2 => if o < 0x80000 then some (0x20000000 + o / 8, o % 8) else none
  | 3 => if o < 0x200000 then some (0x21000000 + o / 8, o % 8) else none
  | _ => none

/-- The edge instance of a bit address in space 0x4. -/
def edgeInst (ba : Nat) : Option Nat :=
  if ba / 2 ^ 28 = 4 && ba % 2 ^ 28 < 0x2000 then some (ba % 2 ^ 28) else none

/-! ## Timers (R86) -/

/-- START of an entry, 48 bits of µs. -/
def Timer.start (e : Timer) : Nat := e.w3 + bitsOf e.w2 8 16 * 2 ^ 32

/-- PT of an entry, 40 bits of µs. -/
def Timer.pt (e : Timer) : Nat := e.w1 + bitsOf e.w2 0 8 * 2 ^ 32

def Timer.typ (e : Timer) : Nat := bitsOf e.w0 0 2
def Timer.inp (e : Timer) : Bool := e.w0.testBit 2
def Timer.q (e : Timer) : Bool := e.w0.testBit 3
def Timer.run (e : Timer) : Bool := e.w0.testBit 4
def Timer.sat (e : Timer) : Bool := e.w0.testBit 5
def Timer.alloc (e : Timer) : Bool := e.w0.testBit 6
def Timer.owner (e : Timer) : Nat := bitsOf e.w0 7 5
def Timer.ident (e : Timer) : Nat := bitsOf e.w0 16 16
def Timer.setIn (e : Timer) (b : Bool) : Timer := { e with w0 := setBitsOf e.w0 2 1 (b2n b) }
def Timer.setQ (e : Timer) (b : Bool) : Timer := { e with w0 := setBitsOf e.w0 3 1 (b2n b) }
def Timer.setRun (e : Timer) (b : Bool) : Timer := { e with w0 := setBitsOf e.w0 4 1 (b2n b) }
def Timer.setSat (e : Timer) (b : Bool) : Timer := { e with w0 := setBitsOf e.w0 5 1 (b2n b) }
def Timer.setPt (e : Timer) (pt : Nat) : Timer :=
  { e with w1 := pt % 2 ^ 32, w2 := setBitsOf e.w2 0 8 (pt / 2 ^ 32) }
def Timer.setStart (e : Timer) (t : Nat) : Timer :=
  { e with w3 := t % 2 ^ 32, w2 := setBitsOf e.w2 8 16 (t / 2 ^ 32) }

/-- elapsed() of R86. -/
def Timer.elapsed (e : Timer) (t : Nat) : Nat :=
  if e.sat then 2 ^ 40 - 1 else (t % 2 ^ 48 + 2 ^ 48 - e.start) % 2 ^ 48

/-- START := t, SAT := 0, RUN := 1. -/
def Timer.begin (e : Timer) (t : Nat) : Timer := ((e.setStart (t % 2 ^ 48)).setSat false).setRun true

/-- The evaluation pseudocode of R86: the entry after it, and et; q is the entry's Q. -/
def Timer.eval (e0 : Timer) (t : Nat) (inp : Bool) (pt : Nat) : Timer × Nat :=
  let e := e0.setPt pt
  let r : Timer × Nat :=
    match e.typ with
    | 0 =>
      let e1 := if inp && !e.inp then e.begin t else e
      if inp then
        let et := min (e1.elapsed t) pt
        (e1.setQ (et == pt), et)
      else ((e1.setRun false).setQ false, 0)
    | 1 =>
      let e1 := if inp then (e.setQ true).setRun false else if e.inp then e.begin t else e
      if !inp && e1.run then
        let et := min (e1.elapsed t) pt
        (if et = pt then (e1.setRun false).setQ false else e1, et)
      else if !inp then (e1, pt)
      else (e1, 0)
    | _ =>
      let e1 := if inp && !e.inp && !e.run then (e.begin t).setQ true else e
      if e1.run then
        let et := min (e1.elapsed t) pt
        (if et = pt then (e1.setRun false).setQ false else e1, et)
      else (e1, if inp then pt else 0)
  (r.1.setIn inp, r.2)

/-! ## Items and forces (R200) -/

/-- The words of item table entry `x` (offset 0x8000 of the TSK block). -/
def Hw.item (h : Hw) (x : Nat) : ItemRow :=
  { w0 := (h.reg (0x40038000 + x * 8)).toNat, w1 := (h.reg (0x40038004 + x * 8)).toNat }

def ItemRow.off (i : ItemRow) : Nat := bitsOf i.w0 0 16
def ItemRow.kind (i : ItemRow) : Nat := bitsOf i.w0 16 2
def ItemRow.out (i : ItemRow) : Bool := i.w0.testBit 18
def ItemRow.group (i : ItemRow) : Nat := bitsOf i.w1 0 3
def ItemRow.channel (i : ItemRow) : Nat := bitsOf i.w1 0 6
def ItemRow.session (i : ItemRow) : Nat := bitsOf i.w1 0 9
def ItemRow.foff (i : ItemRow) : Nat := bitsOf i.w1 9 11
def ItemRow.flen (i : ItemRow) : Nat := bitsOf i.w1 20 11

/-- The size of an item's record (Tables 3-7 and 3-8; outputs as the text after them). -/
def ItemRow.size (i : ItemRow) : Nat :=
  match i.kind with
  | 0 => if i.out then 4 else 16
  | 1 => 16
  | _ => if i.out then i.flen else 8 + ceilTo 8 i.flen

/-- First item, number of input items, number of output items of task `t` (Table 3-5). -/
def Hw.itemSpan (h : Hw) (t : Nat) : Nat × Nat × Nat :=
  let d := imgBase + t * 32
  (bitsOf (h.ml (d + 8) 4) 0 12, bitsOf (h.ml (d + 8) 4) 12 12, bitsOf (h.ml (d + 12) 4) 0 12)

/-- Whether item `x` is among task `t`'s items. -/
def Hw.ownsItem (h : Hw) (t x : Nat) : Bool :=
  let s := h.itemSpan t
  s.1 ≤ x && x < s.1 + s.2.1 + s.2.2

/-- The core-view address of the record of item `x` of task `t`. -/
def Hw.recAddr (h : Hw) (t x : Nat) : Nat :=
  let it := h.item x
  (if it.out then (h.outWin t).1 else (h.inWin t).1) + it.off

/-- Whether a force holds a target of item `it`, as a mask for digital groups (R200). -/
def Force.marks (f : Force) (it : ItemRow) : Nat :=
  if !f.active then 0
  else match it.kind with
    | 0 => if f.target = 0 && f.channel / 8 = it.group then 2 ^ (f.channel % 8) else 0
    | 1 => if f.target = 1 && f.channel = it.channel then 1 else 0
    | _ => if f.target = 2 && f.session = it.session && f.off < it.foff + it.flen && it.foff < f.off + f.len then 1 else 0

/-- FQRY: force state of item `x` (Table 7-16). -/
def Hw.fqry (h : Hw) (x : Nat) : Nat :=
  if x ≥ 4096 then 0
  else
    let it := h.item x
    let m := fun d => (h.tsk.forces.map (fun p => if p.2.dir = d then p.2.marks it else 0)).foldl (· ||| ·) 0
    let sh := if it.kind = 0 then 256 else 2
    m 0 + m 1 * sh + h.fget R.TSK_FORCE_STATUS_LANTERN * 2 ^ 31

/-! ## The pair unit's part in loads (R300, R303) -/

/-- The follower loses synchronisation (R303): it stops publishing and releases no further task, SYNC DETACHED, SYNC_LOSSES, event
0x6006 with the reason of Table 11-5 and the task; resynchronisation is due at the next whole second. -/
def Hw.syncLoss (h : Hw) (reason : Nat) (task : Nat := 0) : Hw :=
  let h1 := { h.stopPublishing with
                     pair := { h.pair with copied := [], okSince := none, ready := false, retryAt := some (h.clk.tb / 1000000000 * 1000000000 + 1000000000), step := 0 } }
  (((h1.fset R.PAIR_STATUS_SYNC 0).fset R.PAIR_JOINED_JOINED 0).finc R.PAIR_LINK_CNT_SYNC_LOSSES).raise 0x6006 reason task

/-- Whether the pair is formed as the active module sees it: enabled, active in RUN (R52), guy line A up, the partner in FOLLOW, or
resynchronising in RECOVERY, or just handed back to FOLLOW by a revert. -/
def Hw.pairFormed (h : Hw) : Bool :=
  h.fbit R.PAIR_CFG_ENABLE && h.fget R.PAIR_STATUS_ROLE == 1 && h.mode == .run && h.fbit R.PAIR_STATUS_GUY_A &&
    (h.fget R.PAIR_STATUS_PARTNER_MODE == 5 || h.fget R.PAIR_STATUS_PARTNER_MODE == 10 || h.pair.swapped == 2)

/-- Whether this module leads task `t`'s cycle for a partner that follows it: as the active module of a formed pair, or for a cycle
sampled before a revert instant, or as the preferred module between S and its own RUN (R318). -/
def Hw.leads (h : Hw) (t : Nat) : Bool :=
  !(h.cyc t).foll && (h.pairFormed || (h.fbit R.PAIR_CFG_ENABLE && h.fbit R.PAIR_STATUS_GUY_A && (h.mode == .follow || h.pair.reverting != 0)))

/-- Whether a load of `n` bytes at `a` by task `t` is a foreign read (R300). -/
def Hw.foreign (h : Hw) (t a n : Nat) : Bool :=
  if 0x40000000 ≤ a && a < 0x400C0000 then true
  else if 0x20000400 ≤ a && a < 0x20000500 then true
  else if 0x10000000 ≤ a && a < 0x10800000 then
    !(h.fget (R.EXE_Tn_STK_LO_STK_LO t) ≤ a + 256 && a + n ≤ h.fget (R.EXE_Tn_STK_HI_STK_HI t)) &&
      !(h.prog.data.any (fun d => d.priv && d.owner == t && within (d.start, d.len) a n))
  else if 0x21000000 ≤ a && a < 0x21040000 then !h.ownsLine t ((a - 0x21000000) / 64)
  else false

/-- The value of a foreign read: in FOLLOW from the next READS entry (a stall where none has arrived, a loss of
synchronisation where address or size differ), otherwise from `local`, sent on while the pair is formed. -/
def Hw.foreignVal (h : Hw) (t a n : Nat) (here : Nat) : Hw × Resp :=
  let c := h.cyc t
  if c.foll then
    match ((tget [] h.pair.readsIn t).filter (fun e => e.cycle == c.k && e.exec == c.exec))[c.reads]? with
    | none => if c.reads < 4096 then (h, .stall) else (h.syncLoss 7 t, .stall)
    | some e =>
      if e.addr = a && e.size = n then (h.setCyc t { c with reads := c.reads + 1 }, .val (e.value % 2 ^ 32) (e.value / 2 ^ 32))
      else (h.syncLoss 6 t, .stall)
  else if h.leads t then
    let h1 := h.setCyc t { c with reads := c.reads + 1 }
    let e : ReadEntry := { addr := a, size := n, value := here, task := t, cycle := c.k, exec := c.exec }
    let h2 := if c.reads < 4096 then h1.pairSend (.reads [e] false) else if c.reads = 4096 then h1.pairSend (.reads [e] true) else h1
    (h2, .val (here % 2 ^ 32) (here / 2 ^ 32))
  else (h, .val (here % 2 ^ 32) (here / 2 ^ 32))

end Sys2Proof.Machine
end

