-- ==== Sys2Proof/Machine/Nv.lean ====
section
/-! DEFINITION. The page engine's shared operations (R350 to R356): copy pairs, requests, the choice of the next write. -/

namespace Sys2Proof.Machine

/-- The copy a reader takes (R350), with its generation. -/
def CopyPair.cur {α : Type} (p : CopyPair α) : Option (Nat × α) :=
  match p.a, p.b with
  | some x, some y => if serialLater y.1 x.1 then some y else some x
  | some x, none => some x
  | none, y => y

/-- The record a reader takes, or `d` where no copy is committed. -/
def CopyPair.get {α : Type} (p : CopyPair α) (d : α) : α := ((p.cur).map (·.2)).getD d

/-- Whether the current copy lies in page b. -/
def CopyPair.inB {α : Type} (p : CopyPair α) : Bool :=
  match p.a, p.b with
  | some x, some y => serialLater y.1 x.1
  | none, some _ => true
  | _, _ => false

/-- A write goes to the page that does not hold the current copy, with the next generation (R350). -/
def CopyPair.put {α : Type} (p : CopyPair α) (v : α) : CopyPair α :=
  let g := (((p.cur).map (·.1)).getD 0 + 1) % 2 ^ 32
  if p.cur.isNone then { p with a := some (g, v) }
  else if p.inB then { p with a := some (g, v) } else { p with b := some (g, v) }

/-- A torn write destroys the copy that was being written (R350, R362). -/
def CopyPair.tear {α : Type} (p : CopyPair α) : CopyPair α :=
  if p.cur.isNone || p.inB then { p with a := none } else { p with b := none }

/-- The choice order of R355 (the power-fail flush is VIN_LOSS itself). Retain pages wait only while their stretch is copied, when the engine
writes no other pages. -/
def NvWrite.rank : NvWrite → Nat
  | .retPage .. => 1
  | .state .. | .marker .. | .invalBuf .. | .journal .. | .pwd .. | .recPtr ..
  | .usage .. | .rates .. | .retCommit .. | .pagePair .. => 2
  | .record .. => 4
  | .clearRing => 4
  | .cfgInval .. | .cfgData .. | .cfgHeader .. => 5
  | .user .. => 6
  | .refresh .. => 7

/-- Whether a write is a record write (R354); refresh counts as neither and ends with the page writes. -/
def NvWrite.isRec : NvWrite → Bool
  | .record .. => true
  | .clearRing => true
  | _ => false

/-- The first request of the lowest rank, and the others in their order. -/
def nvPick : List NvWrite → Option (NvWrite × List NvWrite)
  | [] => none
  | w :: r =>
    match nvPick r with
    | none => some (w, [])
    | some (x, rest) => if x.rank < w.rank then some (x, w :: rest) else some (w, r)

/-- The number of queued requests in NVS_STATUS. -/
def Hw.nvCount (h : Hw) : Hw := h.fset R.NVS_STATUS_QUEUED (min 64 h.nvs.queue.length)

/-- Starts the next write where none is in progress and ARMED = 1 (R355, R356). -/
def Hw.nvKick (h : Hw) : Hw :=
  match h.nvs.busy with
  | some _ => h
  | none =>
    if h.fbit R.NVS_STATUS_ARMED then
      match nvPick h.nvs.queue with
      | none => h
      | some (w, r) => (({ h with nvs := { h.nvs with queue := r, busy := some w } }).nvCount).fset R.NVS_STATUS_BUSY 1
    else h

/-- A write request enters the page engine's queue; beyond 64 the requester is held back (R24), which is waiting too. -/
def Hw.nvPush (h : Hw) (w : NvWrite) : Hw :=
  (({ h with nvs := { h.nvs with queue := h.nvs.queue ++ [w] } }).nvCount).nvKick

/-- The SAFE latch as the MRAM state record holds it, with AUTO_LEFT. -/
def Hw.stateRec (h : Hw) : Bool × Nat := h.nvs.stateRec.get (false, 0)

/-- The slot markers in force. -/
def Hw.marker (h : Hw) : Marker := h.nvs.markerRec.get {}

/-- The update journal in force. -/
def Hw.journalNow (h : Hw) : Journal := h.nvs.journalRec.get {}

end Sys2Proof.Machine
end

