-- ==== Sys2Proof/Machine/HostBase.lean ====
section
/-! DEFINITION. Completions (R330, R334, R343, R347) and the recorder's writer (R383 to R390), which every other unit
uses. -/

namespace Sys2Proof.Machine

/-! ## Status codes (Table 12-7) -/

def stOk : Nat := 0
def stBusy : Nat := 1
def stMode : Nat := 2
def stValue : Nat := 3
def stNoItem : Nat := 4
def stFull : Nat := 5
def stPair : Nat := 6
def stAuth : Nat := 7
def stLocked : Nat := 8
def stNoSuch : Nat := 9
def stAccess : Nat := 10
def stAborted : Nat := 11
def stTimeout : Nat := 12
def stConflict : Nat := 13
def stFailed : Nat := 14

/-! ## Power -/

/-- Whether the CORE domain has power: VIN present, and in PARKED a housekeeping wake. -/
def Hw.powered (h : Hw) : Bool := !h.nvs.vinLost && (decide (h.mode ≠ .parked) || h.fbit R.SUP_MODE_STATUS_HOUSEKEEP)

/-! ## Completions -/

/-- The source parameter of HIF events (R347): the ring, or the directory index with bit 15 set. -/
def Src.code : Src → Nat
  | .ring r _ => r
  | .eng d _ => d + 0x8000
  | .own => 0

/-- Whether a command came otherwise than from a ring: as TRDP message data, or from the SUP firmware itself. -/
def Src.isEng : Src → Bool
  | .ring .. => false
  | _ => true

/-- A command ends: its completion waits to be written to its ring (R330), or is sent as the Mp reply and kept for repeats
(R343, R345), or is discarded after a link loss (R333). It leaves the list of commands still running. -/
def Hw.finish (h : Hw) (d : Desc) (c : Compl) : Hw :=
  let h1 := { h with hif := { h.hif with running := h.hif.running.filter (fun x => !(x.src == d.src && x.tag == d.tag)) } }
  if d.relayed then h1.pairSend (.outcome c)
  else match d.src with
  | .ring .. =>
    let same := fun (x : Desc) => x.src == d.src && x.tag == d.tag
    if h1.hif.lost.any same then { h1 with hif := { h1.hif with lost := h1.hif.lost.filter (fun x => !same x) } }
    else { h1 with hif := { h1.hif with done := h1.hif.done ++ [c] } }
  | .eng dir sid =>
    let h2 := h1.netSend (.mp dir sid c)
    { h2 with net := { h2.net with replies := h2.net.replies.map (fun r => if r.1 = dir && r.2.1 = sid then (dir, sid, some c) else r) } }
  | .own => h1

/-- The commands that have been taken from the queue and have not completed: deferred, running, waiting for an event, a latch or the
active module. -/
def Hw.started (h : Hw) : List Desc :=
  h.hif.deferred.map (·.d) ++ h.hif.running ++ h.hif.waits.map (·.d) ++ h.hif.latching.map (·.d) ++ h.pair.relayed

/-- The commands that only read (R346). -/
def Desc.readOnly (d : Desc) : Bool :=
  decide (d.op ∈ [0x0001, 0x0002, 0x0003, 0x0005, 0x0203, 0x0304, 0x0802, 0x0702, 0x0B01]) || (d.op == 0x0501 && !d.p2.testBit 0)

/-- The opcodes of Table 12-8. -/
def opcodes : List Nat :=
  [0x0001, 0x0002, 0x0003, 0x0004, 0x0005, 0x0101, 0x0201, 0x0202, 0x0203, 0x0301, 0x0302, 0x0303, 0x0304, 0x0401, 0x0402, 0x0403,
   0x0501, 0x0502, 0x0503, 0x0504, 0x0601, 0x0602, 0x0603, 0x0604, 0x0605, 0x0606, 0x0701, 0x0702, 0x0801, 0x0802, 0x0803] ++
  [0x0901, 0x0902, 0x0903, 0x0904, 0x0905, 0x0906, 0x0907, 0x0908, 0x0A01, 0x0A02, 0x0A03, 0x0B01, 0x0B02]

/-- Whether a command is one that changes state (R347): every one but those that only read. -/
def Desc.changes (d : Desc) : Bool :=
  opcodes.contains d.op && !d.readOnly && d.op != 0x0601 && d.op != 0x0907

/-- Completes a command with a status, results, DETAIL, EVENT and output bytes; `chg` whether it changed state. A
command that changed state records 0x7010, and so does the refusal of one that would have; a refusal with AUTH records 0x7011 (R347). The
firmware's own request has no completion and no record of one. -/
def Hw.complete (h : Hw) (d : Desc) (status : Nat) (chg : Bool := false) (res0 res1 res2 detail event : Nat := 0)
    (out : List Byte := []) : Hw :=
  let c : Compl := { src := d.src, op := d.op, status := status, tag := d.tag, addr := d.addr, res0 := res0 % 2 ^ 32, res1 := res1 % 2 ^ 32,
                     res2 := res2 % 2 ^ 32, detail := detail, event := event, noirq := d.flags.testBit 1, out := out }
  if d.src = .own then h
  else
    let h1 := if status = stAuth then h.raise 0x7011 d.op d.src.code detail
      else if chg || (status != stOk && d.changes) then h.raise 0x7010 d.op d.src.code status else h
    h1.finish d c

/-! ## The recorder -/

/-- The factory rate entries (Table 14-3), else an unused entry. -/
def rateDefault (i : Nat) : Rate :=
  let f := fun c b p => ({ code := c, burst := b, period := p, tokens := b } : Rate)
  match i with
  | 0 => f 0x4018 4 10000 | 1 => f 0x4019 4 10000 | 2 => f 0x5003 8 1000 | 3 => f 0x5005 8 1000
  | 4 => f 0x5012 8 1000 | 5 => f 0x5013 8 1000 | 6 => f 0x5014 8 1000 | 7 => f 0x5016 8 1000
  | 8 => f 0x5035 8 1000 | 9 => f 0x6009 8 1000 | 10 => f 0x6012 8 1000 | 11 => f 0x6013 4 1000
  | _ => {}

def Hw.rate (h : Hw) (i : Nat) : Rate := tget (rateDefault i) h.evr.rates i
def Hw.setRate (h : Hw) (i : Nat) (r : Rate) : Hw :=
  { h with evr := { h.evr with rates := tset (rateDefault i) h.evr.rates i r } }

/-- The rate entry that names a code (R389): a configured one, else a factory one. -/
def Hw.rateOf (h : Hw) (code : Nat) : Option Nat :=
  if code = 0 then none
  else ((List.range 12) ++ (h.evr.rates.map (·.1))).find? (fun i => (h.rate i).code == code)

/-- The severity of a code: Table 14-8 and, for 0x6013, Table 14-5's example; the factory area's for other module codes, 0 for an application code. -/
def severityOf (code : Nat) : Nat :=
  if code ≥ 0xF000 then 0
  else match code with
    | 0x9001 => 3 | 0x9002 => 1 | 0x9003 => 1 | 0x9004 => 2 | 0x9008 => 3 | 0x9011 => 3 | 0x9012 => 2 | 0x9020 => 2
    | 0x9030 => 3 | 0x9031 => 3 | 0x6013 => 3
    | _ => (Config.severity code).toNat

/-- The recorder pointer in force (R386). -/
def Hw.recPtr (h : Hw) : RecPtr := h.nvs.recPtrRec.get {}

/-- The pointer as already requested: the newest queued pointer write, else the one in force. -/
def Hw.recPtrNew (h : Hw) : RecPtr :=
  (h.nvs.busy.toList ++ h.nvs.queue).foldl (fun r w => match w with | .recPtr x => x | _ => r) h.recPtr

/-- Bytes 0 to 27 of a record (Table 14-1): `sev` the application severity for KIND 1. -/
def recHead (e : Ev) (seq : Nat) (queued house : Bool) : List Byte :=
  let sev := if e.app then e.src / 32 else severityOf e.code
  leBytes 2 e.code ++
    [BitVec.ofNat 8 (sev % 8 + b2n (e.code == 0x9002) * 8 + b2n e.injected * 16 + b2n e.unsync * 32 + b2n queued * 64 + b2n house * 128),
     BitVec.ofNat 8 (e.src % 32 + b2n e.app * 64)] ++
    leBytes 8 e.time ++ leBytes 4 seq ++ leBytes 4 e.p0 ++ leBytes 4 e.p1 ++ leBytes 4 e.p2

/-- The 32 bytes of a record (Table 14-1): the CRC, reserved 0, MARK last. `bad`: an injected wrong CRC. -/
def recBytes (e : Ev) (seq : Nat) (queued house bad : Bool) : List Byte :=
  let hd := recHead e seq queued house
  let crc := crc16 0xFFFF hd
  hd ++ leBytes 2 (if bad then crc ^^^ 1 else crc) ++ [0#8, 0xA5#8]

/-- The address of ring slot `i`. -/
def slotAddr (i : Nat) : Nat := 0x50100000 + i % 65536 * 32

/-- The lowest sequence that is held in the ring and not archived yet (R399, R400): after the highest archived, at or after CLEAR_SEQ,
and no record that the ring has overwritten. -/
def Hw.archFrom (h : Hw) : Nat :=
  let r := h.recPtrNew
  let s := if r.archNext = 0 then r.clearSeq else (r.archHigh + 1) % 2 ^ 32
  let s1 := if serialLater r.clearSeq s then r.clearSeq else s
  let low := (r.firstSeq + 8 + 2 ^ 32 - 65536) % 2 ^ 32
  if serialLater low s1 then low else s1

/-- The records of the page at ring slot `slot`, whose first sequence is `first`, that are not archived yet. -/
def Hw.unarchived (h : Hw) (slot first : Nat) : Nat :=
  ((List.range 8).filter (fun i =>
    h.ml (slotAddr (slot + i) + 31) 1 == 0xA5 && !serialLater h.archFrom ((first + i) % 2 ^ 32))).length

/-- Prepares a page of the ring for its first record (R385, R400): one with unarchived records counts a gap, the pointer record
names the page, the page is cleared. -/
def Hw.openPage (h : Hw) (seq slot : Nat) : Hw :=
  let r := h.recPtrNew
  let old := (seq + 2 ^ 32 - 65536) % 2 ^ 32
  let n := h.unarchived slot old
  let h1 := if n = 0 then h else (h.finc R.EVR_LOST_ARCH_GAPS).raise 0x9008 old n
  (h1.nvPush (.recPtr { r with page := slot / 8, firstSeq := seq })).nvPush (.record (slotAddr slot) (List.replicate 256 0#8))

/-- Writes one record to the ring (R383, R385): the sequence number, the record write, and the EVENT_WAITs it ends. -/
def Hw.ringWrite (h : Hw) (e : Ev) (queued : Bool) : Hw :=
  let seq := h.fget R.EVR_SEQ_NEXT_SEQ
  let slot := (seq + 2 ^ 32 - h.recPtrNew.offset) % 65536
  let h1 := if slot % 8 = 0 then h.openPage seq slot else h
  let bs := recBytes e seq queued (h.fbit R.SUP_MODE_STATUS_HOUSEKEEP) h.evr.injCrc
  let h2 := h1.nvPush (.record (slotAddr slot) bs)
  let h3 := h2.fset R.EVR_SEQ_NEXT_SEQ ((seq + 1) % 2 ^ 32)
  let h4 := { h3 with evr := { h3.evr with log := h3.evr.log ++ [(seq, e)], injCrc := false } }
  let hit := fun (w : EWait) => (e.code &&& w.d.p1) == (w.d.p0 &&& w.d.p1)
  let h5 := { h4 with hif := { h4.hif with waits := h4.hif.waits.filter (fun w => !hit w) } }
  (h4.hif.waits.filter hit).foldl (fun h w => h.complete w.d stOk (out := bs)) h5

/-- Counts of the queues in EVR_STATUS. -/
def Hw.evrCounts (h : Hw) : Hw :=
  (h.fset R.EVR_STATUS_QUEUED h.evr.inq.length).fset R.EVR_STATUS_HELD (min 256 h.evr.heldq.length)

/-- Ends the freeze (R394): the held records in order, then for reason 3 the record that found no room, then 0x9004. RRF
ends. -/
def Hw.freezeEnd (h : Hw) (reason : Nat) (extra : List Ev) : Hw :=
  match h.evr.frozen with
  | none => h
  | some (src, since) =>
    let held := h.evr.heldq
    let ms := (h.clk.up - since) / 1000000
    let h1 := { h with evr := { h.evr with frozen := none, heldq := [],
                                           ended := h.evr.ended.filter (fun (x : Src × Nat) => x.1.code != src.code) ++ (if reason = 1 then [] else [(src, reason)]) } }
    let h2 := ((h1.fset R.EVR_STATUS_FROZEN 0).fset R.EVR_FREEZE_ELAPSED_MS ms).fset R.EVR_FREEZE_LAST_END reason
    let h3 := (held ++ extra).foldl (fun h e => h.ringWrite e true) h2
    let h4 := h3.ringWrite { code := 0x9004, p0 := reason, p1 := held.length, p2 := ms, time := h3.clk.tb, src := h3.mode.code,
                             injected := h3.evr.injecting, unsync := !h3.evr.synced } false
    (h4.fset R.SUP_ADMIT_STATUS_RUNNING (h4.fget R.SUP_ADMIT_STATUS_RUNNING &&& 0xFFE)).evrCounts

end Sys2Proof.Machine
end

