-- ==== Sys2Proof/Machine/Admit.lean ====
section
/-! DEFINITION. Maintenance admission (R58 to R62): permitted modes, the admission matrix, deferral, activity ends. -/

namespace Sys2Proof.Machine

/-- The activities in code order. -/
def acts : List Act := [.rrf, .rcl, .scr, .nor, .fwu, .pdl, .olc, .cht, .frc, .dbg, .cal, .cfg]

/-- Whether Table 2-8 permits an activity in a mode; `nvOnly` a program download into the unused NOR slot only, `fromRun`
DEBUG_FROM_RUN. The debug session itself runs in DEBUG. -/
def Act.permits (a : Act) (m : Mode) (nvOnly fromRun : Bool) : Bool :=
  match a with
  | .rrf => decide (m ≠ .boot ∧ m ≠ .parked)
  | .rcl => decide (m = .service)
  | .scr => decide (m ∈ [.stop, .run, .follow, .test, .debug, .service, .safe])
  | .nor => decide (m ∈ [.stop, .run, .follow, .service])
  | .fwu => decide (m = .service)
  | .pdl => decide (m = .stop ∨ m = .service) || (nvOnly && decide (m = .run ∨ m = .follow))
  | .olc => decide (m = .run ∨ m = .follow)
  | .cht => decide (m = .test)
  | .frc => decide (m ∈ [.stop, .run, .follow])
  | .dbg => decide (m = .stop) || (fromRun && decide (m = .run))
  | .cal => decide (m ≠ .boot ∧ m ≠ .parked)
  | .cfg => decide (m ∈ [.provision, .stop, .run, .follow, .test, .debug, .service])

/-- Whether a running activity may go on in a mode (R62): as Table 2-8, but a debug session runs in DEBUG. -/
def Act.goesOn (a : Act) (m : Mode) (nvOnly : Bool) : Bool :=
  match a with
  | .dbg => decide (m = .debug)
  | _ => a.permits m nvOnly false

/-- An entry of Table 2-9. -/
inductive Adm where
  | a | d | g | b
  deriving DecidableEq, Repr

/-- A row of Table 2-9; "—" reads as admitted, since no mode permits both. -/
def admRow : Act → List Adm
  | .rrf => [.b, .d, .a, .a, .d, .a, .a, .a, .a, .a, .a, .a]
  | .rcl => [.d, .b, .d, .d, .b, .d, .a, .a, .a, .a, .a, .a]
  | .scr => [.a, .d, .b, .a, .d, .a, .a, .a, .a, .a, .a, .a]
  | .nor => [.a, .d, .a, .d, .b, .d, .d, .a, .a, .d, .a, .a]
  | .fwu => [.a, .b, .d, .b, .b, .b, .a, .a, .a, .a, .a, .b]
  | .pdl => [.a, .d, .a, .d, .b, .b, .b, .a, .d, .b, .a, .d]
  | .olc => [.a, .a, .a, .d, .a, .b, .b, .a, .d, .b, .a, .d]
  | .cht => [.a, .a, .a, .a, .a, .a, .a, .g, .a, .a, .a, .d]
  | .frc => [.a, .a, .a, .a, .a, .d, .d, .a, .d, .d, .a, .d]
  | .dbg => [.a, .a, .a, .a, .a, .a, .a, .a, .a, .b, .a, .a]
  | .cal => [.a, .a, .a, .a, .a, .a, .a, .a, .a, .a, .d, .a]
  | .cfg => [.a, .a, .a, .a, .b, .d, .d, .d, .d, .d, .a, .d]

/-- The entry for a running and a requested activity. -/
def admEntry (running requested : Act) : Adm := (admRow running).getD (requested.code - 1) .a

/-- Whether an activity runs (SUP_ADMIT_STATUS.RUNNING). -/
def Hw.actRuns (h : Hw) (a : Act) : Bool := (h.fget R.SUP_ADMIT_STATUS_RUNNING).testBit (a.code - 1)

/-- Marks an activity running or ended. -/
def Hw.actSet (h : Hw) (a : Act) (on : Bool) : Hw :=
  h.fset R.SUP_ADMIT_STATUS_RUNNING (setBitsOf (h.fget R.SUP_ADMIT_STATUS_RUNNING) (a.code - 1) 1 (b2n on))

/-- The group of a channel test request. -/
def Desc.group (d : Desc) : Nat := d.p0 / 8

/-- Severity of a resolved entry: B over D over A. -/
def Adm.weight : Adm → Nat
  | .a => 0 | .g => 0 | .d => 1 | .b => 2

/-- Resolves G by the groups (R60): deferred for the same group, else admitted. -/
def Hw.admResolve (h : Hw) (e : Adm) (d : Desc) : Adm :=
  match e with
  | .g => if h.fld.tests.any (fun p => p.1 / 8 == d.group) then .d else .a
  | x => x

/-- The most restrictive entry over the running activities and the lowest code that gives it (R59). -/
def Hw.admLookup (h : Hw) (a : Act) (d : Desc) : Adm × Nat :=
  acts.foldl (fun best r =>
    if h.actRuns r then
      let e := h.admResolve (admEntry r a) d
      if e.weight > best.1.weight then (e, r.code) else best
    else best) (.a, 0)

/-- Whether a download request is into the unused NOR slot only. -/
def Desc.nvOnly (d : Desc) : Bool := d.op == 0x0201 && d.p0 == 1

/-- LAST_REQ, LAST_RESULT, LAST_BLOCKER. -/
def Hw.admLast (h : Hw) (req res blk : Nat) : Hw :=
  ((h.fset R.SUP_ADMIT_STATUS_LAST_REQ req).fset R.SUP_ADMIT_STATUS_LAST_RESULT res).fset R.SUP_ADMIT_STATUS_LAST_BLOCKER blk

/-- DEFERRED. -/
def Hw.admCount (h : Hw) : Hw := h.fset R.SUP_ADMIT_STATUS_DEFERRED h.hif.deferred.length

/-- The admission check of a request (R59 to R61): true when it may start now (its activity then runs); otherwise its
refusal is completed or it is deferred. -/
def Hw.request (h : Hw) (d : Desc) (a : Act) : Hw × Bool :=
  if !a.permits h.mode d.nvOnly (h.fbit R.SUP_MODE_CFG_DEBUG_FROM_RUN) then
    ((((h.admLast a.code 3 0).raise 0x0044 a.code h.mode.code).complete d stMode true (detail := h.mode.code) (event := 0x0044)), false)
  else
    let r := h.admLookup a d
    match r.1 with
    | .b => ((((h.admLast a.code 2 r.2).raise 0x0040 a.code r.2).complete d stBusy true (detail := r.2) (event := 0x0040)), false)
    | .d =>
      if h.hif.deferred.length ≥ 8 then
        ((((h.admLast a.code 2 r.2).raise 0x0040 a.code r.2).complete d stBusy true (detail := r.2) (event := 0x0040)), false)
      else
        let h1 := { h with hif := { h.hif with deferred := h.hif.deferred ++
                      [({ d := d, act := a, blocker := r.2, since := h.clk.up } : Deferred)] } }
        (((h1.admCount).admLast a.code 1 r.2).raise 0x0041 a.code r.2 h1.hif.deferred.length, false)
    | _ => ((h.admLast a.code 0 0).actSet a true, true)

/-- Deferred requests that the mode just entered does not permit complete at once with MODE (R61). -/
def Hw.recheckDeferred (h : Hw) : Hw :=
  let ok := fun (x : Deferred) => x.act.permits h.mode x.d.nvOnly (h.fbit R.SUP_MODE_CFG_DEBUG_FROM_RUN)
  let h1 := { h with hif := { h.hif with deferred := h.hif.deferred.filter ok } }
  ((h.hif.deferred.filter (fun x => !ok x)).foldl
    (fun h x => (h.raise 0x0044 x.act.code h.mode.code).complete x.d stMode true (detail := h.mode.code) (event := 0x0044)) h1).admCount

/-- The commands of an activity that are still running. -/
def Hw.actCmds (h : Hw) (a : Act) : List Desc :=
  h.hif.running.filter (fun d => match a with
    | .rrf => d.op == 0x0501
    | .rcl => d.op == 0x0504
    | .scr => d.op == 0x0604
    | .nor => d.op == 0x0605
    | .fwu => d.op == 0x0606
    | .pdl => d.op == 0x0201 || d.op == 0x0202
    | .olc => d.op == 0x0401 || d.op == 0x0402
    | .cht => d.op == 0x0A01
    | .frc => d.op == 0x0301 || d.op == 0x0302 || d.op == 0x0303
    | .dbg => d.op == 0x0903 || d.op == 0x0905
    | .cal => d.op == 0x0701
    | .cfg => d.op == 0x0801 || d.op == 0x0803 || d.op == 0x0004)

/-- Completes the unfinished commands of an aborted activity with ABORTED (R342). -/
def Hw.abortCmds (h : Hw) (a : Act) (newMode : Nat) : Hw :=
  (h.actCmds a).foldl (fun h d => h.complete d stAborted true (detail := newMode) (event := 0x0043)) h

/-- Registers a command whose completion comes later. -/
def Hw.runCmd (h : Hw) (d : Desc) : Hw := { h with hif := { h.hif with running := h.hif.running ++ [d] } }

end Sys2Proof.Machine
end

