-- ==== Sys2Proof/Machine/Modes.lean ====
section
/-! DEFINITION. Mode transitions (R39 to R62): aborts, disarming, SAFE entry, the start checks, the wait of R287. -/

namespace Sys2Proof.Machine

/-! ## Injection points (Table 16-11) -/

/-- The INJ_CTRL register of block `n`, where the block has one. -/
def injReg : Nat → Option Nat
  | 0 => some 0x40000030 | 2 => some 0x40020030 | 4 => some 0x40040030 | 5 => some 0x40050030 | 6 => some 0x40060030
  | 7 => some 0x40070030 | 8 => some 0x40080030 | 9 => some 0x40090030 | 10 => some 0x400A0030 | 11 => some 0x400B0030
  | _ => none

/-- The modes a point may be armed in; none for a point not in Table 16-11. -/
def injModes (p : Nat) : List Mode :=
  if p ∈ [0x001, 0x005, 0x207, 0x404, 0x408, 0x602, 0x603] then [.test, .recovery, .service]
  else if p ∈ [0x003, 0x201, 0x203, 0x204, 0x401, 0x403, 0x405, 0x409, 0x40A, 0x40C, 0x501, 0x601, 0x604] then [.test, .recovery]
  else if p ∈ [0x002, 0x004, 0x006, 0x202, 0x205, 0x206, 0x402, 0x406, 0x407, 0x40B, 0x502, 0x503, 0xB01, 0xB02, 0xB03] then [.test]
  else if p ∈ [0x504, 0x701, 0x702, 0x703, 0x801, 0x802, 0x804, 0x901, 0x902, 0x903, 0xA01, 0xA02] then [.test, .service]
  else if p ∈ [0x803, 0x805] then [.service]
  else []

/-- The armed point of block `n`, where one is armed. -/
def Hw.armed (h : Hw) (n : Nat) : Option Nat :=
  match injReg n with
  | none => none
  | some a => if (h.reg a).getLsbD 16 then some (n * 256 + bitsOf (h.reg a).toNat 0 4) else none

/-- The INJ_ARM command of a point ends (R339). -/
def Hw.injDone (h : Hw) (p status detail res0 : Nat) : Hw :=
  (h.hif.running.filter (fun d => d.op == 0x0A03 && d.p0 == p)).foldl
    (fun h d => h.complete d status true res0 (detail := detail) (event := if status = stOk then res0 else 0x0111)) h

/-- Disarms the armed points that mode `m` does not permit (R445). -/
def Hw.disarm (h : Hw) (m : Mode) : Hw :=
  [0, 2, 4, 5, 6, 7, 8, 9, 10, 11].foldl (fun h n =>
    match h.armed n, injReg n with
    | some p, some a =>
      if m ∈ injModes p then h
      else ((h.fset ⟨a, 16, 1⟩ 0).raise 0x0111 p m.code).injDone p stAborted m.code 0
    | _, _ => h) h

/-! ## Ends of cycles -/

/-- Task `t`'s data are no longer those of an agreed cycle (R93), until its next one agrees. -/
def Hw.taint (h : Hw) (t : Nat) : Hw := { h with sup := { h.sup with safeOvf := if h.sup.safeOvf.contains t then h.sup.safeOvf else h.sup.safeOvf ++ [t] } }
def Hw.untaint (h : Hw) (t : Nat) : Hw := { h with sup := { h.sup with safeOvf := h.sup.safeOvf.filter (fun x => x != t) } }

/-- The targets whose log holds entries and cannot be read (R143), with the task of the top one. -/
def Hw.logsBad (h : Hw) : List (Nat × Nat) :=
  (List.range 8).filterMap (fun i => if (h.tgt i).undoBad then ((h.tgt i).undo.head?).map (fun u => (i, u.task)) else none)

/-- Every cycle in progress ends without agreement (R48, R93, R475): targets stop, undo segments are written back, held
items discarded, held outputs dropped, watchdog windows closed; the due instants skipped meanwhile are recorded (R476). -/
def Hw.endCycles (h : Hw) : Hw :=
  let h1 := (List.range 8).foldl (fun h i => (h.rollAll i).setTgt i { undoBad := (h.tgt i).undoBad }) (h.logsBad.foldl (fun h x =>
    (h.tgt x.1).undo.foldl (fun h u => h.taint u.task) (h.raise 0x2004 (epTask (x.1 / 2) x.2) 2)) h)
  let h2 := (List.range 4).foldl (fun h p =>
    (((h.setHeld p []).fset (R.CMP_EPn_STATUS_ACTIVE p) 0).fset (R.CMP_EPn_STATUS_REEXEC p) 0).fset (R.CMP_EPn_STATUS_OVF p) 0) h1
  let h3 := (List.range 32).foldl (fun h t =>
    let h := if (h.cyc t).ovf then h.taint t else h
    let h := if (h.cyc t).skipped = 0 then h else h.raise 0x3002 t (h.cyc t).skipped
    if h.tstate t = 7 then h
    else ((h.setTstate t 0).fset (R.TSK_Tn_STAT_LATE t) 0).setCyc t { h.cyc t with ovf := false, ovr := false, skipped := 0, reads := 0 }) h2
  { h3 with wdg := { h3.wdg with opens := [] } }

/-! ## Ends of activities -/

/-- The online change ends and rolls back with a reason (R119): 0x3021, STATE 6, the staged material discarded, and a partner
that has staged it told (log 21). -/
def Hw.olcRollback (h : Hw) (reason detail : Nat) : Hw :=
  let h1 := (h.fset R.TSK_OLC_STATUS_STATE 6).fset R.TSK_OLC_STATUS_REASON reason
  let h2 := { h1 with tsk := { h1.tsk with olc := { h1.tsk.olc with staged := none, armCmd := none, point := 0, confirmed := false, cfg := none } } }
  let h3 := (if h.fbit R.TSK_OLC_STATUS_PAIRED && h.fget R.PAIR_STATUS_ROLE == 1 then h2.pairSend (.control { kind := 4, b := reason, c := detail }) else h2).raise
    0x3021 reason detail
  let h4 := match h.tsk.olc.armCmd with
    | some d => h3.complete d stFailed true (detail := reason)
    | none => h3
  h4.actSet .olc false

/-- The debug session detaches: halts, queued actions and breakpoints go, DBG ends (R62). -/
def Hw.dbgEnd (h : Hw) : Hw :=
  let h1 := (List.range 4).foldl (fun h p => h.fset (R.CMP_EPn_STATUS_HALTED p) 0) h
  let h2 := { h1 with exe := { h1.exe with replay := [], breaks := [], dbgSrc := none, stepping := false } }
  ((h2.fset R.CMP_REPLAY_STATUS_DEPTH 0).fset R.CMP_REPLAY_STATUS_FULL 0).actSet .dbg false

/-- NVS_FWU_STATUS follows the journal record. -/
def Hw.fwuStatus (h : Hw) (j : Journal) : Hw :=
  ((h.fset R.NVS_FWU_STATUS_STATE j.st).fset R.NVS_FWU_STATUS_TARGET j.target).fset R.NVS_FWU_STATUS_SECTOR j.sector

/-- The journal goes to a new state: the record write, the register, 0x8020. -/
def Hw.setJournal (h : Hw) (j : Journal) : Hw := ((h.nvPush (.journal j)).fwuStatus j).raise 0x8020 j.st j.sector

/-- The journal as already requested. -/
def Hw.journalNew (h : Hw) : Journal :=
  (h.nvs.busy.toList ++ h.nvs.queue).foldl (fun r w => match w with | .journal x => x | _ => r) h.journalNow

/-- The journal is discarded: STATE 0 and 0x8022 with the old state and the reason. -/
def Hw.dropJournal (h : Hw) (reason : Nat) : Hw :=
  let j := h.journalNew
  ((h.setJournal { st := 0 }).raise 0x8022 j.st reason)

/-- The activity that a NOR operation belongs to; none for the archive's. -/
def NorOp.act : NorOp → Option Act
  | .eraseSlot .. => some .nor
  | .eraseArchive .. => some .nor
  | .progSlot .. => some .pdl
  | .copySector _ => some .fwu
  | .archive _ => none

/-- The NOR operations of an activity are cut (R376). -/
def Hw.norDrop (h : Hw) (a : Act) : Hw := { h with nvs := { h.nvs with norOps := h.nvs.norOps.filter (fun x => x.act != some a) } }

/-- A firmware update is aborted: state 1 is discarded, states 2 and 3 resume later (Table 13-8). -/
def Hw.fwuAbort (h : Hw) : Hw :=
  let h1 := h.norDrop .fwu
  if h1.journalNew.st = 1 then h1.dropJournal 1 else h1

/-- A piecewise transfer is discarded (R338). -/
def Hw.dropXfer (h : Hw) (op : Nat) : Hw :=
  { h with hif := { h.hif with xfers := h.hif.xfers.filter (fun x => x.op != op) } }

/-- A configuration write is aborted: its slot's pages still queued are not written, so the slot stays invalid. -/
def Hw.cfgAbort (h : Hw) : Hw :=
  { h with nvs := { h.nvs with queue := h.nvs.queue.filter (fun w => match w with
      | .cfgData .. => false
      | .cfgHeader .. => false
      | _ => true) },
           hif := { h.hif with latching := [] } }

/-- Adds 1 to a usage counter (Table 16-9), which saturates. -/
def Hw.useInc (h : Hw) (i : Nat) : Hw :=
  { h with sup := { h.sup with usage := (List.range 9).map (fun j => if j = i then satInc 32 (h.sup.usage.getD j 0) else h.sup.usage.getD j 0) } }

/-- The effects of the abort of one activity (R62). -/
def Hw.abortAct (h : Hw) (a : Act) (m : Mode) : Hw :=
  let h0 := h.raise 0x0043 a.code m.code
  let h1 := match a with
    | .olc =>
      -- R120: a STOP or PARK abort after step 6 lets the commit pair run to its end.
      if h0.fget R.TSK_OLC_STATUS_STATE = 5 then h0 else h0.olcRollback 12 0
    | .cht => { h0 with fld := { h0.fld with tests := [], lnk := h0.fld.lnk.map (fun (p : Nat × Lnk) => (p.1, { p.2 with tests := [] })) } }.fset
        R.FLD_AN_TEST_ACTIVE 0
    | .dbg => h0.dbgEnd
    | .fwu => h0.fwuAbort.dropXfer 0x0606
    | .frc => { h0 with tsk := { h0.tsk with feffs := [] } }.fset R.TSK_FORCE_STATUS_PENDING 0
    | .rrf => (({ h0 with evr := { h0.evr with freezing := none } }).freezeEnd 4 [])
    | .pdl => (h0.norDrop .pdl).dropXfer 0x0201
    | .cfg => h0.cfgAbort.dropXfer 0x0801
    | .nor => h0.norDrop .nor
    | .scr => { h0 with nvs := { h0.nvs with scrubCmd := none } }
    | _ => h0
  let h2 := h1.abortCmds a m.code
  if a = .olc ∧ h.fget R.TSK_OLC_STATUS_STATE = 5 then h2 else h2.actSet a false

/-- Whether a running PDL is into the unused NOR slot only. -/
def Hw.pdlNvOnly (h : Hw) : Bool := h.hif.xfers.all (fun x => x.op != 0x0201 || x.p0 == 1)

/-- The running activities that mode `m` does not permit, in code order. -/
def Hw.notIn (h : Hw) (m : Mode) : List Act := acts.filter (fun a => h.actRuns a && !a.goesOn m h.pdlNvOnly)

/-- Aborts every running activity that the mode just entered does not permit. -/
def Hw.abortActs (h : Hw) (m : Mode) : Hw := (h.notIn m).foldl (fun h a => h.abortAct a m) h

/-! ## The force table's lantern (R94, R101) -/

/-- TSK_FORCE_STATUS, the backup record's FORCE_COUNT and the LANTERN land follow the table. -/
def Hw.forceStatus (h : Hw) : Hw :=
  let n := (h.tsk.forces.filter (fun p => p.2.active)).length
  let h1 := ((h.fset R.TSK_FORCE_STATUS_COUNT n).fset R.TSK_FORCE_STATUS_LANTERN (b2n (n != 0))).fset
    R.TSK_FORCE_STATUS_PENDING (b2n (!h.tsk.feffs.isEmpty))
  let lit := n != 0 && decide (h.mode ≠ .boot ∧ h.mode ≠ .parked) &&
    (!h.fbit R.TSK_FORCE_CFG_FLASH || decide (h.clk.tb % 1000000000 < 500000000))
  { (h1.fset R.CAL_BKREC0_FORCE_COUNT n) with sup := { h1.sup with lantern := lit } }

/-- Clears the force table with 0x3013 (R94): cause 2 PARKED, 3 program struck. -/
def Hw.clearForces (h : Hw) (cause : Nat) : Hw :=
  let n := (h.tsk.forces.filter (fun p => p.2.active)).length
  let h1 := ({ h with tsk := { h.tsk with forces := [], feffs := [] } }).forceStatus
  if n = 0 then h1 else h1.raise 0x3013 n cause

/-! ## Transitions -/

/-- The lands follow the mode (R42, R460); in PARKED the SUP core has no power (R53). -/
def Hw.lands (h : Hw) : Hw :=
  let m := h.mode
  let h1 := h.fset R.SUP_MODE_STATUS_LIVE_OUT (b2n (m.drivesLive && !h.nvs.vinLost && h.sup.coreResetDue.isNone))
  let f := decide (m = .boot ∨ m = .safe ∨ m = .recovery ∨ m = .parked) || h.fbit R.SUP_MODE_STATUS_SAFE_LATCH || h.nvs.vinLost || h.sup.coreResetDue.isSome
  { h1 with sup := { h1.sup with fault := f },
            -- R210: a channel is driven from the first release after the outputs come from released images.
            fld := { h1.fld with driven := if m.drivesLive || decide (m = .follow) then h1.fld.driven else [] },
            exe := { h1.exe with extRst := h1.exe.extRst && decide (m ≠ .boot ∧ m ≠ .parked), supRunning := h1.exe.supRunning && m != .parked } }

/-- The role the mode gives (R286). -/
def Hw.role (h : Hw) : Nat :=
  if !h.fbit R.PAIR_CFG_ENABLE then 0
  else if h.fbit R.SUP_MODE_STATUS_LIVE_OUT then 1
  else if h.mode = .follow then 2 else 0

/-! ## The pair's roles (R287, R289, R317) -/

def Hw.pairOn (h : Hw) : Bool := h.fbit R.PAIR_CFG_ENABLE
def Hw.liveIn (h : Hw) : Bool := h.fbit R.SUP_MODE_STATUS_LIVE_IN

/-- Whether this module acts as the preferred one: PREFERRED, or under PREF_CLASH the lower NET_MAC (R289). -/
def Hw.preferred (h : Hw) : Bool :=
  if h.fbit R.PAIR_STATUS_PREF_CLASH then decide (h.ownMac < (h.pair.partner.map (·.mac)).getD 0) else h.fbit R.PAIR_CFG_PREFERRED

/-- The conditions of R317 that the preferred follower sees: 0 where all hold, else the number of the first that fails. -/
def Hw.revertBad (h : Hw) : Nat :=
  if !h.fbit R.PAIR_CFG_REVERT_EN then 1
  else if !h.preferred then 2
  else if h.fbit R.PAIR_STATUS_PREF_CLASH then 3
  else if h.mode == .follow && h.fget R.PAIR_STATUS_SYNC == 4 && !h.sup.fault && h.fbit R.PAIR_STATUS_GUY_A && h.fbit R.PAIR_STATUS_GUY_B then 0
  else 4

/-- Within 1 ms of becoming active a module sends a gratuitous ARP for each source address of its publish sessions (R306). -/
def Hw.garps (h : Hw) : Hw :=
  let w := fun i j => ((tget [] h.net.dirs i).getD j 0#32).toNat
  let s := fun (x : Sess) j => (x.words.getD j 0#32).toNat
  let is := (h.net.sess.filter (fun p => bitsOf (s p.2 0) 0 2 == 1 && !(s p.2 5).testBit 14 && (w (bitsOf (s p.2 5) 0 14) 2).testBit 16)).map
    (fun p => w (bitsOf (s p.2 5) 0 14) 0)
  is.eraseDups.foldl (fun h ip => h.netSend (.garp ip)) h

/-- The configured profile of pair `n` (CMP_EP_PROFILE). -/
def Hw.cfgProfile (h : Hw) (n : Nat) : Nat := bitsOf (h.reg 0x40020010).toNat (2 * n) 2

/-- The configured profiles come into force (R54). -/
def Hw.latchProfiles (h : Hw) : Hw :=
  (List.range 4).foldl (fun h n => h.fset (R.CMP_EPn_STATUS_PROFILE n) (h.cfgProfile n)) h

/-- AUTO_LEFT, and its copy in the state record. -/
def Hw.setAutoLeft (h : Hw) (n : Nat) : Hw :=
  (h.fset R.SUP_MODE_STATUS_AUTO_LEFT n).nvPush (.state (h.fbit R.SUP_MODE_STATUS_SAFE_LATCH) n)

/-- The role that the mode gives (R286) with what follows it: SYNC, JOINED and the offset read 0 outside a follower and its
resynchronisation, a revert's conditions start afresh, a module that becomes active announces its addresses. -/
def Hw.roleChange (h : Hw) : Hw :=
  let old := h.fget R.PAIR_STATUS_ROLE
  let h1 := h.fset R.PAIR_STATUS_ROLE h.role
  let h2 := if h1.mode = .follow ∨ h1.mode = .recovery then h1
    else ({ ((h1.fset R.PAIR_STATUS_SYNC 0).fset R.PAIR_JOINED_JOINED 0).setReg R.PAIR_TB_OFFSET 0#32 with
            pair := { h1.pair with okSince := none, ready := false, step := 0, retryAt := none } })
  if old ≠ 1 ∧ h2.role = 1 then h2.garps else h2

/-- A transition that another one has overtaken while it waited (R46, R287): its command ends with the mode entered (R336), and the requests
held meanwhile go back to the head of the SUP queue, to be evaluated against that mode (log 100). -/
def Hw.supersede (h : Hw) : Hw :=
  if h.sup.waitTo.isNone then h
  else
    let ds := h.sup.heldReqs.map (·.2)
    let q := ds ++ h.hif.queue
    let h1 := ({ h with sup := { h.sup with waitTo := none, waitCmd := none, heldReqs := [] },
                        hif := { h.hif with queue := q, running := h.hif.running.filter (fun d => !ds.contains d) } }).fset
      R.HIF_STATUS_QUEUED (min 64 q.length)
    match h.sup.waitCmd with
    | some d => h1.complete d stOk true h1.mode.code (event := 0x0030)
    | none => h1

/-- A transition (R39): 0x0030 is recorded, the status registers, the lands and everything that follows a mode change. -/
def Hw.setMode (h : Hw) (m : Mode) (cause : Nat) : Hw :=
  let old := h.mode
  let h0 := if m.runsTasks then h.fset R.WDG_CTRL_LOCK 1 else h
  let h1 := ((h0.fset R.SUP_MODE_STATUS_PREV_MODE old.code).fset R.SUP_MODE_STATUS_MODE m.code).fset R.SUP_MODE_STATUS_CAUSE cause
  let h2 := h1.raise 0x0030 old.code m.code cause
  let h3 := if old = .stop ∨ old = .service ∨ (old = .boot ∧ m ≠ .provision) then h2.latchProfiles else h2
  let h4 := if old = Mode.recovery ∧ h.sup.byCommand then h3.setAutoLeft (h3.fget R.SUP_MODE_CFG_AUTO_RECOVER) else h3
  let h5 := ((h4.abortActs m).recheckDeferred).disarm m
  let h6 := { h5 with nvs := { h5.nvs with unlocks := [] },
                      tsk := { h5.tsk with pendEv := if old = Mode.startup ∨ old = Mode.test then [] else h5.tsk.pendEv,
                                           pcPend := if old = Mode.startup ∨ old = Mode.test then [] else h5.tsk.pcPend,
                                           pcAcc := if old = Mode.startup ∨ old = Mode.test
                                             then h5.tsk.pcPend.foldl (fun l (p : Nat × Nat) => tset 0 l p.1 (tget 0 l p.1 ||| p.2)) h5.tsk.pcAcc else h5.tsk.pcAcc,
                                           wins := if m = Mode.stop ∨ m = Mode.service then [] else h5.tsk.wins,
                                           epoch := if m = Mode.stop then none else h5.tsk.epoch },
                      sup := { h5.sup with oob := if m = Mode.parked then [] else h5.sup.oob,
                                           startupAt := if m = Mode.startup then h5.clk.up else h5.sup.startupAt,
                                           recoveryAt := if m = Mode.recovery then h5.clk.up else h5.sup.recoveryAt,
                                           parkedAt := if m = Mode.parked then h5.clk.up else h5.sup.parkedAt,
                                           byCommand := if old = Mode.recovery then false else h5.sup.byCommand,
                                           intent := if old = Mode.recovery then false else h5.sup.intent } }
  let h7 := if m.publishes then h6 else h6.stopPublishing
  let h7 := if m.counts then h7 else { h7 with wdg := { h7.wdg with opens := [] } }
  let h8 := (h7.lands).fset R.HIF_STATUS_MODE m.code
  let h9 := (h8.roleChange).supersede
  if m = .parked ∧ old ≠ .parked then h9.clearForces 2 else h9.forceStatus

/-- A refused mode request: 0x0033 (R45). Reasons: 1 no row, 2 condition, 3 BUSY, 4 LIVE_IN in TEST. -/
def Hw.refuse (h : Hw) (target : Mode) (reason act : Nat) : Hw := h.raise 0x0033 target.code reason act

/-- What SAFE entry notes for R50 and for 0x0031, and 0x0032 where no automatic recovery is left. -/
def Hw.safeNote (h : Hw) (cause detail prev : Nat) : Hw :=
  let h1 := { h with sup := { h.sup with safeAt := h.clk.up, safeCause := cause, safeDetail := detail, safePrev := prev,
                                         safeRecorded := false } }
  if h1.fget R.SUP_MODE_STATUS_AUTO_LEFT = 0 then h1.raise 0x0032 cause (h1.fget R.SUP_MODE_CFG_AUTO_RECOVER) else h1

/-- SAFE_COPY and the latch at once, and the MRAM copy's write (R47). -/
def Hw.latchSafe (h : Hw) : Hw :=
  let h1 := (h.fset R.CAL_BKREC0_SAFE_COPY 1).fset R.SUP_MODE_STATUS_SAFE_LATCH 1
  h1.nvPush (.state true (h1.fget R.SUP_MODE_STATUS_AUTO_LEFT))

/-- SAFE entry (R47, R48): the latch, every cycle ended, a swap rolled back (R120), the mode. -/
def Hw.safeEntry (h : Hw) (cause detail : Nat) : Hw :=
  let h1 := h.latchSafe
  let h2 := if h.fget R.TSK_OLC_STATUS_STATE = 4 then h1.olcRollback 13 0 else h1
  ((((h2.endCycles).setMode Mode.safe cause)).safeNote cause detail h.mode.code).useInc 6

/-- A SAFE cause (Table 2-3): no effect in BOOT, SAFE and PARKED and after loss of VIN; in RECOVERY every one of Table
2-5's fails the self-test (R151). -/
def Hw.safe (h : Hw) (cause detail : Nat) : Hw :=
  if h.mode = .boot ∨ h.mode = .safe ∨ h.mode = .parked ∨ h.nvs.vinLost = true then h
  else h.safeEntry (if h.mode = .recovery ∧ 0x30 ≤ cause ∧ cause ≤ 0x37 then 0x37 else cause) detail

/-! ## Start checks (R55, R135, R419) -/

/-- The program's task kinds, pairs and safety marks as loaded. -/
def Hw.kind (h : Hw) (t : Nat) : Nat := h.fget (R.TSK_Tn_CTRL_KIND t)
def Hw.ep (h : Hw) (t : Nat) : Nat := h.fget (R.TSK_Tn_CTRL_EP t)

/-- Whether output item `x` of task `t` touches a safety target (R135). -/
def Hw.safetyItem (h : Hw) (t x : Nat) : Bool :=
  let it := h.item x
  match it.kind with
  | 0 => h.prog.chans.any (fun c => c.safety && c.owner == t && c.channel / 8 == it.group)
  | 1 => h.prog.chans.any (fun c => c.safety && c.owner == t && c.channel == it.channel)
  | _ => h.prog.fields.any (fun f => f.safety && f.session == it.session && decide (f.offset < it.foff + it.flen ∧ it.foff < f.offset + f.len))

/-- The first R135 violation of task `t`: its item index, or its area index with bit 15 set. -/
def Hw.splitTarget (h : Hw) (t : Nat) : Option Nat :=
  let s := h.itemSpan t
  match ((List.range s.2.2).map (· + s.1 + s.2.1)).find? (h.safetyItem t) with
  | some x => some x
  | none => ((h.prog.exch.zipIdx).find? (fun e => e.1.safety && e.1.task == t)).map (fun e => e.2 + 0x8000)

/-- The event that a refused transition to `m`, which would release tasks, records: (code, p0, p1). -/
def Hw.startRefusal (h : Hw) (m : Mode) : Option (Nat × Nat × Nat) :=
  if h.fbit R.WDG_CTRL_DISABLED then some (0x0033, m.code, 2)
  else
    let ts := (List.range 32).filter (fun t => h.kind t != 0 && h.cfgProfile (h.ep t) == 3)
    match ts.find? (fun t => h.fbit (R.TSK_Tn_CTRL_SAFETY t)) with
    | some t => some (0x0034, t, h.ep t)
    | none =>
      match ts.find? (fun t => (h.splitTarget t).isSome) with
      | some t => some (0x2011, t, (h.splitTarget t).getD 0)
      | none => none

/-! ## The completion of mode requests (R336) -/

/-- A MODE_REQ ends with the mode entered. -/
def Hw.modeDone (h : Hw) (d : Desc) : Hw := h.complete d stOk true h.mode.code (event := 0x0030)

/-- A MODE_REQ that no row or no condition permits. -/
def Hw.modeRefused (h : Hw) (d : Desc) (target : Mode) (reason : Nat) : Hw :=
  (h.refuse target reason 0).complete d stMode true (detail := h.mode.code) (event := 0x0033)

/-- A MODE_REQ that R62 refuses because of a running activity. -/
def Hw.modeBusy (h : Hw) (d : Desc) (target : Mode) (a : Act) : Hw :=
  (h.refuse target 3 a.code).complete d stBusy true (detail := a.code) (event := 0x0033)

end Sys2Proof.Machine
end

