-- ==== Sys2Proof/Machine/Access.lean ====
section
/-! DEFINITION. What a core's accesses do on their way: the CMP injection points at their occasions (R150), the caches (R125 to R127,
R134), the undo log's entries (R139 to R141), checked stores and the held-store queue (R136, R137), the timer table (R86, R88). -/

namespace Sys2Proof.Machine

/-! ## CMP injection points (R150) -/

/-- Whether point 0x200 + `l` is armed on pair `p`. -/
def Hw.cmpArmed (h : Hw) (p l : Nat) : Bool := h.armed 2 == some (0x200 + l) && h.fget R.CMP_INJ_CTRL_EP == p % 4

/-- The armed point 0x200 + `l` acts on pair `p` and task `t`: ARM 0, DONE 1, event 0x2020 with INJECTED, the INJ_ARM command done. -/
def Hw.cmpAct (h : Hw) (p l t : Nat) : Hw :=
  (((h.asInj true (fun h => h.raise 0x2020 (0x200 + l) p t)).fset R.CMP_INJ_CTRL_ARM 0).fset R.CMP_INJ_CTRL_DONE 1).injDone (0x200 + l) stOk 0 0x2020

/-! ## The caches (R125 to R127, R134, R169) -/

/-- The cores whose caches an access of target `i` fills: both of a lockstep pair, its own of a SPLIT core. -/
def Hw.filled (h : Hw) (i : Nat) : List Nat := if h.split (i / 2) then [i] else [i, i + 1]

/-- The line of address `a` enters the instruction caches from one fetch (R126). -/
def Hw.fetchLine (h : Hw) (i a : Nat) : Hw :=
  (h.filled i).foldl (fun h k => h.setCache k { h.cache k with icode := cacheFill k (lineOf a) (h.cache k).icode }) h

/-- The line of address `a` enters the data caches; a core that did not hold it takes it as memory holds it. -/
def Hw.dataLine (h : Hw) (i a : Nat) : Hw :=
  (h.filled i).foldl (fun h k =>
    let c := h.cache k
    if c.data.contains (lineOf a) then h
    else h.setCache k { c with data := cacheFill k (lineOf a) c.data, own := c.own.filter (fun p => lineOf p.1 != lineOf a) }) h

/-- Whether a core's caches hold an error in the line of address `a`. -/
def Caches.err (c : Caches) (a : Nat) : Bool := c.one.contains (lineOf a) || c.two.contains (lineOf a)

/-- A cache error is met in the window that is open on lockstep target `i` (R127): the first one counts. -/
def Hw.noteErr (h : Hw) (i : Nat) (shadow : Bool) : Hw :=
  if (h.tgt i).cacheErr.isSome then h else h.setTgt i { h.tgt i with cacheErr := some shadow }

/-- Point 0x204 at a hit in the shadow's data cache: the line takes a 1-bit error, which the read of that line meets (Table 5-7). -/
def Hw.plant (h : Hw) (i t a : Nat) : Hw :=
  let c := h.cache (i + 1)
  if !h.split (i / 2) && c.data.contains (lineOf a) && h.cmpArmed (i / 2) 4 then
    let h1 := (h.cmpAct (i / 2) 4 t).setCache (i + 1) { c with one := lineOf a :: c.one }
    { h1 with exe := { h1.exe with injMis := some (16 + i / 2) } }
  else h

/-- SEC-DED on the line of address `a`: on a SPLIT core a corrected error is repaired in place and an uncorrectable one is a machine check
(R134); in lockstep either counts for the open window, and nothing is repaired (R127). -/
def Hw.eccLine (h : Hw) (i a : Nat) : Hw × Option Trap :=
  let c := h.cache i
  if h.split (i / 2) then
    if c.two.contains (lineOf a) then (h, some { cause := 12, detail := 4 })
    else (if c.one.contains (lineOf a) then h.setCache i { c with one := c.one.filter (· != lineOf a) } else h, none)
  else if c.err a then (h.noteErr i false, none)
  else if (h.cache (i + 1)).err a then (h.noteErr i true, none)
  else (h, none)

/-- A data read of address `a` by task `t` on target `i` through the caches: the hit or the line fill, and what SEC-DED finds. -/
def Hw.cacheRead (h : Hw) (i t a : Nat) : Hw × Option Trap :=
  if cacheable a then
    match (h.plant i t a).eccLine i a with
    | (h1, none) => (h1.dataLine i a, none)
    | r => r
  else (h, none)

/-- A byte as the cache of core `k` gives it: its own where a store put one beside memory. -/
def Hw.cacheByte (h : Hw) (k a : Nat) : Byte := tget (h.mb (coreToSup a)) (h.cache k).own a

/-- What a request reads of a cached line: first byte and size. -/
def Req.reads : Req → Option (Nat × Nat)
  | .load a n => some (a.toNat, n)
  | .bitLoad ba => (bitPlace ba.toNat).map (fun p => (p.1, 1))
  | .bitStore ba _ => (bitPlace ba.toNat).map (fun p => (p.1, 1))
  | .edge ba _ => (edgeInst ba.toNat).map (fun x => (0x107FFC00 + x / 8, 1))
  | _ => Option.none

/-- What a request stores over a byte `v` that it has read: first byte, size, data. -/
def Req.stores (r : Req) (v : Nat) : Option (Nat × Nat × Nat) :=
  match r with
  | .store a n d => some (a.toNat, n, d)
  | .bitStore ba op => (bitPlace ba.toNat).map (fun p => (p.1, 1, setBitsOf v p.2 1 (b2n (op.apply (v.testBit p.2)))))
  | .edge ba cur => (edgeInst ba.toNat).map (fun x => (0x107FFC00 + x / 8, 1, setBitsOf v (x % 8) 1 (b2n cur)))
  | _ => Option.none

/-- The answer that the shadow of target `i` consumes (R125): the lead's value, but for the bytes that its own data cache holds of its own
at its own address. `r` is the shadow's request; a bit read's answer is the bit. -/
def Hw.shadowAns (h : Hw) (i : Nat) (r : Req) (ab : Nat × Nat) : Nat × Nat :=
  if (h.cache (i + 1)).own.isEmpty then ab
  else match r.reads with
    | none => ab
    | some (a, n) =>
      if !(List.range n).any (fun j => (h.cache (i + 1)).own.any (fun p => p.1 == a + j)) then ab
      else match r with
        | .bitLoad ba => (b2n ((h.cacheByte (i + 1) a).toNat.testBit (((bitPlace ba.toNat).map (·.2)).getD 0)), ab.2)
        | .load _ _ =>
          let v := leNat ((List.range n).map (fun j => tget (BitVec.ofNat 8 ((ab.1 + ab.2 * 2 ^ 32) / 2 ^ (8 * j))) (h.cache (i + 1)).own (a + j)))
          (v % 2 ^ 32, v / 2 ^ 32)
        | _ => ((h.cacheByte (i + 1) a).toNat, ab.2)

/-- The bytes of a store as addresses with data. -/
def storeBytes (x : Option (Nat × Nat × Nat)) : List (Nat × Byte) :=
  match x with
  | some (a, n, v) => (List.range n).map (fun j => (a + j, BitVec.ofNat 8 (v / 2 ^ (8 * j))))
  | none => []

/-- The shadow's data cache after a store (R125, R126): its own bytes at its own address, where its cache holds the line; at the lead's
address, where the shadow stored nothing, what its cache held before (`h0`). Exchange-area stores are held and reach no cache. -/
def Hw.shadowStore (h0 h : Hw) (i : Nat) (lead shadow : List (Nat × Byte)) : Hw :=
  let c := h.cache (i + 1)
  let inC := fun (p : Nat × Byte) => cacheable p.1 && c.data.contains (lineOf p.1) && (exchOf h.prog.exch p.1).isNone
  let put := fun (l : List (Nat × Byte)) (p : Nat × Byte) => if p.2 = h.mb (coreToSup p.1) then tdel l p.1 else tput l p.1 p.2
  let kept := (lead.map (fun p => (p.1, h0.cacheByte (i + 1) p.1))).filter inC
  if lead = shadow ∧ c.own = [] then h
  else h.setCache (i + 1) { c with own := (kept ++ shadow.filter inC).foldl put c.own }

/-- Both cores' caches are invalidated (step 4 of R142). -/
def Hw.emptyCaches (h : Hw) (i : Nat) : Hw := (h.filled i).foldl (fun h k => h.setCache k {}) h

/-! ## The undo log -/

/-- Journals the old contents before a write of task `t` on target `i`: nothing when the group is among the last 64
journalled in the segment (R140); at a full log (or where injection 0x205 makes it report full) the write goes on without
an entry, OVF is set and 0x2005 is recorded once for the cycle (R141). -/
def Hw.journal (h : Hw) (i t kind group : Nat) : Hw :=
  let g := h.tgt i
  let inj := h.cmpArmed (i / 2) 5
  if (kind, group) ∈ g.filter then h
  else if g.undo.length ≥ h.undoCap i || inj then
    let h1 := if inj then h.cmpAct (i / 2) 5 t else h
    let c := h1.cyc t
    let h2 := (h1.fset (R.CMP_EPn_STATUS_OVF (i / 2)) 1).fset (R.CMP_EPn_UNDO_OVF_SEEN (i / 2)) 1
    if c.ovf then h2
    else (({ h2 with pair := { h2.pair with ovfSeen := true } }).setCyc t { c with ovf := true }).asInj inj
      (fun h => h.raise 0x2005 (epTask (i / 2) t) (c.k % 2 ^ 32))
  else
    let h1 := h.setUndo i ({ kind := kind, group := group, task := t, old := h.undoOld kind group } :: g.undo)
    h1.setTgt i { h1.tgt i with filter := (kind, group) :: g.filter.take 63 }

/-! ## Stores -/

/-- Performs a checked store of task `t` on target `i`: held in an exchange area, otherwise journalled where R139 says so
and written; the other pairs' caches lose the line (R169). -/
def Hw.doStore (h : Hw) (i t a n v : Nat) : Hw :=
  let p := i / 2
  if (exchOf h.prog.exch a).isSome then
    h.setHeld p (heldPut t (a / 8) (a % 8) n (v % 2 ^ (8 * n)) (h.heldOf p))
  else
    let h1 :=
      if 0x10000000 ≤ a && a < 0x10800000 then (h.journal i t 0 ((a - 0x10000000) / 8)).inval (some p) a n
      else if 0x21000000 ≤ a && a < 0x21040000 then h.journal i t 1 ((a - 0x21000000) / 8)
      else h
    h1.setMl (coreToSup a) n v

/-- The held queue of pair `p` is full (R137): FULL_SEEN, 0x2007 with the area. -/
def Hw.heldFull (h : Hw) (p t x : Nat) : Hw := (h.fset (R.CMP_EPn_HELD_FULL_SEEN p) 1).raise 0x2007 (epTask p t) x

/-- Whether the held-store queue of pair `p` has no free entry. -/
def Hw.heldNoRoom (h : Hw) (p : Nat) : Bool := decide (1024 ≤ ((h.heldOf p).filter Held.takes).length)

/-- A store by task `t`: the access check, the held-queue check (R137, event 0x2007; injection 0x206 at a store that needs an entry), then
the store. EADDR is `ea`. -/
def Hw.storeReq (h : Hw) (i t a n v : Nat) (ea : Word) : Hw × Resp :=
  let p := i / 2
  match h.storeFault (h.split p) t a n with
  | some d => (h, .trap { cause := 5, detail := d, eaddr := ea })
  | none =>
    match exchOf h.prog.exch a with
    | some (x, _) =>
      if heldHas t (a / 8) (h.heldOf p) then (h.doStore i t a n v, .val 0 0)
      else if h.cmpArmed p 6 then ((h.cmpAct p 6 t).asInj true (fun h => h.heldFull p t x), .trap { cause := 8, eaddr := ea })
      else if h.heldNoRoom p then (h.heldFull p t x, .trap { cause := 8, eaddr := ea })
      else (h.doStore i t a n v, .val 0 0)
    | none => (h.doStore i t a n v, .val 0 0)

/-! ## Timer requests -/

/-- Journals both halves of a timer entry and writes it (R88). -/
def Hw.writeTimer (h : Hw) (i t x : Nat) (e : Timer) : Hw :=
  ((h.journal i t 2 (2 * x)).journal i t 2 (2 * x + 1)).setTimer x e

/-- A COP2 access of task `t` (R199). Detail 6 is the evaluations' on a TYPE 3 entry; TETH counts as one of them (log 117). -/
def Hw.timerReq (h : Hw) (i t : Nat) (x : Nat) (op : TmrOp) : Hw × Resp :=
  let e := h.timer x
  let now := (h.cyc t).due / 1000
  if x ≥ 8192 || !e.alloc || e.owner != t then (h, .trap { cause := 9, detail := 5 })
  else match op with
    | .eval inp pt =>
      if e.typ = 3 then (h, .trap { cause := 9, detail := 6 })
      else
        let r := e.eval now inp pt
        (h.writeTimer i t x r.1, .val (min r.2 0xFFFFFFFF) (b2n r.1.q))
    | .high =>
      if e.typ = 3 then (h, .trap { cause := 9, detail := 6 })
      else (h, .val (bitsOf (e.eval now e.inp e.pt).2 32 8) 0)
    | .reset => (h.writeTimer i t x { e with w0 := setBitsOf e.w0 2 4 0 }, .val 0 0)
    | .word0 => (h, .val e.w0 0)

end Sys2Proof.Machine
end

