-- ==== Sys2Proof/Machine/Images.lean ====
section
/-! DEFINITION. The image engine: records (Tables 3-7 and 3-8), input forces (R96, R97), windows (R75), releases (R77, R98,
R117, R474) and the release digest (R302). -/

namespace Sys2Proof.Machine

/-! ## Accessors -/

def Hw.sess (h : Hw) (s : Nat) : Sess := tget {} h.net.sess s
def Hw.setSess (h : Hw) (s : Nat) (x : Sess) : Hw := { h with net := { h.net with sess := tset {} h.net.sess s x } }
def Hw.lnk (h : Hw) (g : Nat) : Lnk := tget {} h.fld.lnk g
def Hw.setLnk (h : Hw) (g : Nat) (x : Lnk) : Hw := { h with fld := { h.fld with lnk := tset {} h.fld.lnk g x } }
def Hw.fs (h : Hw) (g : Nat) : Fs := tget {} h.fld.fs g
def Hw.setFs (h : Hw) (g : Nat) (x : Fs) : Hw := { h with fld := { h.fld with fs := tset {} h.fld.fs g x } }
def Hw.img (h : Hw) (g : Nat) : GImg := tget {} h.fld.img g
def Hw.setImg (h : Hw) (g : Nat) (x : GImg) : Hw := { h with fld := { h.fld with img := tset {} h.fld.img g x } }
def Hw.aimg (h : Hw) (c : Nat) : AImg := tget {} h.fld.aimg c
def Hw.setAimg (h : Hw) (c : Nat) (x : AImg) : Hw := { h with fld := { h.fld with aimg := tset {} h.fld.aimg c x } }
def Fs.ch (f : Fs) (c : Nat) : FsCh := tget {} f.chs c
def Fs.setCh (f : Fs) (c : Nat) (x : FsCh) : Fs := { f with chs := tset {} f.chs c x }
def Hw.fch (h : Hw) (c : Nat) : FsCh := (h.fs (c / 8)).ch (c % 8)
def Hw.setFch (h : Hw) (c : Nat) (x : FsCh) : Hw := h.setFs (c / 8) ((h.fs (c / 8)).setCh (c % 8) x)

/-- Word `i` of a session's entry as a number. -/
def Sess.wd (s : Sess) (i : Nat) : Nat := (s.words.getD i 0#32).toNat
def Sess.kind (s : Sess) : Nat := bitsOf (s.wd 0) 0 2
def Sess.pull (s : Sess) : Bool := (s.wd 0).testBit 2
def Sess.qos (s : Sess) : Nat := bitsOf (s.wd 0) 3 3
def Sess.topoChk (s : Sess) : Bool := (s.wd 0).testBit 7
def Sess.eng (s : Sess) : Bool := (s.wd 0).testBit 8
def Sess.dataLen (s : Sess) : Nat := bitsOf (s.wd 0) 16 11
def Sess.comId (s : Sess) : Nat := s.wd 1
def Sess.cycleMs (s : Sess) : Nat := bitsOf (s.wd 2) 0 16
def Sess.timeoutMs (s : Sess) : Nat := bitsOf (s.wd 2) 16 16
def Sess.phaseUs (s : Sess) : Nat := bitsOf (s.wd 3) 0 26
def Sess.destIp (s : Sess) : Nat := s.wd 4
def Sess.srcDir (s : Sess) : Nat := bitsOf (s.wd 5) 0 14
def Sess.anySrc (s : Sess) : Bool := (s.wd 5).testBit 14

/-- The entry as a read shows it (R12): the one that waits for the first publication (R116), else the one in force. -/
def Sess.entry (s : Sess) : List Word := s.next.getD s.words

/-- `n` bytes of a buffer from offset `o`, zeros past its end. -/
def sliceZ (bs : List Byte) (o n : Nat) : List Byte := (List.range n).map (fun i => bs.getD (o + i) 0#8)

/-- A buffer with `x` written at offset `o`, lengthened with zeros where needed. -/
def spliceZ (bs : List Byte) (o : Nat) (x : List Byte) : List Byte :=
  sliceZ bs 0 o ++ x ++ bs.drop (o + x.length)

/-! ## Channels -/

/-- The mode applied at the field side. -/
def Hw.chMode (h : Hw) (c : Nat) : Nat := h.fget (R.FLD_CHc_STATUS_MODE_APPLIED c)

/-- The task that owns a channel; 0xFF for none. -/
def Hw.chOwner (h : Hw) (c : Nat) : Nat := ((h.prog.chans.find? (fun x => x.channel == c)).map (·.owner)).getD 0xFF

/-- A byte of eight flags. -/
def mask8 (p : Nat → Bool) : Nat := (List.range 8).foldl (fun a i => a + b2n (p i) * 2 ^ i) 0

def Hw.barrier (h : Hw) (g : Nat) : Bool := h.fbit (R.FLD_GRPg_STATUS_BARRIER_OK g)
def Hw.zirek (h : Hw) (g : Nat) : Bool := h.fbit (R.FLD_GRPg_STATUS_ZIREK g)
def Hw.supplyOk (h : Hw) (g : Nat) : Bool := h.fbit (R.FLD_GRPg_STATUS_SUPPLY_OK g)

/-- The pulse-catch accumulation of task `t` for channel `c` (R85): bit 0 rise, bit 1 fall. -/
def Hw.pc (h : Hw) (t c : Nat) : Nat := tget 0 h.tsk.pcAcc (t * 64 + c)
def Hw.setPc (h : Hw) (t c v : Nat) : Hw := { h with tsk := { h.tsk with pcAcc := tset 0 h.tsk.pcAcc (t * 64 + c) v } }

/-- What the frozen records of a pending EVENT release have taken of it (R84). -/
def Hw.pcHeld (h : Hw) (t c : Nat) : Nat := tget 0 h.tsk.pcPend (t * 64 + c)

/-- A transition report of channel `c` enters every task's accumulation (R85, R226). -/
def Hw.pcReport (h : Hw) (c bits : Nat) : Hw :=
  (List.range 32).foldl (fun h t => if h.kind t = 0 then h else h.setPc t c (h.pc t c ||| bits)) h

/-- The active input force on a channel. -/
def Hw.chForce (h : Hw) (target dir c : Nat) : Option Force :=
  (h.tsk.forces.find? (fun p => p.2.active && p.2.target == target && p.2.dir == dir && p.2.channel == c)).map (·.2)

/-- Whether a channel is under a channel test (R256). -/
def Hw.underTest (h : Hw) (c : Nat) : Bool := (h.fld.tests.find? (fun p => p.1 == c)).isSome

/-! ## Input records -/

/-- STATE, VALID, PC_RISE, PC_FALL, FAULT and FORCED of channel `c` for task `t` before forces (Table 3-7). -/
def Hw.diBits (h : Hw) (t c : Nat) : Bool × Bool × Bool × Bool × Bool :=
  let m := h.chMode c
  let io := m == 1 || m == 2
  let g := c / 8
  let wb := h.fbit (R.FLD_CHc_STATUS_WIREBREAK c)
  let fault :=
    if h.zirek g then (h.lnk g).flags.testBit (c % 8)
    else (m == 1 && wb) || (m == 2 && (h.fbit (R.FLD_CHc_STATUS_OVL_OFF c) || h.fbit (R.FLD_CHc_STATUS_THERMAL c) || h.fbit (R.FLD_CHc_STATUS_LATCHED c)))
  (io && (h.img g).state.testBit (c % 8),
   io && h.barrier g && !(m == 1 && wb) && !(m == 2 && !h.supplyOk g),
   (h.pc t c ||| h.pcHeld t c).testBit 0, (h.pc t c ||| h.pcHeld t c).testBit 1, fault)

/-- The bits of channel `c` after its input force and R97's pulse bits; `prev` the previous window's record byte 0 and byte 5,
or none. The last component is FORCED. -/
def Hw.diForced (h : Hw) (t c : Nat) (prev : Option (Nat × Nat)) : Bool × Bool × Bool × Bool × Bool × Bool :=
  let b := h.diBits t c
  let i := c % 8
  match h.chForce 0 0 c with
  | some f =>
    let st := f.value % 2 == 1
    let r := match prev with
      | some (s, _) => (st && !s.testBit i, !st && s.testBit i)
      | none => (false, false)
    (st, b.2.1 || f.fvalid, r.1, r.2, b.2.2.2.2 && !f.fvalid, true)
  | none =>
    match prev with
    | some (s, fo) =>
      if fo.testBit i then
        (b.1, b.2.1, b.2.2.1 || (b.1 && !s.testBit i), b.2.2.2.1 || (!b.1 && s.testBit i), b.2.2.2.2, false)
      else (b.1, b.2.1, b.2.2.1, b.2.2.2.1, b.2.2.2.2, false)
    | none => (b.1, b.2.1, b.2.2.1, b.2.2.2.1, b.2.2.2.2, false)

/-- A digital input record (Table 3-7). -/
def Hw.digRecord (h : Hw) (t g inst : Nat) (prev : Option (Nat × Nat)) : List Byte :=
  let bs := (List.range 8).map (fun i => h.diForced t (g * 8 + i) prev)
  let col := fun (p : Bool × Bool × Bool × Bool × Bool × Bool → Bool) =>
    BitVec.ofNat 8 (mask8 (fun i => (bs.map p).getD i false))
  let im := h.img g
  let age := min 255 ((inst - im.ts) / 1000)
  [col (·.1), col (·.2.1), col (·.2.2.1), col (·.2.2.2.1), col (·.2.2.2.2.1), col (·.2.2.2.2.2)] ++
    leBytes 2 (b2n (h.barrier g) + b2n (h.supplyOk g) * 2 + b2n (h.fbit (R.FLD_GRPg_STATUS_SUPPLY_LOW g)) * 4 + b2n (h.zirek g) * 8 + age * 256) ++
    leBytes 4 (im.ts / 1000) ++ leBytes 4 0

/-- STATUS of an analogue record but for VALID, FORCED and BARRIER_OK (Table 9-3). -/
def Hw.anFlags (h : Hw) (c : Nat) : Nat :=
  let m := h.chMode c
  let ai := m == 3
  let f := fun (x : Fld) => h.fbit x
  let lim := f (R.FLD_CHc_AN_STATUS_LIMITER c) || f (R.FLD_CHc_AN_STATUS_DISCONNECTED c)
  b2n (ai && f (R.FLD_CHc_AN_STATUS_NE43_LOW c)) * 2 + b2n (ai && f (R.FLD_CHc_AN_STATUS_NE43_HIGH c)) * 4 +
    b2n (ai && lim) * 8 + b2n (m == 4 && f (R.FLD_CHc_AN_STATUS_COMPLIANCE c)) * 16 +
    b2n (h.supplyOk (c / 8)) * 128 + b2n (ai && f (R.FLD_CHc_AN_STATUS_LOW_FLOW_CUT c)) * 256

/-- STATUS of an analogue record before forces (Table 9-3); an AI channel under test keeps its last values with VALID = 0 (R256). -/
def Hw.anStatus (h : Hw) (c : Nat) : Nat :=
  let m := h.chMode c
  let g := c / 8
  let ai := m == 3
  let f := fun (x : Fld) => h.fbit x
  let lim := f (R.FLD_CHc_AN_STATUS_LIMITER c) || f (R.FLD_CHc_AN_STATUS_DISCONNECTED c)
  let ne := f (R.FLD_CHc_AN_STATUS_NE43_LOW c) || f (R.FLD_CHc_AN_STATUS_NE43_HIGH c)
  let bad := h.fget (R.FLD_CHc_SCALE_CFG_CHAR c) == 2 && f (R.FLD_CHc_AN_STATUS_TABLE_BAD c)
  let valid := h.barrier g && (h.aimg c).done &&
    (if ai then !lim && !f (R.FLD_CHc_AN_STATUS_ADC_FAULT c) && !ne && !bad
     else m == 4 && !f (R.FLD_CHc_AN_STATUS_RB_FAULT c))
  b2n (h.barrier g) * 64 + (if ai && h.underTest c then (h.aimg c).st else b2n valid + h.anFlags c)

/-- An analogue input record (Table 3-8, R96). -/
def Hw.anRecord (h : Hw) (c inst : Nat) : List Byte :=
  let a := h.aimg c
  let st := h.anStatus c
  let r : Nat × Nat × Nat := match h.chForce 1 0 c with
    | some f => (f.value % 2 ^ 32, f.value / 2 ^ 32 % 2 ^ 32, if f.fvalid then setBitsOf st 0 5 1 ||| 32 else st ||| 32)
    | none => (a.na, a.scaled.toNat, st)
  leBytes 4 r.1 ++ leBytes 4 r.2.1 ++ leBytes 4 (a.ts / 1000) ++ leBytes 2 r.2.2 ++
    [BitVec.ofNat 8 (min 255 (inst / 1000 - a.ts / 1000)), BitVec.ofNat 8 c]

/-- Whether an active TARGET 2 force of direction `dir` lies on session `s`. -/
def Force.onSes (f : Force) (dir s : Nat) : Bool := f.active && f.target == 2 && f.dir == dir && f.session == s

/-- A session's bytes after its forces of direction `dir`. -/
def Hw.pdForced (h : Hw) (dir s : Nat) (bs : List Byte) : List Byte :=
  h.tsk.forces.foldl (fun b p => if p.2.onSes dir s then spliceZ b p.2.off (leBytes p.2.len p.2.value) else b) bs

/-- A process-data input record (the text after Table 3-8, R73, R96). AGE_US of a session that has never received is a
free value (log 3). -/
def Hw.pdRecord (h : Hw) (it : ItemRow) (inst : Nat) : List Byte :=
  let s := h.sess it.session
  let hit := h.tsk.forces.filter (fun p => p.2.onSes 0 it.session && decide (p.2.off < it.foff + it.flen ∧ it.foff < p.2.off + p.2.len))
  let fv := hit.any (·.2.fvalid)
  let st := b2n (s.valid || fv) + b2n (s.never && !fv) * 2 + b2n (!hit.isEmpty) * 4
  let age := if s.never then (Config.freeValue h.free).toNat % 2 ^ 32
    else min 0xFFFFFFFF ((h.clk.up - s.rxAt - (h.clk.tb - inst)) / 1000)
  let body := sliceZ (h.pdForced 0 it.session (sliceZ (if s.never then [] else s.rxBuf) 0 1432)) it.foff it.flen
  leBytes 2 it.session ++ [BitVec.ofNat 8 st, 0#8] ++ leBytes 4 age ++ sliceZ body 0 (ceilTo 8 it.flen)

/-- STATE and FORCED of a group's record in the previous window of task `t`; none where there is no previous window or it did not hold
the group (R97, log 108). -/
def Hw.prevDig (h : Hw) (t g : Nat) : Option (Nat × Nat) :=
  let p := tget (0, 0) h.tsk.prevDi (t * 8 + g)
  if tget false h.tsk.wins t && p.2.testBit 8 then some p else none

/-- The records of task `t`'s input items for sampling instant `inst`, by supervisor-view address. -/
def Hw.inRecords (h : Hw) (t inst : Nat) : List (Nat × List Byte) :=
  let s := h.itemSpan t
  let base := imgBase + ((h.inWin t).1 - 0x20000000)
  (List.range s.2.1).map (fun i =>
    let it := h.item (s.1 + i)
    let a := base + it.off
    match it.kind with
    | 0 =>
      (a, h.digRecord t it.group inst (h.prevDig t it.group))
    | 1 => (a, h.anRecord it.channel inst)
    | _ => (a, h.pdRecord it inst))

/-- The accumulation of every channel that an input item of `t` covers starts afresh (R85). -/
def Hw.pcTake (h : Hw) (t : Nat) : Hw :=
  (List.range 48).foldl (fun h c => h.setPc t c 0) h

/-- The accumulation goes into the frozen records of a pending EVENT release (R84); what is reported from now on waits for the next
window. -/
def Hw.pcFreeze (h : Hw) (t : Nat) : Hw :=
  (List.range 48).foldl (fun h c =>
    { h.setPc t c 0 with tsk := { (h.setPc t c 0).tsk with pcPend := tset 0 h.tsk.pcPend (t * 64 + c) (h.pcHeld t c ||| h.pc t c) } }) h

/-- The pending release is taken: its frozen records are the window. -/
def Hw.pcThaw (h : Hw) (t : Nat) : Hw := { h with tsk := { h.tsk with pcPend := h.tsk.pcPend.filter (fun p => p.1 / 64 != t) } }

/-- STATE and FORCED of the digital records of the window of `t` that is now complete: the next window's previous one (R97). Bit 8 beside
FORCED says that the window holds the group. -/
def Hw.keepWin (h : Hw) (t : Nat) : Hw :=
  let s := h.itemSpan t
  let base := imgBase + ((h.inWin t).1 - 0x20000000)
  let ds := ((List.range s.2.1).map (fun i => h.item (s.1 + i))).filter (fun it => it.kind == 0)
  { h with tsk := { h.tsk with wins := tset false h.tsk.wins t true,
                               prevDi := ds.foldl (fun l it => tset (0, 0) l (t * 8 + it.group) ((h.mb (base + it.off)).toNat, (h.mb (base + it.off + 5)).toNat + 256))
                                 (h.tsk.prevDi.filter (fun p => p.1 / 8 != t)) } }

/-! ## Output windows and releases -/

/-- The record of an output item as last released (R75, R117). -/
def Hw.outRecord (h : Hw) (t : Nat) (it : ItemRow) : List Byte :=
  match it.kind with
  | 0 => BitVec.ofNat 8 (mask8 (fun i => h.chOwner (it.group * 8 + i) == t && tget false h.fld.relDo (it.group * 8 + i))) :: [0#8, 0#8, 0#8]
  | 1 => let r := tget (0, 0) h.fld.relAo it.channel
    leBytes 4 r.1 ++ leBytes 2 r.2 ++ List.replicate 10 0#8
  | _ => sliceZ (h.sess it.session).relBuf it.foff it.flen

/-- Task `t`'s output items. -/
def Hw.outItems (h : Hw) (t : Nat) : List ItemRow :=
  let s := h.itemSpan t
  (List.range s.2.2).map (fun i => h.item (s.1 + s.2.1 + i))

/-- The supervisor-view address of an output item's record. -/
def Hw.outAddr (h : Hw) (t : Nat) (it : ItemRow) : Nat := imgBase + ((h.outWin t).1 - 0x20000000) + it.off

/-- The output window takes the values last released, or zeros (R75). Bytes of it that lie in no output item's record keep what they hold
(log 103). -/
def Hw.fillOut (h : Hw) (t : Nat) : Hw :=
  (h.outItems t).foldl (fun h it => h.setMbs (h.outAddr t it) (h.outRecord t it)) h

/-- What channel `c` carried before a release, for a frame whose values were taken 40 ns before its boundary (Table 8-1). -/
def Hw.lateMark (h : Hw) (c : Nat) : Hw :=
  let x : Late := { c := c, up := h.clk.up, driven := tget false h.fld.driven c, carDo := tget false h.fld.carDo c, carAo := tget (0, 0) h.fld.carAo c }
  { h with fld := { h.fld with late := h.fld.late.filter (fun y => decide (h.clk.up < y.up + 40)) ++ [x] } }

/-- The values as they were 40 ns ago (Table 8-1). -/
def Hw.early (h : Hw) : Hw :=
  ((h.fld.late.filter (fun y => decide (h.clk.up < y.up + 40))).reverse).foldl (fun h x =>
    { h with fld := { h.fld with driven := tset false h.fld.driven x.c x.driven, carDo := tset false h.fld.carDo x.c x.carDo,
                                 carAo := tset (0, 0) h.fld.carAo x.c x.carAo } }) h

/-- A DO channel's release: the released value, the carried value after its force, driven from now on (R210, R474). -/
def Hw.relDoCh (h : Hw) (c : Nat) (v : Bool) : Hw :=
  let car := match h.chForce 0 1 c with
    | some f => f.value % 2 == 1
    | none => v
  let h1 := h.lateMark c
  { h1 with fld := { h1.fld with relDo := tset false h.fld.relDo c v, carDo := tset false h.fld.carDo c car, driven := tset false h.fld.driven c true,
                                 rekind := tset false h.fld.rekind c false, held := tset 0 h.fld.held c 0 } }

/-- An AO channel's release. -/
def Hw.relAoCh (h : Hw) (c na ctrl : Nat) : Hw :=
  let car := match h.chForce 1 1 c with
    | some f => (f.value % 2 ^ 32, f.value / 2 ^ 32 % 4)
    | none => (na, ctrl)
  let h1 := h.lateMark c
  { h1 with fld := { h1.fld with relAo := tset (0, 0) h.fld.relAo c (na, ctrl), carAo := tset (0, 0) h.fld.carAo c car, driven := tset false h.fld.driven c true,
                                 rekind := tset false h.fld.rekind c false, held := tset 0 h.fld.held c 0 } }

/-- A process-data field's release into the session's buffers. -/
def Hw.relPdField (h : Hw) (t : Nat) (it : ItemRow) (bs : List Byte) : Hw :=
  let s := h.sess it.session
  let rel := spliceZ s.relBuf it.foff bs
  h.setSess it.session { s with relBuf := rel, txBuf := h.pdForced 1 it.session rel, released := tset false s.released t true }

/-- The release of one output item (R77): digital and analogue ones always, process-data fields where `pd`. -/
def Hw.relItem (h : Hw) (t : Nat) (pd : Bool) (it : ItemRow) : Hw :=
  let a := h.outAddr t it
  match it.kind with
  | 0 =>
    let v := (h.mb a).toNat
    ((List.range 8).filter (fun i => h.chOwner (it.group * 8 + i) == t)).foldl
      (fun h i => h.relDoCh (it.group * 8 + i) (v.testBit i)) h
  | 1 => h.relAoCh it.channel (h.ml a 4) (h.ml (a + 4) 2 % 4)
  | _ => if pd then h.relPdField t it (h.mbs a it.flen) else h

/-- A task's output items are released (R77); with the pair unit enabled the process-data fields wait for the deadline
instant (R298). -/
def Hw.releaseOut (h : Hw) (t : Nat) : Hw :=
  let pair := h.fbit R.PAIR_CFG_ENABLE
  let h1 := (h.outItems t).foldl (fun h it => h.relItem t (!pair) it) h
  if pair then h1.setCyc t { h1.cyc t with pdPend := true } else h1

/-- The copy of R298: the cycle's process-data fields enter the publish buffers. -/
def Hw.copyPd (h : Hw) (t : Nat) : Hw :=
  ((h.outItems t).filter (fun it => it.kind ≥ 2)).foldl (fun h it => h.relPdField t it (h.mbs (h.outAddr t it) it.flen))
    (h.setCyc t { h.cyc t with pdPend := false })

/-- Bytes folded 8 at a time with zero padding (R302); `n` bounds the number of folds. -/
def foldBytes : Nat → BitVec 64 → List Byte → BitVec 64
  | 0, m, _ => m
  | _ + 1, m, [] => m
  | n + 1, m, b :: bs => foldBytes n (fold m (BitVec.ofNat 64 (leNat ((b :: bs).take 8)))) ((b :: bs).drop 8)

/-- The seed of a window (R130). -/
def seed (t k w : Nat) : BitVec 64 := BitVec.ofNat 64 (t % 32 * 2 ^ 59 + k % 2 ^ 27 * 2 ^ 32 + w % 2 ^ 32)

/-- The release digest of task `t`'s cycle `k` with its exchange stores (R302). -/
def Hw.digest (h : Hw) (t k : Nat) (ex : List Held) : BitVec 64 :=
  let d0 := seed t k 0xFFFFFFFF
  let d1 := (h.outItems t).foldl (fun m it => let bs := h.mbs (h.outAddr t it) it.size; foldBytes (bs.length + 1) m bs) d0
  ex.foldl (fun m x => match x with
    | .exch _ _ _ d => fold m (BitVec.ofNat 64 d)
    | _ => m) d1

end Sys2Proof.Machine
end

