-- ==== Sys2Proof/Machine/Tasks.lean ====
section
/-! DEFINITION. The task engine: due instants (R66), cycles, dispatch contexts (R153), the watchdog (R413 to R416),
overruns (R79 to R82), task faults (R163), agreement (R138) and what ends a cycle. -/

namespace Sys2Proof.Machine

/-! ## The partner as the active module sees it -/

/-- The partner's SYNC as its last heartbeat reports it. -/
def Hw.partnerSync (h : Hw) : Nat := (h.pair.partner.map (·.sync)).getD 0

/-- Whether task `t`'s cycle due at `due` has joined, as the active module sees it (R310). -/
def Hw.joinedBy (h : Hw) (due : Nat) : Bool :=
  h.partnerSync == 4 || h.pair.swapped == 2 || h.mode == .follow || (h.partnerSync == 3 && h.pair.joinAt != 0 && decide (h.pair.joinAt ≤ due))

/-- Whether the active module mirrors a task's changes (R309). -/
def Hw.mirrors (h : Hw) (due : Nat) : Bool :=
  h.pairFormed && decide (h.partnerSync = 2 ∨ h.partnerSync = 3) && decide (4 ≤ h.pair.step) && !h.joinedBy due

/-! ## Due instants -/

def Hw.periodNs (h : Hw) (t : Nat) : Nat := h.fget (R.TSK_Tn_PERIOD_PERIOD_US t) * 1000

/-- D(t, k) (R66), from the epoch in force. -/
def Hw.dueOf (h : Hw) (t k : Nat) : Nat :=
  h.tsk.epoch.getD 0 + h.fget (R.TSK_Tn_PHASE_PHASE_US t) * 1000 + k * h.periodNs t

/-- The deadline instant of a cycle sampled at `due` (R79). -/
def Hw.deadlineOf (h : Hw) (t due : Nat) : Nat :=
  let d := h.fget (R.TSK_Tn_DEADLINE_DEADLINE_US t) * 1000
  due + if d = 0 then h.periodNs t else d

/-- The epoch that R65 gives for an event at this moment. -/
def Hw.epochFrom (h : Hw) : Nat := ceilTo 1000000 (h.clk.tb + 200000)

/-- The epoch is set and cycle numbers count from 0 (R65). -/
def Hw.setEpoch (h : Hw) (e : Nat) : Hw :=
  (List.range 32).foldl (fun h t => h.setCyc t { h.cyc t with nextK := 0 }) { h with tsk := { h.tsk with epoch := some e } }

/-! ## Cycles -/

/-- The window is complete (R75): the records, the output window, CYCLE and DUE_NS; the cycle is ready. The deadline counts from the
sampling instant `inst`, for a pending EVENT release too, whose release comes later (R79 against the text after R476; log 104). -/
def Hw.startCycle (h : Hw) (t k inst : Nat) (recs : List (Nat × List Byte)) : Hw :=
  let h1 := recs.foldl (fun h r => h.setMbs r.1 r.2) h
  let h3 := (h1.bump.keepWin t).fillOut t
  let h4 := (h3.setMl (imgBase + t * 32 + 0x10) 8 k).setMl (imgBase + t * 32 + 0x18) 8 inst
  let c := h4.cyc t
  (h4.setCyc t { c with k := k, nextK := max c.nextK (k + 1), due := inst, dead := if h.kind t = 2 then 0 else h.deadlineOf t inst,
                        ovf := false, exec := 0, ovr := false, reads := 0, agreed := false }).setTstate t 2

/-- The status word of the sampling instant enters the task's status page (R72). -/
def Hw.sampleStatus (h : Hw) (t : Nat) : Hw := h.setCyc t { h.cyc t with status := h.reg 0x40000010 }

/-- The snapshot of a completed CYCLIC window (R296): fragments of at most 2,040 bytes. -/
def Hw.sendSnapshot (h : Hw) (t : Nat) : Hw :=
  let c := h.cyc t
  if h.leads t && h.joinedBy c.due && h.kind t == 1 then
    let w := h.inWin t
    let n := w.2 + 16
    let frags := (n + 2039) / 2040
    let bytes := leBytes 8 c.due ++ leBytes 8 c.k ++ h.mbs (imgBase + (w.1 - 0x20000000)) w.2
    (List.range frags).foldl (fun h i =>
      h.pairSend (.snapshot t i c.k c.due ((bytes.drop (i * 2040)).take 2040) (i + 1 == frags))) h
  else h

/-- A release outside FOLLOW: the sample set freezes at `inst`, the window is built and completed. -/
def Hw.releaseTask (h : Hw) (t k inst : Nat) : Hw :=
  let recs := h.inRecords t inst
  ((((h.sampleStatus t).pcTake t).startCycle t k inst recs)).sendSnapshot t

/-! ## Dispatch contexts -/

/-- The state of a core at the start of task `t` (Tables 6-2 and 6-4). -/
def Hw.taskCpu (h : Hw) (t : Nat) (shadow : Bool) (old : Cpu) : Cpu :=
  let ep := h.ep t
  let sp := h.split ep
  let vb := h.reg 0x40010020
  let c : Cpu := { pc := h.reg (0x40010200 + t * 16), vbase := vb, stkLo := h.reg (0x4001020C + t * 16),
                   stkHi := h.reg (0x40010208 + t * 16), taskid := w32 (t % 32 + ep * 32),
                   psr := if sp then w32 (32 + b2n shadow * 64) else 0#32, mg := old.mg, commits := old.commits }
  ((((c.wr 1#5 (vb + 0x1F0#32)).wr 2#5 (h.reg (0x40010208 + t * 16))).wr 3#5 (h.reg (0x40010204 + t * 16))).wr 4#5
    (w32 t)).wr 5#5 (w32 (0x20000000 + t * 32))

/-- The cores of target `i`: both of a lockstep pair, one side of a SPLIT pair. -/
def Hw.coresOf (h : Hw) (i : Nat) : List Nat := if h.split (i / 2) then [i] else [i - i % 2, i - i % 2 + 1]

/-- Both marigolds take the seed of a window (R130). -/
def Hw.reseed (h : Hw) (i t w : Nat) : Hw :=
  let k := if h.kind t = 2 then 0 else (h.cyc t).k
  (h.coresOf i).foldl (fun h x => h.setCpu x { h.cpu x with mg := seed t k w }) h

/-- CMP_EPn_STATUS.OVF: 1 while a running cycle of pair `p`, on either side of a SPLIT pair, has overflowed the undo log (R141). -/
def Hw.ovfShow (h : Hw) (p : Nat) : Hw :=
  h.fset (R.CMP_EPn_STATUS_OVF p) (b2n ((((h.tgt (2 * p)).task).any (fun t => (h.cyc t).ovf)) || (((h.tgt (2 * p + 1)).task).any (fun t => (h.cyc t).ovf))))

/-- CMP_EPn_STATUS of the pair of target `i` while task `t` runs there (the lead side's on a SPLIT pair). -/
def Hw.epStatus (h : Hw) (i t w : Nat) (re : Bool) : Hw :=
  let p := i / 2
  (if i % 2 = 1 then h
   else (((h.fset (R.CMP_EPn_STATUS_ACTIVE p) 1).fset (R.CMP_EPn_STATUS_REEXEC p) (b2n re)).fset (R.CMP_EPn_STATUS_TASK p) t).fset
     (R.CMP_EPn_STATUS_WINDOW p) (satN 16 w)).ovfShow p

/-- A task starts on its target from Table 6-2 with window index 0. -/
def Hw.startTask (h : Hw) (i t : Nat) (re : Bool) : Hw :=
  let h1 := (h.coresOf i).foldl (fun h x => h.setCpu x (h.taskCpu t (x % 2 == 1) (h.cpu x))) h
  let g := h1.tgt i
  let h2 := h1.setTgt i { g with task := some t, window := 0, commits := 0, closing := none, reexec := re, filter := [], query := none,
                                 cacheErr := none, rest := ([], []) }
  ((h2.reseed i t 0).epStatus i t 0 re).setTstate t 3

/-- The target has no running task. -/
def Hw.freeTarget (h : Hw) (i : Nat) : Hw :=
  let g := h.tgt i
  let h1 := h.setTgt i { g with task := none, closing := none, reexec := false, commits := 0, query := none, filter := [],
                                cacheErr := none, rest := ([], []) }
  (if i % 2 = 1 then h1 else (h1.fset (R.CMP_EPn_STATUS_ACTIVE (i / 2)) 0).fset (R.CMP_EPn_STATUS_REEXEC (i / 2)) 0).ovfShow (i / 2)

/-- Whether the log that holds a segment of task `t` cannot be read (R143). -/
def Hw.logBad (h : Hw) (i t : Nat) : Bool := (h.tgt i).undoBad && (h.tgt i).undo.any (fun u => u.task == t)

/-- Writes back and removes every entry of task `t` in target `i`'s log, newest first (R140); the filter is the running segment's own. A log
that cannot be read gives nothing to write back (R143, log 118). -/
def Hw.rollTask (h : Hw) (i t : Nat) : Hw :=
  let l := (h.tgt i).undo
  let h0 := if h.logBad i t then h.taint t else (l.filter (fun u => u.task == t)).foldl (fun h u => h.undoPut u) h
  let h1 := h0.setUndo i (l.filter (fun u => u.task != t))
  if (h1.tgt i).task = some t then h1.setTgt i { h1.tgt i with filter := [] } else h1

/-- SAFE with cause 0x30 for an undo log that a write-back of task `t` could not read, after 0x2004 with reason 2 (R143). -/
def Hw.logFail (h : Hw) (i t : Nat) : Hw := (h.raise 0x2004 (epTask (i / 2) t) 2).safe 0x30 t

/-! ## The watchdog (R413 to R416) -/

/-- The COUNT of an open entry, in units of 4,096 CORE clocks. -/
def Hw.wdgCount (h : Hw) (t : Nat) : Option Nat :=
  ((h.wdg.opens.find? (fun p => p.1 == t)).map (fun p => (h.coreClocks - p.2) / 4096))

def Hw.wdgEn (h : Hw) (t : Nat) : Bool := h.fbit (R.WDG_Tn_MIN_EN t)

/-- The entry's window opens at the first dispatch of a cycle, in the modes of R413; one that no check-in has closed stays open and its
COUNT goes on (log 37). -/
def Hw.wdgOpen (h : Hw) (t : Nat) : Hw :=
  if h.wdgEn t && !(h.wdg.opens.any (fun p => p.1 == t)) && h.mode.counts then
    { h with wdg := { h.wdg with opens := tput h.wdg.opens t h.coreClocks } }
  else h

def Hw.wdgClose (h : Hw) (t : Nat) : Hw := { h with wdg := { h.wdg with opens := tdel h.wdg.opens t } }

/-- The SUP core enters slot 15 (R166): NEPC and NEPSR, NMIACT; nothing while NMIACT is 1. -/
def Cpu.wdTrap (c : Cpu) : Cpu :=
  if c.nmiact then c
  else { c with nepc := c.pc, nepsr := c.psr, psr := psrOf c.pl false true true c.psr, pc := 15#32 * 16#32 }

/-- The trap record's words (Table 15-4). -/
def Hw.trapWords (h : Hw) (cause task count : Nat) (sup : Bool) : List Word :=
  let late := fun t => match h.wdgCount t with
    | some n => h.fbit (R.TSK_Tn_STAT_LATE t) || decide (h.fget (R.WDG_Tn_MAX_MAX t) ≤ n)
    | none => false
  let bits := fun (p : Nat → Bool) => (List.range 32).foldl (fun a t => a + b2n (p t) * 2 ^ t) 0
  [w32 (cause + 8 + (if sup then 0 else task % 32) * 16 + b2n sup * 512 + 1 * 65536), w32 (count % 2 ^ 24), w32 (bits late),
   w32 (bits (fun t => (h.wdgCount t).isSome && !late t)), w32 (if sup then 0 else (h.cyc task).k), w32 h.clk.tb, w32 (h.clk.tb / 2 ^ 32),
   w32 h.mode.code]

/-- The record is frozen at the first trap; later causes count in TRAPS. -/
def Hw.trapRecord (h : Hw) (ws : List Word) : Hw :=
  if h.fbit R.WDG_CTRL_TRAPPED then
    let w := (h.reg 0x400B0040).toNat
    let w' := w32 (setBitsOf w 16 16 (satInc 16 (bitsOf w 16 16)))
    (h.setReg 0x400B0040 w').setReg 0x400A020C w'
  else
    let h1 := (ws.zipIdx).foldl (fun h p => (h.setReg (0x400B0040 + 4 * p.2) p.1).setReg (0x400A020C + 4 * p.2) p.1) h
    let h2 := (h1.fset R.WDG_CTRL_TRAPPED 1).fset R.CAL_BKREC2_RECORDED 0
    let ms := h2.fget R.WDG_CFG_HARD_MS + 1
    { (h2.fset R.WDG_CTRL_HARD_LEFT_MS (ms % 64)) with wdg := { h2.wdg with hardDue := some (h2.clk.up + ms * 1000000) } }

/-- 0xB001 with record words 0 to 2, and RECORDED: the SUP handler's part (R416). -/
def Hw.trapEvent (h : Hw) : Hw :=
  if h.fbit R.CAL_BKREC2_RECORDED then h
  else (h.raise 0xB001 (h.reg 0x400B0040).toNat (h.reg 0x400B0044).toNat (h.reg 0x400B0048).toNat).fset R.CAL_BKREC2_RECORDED 1

/-- A watchdog trap (R416): the record, the hard reset timer, slot 15 of the SUP core, SAFE with cause 0x31. None after loss
of VIN (R418) or while disabled (R419). -/
def Hw.wdTrapNow (h : Hw) (cause task count : Nat) (sup : Bool) : Hw :=
  if h.nvs.vinLost || h.fbit R.WDG_CTRL_DISABLED then h
  else
    let h1 := h.trapRecord (h.trapWords cause task count sup)
    let h2 := { h1 with exe := { h1.exe with sup := h1.exe.sup.wdTrap } }
    (h2.trapEvent).safe 0x31 task

/-- A task's check-in reaches WDG (Table 15-3); in a mode in which no task entry counts it is no case of the table (R413; log 37). -/
def Hw.wdgCheckin1 (h : Hw) (t : Nat) : Hw :=
  if h.fbit R.WDG_CTRL_DISABLED || !h.mode.counts then h
  else if !h.wdgEn t then h.wdTrapNow 4 t 0 false
  else match h.wdgCount t with
    | none => h.wdTrapNow 2 t ((tget 0 h.wdg.last t)) false
    | some n =>
      if n < h.fget (R.WDG_Tn_MIN_MIN t) then h.wdTrapNow 3 t n false
      else { (h.wdgClose t) with wdg := { (h.wdgClose t).wdg with last := tset 0 h.wdg.last t n } }

/-- The same; injection 0xB02 delivers the next check-in of its entry twice. -/
def Hw.wdgCheckin (h : Hw) (t : Nat) : Hw :=
  let h1 := h.wdgCheckin1 t
  if h.wdg.injTwice = some t then ({ h1 with wdg := { h1.wdg with injTwice := none } }).asInj true (fun h => h.wdgCheckin1 t) else h1

/-! ## The ends of a cycle -/

/-- The cycle ends (R476): idle, the skipped instants' record, a pending EVENT release taken (R84). -/
def Hw.cycleEnd (h : Hw) (t : Nat) : Hw :=
  let c := h.cyc t
  let h1 := if c.skipped = 0 then h else h.raise 0x3002 t c.skipped
  let h2 := ((h1.setCyc t { c with skipped := 0, ovf := false, ovr := false }).setTstate t 0).fset (R.TSK_Tn_STAT_LATE t) 0
  match h2.tsk.pendEv.find? (fun p => p.task == t) with
  | some p =>
    let h3 := { h2 with tsk := { h2.tsk with pendEv := h2.tsk.pendEv.filter (fun p => p.task != t) } }
    ((h3.setCyc t { h3.cyc t with status := p.status }).pcThaw t).startCycle t (h3.cyc t).nextK p.inst p.recs
  | none => h2

/-- The cycle of `t` is stopped without agreement: held items discarded, writes written back, the watchdog window closed,
the task off its target. -/
def Hw.stopCycle (h : Hw) (t : Nat) : Hw :=
  let i := h.targetOf t
  let h1 := ((h.dropHeld (i / 2) t).rollTask i t).wdgClose t
  let g := h1.tgt i
  if g.task = some t then h1.freeTarget i
  else h1.setTgt i { g with saved := g.saved.filter (fun s => s.task != t) }

/-- LATE, OVR_CONSEC, OVR_COUNT and 0x3001 (R79). -/
def Hw.countOverrun (h : Hw) (t : Nat) : Hw :=
  let n := satInc 4 (h.fget (R.TSK_Tn_STAT_OVR_CONSEC t))
  (((h.fset (R.TSK_Tn_STAT_LATE t) 1).fset (R.TSK_Tn_STAT_OVR_CONSEC t) n).finc (R.TSK_Tn_STAT_OVR_COUNT t)).raise 0x3001 t
    (h.fget (R.TSK_Tn_CTRL_OVR_POL t)) ((h.cyc t).k % 2 ^ 32)

/-- Whether OVR_CONSEC has reached a non-zero OVR_LIMIT (R80). -/
def Hw.overLimit (h : Hw) (t : Nat) : Bool :=
  let l := h.fget (R.TSK_Tn_CTRL_OVR_LIMIT t)
  l != 0 && decide (l ≤ h.fget (R.TSK_Tn_STAT_OVR_CONSEC t))

/-- State items of the groups in a task's undo segment, as they stand (R309). -/
def Hw.mirrorItems (h : Hw) (us : List Undo) : List StItem :=
  us.map (fun u => match u.kind with
    | 0 => .bytes (0x10000000 + u.group * 8) (h.mbs (dataBase + u.group * 8) 8)
    | 1 => .bytes (0x21000000 + u.group * 8) (h.mbs (retBase + u.group * 8) 8)
    | 2 => let e := h.timer (u.group / 2)
      .timer (u.group / 2) e.w0 e.w1 e.w2 e.w3
    | _ => .prime u.group (h.primeOf u.group))

/-- ABORT (Table 3-10): SAFE where the undo log overflowed (R80) or cannot be read (R143), else the cycle stops, 0x3008. -/
def Hw.abortCycle (h : Hw) (t : Nat) : Hw :=
  let c := h.cyc t
  if c.ovf then h.safe 0x35 t
  else if h.logBad (h.targetOf t) t then h.logFail (h.targetOf t) t
  else
    let us := (h.tgt (h.targetOf t)).undo.filter (fun u => u.task == t)
    let h1 := (h.stopCycle t).raise 0x3008 t (c.k % 2 ^ 32)
    let h2 := if h.mirrors c.due && !us.isEmpty then h1.pairSend (.state (h1.mirrorItems us)) else h1
    h2.cycleEnd t

/-- An overrun and its policy (R79 to R82, R299): none acts in DEBUG; FOLLOW loses synchronisation. -/
def Hw.overrun (h : Hw) (t : Nat) : Hw :=
  let building := h.tstate t == 1
  let h1 := h.countOverrun t
  if h.mode = .debug then h1.wdgClose t
  else if h.mode = .follow then h1.syncLoss (if building then 2 else 3) t
  else if h1.overLimit t then h1.safe 0x35 t
  else match h1.fget (R.TSK_Tn_CTRL_OVR_POL t) with
    | 0 => h1.safe 0x35 t
    | 1 => h1.setCyc t { h1.cyc t with ovr := true }
    | _ => h1.abortCycle t

/-- A task fault (R163): the cycle is rolled back, 0x1001, the fault counts as an overrun, the policy acts;
under SKIP as under ABORT a set OVF leads to SAFE (R80). In FOLLOW the follower loses synchronisation with reason 3 in place of the
policy, as R299 has it for a missed deadline (log 105). -/
def Hw.taskFault (h : Hw) (t : Nat) (ecause epc : Word) : Hw :=
  let ovf := (h.cyc t).ovf
  let bad := h.logBad (h.targetOf t) t
  let h1 := (h.stopCycle t).raise 0x1001 (epTask (h.fget (R.TSK_Tn_CTRL_EP t)) t) ecause.toNat epc.toNat
  let h2 := h1.countOverrun t
  let h3 := (if ovf then h2.taint t else h2).cycleEnd t
  if bad then h3.logFail (h.targetOf t) t
  else if h.mode = .debug then h3
  else if h.mode = .follow then h3.syncLoss 3 t
  else if h2.overLimit t || h2.fget (R.TSK_Tn_CTRL_OVR_POL t) == 0 || ovf then h3.safe 0x35 t
  else h3

/-! ## Debugger halts and task faults -/

/-- The debugger sees pair `p` as halted (R148): the commands that asked for it complete with the lead's pc and commit count. -/
def Hw.dbgHalted (h : Hw) (p : Nat) : Hw :=
  let c := h.cpu (2 * p)
  let own := h.fget R.CMP_REPLAY_STATUS_EP == p
  let h1 := { h with exe := { h.exe with stepping := h.exe.stepping && !own } }
  let h2 := h1.fset (R.CMP_EPn_STATUS_HALTED p) 1
  if !own then h2
  else (h2.hif.running.filter (fun d => d.op == 0x0903 || d.op == 0x0905)).foldl
    (fun h d => h.complete d stOk true c.pc.toNat c.commits) h2

/-- The ECAUSE and EPC that event 0x1001 takes: the core's registers, with the reason in bits 31:24 (Table 6-14). -/
def faultWord (c : Cpu) (reason : Nat) : Word := w32 (c.ecause.toNat % 2 ^ 24 + reason % 256 * 2 ^ 24)

/-- Whether the debugger stops pair `p` at the boundary before `pc` (R148). -/
def Hw.dbgStop (h : Hw) (p : Nat) (pc : Word) : Bool :=
  h.mode == .debug && h.actRuns .dbg && h.fget R.CMP_REPLAY_STATUS_EP == p && (h.exe.stepping || h.exe.breaks.contains pc.toNat)

/-! ## The extension port -/

/-- The bytes of a request (Table 17-11). -/
def extFrame (slot : Nat) (posted : Bool) (src opc : Nat) (a b : Word) : List Byte :=
  [BitVec.ofNat 8 ((slot - 12) % 4 + b2n posted * 4 + src % 8 * 8), BitVec.ofNat 8 opc] ++ leBytes 4 a.toNat ++ leBytes 4 b.toNat

/-- TIMEOUT in ns, from the first byte of a request (R465). -/
def Hw.extLimit (h : Hw) : Nat := h.clk.up + max 1 (h.fget R.EXE_EXT_CFG_TIMEOUT) * 100

/-- A request reaches the port (R146, R465): it starts at once, or waits while EXT_BUSY is high or others wait before it. -/
def Hw.extSend (h : Hw) (src : Nat) (query : Bool) (f : List Byte) : Hw :=
  if h.exe.extBusy || !h.exe.extWait.isEmpty then { h with exe := { h.exe with extWait := h.exe.extWait ++ [(src, query, f)] } }
  else { h with exe := { h.exe with extOut := h.exe.extOut ++ [f] } }

/-- A posted operation leaves at agreement (R145). -/
def Hw.extPost (h : Hw) (src : Nat) (x : Held) : Hw :=
  match x with
  | .post _ slot opc a b => h.extSend src false (extFrame slot true src opc a b)
  | _ => h

/-! ## Mailboxes and event lines (R373, R391) -/

/-- A mailbox's reply line is written (Table 13-7). -/
def Hw.mboxReply (h : Hw) (reply seq status len off : Nat) (data : List Byte) : Hw :=
  (h.inval none reply 64).setMbs (coreToSup reply) (leBytes 4 seq ++ [BitVec.ofNat 8 status, BitVec.ofNat 8 len, 0#8, 0#8] ++ leBytes 4 off ++ leBytes 4 0 ++ sliceZ data 0 48)

/-- Whether an MRAM page (by index) is committed (R353): WRITES is neither 0 nor all ones, the commit group stands, and no uncorrectable group
keeps the CRC from matching. -/
def Hw.pageOk (h : Hw) (pg : Nat) : Bool :=
  let w := tget 0 h.nvs.writes pg
  w != 0 && w != 0xFFFFFFFF && !h.nvs.badPages.contains pg &&
    h.nvs.uncorr.all (fun g => g < 0x0A000000 + 32 * pg || 0x0A000000 + 32 * pg + 32 ≤ g)

/-- The page index of an MRAM address. -/
def pageOf (a : Nat) : Nat := (a - 0x50000000) / 256

/-- The pages that `n` bytes from `a` touch. -/
def pagesOf (a n : Nat) : List Nat := (List.range ((a + n - 1) / 256 - a / 256 + 1)).map (fun i => pageOf a + i)

/-- The first uncorrectable group of a byte range. -/
def Hw.badGroup (h : Hw) (a n : Nat) : Option Nat :=
  (h.nvs.uncorr.find? (fun g => decide (a / 8 ≤ g ∧ g ≤ (a + n - 1) / 8))).map (· * 8)

/-- Whether a byte range that is read meets an uncorrectable group; injection 0x802 makes its first one so. -/
def Hw.uncorrIn (h : Hw) (a n : Nat) : Option Nat := if h.nvs.injRead then some (a / 8 * 8) else h.badGroup a n

/-- A read of an uncorrectable group (R352): UNCORR, LAST, 0x8001 with the requester (log 136). -/
def Hw.uncorrRead (h : Hw) (a req : Nat) : Hw :=
  (({ h with nvs := { h.nvs with injRead := false } }.finc R.NVS_ECC_CNT_UNCORR).setReg 0x40080024 (w32 a)).asInj h.nvs.injRead
    (fun h => h.raise 0x8001 a (Config.requester req).toNat)

/-- A read of `n` bytes of MRAM returns the corrected data of its correctable groups: CORR (R352). -/
def Hw.corrRead (h : Hw) (a n : Nat) : Hw :=
  h.fset R.NVS_ECC_CNT_CORR (satN 16 (h.fget R.NVS_ECC_CNT_CORR + (h.nvs.corr.filter (fun g => decide (a / 8 ≤ g ∧ g ≤ (a + n - 1) / 8))).length))

/-- Performs a mailbox request (R373). -/
def Hw.mboxDo (h : Hw) (m : Mailbox) (seq op len off : Nat) (data : List Byte) : Hw :=
  let a := 0x50300000 + m.region * 0x30000 + off
  let refuse := fun (st : Nat) => (h.mboxReply m.reply seq st len off []).raise 0x8030 m.task st
  if !(op == 1 || op == 2) || len = 0 || len > 48 || off + len > 0x30000 then refuse 3
  else if op = 2 && m.rights == 0 then refuse 4
  else if op = 2 then
    if a % 256 + len > 256 then refuse 3
    else
      let h1 := h.nvPush (.user a (data.take len) (.mailbox m.reply seq len off))
      if h.fbit R.NVS_STATUS_ARMED then h1 else h1.mboxReply m.reply seq 1 len off []
  else match h.uncorrIn a len with
    | some g => (h.uncorrRead g 3).mboxReply m.reply seq 5 len off []
    | none =>
      (h.corrRead a len).mboxReply m.reply seq (if (pagesOf a len).all h.pageOk then 0 else 2) len off (h.mbs a len)

/-- One entry of an event line (Table 14-4), with the due instant of the releasing cycle as its time (R382), or its refusal 0x9030. -/
def Hw.appEvent (h : Hw) (t j a : Nat) : Hw :=
  let b := a + 16 + 16 * j
  let code := h.ml b 2
  if code < 0xF000 || h.ml (b + 2) 1 > 7 || h.ml (b + 3) 1 != 0 then h.raise 0x9030 t j
  else h.raiseEv { code := code, p0 := h.ml (b + 4) 4, p1 := h.ml (b + 8) 4, p2 := h.ml (b + 12) 4, time := (h.cyc t).due,
                   src := t % 32 + h.ml (b + 2) 1 % 8 * 32, app := true, unsync := !h.evr.synced }

/-- The mailbox and event lines of task `t` after its exchange stores are released. -/
def Hw.lines (h : Hw) (t : Nat) : Hw :=
  ((h.prog.mailboxes.zipIdx).filter (fun m => m.1.task == t)).foldl (fun h m =>
    let a := coreToSup m.1.req
    let seq := h.ml a 4
    if m.1.kind = 1 then
      if seq = tget 0 h.nvs.mboxSeq m.2 then h
      else
        let h1 := { h with nvs := { h.nvs with mboxSeq := tset 0 h.nvs.mboxSeq m.2 seq } }
        h1.mboxDo m.1 seq (h.ml (a + 4) 1) (h.ml (a + 5) 1) (h.ml (a + 8) 4) (h.mbs (a + 16) 48)
    else
      if seq = tget 0 h.evr.appSeq m.2 then h
      else
        let h1 := { h with evr := { h.evr with appSeq := tset 0 h.evr.appSeq m.2 seq } }
        (List.range (min 3 (h.ml (a + 4) 1))).foldl (fun h j => h.appEvent t j a) h1) h

/-! ## Agreement (R138) -/

/-- An exchange store reaches memory: the enabled bytes of its group. -/
def Hw.putExch (h : Hw) (x : Held) : Hw :=
  match x with
  | .exch _ g be d => (List.range 8).foldl (fun h i => if be.testBit i then h.setMb (coreToSup (g * 8 + i)) (BitVec.ofNat 8 (d / 2 ^ (8 * i))) else h)
      (h.inval none (g * 8) 8)
  | _ => h

/-- LAST_RESP_US and MAX_RESP_US (TSK_Tn_TIMING). -/
def Hw.timing (h : Hw) (t : Nat) : Hw :=
  let r := satN 16 ((h.clk.tb - (h.cyc t).due) / 1000)
  (h.fset (R.TSK_Tn_TIMING_LAST_RESP_US t) r).fset (R.TSK_Tn_TIMING_MAX_RESP_US t) (max r (h.fget (R.TSK_Tn_TIMING_MAX_RESP_US t)))

/-- The last INIT task has agreed (R83): the epoch, and RUN with cause 0x20. -/
def Hw.endStartup (h : Hw) : Hw :=
  let h1 := h.setEpoch h.epochFrom
  h1.setMode Mode.run 0x20

/-- Whether every INIT task is done with its cycle. -/
def Hw.initsDone (h : Hw) : Bool := (List.range 32).all (fun t => h.kind t != 2 || (h.cyc t).agreed)

/-- Whether every task that is not OFF has joined (R310). -/
def Hw.joinTask (h : Hw) (t : Nat) : Hw :=
  let j := setBitsOf (h.fget R.PAIR_JOINED_JOINED) t 1 1
  let h1 := h.fset R.PAIR_JOINED_JOINED j
  if h1.fget R.PAIR_STATUS_SYNC = 3 && (List.range 32).all (fun x => h1.kind x == 0 || h1.kind x == 2 || h1.kind x == 3 || j.testBit x) then
    let h2 := h1.fset R.PAIR_STATUS_SYNC 4
    if h2.revertBad = 0 then { h2 with pair := { h2.pair with okSince := some h2.clk.up } } else h2
  else h1

/-- The comparison of the two modules' release digests in FOLLOW (R302, R310). -/
def Hw.digestCheck (h : Hw) (t : Nat) : Hw :=
  let c := h.cyc t
  match tget (0, 0#64) h.pair.rxDig t, tget (0, 0#64) h.pair.ownDig t with
  | (k1, d1), (k2, d2) =>
    if c.foll = false ∨ k1 ≠ c.k + 1 ∨ k2 ≠ c.k + 1 then h
    else if d1 = d2 then h.joinTask t
    else if h.mode = .follow then h.syncLoss 4 t
    else h

/-- The pair unit's part in an agreement: the digest sent (R302) and mirror items (R309), or kept for the comparison. -/
def Hw.pairAgree (h : Hw) (t : Nat) (dg : BitVec 64) (us : List Undo) (ex : List Held) : Hw :=
  let c := h.cyc t
  if c.foll then
    ({ h with pair := { h.pair with ownDig := tset (0, 0#64) h.pair.ownDig t (c.k + 1, dg) } }).digestCheck t
  else if h.leads t && h.joinedBy c.due then h.pairSend (.digest t c.k dg)
  else if h.mirrors c.due then
    let xs := ex.filterMap (fun x => match x with
      | .exch _ g _ _ => some (StItem.bytes (g * 8) (h.mbs (coreToSup (g * 8)) 8))
      | _ => none)
    h.pairSend (.state (h.mirrorItems us ++ xs))
  else h

/-- What the agreeing cycle releases when (R77, R79, R81): RELEASE 1 waits for the deadline instant in STATE 6. -/
def Hw.outputsAfter (h : Hw) (t : Nat) : Hw :=
  let c := h.cyc t
  let held := h.kind t == 1 && h.fbit (R.TSK_Tn_CTRL_RELEASE t) && !c.ovr && decide (h.clk.tb < c.dead)
  if held then h.setTstate t 6 else (h.releaseOut t).cycleEnd t

/-- The check-ins of an agreement reach WDG (R138). -/
def Hw.checkIns (h : Hw) (t : Nat) (mine : List Held) : Hw :=
  (mine.filter (fun x => match x with | .check _ => true | _ => false)).foldl (fun h _ => h.wdgCheckin t) h

/-- A task agrees (R138): exchange stores, posted operations, check-ins, then its outputs, unless a check-in has led to SAFE. -/
def Hw.agree (h : Hw) (i t : Nat) : Hw :=
  let p := i / 2
  let mine := (h.heldOf p).filter (fun x => x.task == t)
  let us := (h.tgt i).undo.filter (fun u => u.task == t)
  let h1 := mine.foldl (fun h x => h.putExch x) h
  let dg := h1.digest t (h1.cyc t).k mine
  let h2 := if (h1.cyc t).foll then h1 else mine.foldl (fun h x => h.extPost (2 * p + (if h.split p then i % 2 else 0)) x) h1
  let h3 := ((h2.dropHeld p t).dropSegment i t).freeTarget i
  let h4 := (h3.setCyc t { h3.cyc t with agreed := true, ovf := false }).untaint t
  let late := (h4.fbit (R.TSK_Tn_STAT_LATE t) || decide ((h4.cyc t).dead < h4.clk.tb)) && h4.kind t != 2
  let h5 := (if late then h4 else h4.fset (R.TSK_Tn_STAT_OVR_CONSEC t) 0).timing t
  let h6 := ((h5.pairAgree t dg us mine).lines t).checkIns t mine
  let h7 := if h6.mode.runsTasks then h6.outputsAfter t else h6
  if h7.mode = .startup && h7.kind t == 2 && h7.initsDone then h7.endStartup else h7

end Sys2Proof.Machine
end

