-- ==== Sys2Proof/Machine/Otp.lean ====
section
/-! DEFINITION. The OTP key store (Tables 16-2 and 16-3, R424): a bit goes from 0 to 1 and never back. -/

namespace Sys2Proof.Machine

/-- Reads a byte of the store. -/
def Otp.b (o : Otp) (a : Nat) : Byte := tget 0#8 o.bytes a

/-- Programs one byte: the bits of `v` go to 1, no bit goes back to 0. -/
def Otp.prog1 (o : Otp) (a : Nat) (v : Byte) : Otp := { o with bytes := tset 0#8 o.bytes a (o.b a ||| v) }

/-- Programs bytes from offset `a` upward. -/
def Otp.prog (o : Otp) (a : Nat) : List Byte → Otp
  | [] => o
  | v :: r => (o.prog1 a v).prog (a + 1) r

/-- Reads `n` bytes from offset `a`. -/
def Otp.bs (o : Otp) (a n : Nat) : List Byte := (List.range n).map (fun i => o.b (a + i))

/-- A little-endian number of the store. -/
def Otp.n (o : Otp) (a n : Nat) : Nat := leNat (o.bs a n)

def Otp.serial (o : Otp) : Nat := o.n 0 8
def Otp.macBase (o : Otp) : Nat := o.n 8 8
def Otp.jtagOff (o : Otp) : Bool := (o.n 0x14 4).testBit 0
def Otp.fwRevoke (o : Otp) : Nat := bitsOf (o.n 0x14 4) 4 4
def Otp.keyRevoke (o : Otp) : Nat := o.n 0x18 4 % 65536
def Otp.slotAt (s : Nat) : Nat := 0x100 + s % 16 * 0x40

/-- Whether key slot `s` is written. -/
def Otp.written (o : Otp) (s : Nat) : Bool := decide (s < 16) && o.b (Otp.slotAt s + 63) == 0xA5#8

/-- The key digest and PERM of a slot. -/
def Otp.digest (o : Otp) (s : Nat) : Nat := o.n (Otp.slotAt s) 32
def Otp.perm (o : Otp) (s : Nat) : Nat := o.n (Otp.slotAt s + 32) 4

/-- Whether a slot is usable for a permission bit (R424). -/
def Otp.usable (o : Otp) (s bit : Nat) : Bool := o.written s && !(o.keyRevoke.testBit s) && (o.perm s).testBit bit

/-- Programs key slot `s`, WRITTEN last. -/
def Otp.putKey (o : Otp) (s digest perm : Nat) : Otp :=
  o.prog (Otp.slotAt s) (leBytes 32 digest ++ leBytes 4 perm ++ List.replicate 27 0#8 ++ [0xA5#8])

end Sys2Proof.Machine
end

