-- ==== Sys2Proof/Machine/Trust.lean ====
section
/-! DEFINITION. Verification of signed objects (R424, R429, Tables 16-4 and 16-13). The cryptographic facts are the object's own:
its key digest and whether its signature verifies (log 10). -/

namespace Sys2Proof.Machine

/-- The permission bits of Table 16-3 that may sign a kind: PROGRAM for pitch files, CONFIG or KEYADMIN for configuration. -/
def signBits (kind : Nat) : List Nat := if kind = 2 then [0] else [1, 3]

/-- Whether MAGIC and HVER are right. -/
def ObjHdr.known (x : ObjHdr) : Bool := x.magic == 0x424F4541 && x.hver == 1

/-- The header checks of Table 16-13 for the expected kind. -/
def ObjHdr.wellFormed (x : ObjHdr) (kind : Nat) : Bool :=
  x.known && x.kind == kind && x.formatOk && x.member == 0x480 && (x.keyKind == (if kind = 1 then 0 else 1)) &&
    decide (x.keyIndex < if kind = 1 then 4 else 16) &&
    (decide (x.flags = 0) || (decide (x.flags = 1) && decide (kind ≤ 2))) && (x.fwRevoke == 0 || (kind == 1 && x.flags == 1))

/-- The reason an object fails verification (Table 16-4), or none. -/
def verify (o : Otp) (kind : Nat) (x : ObjHdr) (bodyOk : Bool) : Option Nat :=
  if !x.wellFormed kind || !bodyOk then some 1
  else if kind = 1 then
    if !x.romKey then some 2
    else if o.fwRevoke.testBit x.keyIndex then some 3
    else if x.sigOk then none else some 4
  else if !o.written x.keyIndex then some 3
  else if x.keyDigest != o.digest x.keyIndex then some 2
  else if !(signBits kind).any (o.usable x.keyIndex) then some 3
  else if x.sigOk then none else some 4

/-- The key reference of event 0x010F. -/
def ObjHdr.ref (x : ObjHdr) : Nat := if x.known then x.keyKind * 256 + x.keyIndex else 0xFFFF

/-- Event 0x010F with the kind expected, the key reference and the reason. -/
def Hw.verifyFail (h : Hw) (kind : Nat) (x : ObjHdr) (reason : Nat) : Hw := h.raise 0x010F kind x.ref reason

/-- A step that changes the hardware, with the OTP store read. -/
def onHwO (s : State) (f : Otp → Hw → Hw) : Host.Outcome State Fault Refusal := .next { s with hw := f s.otp s.hw }

end Sys2Proof.Machine
end

