-- ==== Sys2Proof/Machine/HostCmd.lean ====
section
/-! DEFINITION. What every host command passes before its own meaning: the modes that serve it (R44), FENCE (R340), the checks
of R335, the engineering permissions of R346, a buffer error (R335). -/

namespace Sys2Proof.Machine

/-- Whether two commands come from the same ring, or as messages from the same requester (log 135). -/
def Src.same (a b : Src) : Bool :=
  match a, b with
  | .ring r _, .ring r' _ => r == r'
  | .eng x _, .eng y _ => x == y
  | _, _ => false

/-- Whether `x` is another command of the origin of `d`. -/
def Desc.mate (d x : Desc) : Bool := x.src.same d.src && x.relayed == d.relayed && x != d

/-- Whether a command still waits for an earlier one of its origin (R340): one that stands before it in the queue has not been started,
deferred or refused, or its FENCE waits for one that has not completed. -/
def Hw.fenced (h : Hw) (d : Desc) : Bool :=
  (h.hif.queue.takeWhile (fun x => x != d)).any d.mate ||
    (d.flags.testBit 0 && !d.src.isEng && !d.relayed && h.started.any d.mate)

/-- The command leaves the SUP queue. -/
def Hw.dequeue (h : Hw) (d : Desc) : Hw :=
  let q := h.hif.queue.erase d
  ({ h with hif := { h.hif with queue := q } }).fset R.HIF_STATUS_QUEUED (min 64 q.length)

/-- R335: a reserved field, a misaligned buffer, a length above the limit (R343 over TRDP). -/
def Desc.malformed (d : Desc) : Bool :=
  d.resv || (d.flags / 8 != 0) ||
    (match d.src with
      | .ring .. => (d.len != 0 && d.addr % 8 != 0) || decide (16777216 < d.len)
      | _ => decide (16352 < d.len))

/-- The DETAIL of an engineering refusal (R346). -/
def Hw.engRefusal (h : Hw) (d : Desc) : Option Nat :=
  if !d.src.isEng then none
  else if !h.fbit R.HIF_ENG_CFG_ENG_WRITE && !d.readOnly then some 1
  else if d.op / 256 = 9 && !h.fbit R.HIF_ENG_CFG_ENG_DEBUG then some 2
  else none

/-- Whether this command's buffer access ends with an error: the descriptor says so, or injection 0x701 acts on its ring. -/
def Hw.bufErr (h : Hw) (d : Desc) : Bool :=
  d.bufErr || (d.len != 0 && (match d.src with
    | .ring r _ => h.hif.injBuf == some r
    | _ => false))

/-- A buffer access error before the command has changed anything (R335). -/
def Hw.bufFail (h : Hw) (d : Desc) : Hw :=
  let h1 := { h with hif := { h.hif with injBuf := none } }
  (h1.asInj h.hif.injBuf.isSome (fun h => h.raise 0x7004 d.src.code d.tag)).complete d stAccess (event := 0x7004)

/-- The commands that change the state of their activity before all of their buffer has been read or written: the pieces of a transfer, and a
REC_READ that freezes the ring. -/
def Desc.bulk (d : Desc) : Bool := decide (d.op ∈ [0x0201, 0x0606, 0x0801]) || (d.op == 0x0501 && d.p2.testBit 0)

/-- Whether the buffer error comes after the command has changed state (R335). -/
def Hw.lateErr (h : Hw) (d : Desc) : Bool := h.bufErr d && d.bufLate && d.bulk

/-- A buffer access error after the command has changed state: the effect of an abort of its activity (R335, R62). -/
def Hw.lateFail (h : Hw) (d : Desc) (a : Act) : Hw :=
  let h1 := { h with hif := { h.hif with injBuf := none } }
  ((h1.asInj h.hif.injBuf.isSome (fun h => h.raise 0x7004 d.src.code d.tag)).abortAct a h.mode).complete d stAccess true (event := 0x7004)

/-- Whether the host interface serves commands (R44, R325). -/
def Hw.serves (h : Hw) : Bool := decide (h.mode ≠ .boot ∧ h.mode ≠ .parked)

/-- Whether the SUP core's firmware serves a command: from ROM alone only FW_UPDATE, IDENTIFY, REC_READ and mode requests (R423). -/
def Hw.romServes (h : Hw) (op : Nat) : Bool := !h.sup.romOnly || decide (op ∈ [0x0606, 0x0002, 0x0501, 0x0101])

/-- A command that arrives during a transition stays in the SUP queue until its target mode has been entered (R46). -/
def Hw.stayQueued (h : Hw) (d : Desc) : Hw :=
  if h.hif.queue.contains d then h
  else
    let q := h.hif.queue ++ [d]
    ({ h with hif := { h.hif with queue := q } }).fset R.HIF_STATUS_QUEUED (min 64 q.length)

/-- The common entry of a host command whose opcode is `op`: in BOOT and PARKED, and behind its FENCE, it stays queued; so does one that
arrives during a transition (R46), but for the mode requests, which are held in their order of arrival. -/
def Hw.hostCmd (h : Hw) (d0 : Desc) (op : Nat) (f : Hw → Desc → Hw) : Hw :=
  let d := { d0 with op := op }
  if !h.serves || h.fenced d0 || !h.romServes op then h
  else if h.sup.waitTo.isSome && op != 0x0101 then h.stayQueued d
  else
    let h1 := h.dequeue d0
    if d.malformed then h1.complete d stValue
    else match h1.engRefusal d with
      | some x => h1.complete d stAuth (detail := x)
      | none => if h1.bufErr d && !h1.lateErr d then h1.bufFail d else f h1 d

/-- Whether `hostCmd` reaches the command's own meaning. -/
def Hw.admitted (h : Hw) (d0 : Desc) (op : Nat) : Bool :=
  let d := { d0 with op := op }
  let h1 := h.dequeue d0
  h.serves && !h.fenced d0 && h.romServes op && (h.sup.waitTo.isNone || op == 0x0101) && !d.malformed && (h1.engRefusal d).isNone && !h1.bufErr d

/-- The output space a command needs: the ring's buffer must hold `n` bytes, over TRDP LEN must (R344). -/
def Desc.room (d : Desc) (n : Nat) : Bool := n ≤ d.len

end Sys2Proof.Machine
end

