-- ==== Sys2Proof/Machine/NvOps.lean ====
section
/-! DEFINITION. Shared operations of the non-volatile store: pages (R353), retain passes (R91, R93, R118), the firmware copy
(R378, R379), resynchronisation's start (R303, R308). -/

namespace Sys2Proof.Machine

/-! ## Pages -/

/-- A page write ends: the data of page `pg` from byte offset `o`, the commit group with WRITES + 1 (Table 13-4). -/
def Hw.pagePut (h : Hw) (pg o : Nat) (bs : List Byte) : Hw :=
  let h1 := h.setMbs (0x50000000 + pg * 256 + o) bs
  { h1 with nvs := { h1.nvs with writes := tset 0 h1.nvs.writes pg (tget 0 h1.nvs.writes pg + 1),
                                 badPages := h1.nvs.badPages.filter (fun x => x != pg) } }

/-- A range of bytes written page by page in ascending order; `n` bounds the pages. -/
def Hw.pagesPut : Nat → Nat → List Byte → Hw → Hw
  | 0, _, _, h => h
  | n + 1, a, bs, h =>
    if bs.isEmpty then h
    else
      let k := 256 - a % 256
      Hw.pagesPut n (a + k) (bs.drop k) (h.pagePut (pageOf a) (a % 256) (bs.take k))

/-! ## Retain passes -/

/-- The address of a retain buffer. -/
def bufBase (b : Nat) : Nat := if b = 0 then 0x50080000 else 0x500C0000

/-- The buffer of the current or next pass. -/
def Hw.nextBuf (h : Hw) : Nat := h.fget R.TSK_RETAIN_STATUS_NEXT

/-- Whether a retain line is dirty for a buffer: its contents differ from the buffer's (log 12). -/
def Hw.lineDirty (h : Hw) (b l : Nat) : Bool := h.mbs (retBase + l * 64) 64 != h.mbs (bufBase b + l * 64) 64

/-- The retain lines of task `t`. -/
def Hw.linesOf (h : Hw) (t : Nat) : List Nat :=
  (List.range (h.fget (R.TSK_Tn_RETAIN_RET_LINES t))).map (· + h.fget (R.TSK_Tn_RETAIN_RET_FIRST t))

/-- The dirty lines of task `t` for a buffer that a pass may copy; none while its data are not those of an agreed cycle (R92, R93): a
write-back that an overflowed undo log has cut short. -/
def Hw.dirtyOf (h : Hw) (b t : Nat) : List Nat := if h.sup.safeOvf.contains t then [] else (h.linesOf t).filter (h.lineDirty b)

/-- The pages of a list of lines, each once, in ascending order. -/
def linePages (ls : List Nat) : List Nat := (ls.map (· / 4)).eraseDups

/-- The tasks that own retain lines. -/
def Hw.retTasks (h : Hw) : List Nat :=
  (List.range 32).filter (fun t => h.kind t != 0 && h.fget (R.TSK_Tn_RETAIN_RET_LINES t) != 0)

/-- A pass starts toward the next buffer: its commit record is invalidated first (R350). -/
def Hw.passStart (h : Hw) (layout : Nat) : Hw :=
  let h1 := (h.fset R.TSK_RETAIN_STATUS_PASS_ACTIVE 1).nvPush (.invalBuf h.nextBuf)
  { h1 with nvs := { h1.nvs with passSeq := (h1.nvs.passSeq + 1) % 2 ^ 32, passTasks := h.retTasks, passLayout := layout } }

/-- The pass has handled every task: its commit word, or the page pair of an online change (R118). -/
def Hw.passClose (h : Hw) : Hw :=
  if h.fbit R.TSK_RETAIN_STATUS_PASS_ACTIVE && h.nvs.passTasks.isEmpty && !h.nvs.passPending then
    let h1 := { h with nvs := { h.nvs with passPending := true } }
    match h.nvs.pairLayout with
    | some (slot, lay) =>
      h1.nvPush (.pagePair h.nextBuf h.nvs.passSeq lay { (h.marker) with prog := slot, layout := lay })
    | none => h1.nvPush (.retCommit h.nextBuf h.nvs.passSeq h.nvs.passLayout)
  else h

/-- One task's dirty lines go to the page engine, page by page, and the task is handled. -/
def Hw.stretch (h : Hw) (t : Nat) : Hw :=
  let b := h.nextBuf
  let ds := h.dirtyOf b t
  let h1 := (linePages ds).foldl (fun h p =>
    h.nvPush (.retPage b p ((ds.filter (fun l => l / 4 == p)).map (fun l => (l, h.mbs (retBase + l * 64) 64))))) h
  ({ h1 with nvs := { h1.nvs with passTasks := h1.nvs.passTasks.filter (fun x => x != t) } }).passClose

/-- The commit of a buffer: the record, PASSES, NEXT. -/
def Hw.bufCommit (h : Hw) (b seq lay : Nat) : Hw :=
  let h1 := { h with nvs := { h.nvs with retA := if b = 0 then some (seq, lay) else h.nvs.retA,
                                         retB := if b = 0 then h.nvs.retB else some (seq, lay), passPending := false } }
  ((h1.fset R.TSK_RETAIN_STATUS_PASS_ACTIVE 0).fset R.TSK_RETAIN_STATUS_NEXT (1 - b % 2)).finc R.TSK_RETAIN_STATUS_PASSES

/-- The commit pair of an online change has committed (R118): 0x3024, OLC ends. -/
def Hw.olcEnd (h : Hw) (layout buf : Nat) : Hw :=
  ((h.fset R.TSK_OLC_STATUS_STATE 0).raise 0x3024 (layout % 2 ^ 32) buf).actSet .olc false

/-- A commit record that the engine has just written ends its pass; with the page pair of a switch OLC ends too (R118). -/
def Hw.passWritten (h : Hw) (w : NvWrite) : Hw :=
  match w with
  | .retCommit b s l => h.bufCommit b s l
  | .pagePair b s l _ =>
    let h1 := (h.bufCommit b s l).olcEnd l b
    { h1 with nvs := { h1.nvs with pairLayout := none }, tsk := { h1.tsk with olc := { h1.tsk.olc with cfg := none } } }
  | _ => h

/-- A page or commit record of the pass in progress that is being written is written to its end (R355). -/
def Hw.retFinish (h : Hw) : Hw :=
  match h.nvs.busy with
  | some w =>
    let h1 := ({ h with nvs := { h.nvs with busy := none } }).fset R.NVS_STATUS_BUSY 0
    match w with
    | .retPage b page lines =>
      (lines.foldl (fun h x => h.setMbs (bufBase b + x.1 * 64) x.2) h1).pagePut (pageOf (bufBase b) + page) 0 []
    | .invalBuf b => if b = 0 then { h1 with nvs := { h1.nvs with retA := none } } else { h1 with nvs := { h1.nvs with retB := none } }
    | .retCommit .. => h1.passWritten w
    | .pagePair _ _ _ m => ({ h1 with nvs := { h1.nvs with markerRec := h1.nvs.markerRec.put m } }).passWritten w
    | _ => h
  | none => h

/-- The lines that a closing pass writes: every line still dirty for its buffer, but for a task whose undo log overflowed (R93);
`ovf` the tasks that had. -/
def Hw.closeLines (h : Hw) (b : Nat) (ovf : List Nat) : List Nat :=
  (h.retTasks.filter (fun t => !ovf.contains t)).flatMap (h.dirtyOf b)

/-- The closing pass of R93 in one piece: queued retain pages, the dirty lines, the commit; also the second page of a pending page
pair (R118, R358). Answers the pages written. -/
def Hw.closePass (h : Hw) (ovf : List Nat) : Hw × Nat :=
  let b := h.nextBuf
  let h0 := if h.fbit R.TSK_RETAIN_STATUS_PASS_ACTIVE then h
    else { h with nvs := { h.nvs with passSeq := (h.nvs.passSeq + 1) % 2 ^ 32, passLayout := h.prog.layout } }
  let ls := h0.closeLines b ovf
  let h1 := ls.foldl (fun h l => h.setMbs (bufBase b + l * 64) (h.mbs (retBase + l * 64) 64)) h0
  let h2 := (linePages ls).foldl (fun h p => h.pagePut (pageOf (bufBase b) + p) 0 []) h1
  let lay := match h2.nvs.pairLayout with
    | some (_, l) => l
    | none => h2.nvs.passLayout
  let h3 := h2.bufCommit b h2.nvs.passSeq lay
  let keep := h3.nvs.queue.filter (fun w => match w with
    | .retPage .. => false
    | .invalBuf _ => false
    | .retCommit .. => false
    | .pagePair .. => false
    | _ => true)
  let h4 := { h3 with nvs := { h3.nvs with queue := keep, passTasks := [], passPending := false } }
  match h2.nvs.pairLayout with
  | some (slot, l) =>
    (({ h4 with nvs := { h4.nvs with pairLayout := none,
                                     markerRec := h4.nvs.markerRec.put { (h4.marker) with prog := slot, layout := l } } }).olcEnd l b,
      (linePages ls).length + 2)
  | none => (h4, (linePages ls).length + 1)

/-- The tasks whose cycle has overflowed its undo log. -/
def Hw.ovfTasks (h : Hw) : List Nat := (List.range 32).filter (fun t => (h.cyc t).ovf)

/-- The retain flush of PARK (R53) and of SAFE (R93): after the write in progress where it is one of the pass. -/
def Hw.flushRetain (h : Hw) : Hw :=
  let h1 := h.retFinish
  ((h1.closePass h1.ovfTasks).1.nvCount).nvKick

/-! ## The firmware copy (Table 13-8, R376, R378) -/

/-- The NOR firmware slot not named by the marker. -/
def Hw.fwTarget (h : Hw) : Nat := 1 - h.marker.fw % 2

/-- Retires a slot (R376): 0x800A; slots 0 and 1 firmware A and B, 2 and 3 program A and B. -/
def Hw.retireSlot (h : Hw) (slot : Nat) : Hw :=
  let put := fun (l : List (Nat × NorSlot)) (i : Nat) => tset {} l i { tget {} l i with retired := true }
  let h1 := if slot < 2 then { h with nvs := { h.nvs with norFw := put h.nvs.norFw slot } }
    else { h with nvs := { h.nvs with norProg := put h.nvs.norProg (slot - 2) } }
  h1.raise 0x800A slot

/-- Begins or goes on with the copy: state 3 with SECTOR, the target retired, the sector's erase and program under way. -/
def Hw.fwCopy (h : Hw) (sector : Nat) : Hw :=
  let j := h.journalNew
  let h1 := if j.st = 3 then h else (h.retireSlot j.target).setJournal { j with st := 3, sector := sector }
  { h1 with nvs := { h1.nvs with norOps := h1.nvs.norOps ++ [.copySector sector] } }

/-- The update goes on from its journal (R379): 0x8021; the journal image is verified again (`ok`), then the copy from SECTOR. -/
def Hw.fwuGo (h : Hw) (ok : Bool) : Hw :=
  let j := h.journalNew
  let h1 := h.raise 0x8021 j.sector
  if ok then h1.fwCopy j.sector else (h1.dropJournal 2).actSet .fwu false

/-- The firmware's own request to resume an update. -/
def ownFwu : Desc := { src := .own, op := 0x0606 }

/-- SERVICE entry with the journal in state 2 or 3 (R379): the firmware requests FWU as if commanded, so R59 to R61 admit, defer or refuse
it. -/
def Hw.fwuResume (h : Hw) (ok : Bool) : Hw :=
  if h.journalNew.st = 2 ∨ h.journalNew.st = 3 then
    let r := h.request ownFwu .fwu
    if r.2 then r.1.fwuGo ok else r.1
  else h

/-! ## Resynchronisation -/

/-- Step 1 of Table 11-6 begins. -/
def Hw.startResync (h : Hw) : Hw :=
  let h1 := (h.fset R.PAIR_STATUS_SYNC 1).fset R.PAIR_JOINED_JOINED 0
  { h1 with pair := { h1.pair with step := 1, stepAt := h.clk.up, restarts := 0, joinAt := 0, retryAt := none } }

end Sys2Proof.Machine
end

