-- ==== Sys2Proof/Machine/ModeCmd.lean ====
section
/-! DEFINITION. Mode requests and the transitions they make (Tables 2-3 and 12-9, R45 to R53, R287, R336, R475). -/

namespace Sys2Proof.Machine

/-! ## Entering modes -/

/-- The mode that the boot selects has been entered (R421): BOOT_MS and 0x0101. -/
def Hw.booted (h : Hw) : Hw :=
  if h.sup.booting then
    let ms := (h.clk.up - h.sup.bootAt) / 1000000
    (({ h with sup := { h.sup with booting := false } }).fset R.SUP_BOOT_STATUS_BOOT_MS ms).raise 0x0101 (ms % 65536) h.mode.code
  else h

/-- Enters STARTUP (R83): cycle numbers start from 0 (Table 3-5), and every INIT task is released at once with a shared sampling instant; without one, RUN follows. -/
def Hw.enterStartup (h : Hw) (cause : Nat) : Hw :=
  let h1 := (h.setMode Mode.startup cause).booted
  let h2 := (List.range 32).foldl (fun h t => h.setCyc t { h.cyc t with nextK := 0 }) { h1 with tsk := { h1.tsk with epoch := none } }
  let inits := (List.range 32).filter (fun t => h2.kind t == 2)
  if inits.isEmpty then h2.endStartup
  else
    let now := h2.clk.tb
    inits.foldl (fun h t => (h.setCyc t { h.cyc t with agreed := false }).releaseTask t 0 now) h2

/-- Enters RECOVERY with or without a start intent (R49). -/
def Hw.enterRecovery (h : Hw) (cause : Nat) (intent byCommand : Bool) : Hw :=
  let h1 := (h.setMode Mode.recovery cause).booted
  { h1 with sup := { h1.sup with intent := intent, byCommand := byCommand, selfTested := false } }

/-- Enters TEST or DEBUG from STOP with a new epoch (R65). -/
def Hw.enterWithEpoch (h : Hw) (m : Mode) (cause : Nat) : Hw :=
  let h1 := h.setMode m cause
  h1.setEpoch h1.epochFrom

/-- Enters STOP from a mode in which tasks run (R475); a debug session ends with it (R62); the epoch is discarded (R65). -/
def Hw.enterStop (h : Hw) (cause : Nat) : Hw :=
  let h1 := if h.mode = Mode.debug then (h.dbgEnd).abortCmds .dbg Mode.stop.code else h
  let h2 := if h.fget R.TSK_OLC_STATUS_STATE = 4 then h1.olcRollback 12 0 else h1
  match h2.logsBad with
  | [] => (h2.endCycles).setMode Mode.stop cause
  | x :: _ => (h2.endCycles).safe 0x30 x.2

/-! ## The LIVE_IN condition -/

/-- Whether a transition toward STARTUP or RECOVERY waits 200 µs for LIVE_IN (R287). -/
def Hw.mustWait (h : Hw) : Bool := h.pairOn && !h.liveIn && !h.preferred

/-- A transition to `m` that would release tasks, unless R55, R135 or R419 refuses it: the refusal's event is recorded and the mode stays. -/
def Hw.unlessRefused (h : Hw) (m : Mode) (f : Hw → Hw) : Hw :=
  match h.startRefusal m with
  | some (c, p0, p1) => h.raise c p0 p1
  | none => f h

/-- The end of a passed RECOVERY (Table 2-3): resynchronisation with an asserted LIVE_IN, STARTUP with an intent and a verified
program, else STOP. Where STARTUP is refused the module stays in RECOVERY, whose bound then ends it (log 102). -/
def Hw.recoveryEnd (h : Hw) : Hw :=
  if h.pairOn && h.liveIn then h.startResync
  else if h.sup.intent && h.fbit R.SUP_MODE_STATUS_PROG_VALID then h.unlessRefused .startup (fun h => h.enterStartup 0x21)
  else h.setMode Mode.stop 0x21

/-- The transition that waited, or needs no wait, by LIVE_IN as it stands. -/
def Hw.settle (h : Hw) : Hw :=
  let cause := h.sup.waitCause
  let cmd := h.sup.waitCmd
  let h0 := { h with sup := { h.sup with waitTo := none, waitCmd := none } }
  if h.mode = Mode.recovery then h0.recoveryEnd
  else
    let toRec := h.pairOn && h.liveIn
    let h1 := if toRec then h0.enterRecovery cause true cmd.isSome else h0.enterStartup cause
    match cmd with
    | some d => h1.complete d stOk true (if toRec then 10 else 3) (event := 0x0030)
    | none => h1

/-- Starts a transition toward STARTUP or RECOVERY: at once, or after the wait of R287. -/
def Hw.toward (h : Hw) (m : Mode) (cause : Nat) (cmd : Option Desc) : Hw :=
  let h1 := { h with sup := { h.sup with waitTo := some m, waitCause := cause, waitCmd := cmd, waitDue := h.clk.up + 200000 } }
  if h.mustWait then h1 else h1.settle

/-! ## Requests (Table 12-9) -/

/-- Whether the journal image verifies again (R379). -/
def Hw.fwuOk (h : Hw) (o : Otp) : Bool :=
  match h.nvs.journalImage with
  | some f => (verify o 1 f.hdr true).isNone
  | none => false


/-- A commanded change to `m` unless a running activity forbids it (R62). -/
def Hw.commanded (h : Hw) (d : Desc) (m : Mode) (f : Hw → Hw) : Hw :=
  match h.notIn m with
  | a :: _ => h.modeBusy d m a
  | [] => f h

/-- The refusal by R55, R135 or R419 of a commanded start of mode `m`: the mode stays, its event is recorded. -/
def Hw.unlessSplit (h : Hw) (d : Desc) (m : Mode) (f : Hw → Hw) : Hw :=
  match h.startRefusal m with
  | some (c, p0, p1) => (h.raise c p0 p1).complete d stMode true (detail := h.mode.code) (event := c)
  | none => f h

/-- Program verified and configuration valid. -/
def Hw.startable (h : Hw) : Bool := h.fbit R.SUP_MODE_STATUS_PROG_VALID && h.fbit R.SUP_MODE_STATUS_CFG_VALID

def Hw.doStart (h : Hw) (d : Desc) : Hw :=
  if h.mode ≠ Mode.stop then h.modeRefused d Mode.startup 1
  else if !h.startable then h.modeRefused d Mode.startup 2
  else
    let m := if h.pairOn && h.liveIn then Mode.recovery else Mode.startup
    h.commanded d m (fun h => h.unlessSplit d m (fun h => (h.runCmd d).toward m 0x10 (some d)))

def Hw.doStop (h : Hw) (d : Desc) : Hw :=
  if h.mode.runsTasks then (h.enterStop 0x10).modeDone d else h.modeRefused d Mode.stop 1

def Hw.doTest (h : Hw) (d : Desc) : Hw :=
  if h.mode ≠ Mode.stop then h.modeRefused d Mode.test 1
  else if !h.startable || h.liveIn then h.modeRefused d Mode.test 2
  else h.commanded d Mode.test (fun h => h.unlessSplit d .test (fun h => (h.enterWithEpoch Mode.test 0x10).modeDone d))

def Hw.doService (h : Hw) (o : Otp) (d : Desc) : Hw :=
  if h.mode = Mode.stop ∨ h.mode = Mode.safe then
    h.commanded d Mode.service (fun h => ((h.setMode Mode.service 0x10).modeDone d).fwuResume (h.fwuOk o))
  else h.modeRefused d Mode.service 1

def Hw.doServiceExit (h : Hw) (d : Desc) : Hw :=
  if h.mode ≠ Mode.service then h.modeRefused d Mode.stop 1
  else if h.fbit R.SUP_MODE_STATUS_SAFE_LATCH then
    h.commanded d Mode.safe (fun h => ((h.setMode Mode.safe 0x10).safeNote 0x10 0 8).modeDone d)
  else h.commanded d Mode.stop (fun h => (h.setMode Mode.stop 0x10).modeDone d)

/-- PARK (R53): the activities end, the retain flush, the transition. -/
def Hw.doPark (h : Hw) (d : Desc) : Hw :=
  if h.mode = Mode.stop ∨ h.mode = Mode.safe then (((h.abortActs Mode.parked).flushRetain).setMode Mode.parked 0x10).modeDone d
  else h.modeRefused d Mode.parked 1

def Hw.doSafe (h : Hw) (d : Desc) : Hw :=
  if h.mode = Mode.safe then h.modeRefused d Mode.safe 1 else (h.safe 0x10 0).modeDone d

def Hw.doRecover (h : Hw) (d : Desc) : Hw :=
  if h.mode ≠ Mode.safe then h.modeRefused d Mode.recovery 1
  else h.commanded d Mode.recovery (fun h => (h.enterRecovery 0x10 false true).modeDone d)

/-- RESET and PROV_COMMIT: OK, and the reset 1 ms after the completion is written (R336). -/
def Hw.doReset (h : Hw) (d : Desc) (ok : Bool) : Hw :=
  if !ok then h.modeRefused d Mode.boot 1
  else h.commanded d Mode.boot (fun h =>
    let h1 := h.complete d stOk true h.mode.code
    { h1 with sup := { h1.sup with resetDue := some (h.clk.up + 1000000) } })

/-- Performs MODE_REQ request `k` (Table 12-9). -/
def Hw.modeDo (h : Hw) (o : Otp) (k : Nat) (d : Desc) : Hw :=
  match k with
  | 1 => h.doStart d
  | 2 => h.doStop d
  | 3 => h.doTest d
  | 4 => h.doService o d
  | 5 => h.doServiceExit d
  | 6 => h.doPark d
  | 7 => h.doSafe d
  | 8 => h.doRecover d
  | 9 => h.doReset d (decide (h.mode ∈ [Mode.provision, Mode.stop, Mode.service, Mode.safe]))
  | 10 => h.doReset d (h.mode == Mode.provision)
  | _ => h.complete d stValue

/-- A mode request: during a transition it is held (R46); from ROM alone only RESET is carried out (R423). -/
def Hw.modeReq (h : Hw) (o : Otp) (k : Nat) (d : Desc) : Hw :=
  if h.sup.romOnly && k != 9 then h.modeRefused d (Mode.ofCode ([0, 3, 2, 6, 8, 2, 11, 9, 10, 0, 0].getD k 0)) 2
  else if h.sup.waitTo.isSome then
    let h1 := h.runCmd d
    { h1 with sup := { h1.sup with heldReqs := h1.sup.heldReqs ++ [(k, d)] } }
  else h.modeDo o k d

/-- The held requests, evaluated against the mode entered; one that starts a transition that waits holds the rest. -/
def Hw.runHeld (h : Hw) (o : Otp) : Hw :=
  let l := h.sup.heldReqs
  l.foldl (fun h x => h.modeReq o x.1 x.2) { h with sup := { h.sup with heldReqs := [] } }

/-- The end of the wait of R287. -/
def Hw.waitEnds (h : Hw) (o : Otp) : Hw := (h.settle).runHeld o

/-- PREFERRED_WAIT_EXPIRY (R287). -/
def execPreferredWaitExpiry (s : State) : Host.Outcome State Fault Refusal :=
  onHwO s (fun o h => if h.sup.waitTo.isSome then (h.untilUp h.sup.waitDue).waitEnds o else h)

/-- START (R45, R55, R135, R287). -/
def execStart (d : Desc) (s : State) : Host.Outcome State Fault Refusal := onHwO s (fun o h => h.hostCmd d 0x0101 (fun h d => h.modeReq o 1 d))
/-- STOP (R475). -/
def execStop (d : Desc) (s : State) : Host.Outcome State Fault Refusal := onHwO s (fun o h => h.hostCmd d 0x0101 (fun h d => h.modeReq o 2 d))
/-- TEST (R52). -/
def execTest (d : Desc) (s : State) : Host.Outcome State Fault Refusal := onHwO s (fun o h => h.hostCmd d 0x0101 (fun h d => h.modeReq o 3 d))
/-- SERVICE (R45, R378). -/
def execService (d : Desc) (s : State) : Host.Outcome State Fault Refusal := onHwO s (fun o h => h.hostCmd d 0x0101 (fun h d => h.modeReq o 4 d))
/-- SERVICE_EXIT (R45). -/
def execServiceExit (d : Desc) (s : State) : Host.Outcome State Fault Refusal := onHwO s (fun o h => h.hostCmd d 0x0101 (fun h d => h.modeReq o 5 d))
/-- PARK (R53). -/
def execPark (d : Desc) (s : State) : Host.Outcome State Fault Refusal := onHwO s (fun o h => h.hostCmd d 0x0101 (fun h d => h.modeReq o 6 d))
/-- SAFE (R45). -/
def execSafe (d : Desc) (s : State) : Host.Outcome State Fault Refusal := onHwO s (fun o h => h.hostCmd d 0x0101 (fun h d => h.modeReq o 7 d))
/-- RECOVER (R49). -/
def execRecover (d : Desc) (s : State) : Host.Outcome State Fault Refusal := onHwO s (fun o h => h.hostCmd d 0x0101 (fun h d => h.modeReq o 8 d))
/-- RESET (R336). -/
def execReset (d : Desc) (s : State) : Host.Outcome State Fault Refusal := onHwO s (fun o h => h.hostCmd d 0x0101 (fun h d => h.modeReq o 9 d))
/-- PROV_COMMIT (R336). -/
def execProvCommit (d : Desc) (s : State) : Host.Outcome State Fault Refusal := onHwO s (fun o h => h.hostCmd d 0x0101 (fun h d => h.modeReq o 10 d))

/-- STARTUP_LIMIT_EXPIRY (R51): SAFE with cause 0x36; a limit of 0 acts as 1. -/
def Hw.startupLimit (h : Hw) : Hw :=
  if h.mode = Mode.startup then
    (h.untilUp (h.sup.startupAt + max 1 (h.fget R.SUP_MODE_CFG_STARTUP_LIMIT_MS) * 1000000)).safe 0x36 0
  else h

/-- STARTUP_LIMIT_EXPIRY. -/
def execStartupLimitExpiry (s : State) : Host.Outcome State Fault Refusal := onHw s Hw.startupLimit

/-- RECOVERY_BOUND_EXPIRY (R49): 500 ms after entry SAFE with cause 0x37. -/
def Hw.recoveryBound (h : Hw) : Hw :=
  if h.mode = Mode.recovery then (h.untilUp (h.sup.recoveryAt + 500000000)).safe 0x37 0 else h

/-- RECOVERY_BOUND_EXPIRY. -/
def execRecoveryBoundExpiry (s : State) : Host.Outcome State Fault Refusal := onHw s Hw.recoveryBound

/-- The self-test has passed (R151): the MRAM copy of the latch is written clear first (R47); with no latch set the RECOVERY ends,
after the wait of R287 where a start would follow. -/
def Hw.selfTestPassed (h : Hw) : Hw :=
  let h1 := { h with sup := { h.sup with selfTested := true } }
  if h1.fbit R.SUP_MODE_STATUS_SAFE_LATCH then h1.nvPush (.state false (h1.fget R.SUP_MODE_STATUS_AUTO_LEFT))
  else h1.toward Mode.startup 0x21 none

/-- The path tests of channel `c` in step 6 (R238, R258): none where it is OFF or its group is a Zirek link (R221). A DO runs the sense test
where its groundsheet value is 0 and the off-pulse where it is 1; while LIVE_IN is asserted the sense and the readback only, as the sense
test (log 115). -/
def Hw.pathTests (h : Hw) (c : Nat) : List Nat :=
  if h.zirek (c / 8) then []
  else match h.chMode c with
    | 1 => [1, 2, 3]
    | 2 => if h.fbit (R.FLD_CHc_CFG_GS c) && !h.liveIn then [5] else [4]
    | 3 => [6, 7, 8]
    | 4 => [9, 10, 11]
    | _ => []

/-- Whether a test of channel `c` is skipped: tests 9 to 11 need the group's field supply (R258). -/
def Hw.pathSkip (h : Hw) (c n : Nat) : Bool := decide (9 ≤ n) && !h.supplyOk (c / 8)

/-- Whether a test of `fails` is one that channel `c` has run. -/
def Hw.pathBad (h : Hw) (fails : List (Fin 48 × Nat)) (c n : Nat) : Bool := !h.pathSkip c n && fails.any (fun x => x.1.val == c && x.2 == n)

/-- Step 6 (R238, R258, R221), channel after channel: 0x401E for each test skipped, 0x4011 for each failed test of `fails`; a Zirek group in
use whose link is down fails. Answers whether the step passes. -/
def Hw.pathTest (h : Hw) (fails : List (Fin 48 × Nat)) : Hw × Bool :=
  let tests := (List.range 48).flatMap (fun c => (h.pathTests c).map (fun n => (c, n)))
  let links := (List.range 6).all (fun g => !h.zirek g || h.barrier g || (List.range 8).all (fun i => h.chMode (g * 8 + i) == 0))
  (tests.foldl (fun h' x => if h.pathSkip x.1 x.2 then h'.raise 0x401E x.1 x.2
      else if h.pathBad fails x.1 x.2 then h'.raise 0x4011 x.1 x.2 else h') h,
   tests.all (fun x => !h.pathBad fails x.1 x.2) && links)

/-- What a mismatch of the self-test leaves in pair `p`'s registers (MISMATCHES, LAST, MG); the values that Table 5-8 does not give are
free (log 40). -/
def Hw.testMismatch (h : Hw) (p kind : Nat) : Hw :=
  let v := (Config.freeValue h.free).toNat
  let l := (Config.freeValue (h.free + 1)).toNat
  let s := (Config.freeValue (h.free + 2)).toNat
  let h1 := { h with free := h.free + 3 }
  let h2 := ((((h1.finc (R.CMP_EPn_MISMATCH_MISMATCHES p)).fset (R.CMP_EPn_LAST_TASK p) (v % 32)).fset (R.CMP_EPn_LAST_KIND p) kind).fset
    (R.CMP_EPn_LAST_IN_REEXEC p) 0).fset (R.CMP_EPn_LAST_WINDOW p) (v / 32 % 65536)
  let h3 := (((h2.setReg (R.CMP_EPn_MGw p 0) (w32 l)).setReg (R.CMP_EPn_MGw p 1) (w32 (l / 2 ^ 32))).setReg (R.CMP_EPn_MGw p 2) (w32 s)).setReg
    (R.CMP_EPn_MGw p 3) (w32 (s / 2 ^ 32))
  h3.raise 0x2001 (epTask p (v % 32)) (v / 32 % 65536) kind

/-- The self-test's injection of point `pt` on pair `p` (R446). -/
def Hw.testInject (h : Hw) (pt p : Nat) : Hw := (h.bump).raise 0x2020 pt p ((Config.freeValue h.free).toNat % 32)

/-- Pair `p`'s case of step 2 resolves by re-execution: RESOLVED, 0x2002. -/
def Hw.testResolve (h : Hw) (p : Nat) : Hw :=
  let v := (Config.freeValue h.free).toNat
  ((h.bump).finc (R.CMP_EPn_MISMATCH_RESOLVED p)).raise 0x2002 (epTask p (h.fget (R.CMP_EPn_LAST_TASK p))) (v % 2 ^ 32) (v / 2 ^ 32 % 8192)

/-- The re-execution of pair `p`'s case disagrees: a second mismatch, in the re-execution, and 0x2003 (R143). -/
def Hw.testUnresolved (h : Hw) (p : Nat) : Hw :=
  let w := h.fget (R.CMP_EPn_LAST_WINDOW p)
  (((h.finc (R.CMP_EPn_MISMATCH_MISMATCHES p)).fset (R.CMP_EPn_LAST_KIND p) 0).fset (R.CMP_EPn_LAST_IN_REEXEC p) 1).raise 0x2003
    (epTask p (h.fget (R.CMP_EPn_LAST_TASK p))) w 0

/-- A case of step 2: the injection, its mismatch of KIND 4, and the re-execution that agrees; `bad`: the mismatch goes undetected (false),
or is detected and does not resolve (true). -/
def Hw.testCase (h : Hw) (p k : Nat) (bad : Option Bool) : Hw :=
  h.asInj true (fun h =>
    let h1 := h.testInject (tget 0x204 [(0, 0x201), (1, 0x203)] k) p
    match bad with
    | some false => h1
    | some true => (h1.testMismatch p 4).testUnresolved p
    | none => (h1.testMismatch p 4).testResolve p)

/-- Step 1: point 0x207 on every pair. -/
def Hw.testStep1 (h : Hw) : Hw := h.asInj true (fun h => (List.range 4).foldl (fun h p => h.testInject 0x207 p) h)

/-- Steps 2 to 5 with their outcome: the cases of step 2 in order, as far as they ran; every pair's comparisons count (CMP_EPn_WINDOWS),
by a number that Table 5-8 does not give. -/
def Hw.testSteps (h : Hw) (bad : Option TestFail) : Hw :=
  let cases := (List.range 12).map (fun n => (n / 3, n % 3))
  let h1 := match bad with
    | some (.case p k seen) => ((cases.takeWhile (fun x => x != (p.val, k.val))).foldl (fun h x => h.testCase x.1 x.2 none) h).testCase p.val k.val (some seen)
    | _ => cases.foldl (fun h x => h.testCase x.1 x.2 none) h
  let h2 := match bad with
    | some (.mismatch p k) => h1.testMismatch p.val k.val
    | _ => h1
  (List.range 4).foldl (fun h p => (h.bump).setReg (R.CMP_EPn_WINDOWS p) ((Config.freeValue h.free).setWidth 32)) h2

/-- Whether code or data SRAM holds an uncorrectable error, which step 4 reads. -/
def Hw.sramBad (h : Hw) : Bool :=
  h.exe.poison.any (fun g => within (codeBase, 0x1000000) (g * 8) 8 || within (dataBase, 0x800000) (g * 8) 8)

/-- Whether steps 2 to 5 pass: step 3 is omitted without a verified program. -/
def Hw.testPasses (h : Hw) (bad : Option TestFail) : Bool :=
  (bad.isNone || (bad == some (.step 0) && !h.fbit R.SUP_MODE_STATUS_PROG_VALID)) && !h.sramBad

/-- The first pair whose comparator fails point 0x207, with the case: as the command says, or as a failing comparator stands. -/
def Hw.cmpFails (h : Hw) (cmp : Option (Fin 4 × Nat)) : Option (Nat × Nat) :=
  match cmp with
  | some (p, k) => some (p.val, k)
  | none => (List.range 4).findSome? (fun p => (h.exe.cmpBad.find? (fun x => x.1 == p)).map (fun x => (p, x.2)))

/-- The self-test ends (R151): step 1 with the comparator's failing pair and case where one failed (0x2006), steps 2 to 5, then the
path test. A failure enters SAFE with cause 0x37. -/
def Hw.selfTestEnd (h : Hw) (cmp : Option (Fin 4 × Nat)) (bad : Option TestFail) (fails : List (Fin 48 × Nat)) : Hw :=
  if h.mode = Mode.recovery ∧ h.sup.selfTested = false then
    let h1 := h.testStep1
    match h.cmpFails cmp with
    | some (p, k) => (h1.raise 0x2006 p k).safe 0x37 0
    | none =>
      let h2 := h1.testSteps bad
      if !h.testPasses bad then h2.safe 0x37 0
      else let r := h2.pathTest fails; if r.2 then r.1.selfTestPassed else r.1.safe 0x37 0
  else h

/-- SELF_TEST_COMPLETE: `cmp`, `bad` and `fails` are what the six steps of Table 5-8 found. -/
def execSelfTestComplete (cmp : Option (Fin 4 × Nat)) (bad : Option TestFail) (fails : List (Fin 48 × Nat)) (s : State) :
    Host.Outcome State Fault Refusal :=
  onHw s (fun h => h.selfTestEnd cmp bad fails)

/-- AUTOMATIC_RECOVERY (R50): 100 ms after the SAFE cause, where AUTO_LEFT is not 0, RECOVERY, AUTO_LEFT − 1; with AUTOSTART a start
intent. -/
def Hw.autoRecover (h : Hw) : Hw :=
  let n := h.fget R.SUP_MODE_STATUS_AUTO_LEFT
  if h.mode = Mode.safe ∧ n ≠ 0 then
    let auto := h.fbit R.SUP_MODE_CFG_AUTOSTART
    let go := fun (h : Hw) => (h.setAutoLeft (n - 1)).enterRecovery 0x12 auto false
    let h1 := h.untilUp (h.sup.safeAt + 100000000)
    if auto then h1.unlessRefused .recovery go else go h1
  else h

/-- AUTOMATIC_RECOVERY. -/
def execAutomaticRecovery (s : State) : Host.Outcome State Fault Refusal := onHw s Hw.autoRecover

end Sys2Proof.Machine
end

