-- ==== Sys2Proof/Machine/Cmp.lean ====
section
/-! DEFINITION. CMP: the comparison at a window close (R131, R132), agreement, re-execution (R142 to R144), and the dispatcher
with its pre-emption (R68, R69). -/

namespace Sys2Proof.Machine

/-! ## The comparison -/

/-- What the comparison of a close sees beside the marigolds: the shadow's gap in CORE clocks, a cache error in the open window
(R127: false the lead's, true the shadow's). -/
structure CloseSeen where
  gap : Nat := 2
  cache : Option Bool := none
  deriving DecidableEq, Repr

/-- The form of an injection that waits for a close of pair `p` (Table 5-7): 1 inverts a marigold bit, 2 does so again at the first
close of the re-execution, 3 delays the shadow's close, 4 a planted cache error. -/
def Hw.injForm (h : Hw) (p : Nat) : Nat :=
  match h.exe.injMis with
  | some x => if x % 4 = p then x / 4 else 0
  | none => 0

/-- The shadow's marigold as the comparator receives it, with an injected inversion. -/
def Hw.shadowMg (h : Hw) (i : Nat) : BitVec 64 :=
  let m := (h.cpu (i + 1)).mg
  let f := h.injForm (i / 2)
  if f = 1 ∨ f = 2 then m ^^^ (1#64 <<< (h.fget R.CMP_INJ_CTRL_BIT)) else m

/-- The kind of the mismatch at a close of target `i` (CMP_EPn_LAST), or none where the window agrees (R127, R131). -/
def Hw.closeKind (h : Hw) (i : Nat) (x : CloseSeen) : Option Nat :=
  let f := h.injForm (i / 2)
  let cache := x.cache.or (h.tgt i).cacheErr
  let gap := if f = 3 then x.gap + 1 else x.gap
  let mg := (h.cpu i).mg != h.shadowMg i
  let bad := mg || gap != 2 || cache.isSome || f == 4
  if !bad then none
  else if f ≠ 0 then some 4
  else match cache with
    | some s => some (2 + b2n s)
    | none => some (if mg then 0 else 1)

/-- An injection's inversion or delay is spent by the close; the double one of point 0x202 goes on to the re-execution's first. -/
def Hw.injSpend (h : Hw) (p : Nat) : Hw :=
  let f := h.injForm p
  if f = 0 then h
  else { h with exe := { h.exe with injMis := if f = 2 then some (4 + p) else none } }

/-- Points 0x201 to 0x203 act at the next close of their pair (Table 5-7). -/
def Hw.injClose (h : Hw) (p t : Nat) : Hw :=
  match [1, 2, 3].find? (fun l => h.cmpArmed p l) with
  | some l => let h1 := h.cmpAct p l t; { h1 with exe := { h1.exe with injMis := some (l * 4 + p) } }
  | none => h

/-- The comparison counts (CMP_EPn_WINDOWS), and a mismatch is captured (MISMATCHES, LAST, MG). -/
def Hw.noteClose (h0 : Hw) (i t : Nat) (x : CloseSeen) : Hw × Option Nat :=
  let p := i / 2
  let h := h0.injClose p t
  let g := h.tgt i
  let h1 := h.fset (R.CMP_EPn_WINDOWS_COUNT p) (h.fget (R.CMP_EPn_WINDOWS_COUNT p) + 1)
  match h.closeKind i x with
  | none => (h1.injSpend p, none)
  | some k =>
    let l := (h.cpu i).mg.toNat
    let s := (h.shadowMg i).toNat
    let h2 := ((((h1.finc (R.CMP_EPn_MISMATCH_MISMATCHES p)).fset (R.CMP_EPn_LAST_TASK p) t).fset (R.CMP_EPn_LAST_KIND p) k).fset
      (R.CMP_EPn_LAST_IN_REEXEC p) (b2n g.reexec)).fset (R.CMP_EPn_LAST_WINDOW p) (satN 16 g.window)
    let h3 := (((h2.setReg (R.CMP_EPn_MGw p 0) (w32 l)).setReg (R.CMP_EPn_MGw p 1) (w32 (l / 2 ^ 32))).setReg (R.CMP_EPn_MGw p 2) (w32 s)).setReg
      (R.CMP_EPn_MGw p 3) (w32 (s / 2 ^ 32))
    (h3.injSpend p, some k)

/-! ## Re-execution -/

/-- Queued debugger actions of a rolled-back execution are discarded (R149). -/
def Hw.dropReplay (h : Hw) (p : Nat) : Hw :=
  let n := h.exe.replay.length
  if h.mode ≠ .debug ∨ n = 0 ∨ h.fget R.CMP_REPLAY_STATUS_EP ≠ p then h
  else
    let h1 := { h with exe := { h.exe with replay := [] } }
    (((h1.fset R.CMP_REPLAY_STATUS_DEPTH 0).fset R.CMP_REPLAY_STATUS_FULL 0).fset R.CMP_REPLAY_STATUS_DISCARDED 1).raise 0x2010 p n

/-- Steps 1 to 3 of R142: the held items go, the segment is written back; the active module's mirror items and marker (R301, R309). -/
def Hw.rollBack (h : Hw) (i t : Nat) : Hw :=
  let us := (h.tgt i).undo.filter (fun u => u.task == t)
  let h1 := ((h.dropReplay (i / 2)).dropHeld (i / 2) t).rollTask i t
  let h2 := h1.setTgt i { h1.tgt i with wb := us.length }
  let due := (h2.cyc t).due
  if h2.mirrors due && !us.isEmpty then h2.pairSend (.state (h2.mirrorItems us)) else h2

/-- Steps 4 to 7 of R142: both cores' caches invalidated, the output window restored, the marigolds reseeded with window index 0, the entry fetched. In FOLLOW the
execution keeps its number (R301), else the next execution begins and its marker is sent. -/
def Hw.restart (h : Hw) (i t : Nat) : Hw :=
  let c := h.cyc t
  let h1 := (h.emptyCaches i).fillOut t
  let h2 := h1.setCyc t { c with reads := 0, exec := if c.foll then c.exec else c.exec + 1 }
  let h3 := if h2.leads t && h2.joinedBy c.due then h2.pairSend (.marker t c.k (c.exec + 1)) else h2
  h3.startTask i t true

/-- What a mismatch leads to (R142, R143): SAFE where the window was a re-execution's or the cycle has overflowed or the log cannot
be read (`ecc`, or as the log stands), after 0x2003 or 0x2004; else 0x2001 and the write-back. True where the re-execution follows. A
re-execution that disagrees while OVF is set meets two of R143's cases: 0x2003 alone precedes the SAFE entry (DESIGN CHOICE, log 119). -/
def Hw.mismatchDo (h : Hw) (i t k : Nat) (ecc : Bool) : Hw × Bool :=
  let p := i / 2
  let g := h.tgt i
  if g.reexec then ((h.raise 0x2003 (epTask p t) g.window k).safe 0x30 t, false)
  else if (h.cyc t).ovf then ((h.raise 0x2004 (epTask p t) 1).safe 0x30 t, false)
  else
    let h1 := h.raise 0x2001 (epTask p t) g.window k
    if ecc || h.logBad i t then ((h1.raise 0x2004 (epTask p t) 2).safe 0x30 t, false) else (h1.rollBack i t, true)

/-- The same, with INJECTED where an injection caused the mismatch (R446). -/
def Hw.mismatch (h : Hw) (i t k : Nat) (ecc : Bool) : Hw × Bool :=
  let r := ({ h with evr := { h.evr with injecting := h.evr.injecting || k == 4 } }).mismatchDo i t k ecc
  ({ r.1 with evr := { r.1.evr with injecting := h.evr.injecting } }, r.2)

/-! ## The close -/

/-- The second store commit of an SD whose first completed the window belongs to the next one (R131, R168); a debugger's stop at that
instruction closes it there. -/
def Hw.foldRest (h : Hw) (i : Nat) : Hw :=
  let g := h.tgt i
  if g.rest = ([], []) then h
  else
    let h1 := (h.setCpu i ((h.cpu i).commit g.rest.1 1)).setCpu (i + 1) ((h.cpu (i + 1)).commit g.rest.2 1)
    h1.setTgt i { h1.tgt i with rest := ([], []), commits := 1, closing := if h.dbgStop (i / 2) (h.cpu i).pc then some .halt else none }

/-- A window that agreed and whose task goes on: the next index, both marigolds reseeded (R130, R131). -/
def Hw.nextWindow (h : Hw) (i t : Nat) : Hw :=
  let g := h.tgt i
  let h1 := h.setTgt i { g with window := g.window + 1, commits := 0, closing := none }
  ((h1.reseed i t (g.window + 1)).epStatus i t (g.window + 1) g.reexec).foldRest i

/-- A re-execution has agreed: RESOLVED, 0x2002 with the written-back entries. -/
def Hw.resolved (h : Hw) (i t : Nat) : Hw :=
  let g := h.tgt i
  if g.reexec then
    (h.finc (R.CMP_EPn_MISMATCH_RESOLVED (i / 2))).asInj (h.fget (R.CMP_EPn_LAST_KIND (i / 2)) == 4)
      (fun h => h.raise 0x2002 (epTask (i / 2) t) ((h.cyc t).k % 2 ^ 32) g.wb)
  else h

/-- An agreed close: the next window, the task's agreement, its fault, or the debugger's halt. A re-execution that ends as a task fault is
not counted as RESOLVED and records no 0x2002 (DESIGN CHOICE, log 120). -/
def Hw.closeAgreed (h : Hw) (i t : Nat) (why : CloseWhy) : Hw :=
  match why with
  | .length => h.nextWindow i t
  | .taskEnd => (h.resolved i t).agree i t
  | .taskFault r => h.taskFault t (faultWord (h.cpu i) r) (h.cpu i).epc
  | .halt => (h.nextWindow i t).dbgHalted (i / 2)

/-- A close of target `i` that awaits its comparison. -/
def Hw.windowCompare (h : Hw) (i : Nat) (x : CloseSeen) (ecc : Bool) : Hw :=
  let g := h.tgt i
  match g.task, g.closing with
  | some t, some why =>
    (match h.noteClose i t x with
      | (h1, none) => h1.closeAgreed i t why
      | (h1, some k) =>
        match h1.mismatch i t k ecc with
        | (h2, true) => h2.restart i t
        | (h2, false) => h2)
  | _, _ => h

/-- WINDOW_COMPARE (R131): pair `p`'s close is compared; `gap` the shadow's close after the lead's in CORE clocks, `cache` a cache
error in the window (R127), `ecc` an uncorrectable error in reading the undo log (R143). -/
def execWindowCompare (p : Fin 4) (gap : Nat) (cache : Option Bool) (ecc : Bool) (s : State) : Host.Outcome State Fault Refusal :=
  onHw s (fun h => h.windowCompare (2 * p.val) { gap := gap, cache := cache } ecc)

/-! ## Dispatch -/

def Hw.prio (h : Hw) (t : Nat) : Nat := h.fget (R.TSK_Tn_CTRL_PRIO t)

/-- Whether task `a` runs before task `b` (R68). -/
def Hw.before (h : Hw) (a b : Nat) : Bool :=
  let ka := (h.prio a, (h.cyc a).due, a)
  let kb := (h.prio b, (h.cyc b).due, b)
  decide (ka.1 < kb.1) || (ka.1 == kb.1 && (decide (ka.2.1 < kb.2.1) || (ka.2.1 == kb.2.1 && decide (ka.2.2 < kb.2.2))))

/-- The first of a list of tasks by R68. -/
def Hw.firstOf (h : Hw) : List Nat → Option Nat
  | [] => none
  | t :: r => match h.firstOf r with
    | none => some t
    | some x => if h.before t x then some t else some x

/-- The tasks of target `i` whose windows are complete. -/
def Hw.readyOf (h : Hw) (i : Nat) : List Nat := (List.range 32).filter (fun t => h.tstate t == 2 && h.targetOf t == i)

/-- The saved contexts' top task of target `i`. -/
def Target.top (g : Target) : List Nat := (g.saved.take 1).map (·.task)

/-- A pre-empted task resumes (R69), or restarts where its close at pre-emption disagreed (R144). -/
def Hw.resume (h : Hw) (i : Nat) : Hw :=
  let g := h.tgt i
  match g.saved with
  | [] => h
  | s :: r =>
    let h1 := h.setTgt i { g with saved := r, filter := [], task := some s.task, wb := s.wb, cacheErr := none }
    if s.restart then h1.restart i s.task
    else
      let h2 := h1.setTgt i { h1.tgt i with window := s.window, commits := s.commits, reexec := s.reexec, closing := none }
      let h3 := h2.setCpu i s.lead
      let h4 := if h3.split (i / 2) then h3 else h3.setCpu (i + 1) s.shadow
      ((if h4.split (i / 2) then h4 else h4.reseed i s.task s.window).epStatus i s.task s.window s.reexec).setTstate s.task 3

/-- Task `t` starts on free target `i`: its first dispatch opens its watchdog window (R413). -/
def Hw.begin (h : Hw) (i t : Nat) : Hw := (h.wdgOpen t).startTask i t false

/-- Saves the running task `r`'s context; `restart` as in `Saved`. -/
def Hw.saveCtx (h : Hw) (i r : Nat) (restart : Bool) : Hw :=
  let g := h.tgt i
  let s : Saved := { task := r, lead := h.cpu i, shadow := h.cpu (i + 1), window := g.window, commits := 0, reexec := g.reexec, restart := restart, wb := g.wb }
  (h.setTgt i { g with saved := s :: g.saved, task := none, closing := none, commits := 0, cacheErr := none }).setTstate r 4

/-- Pre-emption of `r` (R69, R131, R144): the close at the boundary is compared (`x`, `ecc`), then the context is saved. False
where the mismatch has led to SAFE. -/
def Hw.preempt (h : Hw) (i r : Nat) (x : CloseSeen) (ecc : Bool) : Hw × Bool :=
  if h.split (i / 2) then (h.saveCtx i r false, true)
  else match h.noteClose i r x with
    | (h1, none) => (((h1.nextWindow i r).saveCtx i r false), true)
    | (h1, some k) =>
      match h1.mismatch i r k ecc with
      | (h2, true) => (h2.saveCtx i r true, true)
      | (h2, false) => (h2, false)

/-- Whether target `i` stands at an instruction boundary where a pre-emption may act. -/
def Hw.atBoundary (h : Hw) (i : Nat) : Bool :=
  let g := h.tgt i
  g.closing.isNone && g.query.isNone && !h.fbit (R.CMP_EPn_STATUS_HALTED (i / 2))

/-- The scheduler's decision on target `i` (R68, R69). -/
def Hw.dispatch (h : Hw) (i : Nat) (x : CloseSeen) (ecc : Bool) : Hw :=
  let g := h.tgt i
  if !h.mode.runsTasks then h
  else match g.task with
    | none =>
      (match h.firstOf (h.readyOf i ++ g.top) with
        | none => h
        | some t => if g.top.contains t then h.resume i else h.begin i t)
    | some r =>
      match h.firstOf (h.readyOf i) with
      | none => h
      | some t =>
        if h.prio t < h.prio r && h.atBoundary i && g.saved.length < 8 then
          (match h.preempt i r x ecc with
            | (h1, true) => h1.begin i t
            | (h1, false) => h1)
        else h

/-- DISPATCH (R68): target `i` (2 × pair, plus 1 for a SPLIT pair's shadow side); `gap`, `cache`, `ecc` what the comparison of a
close at pre-emption sees, as in WINDOW_COMPARE. -/
def execDispatch (i : Fin 8) (gap : Nat) (cache : Option Bool) (ecc : Bool) (s : State) : Host.Outcome State Fault Refusal :=
  onHw s (fun h => h.dispatch i.val { gap := gap, cache := cache } ecc)

end Sys2Proof.Machine
end

