-- ==== Sys2Proof/Machine/Sched.lean ====
section
/-! DEFINITION. The task engine's instants: releases (R66, R67, R78, R476), deadlines (R77, R79, R298, R302), the timer sweep
(R87), retain passes (R91), the retain flush of SAFE (R93, R360), and registers that latch or commit on an access. -/

namespace Sys2Proof.Machine

/-! ## Deadline instants -/

/-- The deadline instant of a cycle in STATE 6: its outputs are released and the cycle ends (R77). -/
def Hw.deadlineRelease (h : Hw) (t : Nat) : Hw :=
  if h.tstate t = 6 then
    let h1 := h.untilTb (h.cyc t).dead
    (h1.releaseOut t).cycleEnd t
  else h

/-- DEADLINE_RELEASE (R77). -/
def execDeadlineRelease (t : Fin 32) (s : State) : Host.Outcome State Fault Refusal := onHw s (fun h => h.deadlineRelease t.val)

/-- Whether the follower's agreed cycle still lacks the active module's digest (R302). -/
def Hw.noDigest (h : Hw) (t : Nat) : Bool :=
  let c := h.cyc t
  decide (h.mode = .follow) && c.foll && c.agreed && (tget (0, 0#64) h.pair.ownDig t).1 == c.k + 1 && (tget (0, 0#64) h.pair.rxDig t).1 != c.k + 1

/-- A deadline instant passes: an overrun where the cycle has not agreed (R79), a loss of synchronisation where the follower has no
digest to compare (R302). -/
def Hw.deadlineExpiry (h : Hw) (t : Nat) : Hw :=
  let st := h.tstate t
  if 1 ≤ st ∧ st ≤ 5 ∧ h.kind t ≠ 2 ∧ h.mode.runsTasks = true ∧ h.fbit (R.TSK_Tn_STAT_LATE t) = false then
    (h.untilTb (h.cyc t).dead).overrun t
  else if h.noDigest t then (h.untilTb (h.cyc t).dead).syncLoss 5 t
  else h

/-- DEADLINE_EXPIRY (R79). -/
def execDeadlineExpiry (t : Fin 32) (s : State) : Host.Outcome State Fault Refusal := onHw s (fun h => h.deadlineExpiry t.val)

/-- The deadline copy of R298; in FOLLOW only a cycle whose digests match (R302). -/
def Hw.deadlineCopy (h : Hw) (t : Nat) : Hw :=
  let c := h.cyc t
  if h.fbit R.PAIR_CFG_ENABLE && c.pdPend then
    let h1 := h.untilTb c.dead
    let own := tget (0, 0#64) h.pair.ownDig t
    if !c.foll || (own == tget (0, 0#64) h.pair.rxDig t && own.1 == c.k + 1) then
      let h2 := h1.copyPd t
      { h2 with pair := { h2.pair with copied := tset false h2.pair.copied t true } }
    else h1.setCyc t { c with pdPend := false }
  else h

/-- PAIR_DEADLINE_COPY (R298). -/
def execPairDeadlineCopy (t : Fin 32) (s : State) : Host.Outcome State Fault Refusal := onHw s (fun h => h.deadlineCopy t.val)

/-- Every output that waits for a deadline instant no later than now is released before a build starts (R78). -/
def Hw.settleReleases (h : Hw) : Hw :=
  (List.range 32).foldl (fun h t => if h.tstate t = 6 ∧ (h.cyc t).dead ≤ h.clk.tb then h.deadlineRelease t else h) h

/-- What of task `t`'s cycle falls due no later than now comes before a build (R78, R298). -/
def Hw.settleDeadline (h : Hw) (t : Nat) : Hw :=
  let c := h.cyc t
  if c.dead ≤ h.clk.tb ∧ (h.tstate t ≠ 0 ∨ c.pdPend = true) ∧ h.kind t ≠ 2 then
    let h1 := if c.pdPend then h.deadlineCopy t else h
    let h2 := if h1.tstate t = 6 then h1.deadlineRelease t else h1.deadlineExpiry t
    if (h2.cyc t).pdPend then h2.deadlineCopy t else h2
  else h

/-! ## Releases -/

/-- The modes in which CYCLIC tasks are released: every mode of R21 but STARTUP, which runs INIT tasks; in FOLLOW a joined task
only (R303, R310). -/
def Hw.releases (h : Hw) (t due : Nat) : Bool :=
  h.kind t == 1 && h.tsk.epoch.isSome &&
    (match h.mode with
      | .run => true
      | .test => true
      | .debug => true
      | .follow => h.fget R.PAIR_STATUS_SYNC == 4 || (h.fget R.PAIR_STATUS_SYNC == 3 && decide (h.pair.joinAt ≤ due))
      | _ => false)

/-- The follower's release (R76): its own records are kept for the cross-check (R307), and the window waits for the snapshot. -/
def Hw.followRelease (h : Hw) (t k due : Nat) : Hw :=
  let own := h.inRecords t due
  let h1 := (h.sampleStatus t).pcTake t
  let c := h1.cyc t
  (h1.setCyc t { c with k := k, nextK := k + 1, due := due, dead := h.deadlineOf t due, agreed := false, foll := true, own := own, exec := 0, reads := 0,
                        ovf := false, ovr := false }).setTstate t 1

/-- Whether a window sampled now comes from the partner's snapshot: in FOLLOW, and from the revert instant on in the module that
hands back, but not in the one that takes back (R318). -/
def Hw.followsNow (h : Hw) : Bool := if h.pair.reverting = 1 then true else if h.pair.reverting = 2 then false else h.mode == .follow

/-- The due instants that pass now: those a correction moved past, at least one (R67). -/
def Cycle.now (c : Cycle) : Nat := max 1 c.passed

/-- A due instant of a CYCLIC task: 0x3003 after a correction (R67), a skip while the cycle runs on (R476), else the release. -/
def Hw.releaseDue (h : Hw) (t : Nat) : Hw :=
  let c := h.cyc t
  let n := c.now
  let k := c.nextK + n - 1
  let due := h.dueOf t k
  if !h.releases t due then h
  else
    let h1 := ((h.untilTb due).settleReleases).settleDeadline t
    let h2a := h1.setCyc t { h1.cyc t with nextK := k + 1, passed := 0 }
    let h2 := if c.passed = 0 then h2a else h2a.raise 0x3003 t c.passed
    if !h2.mode.runsTasks then h2
    else if h2.tstate t ≠ 0 then h2.setCyc t { h2.cyc t with skipped := (h2.cyc t).skipped + n }
    else
      if h2.followsNow then h2.followRelease t k due else (h2.setCyc t { h2.cyc t with foll := false }).releaseTask t k due

/-- RELEASE_DUE (R67). -/
def execReleaseDue (t : Fin 32) (s : State) : Host.Outcome State Fault Refusal := onHw s (fun h => h.releaseDue t.val)

/-! ## The timer sweep -/

/-- Sets SAT where a running entry's elapsed time on the live timebase has reached 2^44 µs (R87). The difference of the two 48-bit times is
signed: a START that a backward correction has left above the live timebase has seen no 2^44 µs (log 106). -/
def Timer.sweep (e : Timer) (now : Nat) : Timer :=
  if e.run && decide ((2 ^ 44 : Int) ≤ sx 48 ((now % 2 ^ 48 + 2 ^ 48 - e.start) % 2 ^ 48)) then e.setSat true else e

/-- The sweep of the next whole second not swept yet. -/
def Hw.timerSweep (h : Hw) : Hw :=
  let s := h.clk.tb / 1000000000
  let h1 := if s = h.tsk.taskSec then h.untilTb ((s + 1) * 1000000000) else h
  let now := h1.clk.tb / 1000
  { h1 with tsk := { h1.tsk with taskSec := h1.clk.tb / 1000000000,
                                 timers := h1.tsk.timers.map (fun p => (p.1, p.2.sweep now)) } }

/-- TIMER_SWEEP (R87). -/
def execTimerSweep (s : State) : Host.Outcome State Fault Refusal := onHw s Hw.timerSweep

/-! ## Retain passes -/

/-- PASS_MS within its limits. -/
def Hw.passMs (h : Hw) : Nat := min 10000 (max 10 (h.fget R.TSK_RETAIN_CFG_PASS_MS))

/-- Whether TSK runs retain passes: a program is loaded and the supply and the mode permit. -/
def Hw.passes (h : Hw) : Bool :=
  h.fbit R.SUP_MODE_STATUS_PROG_VALID && !h.nvs.vinLost && decide (h.mode ≠ .boot ∧ h.mode ≠ .parked ∧ h.mode ≠ .safe)

/-- A pass falls due (R91); one still in progress goes on. -/
def Hw.passDueNow (h : Hw) : Hw :=
  if !h.passes then h
  else
    let h1 := h.untilUp h.nvs.passDue
    let h2 := { h1 with nvs := { h1.nvs with passDue := max h.nvs.passDue (h1.clk.up - h1.passMs * 1000000) + h1.passMs * 1000000 } }
    if h2.fbit R.TSK_RETAIN_STATUS_PASS_ACTIVE then h2 else (h2.passStart h2.prog.layout).passClose

/-- RETAIN_PASS_START (R91). -/
def execRetainPassStart (s : State) : Host.Outcome State Fault Refusal := onHw s Hw.passDueNow

/-- The ns left before task `t`'s next due instant; none where no due instant comes. -/
def Hw.untilDue (h : Hw) (t : Nat) : Option Nat :=
  if h.releases t (h.dueOf t (h.cyc t).nextK) then some (h.dueOf t (h.cyc t).nextK - h.clk.tb) else none

/-- The ns left before a swap point that has been proposed, of a task that the flysheet affects (R109). -/
def Hw.untilSwap (h : Hw) (t : Nat) : Option Nat :=
  if h.tsk.olc.point ≠ 0 ∧ h.fget R.TSK_OLC_STATUS_STATE = 3 ∧ (h.tsk.olc.staged.map (fun p => p.affected.testBit t)).getD false = true
  then some (h.tsk.olc.point - h.clk.tb) else none

/-- Whether the stretch of `t` fits now: the task idle, and 5 µs for each page before its next due instant. -/
def Hw.stretchFits (h : Hw) (t : Nat) : Bool :=
  h.tstate t == 0 && ((h.untilDue t).toList ++ (h.untilSwap t).toList).all
    (fun d => decide ((linePages (h.dirtyOf h.nextBuf t)).length * 5000 ≤ d))

/-- Whether the commit record of the pass's buffer has been invalidated, with which the pass starts (R350). -/
def Hw.passOpen (h : Hw) : Bool :=
  (h.nvs.busy.toList ++ h.nvs.queue).all (fun w => match w with
    | .invalBuf _ => false
    | _ => true)

/-- One task's stretch in the pass in progress (R91): copied where it fits; a last task whose stretch does not fit is left for the
next pass to that buffer with 0x3005. While two or more tasks still lack a fitting interval, none is the one after every other, and the
pass stays open (log 107). -/
def Hw.stretchCopy (h : Hw) (t : Nat) : Hw :=
  if h.fbit R.TSK_RETAIN_STATUS_PASS_ACTIVE && h.passOpen && h.nvs.passTasks.contains t then
    if h.stretchFits t then h.stretch t
    else if h.nvs.passTasks = [t] then
      (({ h with nvs := { h.nvs with passTasks := [] } }).raise 0x3005 t h.nextBuf).passClose
    else h
  else h

/-- RETAIN_STRETCH_COPY (R91). -/
def execRetainStretchCopy (t : Fin 32) (s : State) : Host.Outcome State Fault Refusal := onHw s (fun h => h.stretchCopy t.val)

/-- The retain flush that follows SAFE entry, once ARMED allows it (R48, R93, R360), and 0x0031. -/
def Hw.safeFlush (h : Hw) : Hw :=
  if h.mode = .safe ∧ h.sup.safeRecorded = false ∧ h.fbit R.NVS_STATUS_ARMED = true then
    let h1 := h.flushRetain
    ({ h1 with sup := { h1.sup with safeRecorded := true } }).raise 0x0031 h.sup.safeCause h.sup.safeDetail h.sup.safePrev
  else h

/-- SAFE_RETAIN_FLUSH (R360). -/
def execSafeRetainFlush (s : State) : Host.Outcome State Fault Refusal := onHw s Hw.safeFlush

/-! ## Registers of the TSK block that latch or commit -/

/-- TSK_EPOCH_LO reads bits 31:0 and latches EPOCH_HI (R65). -/
def Hw.epochRead (h : Hw) : Hw :=
  let e := h.tsk.epoch.getD 0
  (h.setReg R.TSK_EPOCH_LO (w32 e)).setReg R.TSK_EPOCH_HI (w32 (e / 2 ^ 32))

/-- EPOCH_LO_READ. -/
def execEpochLoRead (s : State) : Host.Outcome State Fault Refusal := onHw s Hw.epochRead

/-- TSK_OLC_POINT_LO reads bits 31:0 of s and latches POINT_HI (R109). -/
def Hw.pointRead (h : Hw) : Hw :=
  (h.setReg R.TSK_OLC_POINT_LO (w32 h.tsk.olc.point)).setReg R.TSK_OLC_POINT_HI (w32 (h.tsk.olc.point / 2 ^ 32))

/-- POINT_LO_READ. -/
def execPointLoRead (s : State) : Host.Outcome State Fault Refusal := onHw s Hw.pointRead

/-- A rejected write at address `a` (R9, R23): REJECT, and REJ_OFFSET of the first since REJECT was last cleared. -/
def Hw.reject (h : Hw) (a : Nat) : Hw :=
  let b := (a - 0x40000000) / 65536
  if h.fbit (R.BLOCK_STATUS_REJECT b) then h
  else (h.fset (R.BLOCK_STATUS_REJECT b) 1).fset (R.BLOCK_STATUS_REJ_OFFSET b) (a % 65536)

/-- Whether class S and RWS fields may be written now (R9, R11). -/
def Hw.stopClass (h : Hw) : Bool := decide (h.mode = .stop ∨ h.mode = .service)

/-- A write of TSK_TMR_DATA3 commits the four words written to entry INDEX (class S). -/
def Hw.tmrCommit (h : Hw) (v : Word) : Hw :=
  if h.stopClass then
    let w := fun i => (h.reg (R.TSK_TMR_DATAw i)).toNat
    (h.setReg (R.TSK_TMR_DATAw 3) v).setTimer (h.fget R.TSK_TMR_INDEX_INDEX) { w0 := w 0, w1 := w 1, w2 := w 2, w3 := v.toNat }
  else h.reject (R.TSK_TMR_DATAw 3)

/-- TMR_DATA_COMMIT (R11, TSK_TMR_DATAw). -/
def execTmrDataCommit (v : Word) (s : State) : Host.Outcome State Fault Refusal := onHw s (fun h => h.tmrCommit v)

/-- The force lantern flashes (R101): high at each whole second of the timebase and low 500 ms later, while FLASH is 1 and forces are
active; else nothing. -/
def Hw.lanternFlash (h : Hw) : Hw :=
  if h.fbit R.TSK_FORCE_CFG_FLASH && h.fget R.TSK_FORCE_STATUS_COUNT != 0 && decide (h.mode ≠ .boot ∧ h.mode ≠ .parked) then
    (h.untilTb ((h.clk.tb / 500000000 + 1) * 500000000)).forceStatus
  else h

/-- LANTERN_FLASH_TOGGLE (R101). -/
def execLanternFlashToggle (s : State) : Host.Outcome State Fault Refusal := onHw s Hw.lanternFlash

/-! ## Class C values without an owner -/

/-- Whether an address is a channel field's: its class C value latches at the group's COMMIT frame, not here (R440). -/
def chanField (a : Nat) : Bool := 0x40041000 ≤ a && a < 0x40042600

/-- PENDING of a block follows its pending values (R12). -/
def Hw.pending (h : Hw) (b : Nat) : Hw :=
  h.fset (R.BLOCK_STATUS_PENDING b) (b2n (h.pend.any (fun p => (p.1 - 0x40000000) / 65536 == b)))

/-- Whether a group that is up still transfers configuration words (R213). -/
def Hw.fieldBusy (h : Hw) : Bool :=
  (List.range 6).any (fun g => h.barrier g && (!(h.lnk g).want.isEmpty || !(h.lnk g).batch.isEmpty))

/-- Whether a command's values have latched. -/
def Hw.latched (h : Hw) (x : Latch) : Bool :=
  match x.addr with
  | some a => h.pend.all (fun p => p.1 != a)
  | none => h.pend.isEmpty && !h.fieldBusy

/-- The commands whose values have latched complete, and CFG ends with the last of them (R336, R439, R440). -/
def Hw.latchDone (h : Hw) : Hw :=
  let ds := h.hif.latching.filter h.latched
  if ds.isEmpty then h
  else
    let h1 := { h with hif := { h.hif with latching := h.hif.latching.filter (fun x => !h.latched x) } }
    let h2 := ds.foldl (fun h x => h.complete x.d stOk true x.res0 x.res1 (event := x.event)) h1
    if h2.hif.latching.isEmpty then h2.actSet .cfg false else h2

/-- Latches the pending values that satisfy `p`, in address order. -/
def Hw.latchPend (h : Hw) (p : Nat → Bool) : Hw :=
  let h1 := (h.pend.filter (fun x => p x.1)).foldl (fun h x => h.setReg x.1 x.2) h
  let h2 := { h1 with pend := h1.pend.filter (fun x => !p x.1) }
  ((List.range 12).foldl (fun h b => h.pending b) h2).latchDone

/-- The next whole millisecond of the timebase: class C values without an owning task or group latch (R440). -/
def Hw.msLatch (h : Hw) : Hw := (h.untilTb (ceilTo 1000000 h.clk.tb)).latchPend (fun a => !chanField a && h.pair.pwrites.all (fun p => p.addr != a))

/-- CLASS_C_MS_LATCH (R440). -/
def execClassCMsLatch (s : State) : Host.Outcome State Fault Refusal := onHw s Hw.msLatch

end Sys2Proof.Machine
end

