-- ==== Sys2Proof/Machine/Reg0.lean ====
section
/-! DEFINITION. Writes of registers by access code and field class (R9 to R13), with the values that the register tables refuse and
the circuits that follow a register's value. -/

namespace Sys2Proof.Machine

/-- What a read of a register gives (R9, R12): the pending value of a class C or P field, else the value in force; write-only
bits read 0. -/
def Hw.shown (h : Hw) (a : Nat) : Word := tget (h.reg a) h.pend a &&& ~~~(regAccess a).wo

/-- The writable bits of a register that follow a write of `v` under `mask`, over `old`. -/
def mergeMask (old v mask : Word) : Word := (old &&& ~~~mask) ||| (v &&& mask)

/-- A class C or P value waits for its latch point (R12, R13). -/
def Hw.pendPut (h : Hw) (a : Nat) (v : Word) : Hw :=
  ({ h with pend := tput h.pend a v }).pending ((a - 0x40000000) / 65536)

/-- A pending value that another value in force has replaced waits no longer. -/
def Hw.pendDrop (h : Hw) (a : Nat) : Hw :=
  if h.pend.any (fun p => p.1 == a) then ({ h with pend := tdel h.pend a }).pending ((a - 0x40000000) / 65536) else h

/-! ## Field channels -/

/-- The channel, and the register (0 to 5 of Table 8-6, 8 and above the SCALE registers), of a channel field's address. -/
def chanReg (a : Nat) : Option (Nat × Nat) :=
  if 0x40041000 ≤ a && a < 0x40041600 then
    if (a - 0x40041000) % 0x20 < 0x18 then some ((a - 0x40041000) / 0x20, (a - 0x40041000) % 0x20 / 4) else none
  else if 0x40042000 ≤ a && a < 0x40042600 then
    if (a - 0x40042000) % 0x20 < 0x10 then some ((a - 0x40042000) / 0x20, 8 + (a - 0x40042000) % 0x20 / 4) else none
  else none

/-- The configuration words of a channel in a mode (Table 8-7 step 3). -/
def modeRegs (mode : Nat) : List Nat :=
  match mode with
  | 0 => [0]
  | 1 => [0, 1, 2]
  | 2 => [0, 3]
  | _ => [0, 4, 5]

/-- The words of channel `c` wait for the group's next batch (R213). -/
def Hw.wantWords (h : Hw) (c : Nat) (rs : List Nat) : Hw :=
  let l := h.lnk (c / 8)
  h.setLnk (c / 8) { l with want := l.want ++ (rs.map (fun r => c % 8 * 8 + r)).filter (fun k => !l.want.contains k) }

/-- Whether channel words go to a group's field side as they change: a native group that is up, or whose start-up batch has been formed
(Table 8-7 step 3). -/
def Hw.takesWords (h : Hw) (g : Nat) : Bool := !h.zirek g && (h.barrier g || (h.lnk g).configured)

/-- A channel word in force that changes goes to the field side; a new mode takes all the mode's words with it. -/
def Hw.chanWritten (h : Hw) (c r : Nat) : Hw :=
  if h.takesWords (c / 8) then h.wantWords c (if r = 0 then modeRegs (h.fget (R.FLD_CHc_CFG_MODE c)) else [r]) else h

/-- The reason a write of a channel's mode is rejected (R205, R206). -/
def Hw.modeReject (h : Hw) (c : Nat) (v : Word) : Option Nat :=
  let m := v.toNat % 8
  if 5 ≤ m then some 1
  else if 3 ≤ m && h.fbit (R.FLD_GRPg_CFG_LINK (c / 8)) then some 2
  else none

/-- Whether a characteristic table is usable (R248); the reason of event 0x401B where it is not. -/
def Hw.tblReason (h : Hw) (t : Nat) : Nat :=
  let n := h.fget (R.FLD_TBL_CTRLt_N t)
  let x := fun i => sx 32 (h.reg (R.FLD_TBLt_Xi t i)).toNat
  if n < 2 || 32 < n then 1
  else if (List.range (n - 1)).all (fun i => decide (x i < x (i + 1))) then 0 else 2

/-- OK follows a write to table `t` (R248); where the write has `changed` the table, a channel that selects it may report it again. -/
def Hw.tblEval (h : Hw) (t : Nat) (changed : Bool) : Hw :=
  let h1 := h.fset (R.FLD_TBL_CTRLt_OK t) (b2n (h.tblReason t == 0))
  if changed then
    (List.range 48).foldl (fun h c =>
      if h.fget (R.FLD_CHc_SCALE_CFG_TABLE c) = t then h.setAimg c { h.aimg c with bad := false } else h) h1
  else h1

/-- The bits of FLD_CHc_SCALE_CFG that select a characteristic: CHAR and TABLE. -/
def scaleSel : Word := 0xF3#32

/-- A new selection may report its table again (R248). -/
def Hw.scaleNew (h : Hw) (c : Nat) (old : Word) : Hw :=
  if h.reg (R.FLD_CHc_SCALE_CFG c) &&& scaleSel = old &&& scaleSel then h else h.setAimg c { h.aimg c with bad := false }

/-- The table that an address belongs to. -/
def tblOf (a : Nat) : Option Nat :=
  if 0x40040C00 ≤ a && a < 0x40040C40 then some ((a - 0x40040C00) / 4)
  else if 0x40044000 ≤ a && a < 0x40045000 then some ((a - 0x40044000) / 0x100) else none

/-- FLD_CHc_MEAS of a group's channels reads 0 (R221). -/
def Hw.measZero (h : Hw) (g : Nat) : Hw := (List.range 8).foldl (fun h i => h.fset (R.FLD_CHc_MEAS_VALUE (g * 8 + i)) 0) h

/-- LINK is applied: a group that changes its link starts afresh; on the Zirek link FLD_CHc_MEAS reads 0 (R221). -/
def Hw.linkApply (h : Hw) (g : Nat) : Hw :=
  if h.fget (R.FLD_GRPg_STATUS_ZIREK g) = h.fget (R.FLD_GRPg_CFG_LINK g) then h
  else (((h.setReg (R.FLD_GRPg_STATUS g) (w32 (2 * h.fget (R.FLD_GRPg_CFG_LINK g)))).setLnk g {}).setFs g {}).measZero g

/-! ## What follows a write -/

/-- The two words of a rate entry. -/
def Rate.word0 (r : Rate) : Word := w32 (r.code % 65536 + r.burst % 256 * 65536)
def Rate.word1 (r : Rate) : Word := w32 (r.period % 65536)

/-- The windows onto the rate, session and directory tables show the entry that their INDEX names. -/
def Hw.showRate (h : Hw) : Hw :=
  let r := h.rate (h.fget R.EVR_RL_INDEX_INDEX)
  (h.setReg R.EVR_RL_DATA0 r.word0).setReg R.EVR_RL_DATA1 r.word1
def Hw.showSes (h : Hw) : Hw :=
  let s := h.sess (h.fget R.NET_SES_INDEX_INDEX)
  (List.range 8).foldl (fun h i => h.setReg (R.NET_SES_DATAw i) (s.entry.getD i 0#32)) h
def Hw.showDir (h : Hw) : Hw :=
  let d := tget [] h.net.dirs (h.fget R.NET_DIR_INDEX_INDEX)
  (List.range 4).foldl (fun h i => h.setReg (R.NET_DIR_DATAw i) (d.getD i 0#32)) h

/-- The link and speed bits and the loss counter of a port (NET_PORT_STATUS). -/
def portLink (b : Bool) : Fld := if b then R.NET_PORT_STATUS_B_LINK else R.NET_PORT_STATUS_A_LINK
def portFast (b : Bool) : Fld := if b then R.NET_PORT_STATUS_B_1000 else R.NET_PORT_STATUS_A_1000
def portDowns (b : Bool) : Fld := if b then R.NET_PORT_STATUS_B_DOWNS else R.NET_PORT_STATUS_A_DOWNS
def portMode (b : Bool) : Fld := if b then R.NET_PORT_CFG_B_MODE else R.NET_PORT_CFG_A_MODE

/-- A port's link goes down: counted, 0x5001 (R260). -/
def Hw.portDown (h : Hw) (b : Bool) : Hw :=
  if h.fbit (portLink b) then
    (((h.fset (portLink b) 0).fset (portFast b) 0).finc (portDowns b)).raise 0x5001 (b2n b)
  else h

/-- A port that is set to disabled loses its link; one that is forced to 100BASE-TX no longer runs at 1000 Mb/s (R260, log 125). -/
def Hw.portModeNew (h : Hw) (b : Bool) : Hw :=
  match h.fget (portMode b) with
  | 3 => h.portDown b
  | 1 => h.fset (portFast b) 0
  | _ => h

/-- The circuits that follow a register's value. -/
def Hw.after (h : Hw) (a : Nat) (old : Word) : Hw :=
  if a = R.EXE_EXT_CFG then
    if bitsOf old.toNat 0 4 = 0 ∧ h.fget R.EXE_EXT_CFG_SLOT_EN ≠ 0 then { h with exe := { h.exe with extAt := h.clk.up } }
    else if h.fget R.EXE_EXT_CFG_SLOT_EN = 0 then { h with exe := { h.exe with extRst := false } } else h
  else if a = R.TSK_FORCE_CFG then h.forceStatus
  else if a = R.EVR_RL_INDEX then h.showRate
  else if a = R.NET_SES_INDEX then h.showSes
  else if a = R.NET_DIR_INDEX then h.showDir
  else if a = R.NET_PORT_CFG then (h.portModeNew false).portModeNew true
  else if a = R.PAIR_CFG then h.fset R.PAIR_STATUS_ROLE h.role
  else match tblOf a with
    | some t => h.tblEval t (h.reg a != old)
    | none =>
      if inArr 0x40040100 0x40 6 a then h.linkApply ((a - 0x40040100) / 0x40)
      else match chanReg a with
        | some (c, r) => if h.reg a = old then h else if r < 8 then h.chanWritten c r else if r = 8 then h.scaleNew c old else h
        | none => h

/-- Puts a register's new value in force, with what follows it. -/
def Hw.putReg (h : Hw) (a : Nat) (v : Word) : Hw := (h.setReg a v).after a (h.reg a)

/-! ## The write -/

/-- A class C value waits for its latch point (R11, R12); a channel word goes with its group's next batch (R213), in a group that is not up
with the batch of its start-up. -/
def Hw.writeC (h : Hw) (a : Nat) (v : Word) : Hw :=
  match chanReg a with
  | some (c, r) => if r < 8 && h.takesWords (c / 8) then (h.pendPut a v).wantWords c [r] else h.pendPut a v
  | none => h.pendPut a v

/-- How a value comes to a register: a write; the application of a configuration in BOOT, PROVISION, STOP or SERVICE (R439); that of a
flysheet's configuration at its switch (R116). -/
inductive Entry where
  | write
  | free
  | swap
  deriving DecidableEq, Repr

/-- A class C value of a configuration applied where no task runs (R439): in force as written, but for a channel field of a group that is up. -/
def Hw.writeFree (h : Hw) (a : Nat) (v : Word) : Hw :=
  match chanReg a with
  | some (c, _) => if h.barrier (c / 8) then h.writeC a v else (h.pendDrop a).putReg a v
  | none => (h.pendDrop a).putReg a v

/-- A new mode of a channel waits for the group's COMMIT with all the mode's words (R116). -/
def Hw.swapMode (h : Hw) (c : Nat) (v : Word) : Hw :=
  let h1 := h.pendPut (R.FLD_CHc_CFG c) v
  if h1.takesWords (c / 8) then h1.wantWords c (modeRegs (v.toNat % 8)) else h1

/-- A value of a flysheet's configuration: a channel field is class C whatever its table says (R116). -/
def Hw.writeSwap (h : Hw) (a : Nat) (v : Word) : Hw :=
  match chanReg a with
  | some (c, 0) => h.swapMode c v
  | some _ => h.writeC a v
  | none => match (regAccess a).cls with
    | .cycle => h.writeC a v
    | .pair => h.pendPut a v
    | _ => h.putReg a v

/-- The value that a register's table lets a write leave there, or none where the whole write is rejected (R205, R206, R281, the
HIF_DB registers while GO = 1); the event that a rejection records. -/
def Hw.filterWrite (h : Hw) (a : Nat) (v : Word) : Option (Option Word × Option (Nat × Nat)) :=
  match chanReg a with
  | some (c, 0) => (h.modeReject c v).map (fun r => (none, some (c, r)))
  | _ =>
    if a = R.NET_PTP_CFG ∧ 128 ≤ bitsOf v.toNat 8 8 then
      some (some (w32 (setBitsOf v.toNat 8 8 (h.fget R.NET_PTP_CFG_DOMAIN))), none)
    else if (a = R.HIF_DB_LO ∨ a = R.HIF_DB_HI) ∧ h.fbit R.HIF_CTRL_GO = true then some (none, none)
    else none

/-- The value enters by its class. -/
def Hw.enter (h : Hw) (a : Nat) (v : Word) (how : Entry) : Hw :=
  match how, (regAccess a).cls with
  | .swap, _ => h.writeSwap a v
  | .free, .cycle => h.writeFree a v
  | .free, .pair => h.writeFree a v
  | .write, .cycle => h.writeC a v
  | .write, .pair => h.pendPut a v
  | _, _ => h.putReg a v

/-- W1C bits: a 1 clears (R9); clearing REJECT clears REJ_OFFSET (R23). -/
def Hw.clearBits (h : Hw) (a : Nat) (v : Word) : Hw :=
  let w := (regAccess a).w1c &&& v
  if w = 0#32 then h
  else
    let h1 := h.setReg a (h.reg a &&& ~~~w)
    if inArr 0x40000008 0x10000 12 a then h1.fset ⟨a, 16, 16⟩ 0 else h1

/-- The bits of a register that a write may change now: RWL ones while the watchdog is not locked. -/
def Hw.openBits (h : Hw) (a : Nat) : Word :=
  let x := regAccess a
  x.rw ||| x.rws ||| (if h.fbit R.WDG_CTRL_LOCK then 0#32 else x.rwl)

/-- Whether a write is rejected for the mode: RWS or class S outside STOP and SERVICE (R9, R11). -/
def Hw.stopReject (h : Hw) (a : Nat) (mask : Word) : Bool :=
  let x := regAccess a
  !h.stopClass && ((x.rws &&& mask) != 0#32 || (x.cls == .stop && ((x.rw ||| x.rwl) &&& mask) != 0#32))

/-- A write of the value `v` into the writable bits under `mask`. -/
def Hw.writeBits (h : Hw) (a : Nat) (v mask : Word) (how : Entry) : Hw :=
  let m := mask &&& h.openBits a
  let x := mergeMask (h.shown a) v m
  if m = 0#32 then h
  else match h.filterWrite a x with
    | none => h.enter a x how
    | some (some y, _) => (h.enter a y how).reject a
    | some (none, none) => h.reject a
    | some (none, some (c, r)) => (h.reject a).raise 0x400F c r

/-- A write of a register without effects of its own (R9 to R13): from a host, an engineering tool or SUP firmware. -/
def Hw.writeReg (h : Hw) (a : Nat) (v mask : Word) : Hw :=
  if h.stopReject a mask then h.reject a
  else (h.clearBits a (v &&& mask)).writeBits a v mask .write

/-- A write by the application of a configuration slot (R439, R440): class S included, every bit of the word. -/
def Hw.cfgReg (h : Hw) (a : Nat) (v : Word) (how : Entry) : Hw :=
  if mergeMask (h.shown a) v (h.openBits a) = h.shown a then h else h.writeBits a v 0xFFFFFFFF#32 how

end Sys2Proof.Machine
end

