-- ==== Sys2Proof/Machine/FieldSide.lean ====
section
/-! DEFINITION. The field-side controller of a group: what each channel drives (R210, R229 to R237, R250 to R252), digital inputs
(R223 to R226), supply flags (R236), conversions and compliance (R241, R254), the burden limiter (R244). -/

namespace Sys2Proof.Machine

/-! ## Applied configuration -/

/-- Word `r` (Table 8-6) of the channel's applied configuration. -/
def FsCh.cfg (x : FsCh) (r : Nat) : Nat := x.w.getD r 0

/-- The mode applied at the field side; OFF before a COMMIT. -/
def FsCh.mode (x : FsCh) : Nat := x.cfg 0 % 8

/-! ## Injected effects on a channel (Tables 8-15 and 9-7) -/

/-- Whether an injection of kind `k` is on the channel (until the records it causes are made). -/
def FsCh.injIs (x : FsCh) (k : Nat) : Bool := match x.inj with
  | some (j, _) => j == k
  | none => false

/-- Whether an injection of kind `k` acts at elapsed time `now`. -/
def FsCh.injKind (x : FsCh) (k now : Nat) : Bool := match x.inj with
  | some (j, till) => j == k && decide (now < till)
  | none => false

/-- The channel without an injection of kind `k` whose time is over. -/
def FsCh.injPast (x : FsCh) (k now : Nat) : FsCh := match x.inj with
  | some (j, till) => if j = k ∧ till ≤ now then { x with inj := none } else x
  | none => x

/-- The groundsheet state of a DO channel. -/
def FsCh.gs (x : FsCh) : Bool := (x.cfg 0).testBit 3

/-- `v` held between two limits. -/
def clampN (lo hi v : Nat) : Nat := max lo (min hi v)

/-- The current, in nA, that an alarm field of an AN_CFG word gives: low (0 to 3.6 mA) or high (21.0 to 24.0 mA). -/
def alarmNa (w : Nat) (high : Bool) : Nat :=
  if high then clampN 210 240 (bitsOf w 16 8) * 100000 else clampN 0 36 (bitsOf w 8 6) * 100000

/-- The groundsheet current of an AO channel from its AN_CFG word (GS_AO). -/
def gsNa (w : Nat) : Nat :=
  match bitsOf w 4 2 with
  | 1 => alarmNa w false
  | 2 => alarmNa w true
  | _ => 0

/-- ON and OFF of a DI channel in 0.1 V (R223). -/
def FsCh.onV (x : FsCh) : Nat := clampN 20 1375 (bitsOf (x.cfg 1) 0 11)
def FsCh.offV (x : FsCh) : Nat := max 10 (x.onV - max 2 (bitsOf (x.cfg 1) 16 8))

/-- The comparator's level for a terminal voltage `v` in 0.01 V (R223). -/
def FsCh.level (x : FsCh) (v : Int) : Bool :=
  if ((x.onV * 10 : Nat) : Int) ≤ v then true else if v < ((x.offV * 10 : Nat) : Int) then false else x.lvl

/-! ## Driving -/

/-- What the DO switch of channel `x` is commanded to (R210, R216, R235, R237, R239): off without carrier power, under OFF frames,
and without field supply. -/
def Fs.want (f : Fs) (x : FsCh) : Bool :=
  f.powered && !f.off && f.supOk &&
    (if f.autonomy then x.gs
     else match x.test with
      | some (c, _, _) => c == 3 || c == 5
      | none => if x.ctl then x.cmd else x.gs)

/-- Whether protection holds the switch off. -/
def FsCh.shut (x : FsCh) : Bool := x.ovl || x.therm || x.latched

/-- The DO switch of a channel takes what it is commanded to, unless protection holds it off (R232, R235); a retry whose delay has
passed turns it on again; an off-to-on transition starts the inrush allowance (R230). -/
def Fs.driveDo (f : Fs) (x : FsCh) (now : Nat) : FsCh :=
  let want := f.want x
  let x1 := if x.retry && want && !x.hot then { x with retry := false, ovl := false, therm := false } else x
  let on := want && !x1.shut
  { x1 with on := on, onAt := if on && !x1.on then now else x1.onAt,
            inrush := on && (if x1.on then x1.inrush else (x1.cfg 3).testBit 4) }

/-- The command C in force for an AO channel, in nA (R250). -/
def Fs.aoC (f : Fs) (x : FsCh) : Nat :=
  if !f.powered || f.off then 0
  else min 24000000 (if f.autonomy || !x.ctl then gsNa (x.cfg 4) else x.aoC)

/-- C′ (R251): the trim at 4 mA and at 20 mA, in nA; a command of 0 is driven as 0. -/
def trimmed (c : Nat) (w : Nat) : Int :=
  if c = 0 then 0
  else
    let t4 := sx 13 (bitsOf w 0 13) * 10
    let t20 := sx 13 (bitsOf w 13 13) * 10
    max 0 (min 24000000 ((c : Int) + t4 + (t20 - t4) * ((c : Int) - 4000000) / 16000000))

/-- An AO stage takes its command; none while its temperature holds it off (R252). -/
def Fs.driveAo (f : Fs) (x : FsCh) (now : Nat) : FsCh :=
  let c := f.aoC x
  let past := x.cPast.filter (fun p => decide (now ≤ p.1 + 1000000))
  { x with cNow := c, cPast := if c = x.cNow then past else past ++ [(now, x.cNow)], drive := if x.therm then 0 else trimmed c (x.cfg 5) }

/-- What a channel drives by its mode; other modes drive nothing (R204). -/
def Fs.drive (f : Fs) (x : FsCh) (now : Nat) : FsCh :=
  match x.mode with
  | 2 => f.driveDo x now
  | 4 => f.driveAo x now
  | _ => { x with on := false, inrush := false, cNow := 0, cPast := [], drive := 0 }

/-- Every channel of the group drives what is now commanded. -/
def Fs.driveAll (f : Fs) (now : Nat) : Fs :=
  (List.range 8).foldl (fun f i => f.setCh i (f.drive (f.ch i) now)) f

/-- The channel's outputs follow. -/
def Hw.driveCh (h : Hw) (c : Nat) : Hw := h.setFch c ((h.fs (c / 8)).drive (h.fch c) h.clk.up)

/-- A latch clears with its switch-off (R232): event 0x400C with the source. -/
def Hw.clearLatch (h : Hw) (c source : Nat) : Hw :=
  (h.setFch c { h.fch c with latched := false, ovl := false, therm := false, zero := false }).raise 0x400C c source

/-- A released 0 that a frame has carried clears a latch once the switch is below 130 °C (R232). -/
def Hw.zeroClear (h : Hw) (c : Nat) : Hw :=
  let x := h.fch c
  if x.latched && x.zero && !x.hot then h.clearLatch c 1 else h

/-! ## Protection -/

/-- A switch-off by protection (R231): event, SHUTDOWNS, the SEEN bit; LATCH latches. -/
def Hw.shutOff (h : Hw) (c : Nat) (thermal : Bool) (v : Nat) : Hw :=
  let x := h.fch c
  let latch := (x.cfg 3).testBit 5
  let h1 := h.setFch c { x with on := false, inrush := false, limiting := false, ovl := x.ovl || !thermal, therm := x.therm || thermal,
                                hot := x.hot || thermal, latched := latch, zero := false, retry := false, offAt := h.clk.up }
  let h2 := (h1.finc (R.FLD_CHc_STATUS_SHUTDOWNS c)).fset (if thermal then R.FLD_CHc_STATUS_THERM_SEEN c else R.FLD_CHc_STATUS_OVL_SEEN c) 1
  if thermal then h2.raise 0x400B c v else h2.raise 0x400A c v (b2n latch)

/-- OVERLOAD_SWITCH_OFF (R231): a switch that has limited for LIM_MS; `ma` the load current. -/
def Hw.overload (h : Hw) (c ma : Nat) : Hw :=
  let x := h.fch c
  if x.mode = 2 ∧ x.on = true ∧ x.limiting = true then
    let h1 := (h.untilUp (x.limAt + max 1 (bitsOf (x.cfg 3) 8 8) * 1000000)).setFch c { x with inj := if x.injIs 7 then none else x.inj }
    h1.asInj (x.injIs 7) (fun h => h.shutOff c false ma)
  else h

/-- OVERLOAD_SWITCH_OFF. -/
def execOverloadSwitchOff (c : Fin 48) (ma : Nat) (s : State) : Host.Outcome State Fault Refusal := onHw s (fun h => h.overload c.val ma)

/-- THERMAL_SWITCH_OFF (R231): a DO switch reaches 150 °C; `temp` its temperature. -/
def Hw.thermal (h : Hw) (c temp : Nat) : Hw :=
  let x := h.fch c
  if x.mode = 2 ∧ (h.fs (c / 8)).supOk = true ∧ x.therm = false then h.shutOff c true temp else h

/-- THERMAL_SWITCH_OFF. -/
def execThermalSwitchOff (c : Fin 48) (temp : Nat) (s : State) : Host.Outcome State Fault Refusal := onHw s (fun h => h.thermal c.val temp)

/-- RETRY_EXPIRY (R232): RETRY × 10 ms after the switch-off; the timer does not run without field supply (R237). -/
def Hw.retryDue (h : Hw) (c : Nat) : Hw :=
  let x := h.fch c
  if (h.fs (c / 8)).supOk = true ∧ x.mode = 2 ∧ (x.ovl = true ∨ x.therm = true) ∧ x.latched = false then
    let h1 := h.untilUp (x.offAt + max 1 (bitsOf (x.cfg 3) 16 8) * 10000000)
    (h1.setFch c { h1.fch c with retry := true }).driveCh c
  else h

/-- RETRY_EXPIRY. -/
def execRetryExpiry (c : Fin 48) (s : State) : Host.Outcome State Fault Refusal := onHw s (fun h => h.retryDue c.val)

/-- DO_SWITCH_COOLED (R232): below 130 °C a waiting retry turns on, a carried 0 clears the latch. -/
def Hw.cooled (h : Hw) (c : Nat) : Hw :=
  if (h.fch c).mode = 2 then ((h.setFch c { h.fch c with hot := false }).zeroClear c).driveCh c else h

/-- DO_SWITCH_COOLED. -/
def execDoSwitchCooled (c : Fin 48) (s : State) : Host.Outcome State Fault Refusal := onHw s (fun h => h.cooled c.val)

/-- INRUSH_EXPIRY (R230): 20 ms after the turn-on the limit is CURLIM again. -/
def Hw.inrushEnd (h : Hw) (c : Nat) : Hw :=
  let x := h.fch c
  if x.inrush then
    let h1 := h.untilUp (x.onAt + 20000000)
    h1.setFch c { h1.fch c with inrush := false }
  else h

/-- INRUSH_EXPIRY. -/
def execInrushExpiry (c : Fin 48) (s : State) : Host.Outcome State Fault Refusal := onHw s (fun h => h.inrushEnd c.val)

/-- The current limit of a DO switch in mA (R230). -/
def FsCh.limitMa (x : FsCh) : Nat := clampN 2 12 (bitsOf (x.cfg 3) 0 4) * 50 * (if x.inrush then 2 else 1)

/-- FLD_LATCH_CLR (R232): each bit written as 1 clears its channel's latch, unless the switch is still hot. -/
def Hw.latchClr (h : Hw) (hi : Bool) (v : Word) : Hw :=
  let base := if hi then 32 else 0
  (List.range (if hi then 16 else 32)).foldl (fun h i =>
    if v.getLsbD i && (h.fch (base + i)).latched && !(h.fch (base + i)).hot then h.clearLatch (base + i) 2 else h) h

/-- FLD_LATCH_CLR. -/
def execFldLatchClr (hi : Bool) (v : Word) (s : State) : Host.Outcome State Fault Refusal := onHw s (fun h => h.latchClr hi v)

/-! ## Digital inputs -/

/-- DI_FILTER_EXPIRY (R223, R224): the level of a terminal voltage, in 0.01 V, that has held for FILTER_US becomes the filtered state;
the opposite level has begun after the last change, so its FILTER_US samples of 1 µs end no sooner than that long after it. -/
def Hw.diFilter (h : Hw) (c : Nat) (v : Int) : Hw :=
  let x := h.fch c
  let l := x.level v
  if x.mode ≠ 1 then h
  else if l = x.filt then h.setFch c { x with lvl := l }
  else
    let h1 := h.untilUp (x.filtAt + max 1 (bitsOf (x.cfg 2) 0 16) * 1000)
    h1.setFch c { x with lvl := l, filt := l, filtAt := h1.clk.up }

/-- DI_FILTER_EXPIRY. -/
def execDiFilterExpiry (c : Fin 48) (v : Int) (s : State) : Host.Outcome State Fault Refusal := onHw s (fun h => h.diFilter c.val v)

/-- PULSE_COUNT (R226): a level that has held for PC_MIN counts as a rise or a fall, no sooner than PC_MIN after the one before. -/
def Hw.pulse (h : Hw) (c : Nat) (v : Int) : Hw :=
  let x := h.fch c
  let l := x.level v
  if x.mode ≠ 1 ∨ l = x.pcl then h
  else
    let h1 := h.untilUp (x.pclAt + max 4 (bitsOf (x.cfg 2) 16 8) * 1000)
    h1.setFch c { x with lvl := l, pcl := l, pclAt := h1.clk.up, rises := (x.rises + b2n l) % 16, falls := (x.falls + b2n (!l)) % 16 }

/-- PULSE_COUNT. -/
def execPulseCount (c : Fin 48) (v : Int) (s : State) : Host.Outcome State Fault Refusal := onHw s (fun h => h.pulse c.val v)

/-- The end of the 10 ms that a wire-break report needs to change (R225): from its last change, and from an injection's start (`first`) or
end on. -/
def FsCh.wbDue (x : FsCh) (first : Bool) : Nat :=
  max x.wbAt (match x.inj with
    | some (4, till) => if first then till - 20000000 else till
    | _ => 0) + 10000000

/-- WIREBREAK_SET (R225): the input current, in 10 µA, has stayed below 0.5 mA for 10 ms. -/
def Hw.wbSet (h : Hw) (c i0 : Nat) : Hw :=
  let x := (h.fch c).injPast 4 h.clk.up
  let i := if x.injIs 4 then 0 else i0
  if x.mode = 1 ∧ (x.cfg 1).testBit 24 = true ∧ x.wb = false ∧ i < 50 then
    let h1 := h.untilUp (x.wbDue true)
    ((h1.setFch c { x with wb := true, wbAt := h1.clk.up }).fset (R.FLD_CHc_STATUS_WB_SEEN c) 1).asInj (x.injIs 4) (fun h => h.raise 0x4008 c i)
  else h

/-- WIREBREAK_SET. -/
def execWirebreakSet (c : Fin 48) (i : Nat) (s : State) : Host.Outcome State Fault Refusal := onHw s (fun h => h.wbSet c.val i)

/-- WIREBREAK_CLEAR (R225): at or above 1.0 mA for 10 ms. -/
def Hw.wbClear (h : Hw) (c i : Nat) : Hw :=
  let x := h.fch c
  if x.wb = true ∧ 100 ≤ i ∧ x.injKind 4 h.clk.up = false then
    let h1 := h.untilUp (x.wbDue false)
    (h1.setFch c { x.injPast 4 h.clk.up with wb := false, wbAt := h1.clk.up }).asInj (x.injIs 4) (fun h => h.raise 0x4009 c)
  else h

/-- WIREBREAK_CLEAR. -/
def execWirebreakClear (c : Fin 48) (i : Nat) (s : State) : Host.Outcome State Fault Refusal := onHw s (fun h => h.wbClear c.val i)

/-! ## Field supply (R236, R237) -/

/-- LOW_THRESH within its limits, in 0.1 V. -/
def Hw.lowThresh (h : Hw) (g : Nat) : Nat := clampN 100 300 (h.fget (R.FLD_GRPg_CFG_LOW_THRESH g))

/-- The reading of L+ in 0.1 V with an injected loss (kind 0) or low supply (kind 1) while it lasts. -/
def Hw.lplusSeen (h : Hw) (g v : Nat) : Nat :=
  match (h.fs g).inj with
  | some (k, till) => if h.clk.up < till then (if k = 0 then 0 else h.lowThresh g - 1) else v
  | none => v

/-- Whether a reading lies on the far side of each flag's threshold: SUPPLY_OK, SUPPLY_LOW, SUPPLY_OVER. -/
def Fs.far (f : Fs) (low v : Nat) : Bool × Bool × Bool :=
  (if f.supOk then decide (v < 100) else decide (105 ≤ v),
   if f.supLow then decide (low + 5 ≤ v) else decide (v < low),
   if f.supOver then decide (v ≤ 340) else decide (340 < v))

/-- SUPPLY_MEASUREMENT: every 10 µs; the runs of measurements on the far side go on or restart. -/
def Hw.supplyMeasure (h : Hw) (g v0 : Nat) : Hw :=
  if !(h.fs g).powered then h
  else
    let h1 := h.untilUp ((h.fs g).supAt + 10000)
    let f := h1.fs g
    let v := h1.lplusSeen g v0
    let b := f.far (h1.lowThresh g) v
    h1.setFs g { f with supAt := h1.clk.up, supN := f.supN + 1, lplus := min 1023 v, okRun := if b.1 then f.okRun + 1 else 0,
                        lowRun := if b.2.1 then f.lowRun + 1 else 0, overRun := if b.2.2 then f.overRun + 1 else 0 }

/-- SUPPLY_MEASUREMENT. -/
def execSupplyMeasurement (g : Fin 6) (v : Nat) (s : State) : Host.Outcome State Fault Refusal := onHw s (fun h => h.supplyMeasure g.val v)

/-- The events of a change of the flags from `a` to `b`. -/
def Hw.supplyEvents (h : Hw) (g : Nat) (a b : Fs) : Hw :=
  let h1 := if a.supOk = b.supOk then h else h.raise (if b.supOk then 0x4005 else 0x4004) g b.lplus
  let h2 := if !a.supLow && b.supLow then h1.raise 0x4006 g b.lplus else h1
  if !a.supOver && b.supOver then h2.raise 0x4007 g b.lplus else h2

/-- The events of flags that have stayed in their initial state after the first ten measurements. -/
def Hw.supplyFirst (h : Hw) (g : Nat) (b : Fs) : Hw :=
  let h1 := if b.supOk then h else h.raise 0x4004 g b.lplus
  if b.supLow then h1.raise 0x4006 g b.lplus else h1

/-- The flags after the runs: each flag with ten measurements on its far side changes. -/
def Fs.settleFlags (f : Fs) : Fs :=
  let ok := f.okRun ≥ 10
  let lo := f.lowRun ≥ 10
  let ov := f.overRun ≥ 10
  { f with supOk := if ok then !f.supOk else f.supOk, supLow := if lo then !f.supLow else f.supLow,
           supOver := if ov then !f.supOver else f.supOver, okRun := if ok then 0 else f.okRun, lowRun := if lo then 0 else f.lowRun,
           overRun := if ov then 0 else f.overRun, supInit := true }

/-- An injected supply reading whose time is over and whose flag has returned is done. -/
def Fs.injPast (f : Fs) (now : Nat) : Fs := match f.inj with
  | some (k, till) => if till ≤ now ∧ (if k = 0 then f.supOk else !f.supLow) = true then { f with inj := none } else f
  | none => f

/-- The time without field supply moves the protection timers on (R237). -/
def Fs.supplyBack (f : Fs) (now : Nat) : Fs :=
  (List.range 8).foldl (fun f i => if (f.ch i).ovl || (f.ch i).therm then f.setCh i { f.ch i with offAt := (f.ch i).offAt + (now - f.lostAt) } else f) f

/-- SUPPLY_FLAG_CHANGE: the flags follow ten consecutive measurements; a lost SUPPLY_OK opens every DO switch (R237). -/
def Hw.supplyFlags (h : Hw) (g : Nat) : Hw :=
  let f := (h.fs g).injPast h.clk.up
  if !f.powered || f.supN < 10 then h
  else
    let f1 := f.settleFlags
    let h1 := h.setFs g (if f.supOk && !f1.supOk then { f1 with lostAt := h.clk.up }.driveAll h.clk.up
      else if !f.supOk && f1.supOk then f1.supplyBack h.clk.up else f1)
    if f.supInit then h1.asInj f.inj.isSome (fun h => h.supplyEvents g f f1) else h1.supplyFirst g f1

/-- SUPPLY_FLAG_CHANGE. -/
def execSupplyFlagChange (g : Fin 6) (s : State) : Host.Outcome State Fault Refusal := onHw s (fun h => h.supplyFlags g.val)

/-! ## Conversions (R241, R253, R254) -/

/-- The current that an analogue channel reports at elapsed time `now`, with an injected reading (Table 9-7) while it lasts: kinds 2
and 3 a current in an AI loop, kind 5 an AO readback 1 mA below C. -/
def FsCh.seen (x : FsCh) (v : Int) (now : Nat) : Int :=
  match x.inj with
  | some (k, till) =>
    if till ≤ now then v else if k = 2 then 2000000 else if k = 3 then 22000000 else if k = 5 then (x.cNow : Int) - 1000000 else v
  | none => v

/-- The number of periods of a conversion (Table 9-2); AO readback uses RATE 0. -/
def FsCh.convN (x : FsCh) : Nat :=
  if x.mode = 3 then [50, 100, 200, 400, 800, 4000, 12000, 12000].getD (x.cfg 4 % 8) 50 else 50

/-- How far C has ranged since elapsed time `t` (R254). -/
def FsCh.cSpan (x : FsCh) (t : Nat) : Nat :=
  let vs := x.cNow :: (x.cPast.filter (fun p => decide (t ≤ p.1))).map (·.2)
  vs.foldl max 0 - vs.foldl min x.cNow

/-- The runs of R254 after a readback conversion; the first component is the change of COMPLIANCE. -/
def FsCh.compliance (x : FsCh) (now : Nat) : Option Bool × FsCh :=
  -- R254: C changed during the conversion (RATE 0, 250 µs) or in the 500 µs before its start.
  if 100000 < x.cSpan (now - 750000) then (none, x)
  else
    let c : Int := x.cNow
    if x.cNow ≠ 0 ∧ x.conv < c - 100000 then
      let n := x.shortRun + 1
      if n ≥ 5 ∧ x.compl = false then (some true, { x with shortRun := n, okRun := 0, compl := true }) else (none, { x with shortRun := n, okRun := 0 })
    else if c - 50000 ≤ x.conv then
      let n := x.okRun + 1
      if n ≥ 5 ∧ x.compl = true then (some false, { x with okRun := n, shortRun := 0, compl := false }) else (none, { x with okRun := n, shortRun := 0 })
    else (none, { x with shortRun := 0, okRun := 0 })

/-- COMPLIANCE's events and counters. -/
def Hw.complianceEvent (h : Hw) (c : Nat) (r : Option Bool) : Hw :=
  let x := h.fch c
  match r with
  | some true => (((h.finc (R.FLD_CHc_AN_STATUS_EPISODES c)).fset (R.FLD_CHc_AN_STATUS_COMPL_SEEN c) 1)).asInj (x.injKind 5 h.clk.up)
      (fun h => h.raise 0x4018 c x.cNow (wInt x.conv).toNat)
  | some false => (h.setFch c (x.injPast 5 h.clk.up)).asInj (x.injIs 5) (fun h => h.raise 0x4019 c (wInt x.conv).toNat)
  | none => h

/-- CONVERSION_END (R241): N outbound periods after its start a conversion's mean, in nA, is there; `fault` what the converter's
self-check found. -/
def Hw.conversion (h : Hw) (c : Nat) (v : Int) (fault : Bool) : Hw :=
  let m := (h.fch c).mode
  if m ≠ 3 ∧ m ≠ 4 then h
  else
    let e := (h.fch c).convAt + (h.fch c).convN * 5000
    let h1 := h.untilTb e
    let x := h1.fch c
    let i := max (-33554431) (min 33554431 (if m = 4 then x.seen v h1.clk.up else v))
    let x1 := { x with conv := i, convAt := e, convEnd := e, convOk := true, adc := if m = 3 then fault else x.adc, rb := if m = 4 then fault else x.rb }
    let r := if m = 4 then x1.compliance (h1.clk.up - (h1.clk.tb - e)) else (none, x1)
    let h2 := (h1.setFch c r.2).complianceEvent c r.1
    let was := if m = 3 then x.adc else x.rb
    if fault && !was then h2.raise 0x401C c (if m = 3 then 1 else 2) else h2

/-- CONVERSION_END. -/
def execConversionEnd (c : Fin 48) (v : Int) (fault : Bool) (s : State) : Host.Outcome State Fault Refusal :=
  onHw s (fun h => h.conversion c.val v fault)

/-! ## The burden limiter (R244) -/

/-- LIMITER_ENGAGE: `na` the current; while the limiter counts as acting, it has engaged again after a break. -/
def Hw.limEngage (h : Hw) (c : Nat) (na : Int) : Hw :=
  let x := h.fch c
  if x.mode = 3 ∧ x.disc = false then
    ((h.setFch c { x with limiting := true, lim := true, limAt := h.clk.up }).fset (R.FLD_CHc_AN_STATUS_LIM_SEEN c) 1).raise 0x4012 c (wInt na).toNat
  else h

/-- LIMITER_ENGAGE. -/
def execLimiterEngage (c : Fin 48) (na : Int) (s : State) : Host.Outcome State Fault Refusal := onHw s (fun h => h.limEngage c.val na)

/-- LIMITER_DISCONNECT: 100 ms without a break. -/
def Hw.limDisc (h : Hw) (c : Nat) : Hw :=
  let x := h.fch c
  if x.mode = 3 ∧ x.limiting = true then
    let h1 := h.untilUp (x.limAt + 100000000)
    let h2 := (h1.setFch c { h1.fch c with limiting := false, disc := true, discAt := h1.clk.up }).finc (R.FLD_CHc_AN_STATUS_EPISODES c)
    h2.asInj (x.injIs 6) (fun h => h.raise 0x4013 c (h.fget (R.FLD_CHc_AN_STATUS_EPISODES c)))
  else h

/-- LIMITER_DISCONNECT. -/
def execLimiterDisconnect (c : Fin 48) (s : State) : Host.Outcome State Fault Refusal := onHw s (fun h => h.limDisc c.val)

/-- LIMITER_RECONNECT: 10 s after the disconnection. -/
def Hw.limRec (h : Hw) (c : Nat) : Hw :=
  let x := h.fch c
  if x.disc then
    let h1 := h.untilUp (x.discAt + 10000000000)
    (h1.setFch c { (h1.fch c).injPast 6 h1.clk.up with disc := false, recAt := h1.clk.up }).asInj (x.injIs 6) (fun h => h.raise 0x4014 c)
  else h

/-- LIMITER_RECONNECT. -/
def execLimiterReconnect (c : Fin 48) (s : State) : Host.Outcome State Fault Refusal := onHw s (fun h => h.limRec c.val)

/-- LIMITER_CLEAR: connected, and below 25 mA for 100 ms, which began after the last engagement and reconnection. -/
def Hw.limClear (h : Hw) (c : Nat) : Hw :=
  let x := h.fch c
  if x.lim && !x.disc && !x.injKind 6 h.clk.up then
    let h1 := h.untilUp (max x.limAt x.recAt + 100000000)
    h1.setFch c { x.injPast 6 h1.clk.up with lim := false, limiting := false }
  else h

/-- LIMITER_CLEAR. -/
def execLimiterClear (c : Fin 48) (s : State) : Host.Outcome State Fault Refusal := onHw s (fun h => h.limClear c.val)

/-- AO_THERMAL (R252): 150 °C switches the stage off, below 130 °C the current returns. -/
def Hw.aoThermal (h : Hw) (c : Nat) (off : Bool) : Hw :=
  let x := h.fch c
  if x.mode = 4 ∧ x.therm ≠ off then ((h.setFch c { x with therm := off }).driveCh c).raise 0x401A c (b2n off) else h

/-- AO_THERMAL. -/
def execAoThermal (c : Fin 48) (off : Bool) (s : State) : Host.Outcome State Fault Refusal := onHw s (fun h => h.aoThermal c.val off)

/-! ## Autonomy (R216) -/

/-- AUTONOMY_TIMEOUT: 16 µs without the start of a valid outbound frame; the groundsheet takes the place of earlier OFF frames. -/
def Hw.autonomyIn (h : Hw) (g : Nat) : Hw :=
  let f := h.fs g
  if f.powered && !f.autonomy then
    let h1 := h.untilUp (f.lastAt + 16000)
    h1.setFs g ({ h1.fs g with autonomy := true, valid := 0, off := false }.driveAll h1.clk.up)
  else h

/-- AUTONOMY_TIMEOUT. -/
def execAutonomyTimeout (g : Fin 6) (s : State) : Host.Outcome State Fault Refusal := onHw s (fun h => h.autonomyIn g.val)

end Sys2Proof.Machine
end

