-- ==== Sys2Proof/Machine/Analog.lean ====
section
/-! DEFINITION. The logic side's part in analogue channels: NE 43 classification (R245), characteristics (R247, R248), the status
word (Tables 8-5 and 9-1). -/

namespace Sys2Proof.Machine

/-! ## Characteristics (R247): binary32, nearest even -/

def fAdd (a b : Word) : Word := (fpAdd 0 (Fp.of a) (Fp.of b)).1
def fSub (a b : Word) : Word := (fpAdd 0 (Fp.of a) (Fp.of b).neg).1
def fMul (a b : Word) : Word := (fpMul 0 (Fp.of a) (Fp.of b)).1
def fDiv (a b : Word) : Word := (fpDiv 0 (Fp.of a) (Fp.of b)).1
def fSqrt (a : Word) : Word := (fpSqrt 0 (Fp.of a)).1
def fCvt (i : Int) : Word := (fpOfInt 0 i).1
def fLt (a b : Word) : Bool := !(Fp.of a).isNan && !(Fp.of b).isNan && (Fp.of a).lt (Fp.of b)

/-- 4.0e6, 1.6e7 and 1.0e6 in binary32. -/
def f4e6 : Word := 0x4A742400#32
def f16e6 : Word := 0x4B742400#32
def f1e6 : Word := 0x49742400#32

/-- The point of table `t` below `x`: the largest index among the first `n` with X[i] ≤ x. -/
def Hw.tblIndex (h : Hw) (t : Nat) (x : Int) : Nat → Nat
  | 0 => 0
  | n + 1 => if sx 32 (h.reg (R.FLD_TBLt_Xi t n)).toNat ≤ x then n else h.tblIndex t x n

/-- The table branch of R247. -/
def Hw.tblScale (h : Hw) (t : Nat) (x : Int) : Word :=
  let n := h.fget (R.FLD_TBL_CTRLt_N t)
  let xs := fun i => sx 32 (h.reg (R.FLD_TBLt_Xi t i)).toNat
  let ys := fun i => h.reg (R.FLD_TBLt_Yi t i)
  if x ≤ xs 0 then ys 0
  else if xs (n - 1) ≤ x then ys (n - 1)
  else
    let i := h.tblIndex t x n
    fAdd (ys i) (fMul (fSub (ys (i + 1)) (ys i)) (fDiv (fCvt (x - xs i)) (fCvt (xs (i + 1) - xs i))))

/-- SCALED and LOW_FLOW_CUT of AI channel `c` for a current `x` in nA (R247); an unusable table gives the quiet NaN (R248). -/
def Hw.scale (h : Hw) (c : Nat) (x : Int) : Word × Bool :=
  let lo := h.reg (R.FLD_CHc_SCALE_LO c)
  let hi := h.reg (R.FLD_CHc_SCALE_HI c)
  let xf := fCvt x
  let f := fDiv (fSub xf f4e6) f16e6
  match h.fget (R.FLD_CHc_SCALE_CFG_CHAR c) with
  | 0 => (fAdd lo (fMul (fSub hi lo) f), false)
  | 1 =>
    let k := h.reg (R.FLD_CHc_SCALE_CUT c)
    let cut := if (Fp.of k).isNan || fLt k 0#32 then 0#32 else k
    if fLt f cut then (lo, true) else (fAdd lo (fMul (fSub hi lo) (fSqrt f)), false)
  | 2 =>
    let t := h.fget (R.FLD_CHc_SCALE_CFG_TABLE c)
    if h.fbit (R.FLD_TBL_CTRLt_OK t) then (h.tblScale t x, false) else (0x7FC00000#32, false)
  | _ => (fDiv xf f1e6, false)

/-- VALUE_NA × 10⁻⁶ rounded once to the nearest binary32 (R246). -/
def milliAmps (x : Int) : Word :=
  let m := x.natAbs * 2 ^ 40
  if m = 0 then 0#32 else (fpRound 0 (decide (x < 0)) (m / 1000000) (-40) (m % 1000000 != 0)).1

/-! ## NE 43 (R245) -/

/-- NE43_LOW and NE43_HIGH after a status word with current `i`. -/
def ne43 (en lo hi : Bool) (i : Int) : Bool × Bool :=
  if !en then (false, false)
  else (if lo then decide (i ≤ 3650000) else decide (i ≤ 3600000), if hi then decide (20950000 ≤ i) else decide (21000000 ≤ i))

/-- The flags follow, with their events. -/
def Hw.ne43Do (h : Hw) (c : Nat) (i : Int) : Hw :=
  let lo := h.fbit (R.FLD_CHc_AN_STATUS_NE43_LOW c)
  let hi := h.fbit (R.FLD_CHc_AN_STATUS_NE43_HIGH c)
  let en := h.fbit (R.FLD_CHc_AN_CFG_NE43_EN c)
  let r := ne43 en lo hi i
  let h1 := (h.fset (R.FLD_CHc_AN_STATUS_NE43_LOW c) (b2n r.1)).fset (R.FLD_CHc_AN_STATUS_NE43_HIGH c) (b2n r.2)
  let h2 := if (r.1 && !lo) || (r.2 && !hi) then h1.fset (R.FLD_CHc_AN_STATUS_NE43_SEEN c) 1 else h1
  let v := (wInt i).toNat
  let h3 := if r.1 && !lo then h2.raise 0x4015 c v else h2
  let h4 := if r.2 && !hi then h3.raise 0x4016 c v else h3
  if en && ((lo && !r.1) || (hi && !r.2)) then h4.raise 0x4017 c v else h4

/-- The same, with INJECTED while injection 0x409 or 0x40A or the alarm it raised lasts (R446). -/
def Hw.ne43Run (h : Hw) (c : Nat) (i : Int) : Hw :=
  let x := h.fch c
  let h1 := h.asInj (x.injIs 2 || x.injIs 3) (fun h => h.ne43Do c i)
  if h1.fbit (R.FLD_CHc_AN_STATUS_NE43_LOW c) || h1.fbit (R.FLD_CHc_AN_STATUS_NE43_HIGH c) then h1
  else h1.setFch c (((h1.fch c).injPast 2 h1.clk.up).injPast 3 h1.clk.up)

/-! ## Status words -/

/-- TABLE_BAD with its event, once (R248). -/
def Hw.tableBad (h : Hw) (c : Nat) : Hw :=
  let t := h.fget (R.FLD_CHc_SCALE_CFG_TABLE c)
  let bad := h.fget (R.FLD_CHc_SCALE_CFG_CHAR c) == 2 && !h.fbit (R.FLD_TBL_CTRLt_OK t)
  let h1 := h.fset (R.FLD_CHc_AN_STATUS_TABLE_BAD c) (b2n bad)
  if bad && !(h1.aimg c).bad then (h1.setAimg c { h1.aimg c with bad := true }).raise 0x401B c t (h1.tblReason t) else h1

/-- The conversion that a status word carries enters the image with its end (R242). -/
def Hw.aiImage (h : Hw) (c : Nat) (i : Int) (s : Word) : Hw :=
  let a := h.aimg c
  let e := (h.lnk (c / 8)).conv
  h.setAimg c { a with na := (wInt i).toNat, scaled := s, ts := e.getD a.ts, done := a.done || e.isSome, st := h.anFlags c }

/-- An AI channel's status word: flags `fl` (bits 29:26) and current `i`; it enters the image where `img`: the barrier is up and no
test keeps it out (R73, R246, R256). -/
def Hw.aiStatus (h : Hw) (c fl : Nat) (i : Int) (img : Bool) : Hw :=
  let h1 := ((h.fset (R.FLD_CHc_AN_STATUS_LIMITER c) (fl % 2)).fset (R.FLD_CHc_AN_STATUS_DISCONNECTED c) (fl / 2 % 2)).fset
    (R.FLD_CHc_AN_STATUS_ADC_FAULT c) (fl / 4 % 2)
  let h2 := ((h1.ne43Run c i).tableBad c)
  let r := h2.scale c i
  let h3 := h2.fset (R.FLD_CHc_AN_STATUS_LOW_FLOW_CUT c) (b2n r.2)
  if img then h3.aiImage c i r.1 else h3

/-- An AO channel's status word. -/
def Hw.aoStatus (h : Hw) (c fl : Nat) (i : Int) (img : Bool) : Hw :=
  let h1 := ((h.fset (R.FLD_CHc_AN_STATUS_COMPLIANCE c) (fl % 2)).fset (R.FLD_CHc_AN_STATUS_THERMAL c) (fl / 2 % 2)).fset
    (R.FLD_CHc_AN_STATUS_RB_FAULT c) (fl / 4 % 2)
  if img then h1.aiImage c i (milliAmps i) else h1

/-- Whether an AI channel test keeps the channel's status words out of the image (R256). -/
def Hw.aiTest (h : Hw) (c : Nat) : Bool := h.underTest c && h.chMode c == 3

/-- A status word (Table 8-5) of channel `c`: FLD_CHc_MEAS, FLD_CHc_STATUS, the analogue flags and image (R211, R242). -/
def Hw.statusWord (h : Hw) (c w : Nat) (img : Bool) : Hw :=
  let m := h.chMode c
  let fl := bitsOf w 26 4
  let i := sx 26 (bitsOf w 0 26)
  let di := m == 1
  let dq := m == 2
  let h1 := h.fset (R.FLD_CHc_MEAS_VALUE c) (bitsOf w 0 26)
  let h2 := (h1.fset (R.FLD_CHc_STATUS_WIREBREAK c) (b2n (di && fl.testBit 0))).fset (R.FLD_CHc_STATUS_LIMITING c) (b2n (dq && fl.testBit 0))
  let h3 := ((h2.fset (R.FLD_CHc_STATUS_OVL_OFF c) (b2n (dq && fl.testBit 1))).fset (R.FLD_CHc_STATUS_THERMAL c) (b2n (dq && fl.testBit 2))).fset
    (R.FLD_CHc_STATUS_LATCHED c) (b2n (dq && fl.testBit 3))
  if m = 3 then h3.aiStatus c fl i (img && !h3.aiTest c)
  else if m = 4 then h3.aoStatus c fl i img
  else h3

/-! ## Register rows -/

/-- TABLE_WRITE (R248): the control register, or word `i` (X even, Y odd) of table `t`. -/
def tblAddr (t : Fin 16) (i : Option (Fin 64)) : Nat :=
  match i with
  | none => R.FLD_TBL_CTRLt t.val
  | some j => R.FLD_TBLt_Xi t.val 0 + 4 * j.val

/-- TABLE_WRITE. -/
def execTableWrite (t : Fin 16) (i : Option (Fin 64)) (v : Word) (s : State) : Host.Outcome State Fault Refusal :=
  onHw s (fun h => h.writeReg (tblAddr t i) v 0xFFFFFFFF#32)

/-- Whether an AO channel test of channel `c` runs (R257). -/
def Hw.aoTest (h : Hw) (c : Nat) : Bool := h.underTest c && h.fget (R.FLD_CHc_CFG_MODE c) == 4

/-- A write of FLD_AN_TEST or FLD_AN_TEST_NA (R257): rejected while no channel test of the named channel runs. -/
def Hw.anTestWrite (h : Hw) (na : Bool) (v : Word) : Hw :=
  let a := if na then R.FLD_AN_TEST_NA else R.FLD_AN_TEST
  let c := if na then h.fget R.FLD_AN_TEST_CHANNEL else v.toNat % 64
  if h.aoTest c then h.writeReg a v 0xFFFFFFFF#32 else h.reject a

/-- FLD_AN_TEST_WRITE. -/
def execFldAnTestWrite (na : Bool) (v : Word) (s : State) : Host.Outcome State Fault Refusal := onHw s (fun h => h.anTestWrite na v)

end Sys2Proof.Machine
end

