-- ==== Sys2Proof/Machine/Link.lean ====
section
/-! DEFINITION. A group's barrier link controller: outbound and return frames (Tables 8-2 to 8-6), configuration transfer (R213,
R214), barrier loss and start-up (R215 to R218), the Zirek link (R219 to R221), change-of-state interrupts (R84, R228). -/

namespace Sys2Proof.Machine

/-! ## Frames -/

/-- Big-endian bytes. -/
def beBytes (n v : Nat) : List Byte := (leBytes n v).reverse

/-- A 72-bit frame: 56 bits and their CRC (R209). -/
def sealFrame (v : Nat) : Nat := v * 65536 + crc16 0xFFFF (beBytes 7 v)

/-- Whether a 72-bit frame's CRC is right. -/
def frameOk (w : Nat) : Bool := crc16 0xFFFF (beBytes 7 (w / 65536)) == w % 65536

/-- Bits 71:16 of a frame (Tables 8-2 and 8-4): TYPE, SEQ, 3 bits, two bytes, the slot word. -/
def frameBits (typ seq x a b word : Nat) : Nat :=
  typ % 4 * 2 ^ 54 + seq % 8 * 2 ^ 51 + x % 8 * 2 ^ 48 + a % 256 * 2 ^ 40 + b % 256 * 2 ^ 32 + word % 2 ^ 32

def frType (w : Nat) : Nat := bitsOf w 70 2
def frSeq (w : Nat) : Nat := bitsOf w 67 3
def frX (w : Nat) : Nat := bitsOf w 64 3
def frA (w : Nat) : Nat := bitsOf w 56 8
def frB (w : Nat) : Nat := bitsOf w 48 8
def frWord (w : Nat) : Nat := bitsOf w 16 32

/-- What a line delivers: the frame with its errors, or nothing. -/
def Line.of (l : Line) (w : Nat) : Option Nat :=
  match l with
  | .frame e => some (w ^^^ e % 2 ^ 72)
  | .lost => none

/-- The COMMIT word (Table 8-6). -/
def commitWord : Nat := 7 * 2 ^ 26 + 1

/-! ## Configuration words (R213) -/

/-- The address of the register behind word `k` (CH × 8 + REG) of group `g`. -/
def wordAddr (g k : Nat) : Nat := 0x40041000 + (g * 8 + k / 8 % 8) * 0x20 + k % 8 * 4

/-- The configuration word of `k` with a value. -/
def cfgWord (k v : Nat) : Nat := k / 8 % 8 * 2 ^ 29 + k % 8 * 2 ^ 26 + v % 2 ^ 26

/-- The mode that channel `c` has or is about to have (R116). -/
def Hw.modeShown (h : Hw) (c : Nat) : Nat := (h.shown (R.FLD_CHc_CFG c)).toNat % 8

/-- Every word of the group's configuration (Table 8-7 step 3). -/
def Hw.allWords (h : Hw) (g : Nat) : List Nat :=
  (List.range 8).flatMap (fun i => (modeRegs (h.modeShown (g * 8 + i))).map (fun r => i * 8 + r))

/-- The words of the group that have a pending value (R213). -/
def Hw.pendWords (h : Hw) (g : Nat) : List Nat :=
  h.pend.filterMap (fun p => match chanReg p.1 with
    | some (c, r) => if c / 8 = g ∧ r < 8 then some (c % 8 * 8 + r) else none
    | none => none)

/-- A word with its pending or running value, to be sent. -/
def Hw.wordNow (h : Hw) (g k : Nat) : Nat := cfgWord k (h.shown (wordAddr g k)).toNat

/-- The key of a word. -/
def wordKey (w : Nat) : Nat := w / 2 ^ 26

/-! ## The group's state -/

def Hw.grpBit (h : Hw) (g : Nat) (f : Nat → Fld) (b : Bool) : Hw := h.fset (f g) (b2n b)

/-- Whether a group has a channel that is not OFF, or about not to be. -/
def Hw.groupUsed (h : Hw) (g : Nat) : Bool :=
  (List.range 8).any (fun i => h.fget (R.FLD_CHc_CFG_MODE (g * 8 + i)) != 0 || h.modeShown (g * 8 + i) != 0)

/-- Whether the carrier of a group may run (R207). -/
def Hw.carrierMay (h : Hw) (g : Nat) : Bool :=
  h.groupUsed g && decide (h.mode ≠ .parked) && (h.sup.bootDone || decide (h.mode ≠ .boot))

/-- The native start-up begins with the carrier (Table 8-7 step 1): the field side powers up in autonomy. The last pulse counters stay
known, so that the first report after a loss of the carrier shows the gap (R227). -/
def Hw.carrierStart (h : Hw) (g : Nat) : Hw :=
  let h1 := h.setReg (R.FLD_GRPg_STATUS g) (w32 (2 ^ 7 + 2 ^ 6))
  (h1.setLnk g { upFrom := h.clk.up, pcGap := 255, pcnt := (h.lnk g).pcnt }).setFs g { powered := true, autonomy := true, lastAt := h.clk.up, supAt := h.clk.up }

/-- The carrier stops (R217): the field side has no power, every switch opens and every current ceases. -/
def Hw.carrierStop (h : Hw) (g : Nat) (restart : Option Nat) : Hw :=
  let h1 := (((h.grpBit g R.FLD_GRPg_STATUS_BARRIER_OK false).grpBit g R.FLD_GRPg_STATUS_STARTING false).grpBit g
    R.FLD_GRPg_STATUS_CARRIER false).grpBit g R.FLD_GRPg_STATUS_AUTONOMY false
  (h1.setLnk g { (h1.lnk g) with out := none, ret := none, startAt := none, restartAt := restart, batch := [], toSend := [], want := [],
                                  configured := false }).setFs g {}

/-- The barrier is declared down (R215): BARRIER_OK, DOWNS, 0x4001; the start-up begins again at step 2. -/
def Hw.barrierDown (h : Hw) (g cause : Nat) : Hw :=
  let h1 := ((h.grpBit g R.FLD_GRPg_STATUS_BARRIER_OK false).grpBit g R.FLD_GRPg_STATUS_STARTING true).finc (R.FLD_GRPg_ERR_DOWNS g)
  let l := h1.lnk g
  (h1.setLnk g { l with want := [], batch := [], toSend := [], committed := false, sent := none, await := none, fails := [],
                        goodRun := 0, readyAt := none, configured := false, wasOff := false, upFrom := h.clk.up, pcGap := 255 }).asInj l.injDown (fun h => h.raise 0x4001 g cause)

/-- The group is up (R218, R220): 0x4002 with the start-up time in µs. -/
def Hw.groupUp (h : Hw) (g : Nat) : Hw :=
  let h1 := ((h.grpBit g R.FLD_GRPg_STATUS_BARRIER_OK true).grpBit g R.FLD_GRPg_STATUS_STARTING false).setLnk g { h.lnk g with injDown := false }
  h1.asInj (h.lnk g).injDown (fun h => h.raise 0x4002 g ((h.clk.up - (h.lnk g).upFrom) / 1000))

/-- A batch's words as applied: MODE_APPLIED, the conversions that start anew (R241), and each pending value that the batch has
carried latches (R12, R13). Pulse counters of a channel with a new mode begin anew. -/
def Hw.batchApplied (h : Hw) (g : Nat) (ws : List Nat) : Hw :=
  let h1 := ws.foldl (fun h w =>
    let c := g * 8 + wordKey w / 8 % 8
    let h := h.setAimg c { h.aimg c with done := false }
    if wordKey w % 8 = 0 then
      (if h.chMode c = w % 8 then h else h.setLnk g { h.lnk g with pcnt := tdel (h.lnk g).pcnt (c % 8) }).fset (R.FLD_CHc_STATUS_MODE_APPLIED c) (w % 8)
    else h) h
  h1.latchPend (fun a => match chanReg a with
    | some (c, r) => decide (c / 8 = g ∧ r < 8) && ws.contains (cfgWord (c % 8 * 8 + r) (tget 0#32 h1.pend a).toNat)
    | none => false)

/-- The COMMIT echo of a whole batch is checked (R213); in a start-up the group is up, unless a loss of outbound frames has kept the
field side in autonomy (R216): then the start-up goes back to step 2 (log 95). -/
def Hw.commitDone (h : Hw) (g : Nat) : Hw :=
  let l := h.lnk g
  let ws := l.batch
  let h1 := h.setLnk g { l with batch := [], fails := [], committed := false }
  if h1.barrier g then h1.batchApplied g ws
  else if (h1.fs g).autonomy then h1.setLnk g { h1.lnk g with configured := false, goodRun := 0, readyAt := none }
  else (h1.groupUp g).batchApplied g ws

/-- A refreshed word that differs from the field side's applied value is corrected by a batch (R214): event 0x400D. -/
def Hw.refreshCheck (h : Hw) (g w : Nat) : Hw :=
  let c := wordKey w / 8 % 8
  let r := wordKey w % 8
  if (h.lnk g).batch.isEmpty && h.barrier g && w != commitWord && ((h.fs g).ch c).w.getD r 0 != w % 2 ^ 26 then
    (h.raise 0x400D g w).wantWords (g * 8 + c) [r]
  else h

/-- A word's send has failed: it is sent again, with a COMMIT after it; the third failure takes the barrier down (cause 3). -/
def Hw.sendFailed (h : Hw) (g w : Nat) : Hw :=
  let l := h.lnk g
  let n := tget 0 l.fails (wordKey w) + 1
  if n ≥ 3 then h.barrierDown g 3
  else
    let q := w :: l.toSend
    h.setLnk g { l with fails := tput l.fails (wordKey w) n, await := none,
                        toSend := if q.contains commitWord then q else q ++ [commitWord] }

/-- The echo of the word sent two boundaries ago (R213, R214): `echo` what the return frame carries. -/
def Hw.echoCheck (h : Hw) (g : Nat) (echo : Option Nat) : Hw :=
  let l := h.lnk g
  match l.await with
  | none => h
  | some w =>
    if echo = some w then
      let h1 := h.setLnk g { l with await := none }
      if w = commitWord ∧ l.toSend = [] ∧ l.sent ≠ some commitWord then h1.commitDone g else h1.refreshCheck g w
    else
      let h1 := match echo with
        | some _ => h.raise 0x400D g w
        | none => h
      h1.sendFailed g w

/-! ## Outbound frames (R208, R210) -/

/-- Whether R41 holds the outputs off; FOLLOW's outputs are off (Table 2-2). -/
def Hw.outputsOff (h : Hw) : Bool :=
  decide (h.mode = .follow) || (!h.mode.drivesLive && h.fbit R.PAIR_CFG_ENABLE && h.fbit R.SUP_MODE_STATUS_LIVE_IN)

/-- Whether group `g` is off in the 40 µs of a revert although both modules are in RUN: a group that reverts break-before-make
(R319). -/
def Hw.revertOff (h : Hw) (g : Nat) : Bool := h.pair.reverting != 0 && !(h.fget R.PAIR_CFG_OVERLAP).testBit g

/-- Whether OFF frames are sent to group `g`: R41, a revert, and the last 1 ms before the carrier stops for PARKED. -/
def Hw.offFrames (h : Hw) (g : Nat) : Bool := h.outputsOff || h.revertOff g || decide (h.mode = .parked)

/-- The kind that channel `c` has at the field side when the frame now applies: a mode that waits is in force with the COMMIT frame
(R116). -/
def Hw.kindOf (h : Hw) (c : Nat) : Nat := if (h.lnk (c / 8)).committed then h.modeShown c else h.fget (R.FLD_CHc_CFG_MODE c)

/-- Whether channel `c` awaits its new owner's first release in the kind it now has (R116). -/
def Hw.unreleased (h : Hw) (c : Nat) : Bool := tget false h.fld.rekind c && h.kindOf c == h.modeShown c

/-- CTRL bit of channel `c` (R210): released outputs from the first release on; none after a CORE clock fault (R33). -/
def Hw.ctrlOf (h : Hw) (c : Nat) : Bool :=
  h.mode.drivesLive && h.sup.coreResetDue.isNone && decide (h.kindOf c = 2 ∨ h.kindOf c = 4) && tget false h.fld.driven c && !h.unreleased c

/-- OUT bit of channel `c`. -/
def Hw.outOf (h : Hw) (c : Nat) : Bool := h.kindOf c == 2 && tget false h.fld.carDo c && !h.unreleased c

/-- C of an AO channel as the link controller carries it (R250), in nA. -/
def Hw.aoCommand (h : Hw) (c : Nat) : Nat :=
  let w := (h.reg (R.FLD_CHc_AN_CFG c)).toNat
  let na := fun (v : Nat) => (max 0 (min 24000000 (sx 32 v))).toNat
  -- R319: AO channels always revert break-before-make.
  if h.pair.reverting ≠ 0 then 0 else if !h.ctrlOf c then gsNa w
  else if h.aoTest c then
    na (if h.fget R.FLD_AN_TEST_CHANNEL = c then h.fget R.FLD_AN_TEST_NA_CMD_NA
      else ((h.fld.tests.find? (fun p => p.1 == c)).map (·.2.dur)).getD 0)
  else
    let r := tget (0, 0) h.fld.carAo c
    if r.2.testBit 0 then alarmNa w false else if r.2.testBit 1 then alarmNa w true else na r.1

/-- The next native boundary (R208): a multiple of 5 µs of the timebase at least 4 µs of elapsed time after the previous start. -/
def Hw.nextBoundary (h : Hw) (g period least : Nat) : Nat :=
  match (h.lnk g).startAt with
  | none => ceilTo period h.clk.tb
  | some s => ceilTo period (h.clk.tb + (s + least - h.clk.up))

/-- A period without a valid return frame (R215): MISSED, and the barrier down at the third boundary in a row. On a native link
MISSED counts from the first return frame after the carrier's start on (Table 8-8's closing FLD_GRP2_ERR; log 61). -/
def Hw.missed (h : Hw) (g : Nat) : Hw :=
  let l := h.lnk g
  let h0 := h.setLnk g { l with missRun := l.missRun + 1, goodRun := 0, readyAt := if l.configured then l.readyAt else none }
  let h1 := if h.zirek g || l.loss.isSome then h0.finc (R.FLD_GRPg_ERR_MISSED g) else h0
  if l.missRun + 1 = 3 ∧ h1.barrier g = true then h1.barrierDown g 1 else h1

/-- What a boundary settles of the period before it: a miss, an echo that never came. -/
def Hw.periodEnd (h : Hw) (g : Nat) : Hw :=
  let l := h.lnk g
  let h1 := if l.startAt.isSome && !l.seen then h.missed g else h
  let h2 := match (h1.lnk g).await with
    | some w => h1.sendFailed g w
    | none => h1
  let l2 := h2.lnk g
  h2.setLnk g { l2 with seen := false, await := l2.sent, sent := none }

/-- A batch starts where one is due: the whole configuration once eight valid frames have been exchanged in each direction (Table 8-7),
else the words written since the last batch, at most 25. -/
def Hw.batchStart (h : Hw) (g : Nat) : Hw :=
  let l := h.lnk g
  if !l.batch.isEmpty || !l.toSend.isEmpty then h
  else if !h.barrier g then
    match l.readyAt with
    | some r =>
      if r < h.clk.up ∧ l.configured = false ∧ 8 ≤ (h.fs g).valid then
        let ks := h.allWords g
        let ws := ks.map (h.wordNow g)
        h.setLnk g { l with batch := ws, toSend := ws ++ [commitWord], configured := true, want := (h.pendWords g).filter (fun k => !ks.contains k) }
      else h
    | none => h
  else if l.want.isEmpty then h
  else
    let ws := (l.want.take 25).map (h.wordNow g)
    h.setLnk g { l with batch := ws, toSend := ws ++ [commitWord], want := l.want.drop 25 }

/-- The word and type of the frame now: OFF frames carry none; a configuration word, a refresh in every 64th frame (R214), a test
word, else a DRIVE frame. The outputs go off with the first frame where R41 holds them off, whatever waits; the first frame after OFF
frames is a DRIVE frame. -/
def Hw.chooseFrame (h : Hw) (g : Nat) : Nat × Option Nat × Lnk :=
  let l := h.lnk g
  let refresh := h.barrier g && l.batch.isEmpty && decide (64 ≤ l.frames)
  if l.wasOff && !h.offFrames g then (0, none, { l with wasOff := false })
  else if !l.wasOff && h.offFrames g then (2, none, { l with wasOff := true })
  else match l.toSend with
    | w :: r => (1, some w, { l with toSend := r, committed := l.committed || w == commitWord })
    | [] =>
      if h.offFrames g then (2, none, l)
      else if refresh then
        let ws := h.allWords g
        let k := ws.getD (l.refresh % ws.length) 0
        (1, some (cfgWord k (h.reg (wordAddr g k)).toNat), { l with frames := 0, refresh := (l.refresh + 1) % ws.length })
      else match l.tests with
        | w :: r => (3, some w, { l with tests := r })
        | [] => (0, none, l)

/-- The outbound frame starts at the boundary (Table 8-2), with the values of 40 ns before (Table 8-1). -/
def Hw.sendFrame (h : Hw) (g : Nat) : Hw :=
  let r := h.chooseFrame g
  let l := r.2.2
  let e := (h.setLnk g l).early
  let slotC := g * 8 + l.slot
  let word := match r.2.1 with
    | some w => w
    | none => if r.1 = 0 ∧ e.kindOf slotC = 4 then e.aoCommand slotC else 0
  let out := mask8 (fun i => e.outOf (g * 8 + i))
  let ctrl := mask8 (fun i => e.ctrlOf (g * 8 + i))
  let f := sealFrame (frameBits r.1 l.seq l.slot out ctrl word)
  h.setLnk g { l with seq := (l.seq + 1) % 8, slot := if r.1 = 0 then (l.slot + 1) % 8 else l.slot, frames := min 64 (l.frames + 1),
                      startAt := some h.clk.up, out := if l.injSupp = 0 then some f else none, injSupp := l.injSupp - 1,
                      sent := if r.1 = 1 then r.2.1 else none }

/-- The SCALE values pending in a group (R249), or every channel value of a Zirek-link group (R11). -/
def groupPend (g : Nat) (all : Bool) (a : Nat) : Bool :=
  match chanReg a with
  | some (c, r) => decide (c / 8 = g) && (all || decide (8 ≤ r))
  | none => false

/-- They latch; a new table selection may report its table again. -/
def Hw.latchScale (h : Hw) (g : Nat) (all : Bool) : Hw :=
  if h.pend.any (fun p => groupPend g all p.1) then
    let h1 := h.latchPend (groupPend g all)
    (List.range 8).foldl (fun x i => x.scaleNew (g * 8 + i) (h.reg (R.FLD_CHc_SCALE_CFG (g * 8 + i)))) h1
  else h

/-- OUTBOUND_BOUNDARY of a native group: the carrier follows R207; the period ends; the frame goes out. -/
def Hw.outbound (h : Hw) (g : Nat) : Hw :=
  if h.zirek g then h
  else if !h.fbit (R.FLD_GRPg_STATUS_CARRIER g) then
    if h.carrierMay g && (h.lnk g).restartAt.isNone then
      let h1 := h.carrierStart g
      (h1.untilTb (h1.nextBoundary g 5000 4000)).sendFrame g
    else h
  else if !h.groupUsed g || (decide (h.mode = .parked) && decide (h.sup.parkedAt + 1000000 ≤ h.clk.up)) then h.carrierStop g none
  else
    let h1 := h.untilTb (h.nextBoundary g 5000 4000)
    ((((h1.periodEnd g).batchStart g).latchScale g false).sendFrame g)

/-- OUTBOUND_BOUNDARY (R208). -/
def execOutboundBoundary (g : Fin 6) (s : State) : Host.Outcome State Fault Refusal := onHw s (fun h => h.outbound g.val)

/-- CARRIER_FAULT (R217): cause 2, the carrier stops, a restart 10 ms later. -/
def Hw.carrierFault (h : Hw) (g : Nat) : Hw :=
  if h.fbit (R.FLD_GRPg_STATUS_CARRIER g) then (h.barrierDown g 2).carrierStop g (some (h.clk.up + 10000000)) else h

/-- CARRIER_FAULT. -/
def execCarrierFault (g : Fin 6) (s : State) : Host.Outcome State Fault Refusal := onHw s (fun h => h.carrierFault g.val)

/-- CARRIER_RESTART (R217): the start-up of Table 8-7. -/
def Hw.carrierRestart (h : Hw) (g : Nat) : Hw :=
  match (h.lnk g).restartAt with
  | none => h
  | some t =>
    let h1 := h.untilUp t
    if h1.carrierMay g then h1.carrierStart g else h1.setLnk g { h1.lnk g with restartAt := none }

/-- CARRIER_RESTART. -/
def execCarrierRestart (g : Fin 6) (s : State) : Host.Outcome State Fault Refusal := onHw s (fun h => h.carrierRestart g.val)

/-! ## The field side's end -/

/-- STATE of a return frame (Table 8-4). -/
def Fs.stateByte (f : Fs) (high : Nat) : Nat :=
  mask8 (fun i => match (f.ch i).mode with
    | 1 => (f.ch i).filt
    | 2 => high.testBit i
    | _ => false)

/-- The status word of channel `i` (Tables 8-5 and 9-1); an injected reading takes the place of a DI or AI channel's current. -/
def Fs.status (f : Fs) (i meas now : Nat) : Nat :=
  let x := f.ch i
  let zero := match x.inj with
    | some (4, till) => decide (now < till)
    | _ => false
  let r : Nat × Nat := match x.mode with
    | 0 => (0, 0)
    | 1 => (b2n (x.wb && (x.cfg 1).testBit 24), if zero then meas % 2 ^ 15 else meas % 2 ^ 26)
    | 2 => (b2n x.limiting + b2n x.ovl * 2 + b2n x.therm * 4 + b2n x.latched * 8, meas % 2 ^ 26)
    | 3 => (b2n (x.lim || x.disc) + b2n x.disc * 2 + b2n x.adc * 4, (wInt (x.seen x.conv now)).toNat % 2 ^ 26)
    | _ => (b2n x.compl + b2n x.therm * 2 + b2n x.rb * 4, (wInt x.conv).toNat % 2 ^ 26)
  b2n f.supOk * 2 ^ 31 + b2n f.supLow * 2 ^ 30 + r.1 * 2 ^ 26 + r.2

/-- The return frame that the field side starts now (Table 8-4): an echo before autonomy's TYPE 2, a test result, else normal. -/
def Fs.reply (f : Fs) (auto : Bool) (x : FsSeen) (now : Nat) : Nat × Fs :=
  let i := f.retSeq % 8
  let ch := f.ch i
  let pc := if ch.mode = 1 then ch.rises % 16 * 16 + ch.falls % 16 else 0
  let res := ((List.range 8).find? (fun k => (f.ch k).result.isSome))
  let tw : Nat × Nat := match f.echo with
    | some w => if auto then (2, f.status i x.meas now) else (1, w)
    | none =>
      if auto || f.autonomy then (2, f.status i x.meas now)
      else match res with
        | some k => (3, ((f.ch k).result).getD 0)
        | none => (0, f.status i x.meas now)
  let f1 := if tw.1 = 3 then (match res with
    | some k => f.setCh k { f.ch k with result := none }
    | none => f) else f
  (sealFrame (frameBits tw.1 f.retSeq f.loss (f.stateByte x.high) pc tw.2), { f1 with retSeq := (f.retSeq + 1) % 8, echo := none, temp := x.temp % 256 })

/-- Whether the status word of a DO switch shows 130 °C or more (Table 8-5, R232). -/
def FsSeen.hot (x : FsSeen) : Bool := decide (130 + 64 ≤ bitsOf x.meas 16 10)

/-- The conversion that channel `i`'s return frame carries: its end (R242). -/
def Fs.carried (f : Fs) (i : Nat) : Option Nat := if (f.ch i).convOk then some (f.ch i).convEnd else none

/-- The switches that limit, as the front-ends show them; a limiting that begins starts its time. -/
def Fs.seeLimiting (f : Fs) (x : FsSeen) (now : Nat) : Fs :=
  (List.range 8).foldl (fun f i =>
    let c := f.ch i
    if c.mode = 2 then
      let l := c.on && (x.limiting.testBit i || c.injKind 7 now)
      f.setCh i { c with limiting := l, limAt := if l && !c.limiting then now else c.limAt, hot := c.hot || (f.retSeq % 8 == i && x.hot) }
    else f) f

/-- OUT and CTRL of a frame reach every channel; a test that has ended on the logic side ends. -/
def Fs.take (f : Fs) (g out ctrl : Nat) (tests : List (Nat × ChTest)) : Fs :=
  (List.range 8).foldl (fun f i =>
    let c := f.ch i
    f.setCh i { c with cmd := out.testBit i, ctl := ctrl.testBit i,
                       test := if tests.any (fun t => t.1 == g * 8 + i) then c.test else none,
                       zero := c.zero || (c.latched && ctrl.testBit i && !out.testBit i) }) f

/-- A word of channel `i`'s applied configuration; a wire-break is reported only while WB_EN is set (R225). -/
def FsCh.put (c : FsCh) (r v : Nat) : FsCh :=
  let c1 := { c with w := (List.range 6).map (fun k => if k = r then v else c.cfg k) }
  { c1 with wb := c1.wb && (c1.cfg 1).testBit 24 }

/-- A COMMIT frame: the batch is applied whole; after eight consecutive valid frames before it autonomy ends (R213, R216). The
conversions of the channels that `ws` configures begin at the frame's boundary `b` (R241). -/
def Fs.commit (f : Fs) (ws : List Nat) (b : Nat) : Fs :=
  let f1 := f.batch.foldl (fun f w => let i := wordKey w / 8 % 8; f.setCh i ((f.ch i).put (wordKey w % 8) (w % 2 ^ 26))) f
  let f2 := ws.foldl (fun f w => let i := wordKey w / 8 % 8; f.setCh i { f.ch i with convAt := b, convOk := false }) f1
  { f2 with batch := [], autonomy := f.autonomy && decide (f.valid < 8) }

/-- A valid outbound frame's content (Table 8-3). -/
def Fs.apply (f : Fs) (w now : Nat) (ws : List Nat) (b : Nat) : Fs :=
  let word := frWord w
  match frType w with
  | 0 =>
    let i := frX w
    let c := f.ch i
    if c.mode = 4 then f.setCh i { c with aoC := min 24000000 word } else f
  | 1 =>
    let f1 := { f with echo := some word }
    if wordKey word % 8 = 7 then f1.commit ws b else { f1 with batch := f.batch.filter (fun v => wordKey v != wordKey word) ++ [word] }
  | 2 => f
  | _ =>
    let i := word / 2 ^ 29
    f.setCh i { f.ch i with test := some (bitsOf word 26 3, word % 65536, now) }

/-- The loss counter after a valid frame with SEQ `q`, and the SEQ expected next. -/
def Fs.lossAt (f : Fs) (q : Nat) : Fs :=
  let d := match f.expSeq with
    | some e => (q + 8 - e % 8) % 8
    | none => 0
  { f with loss := (f.loss + d) % 8, expSeq := some ((q + 1) % 8) }

/-- A missing or failed outbound frame. -/
def Fs.lossOne (f : Fs) : Fs :=
  { f with loss := (f.loss + 1) % 8, expSeq := f.expSeq.map (fun e => (e + 1) % 8), valid := 0 }

/-- A valid frame at its application instant: OFF persists through CONFIG frames (log 20). -/
def Hw.fieldApply (h : Hw) (g w start : Nat) : Hw :=
  let f := (h.fs g).lossAt (frSeq w)
  let off := frType w == 2 || (f.off && frType w == 1)
  let f1 := { (f.take g (frA w) (frB w) h.fld.tests) with off := off, lastAt := start }
  let f2 := f1.apply w h.clk.up (h.lnk g).batch ((h.clk.tb - (h.clk.up - start) + 2500) / 5000 * 5000)
  let h1 := h.setFs g { f2 with valid := f.valid + 1 }
  let h2 := (List.range 8).foldl (fun h i => h.zeroClear (g * 8 + i)) h1
  h2.setFs g ((h2.fs g).driveAll h.clk.up)

/-- FIELD_FRAME_RECEIVE: the return frame of the period is latched and started 2.0 µs after the outbound start; the outbound frame
is checked, and applied at 3.2 µs (Table 8-1). -/
def Hw.fieldFrame (h : Hw) (g : Nat) (l : Line) (x : FsSeen) : Hw :=
  let k := h.lnk g
  match k.out, k.startAt with
  | some w, some st =>
    if !(h.fs g).powered then h.setLnk g { k with out := none }
    else
      let h1 := h.untilUp (st + 3200)
      let f := (h1.fs g).seeLimiting x h1.clk.up
      match l.of w with
      | none => (h1.setFs g f.lossOne).setLnk g { k with out := none }
      | some v =>
        let r := f.reply false x h1.clk.up
        let h2 := (h1.setFs g { r.2 with retAt := st + 2000 }).setLnk g { k with out := none, ret := some r.1, conv := f.carried (f.retSeq % 8) }
        if frameOk v then h2.fieldApply g v st else h2.setFs g (h2.fs g).lossOne
  | _, _ => h

/-- FIELD_FRAME_RECEIVE (R213). -/
def execFieldFrameReceive (g : Fin 6) (l : Line) (x : FsSeen) (s : State) : Host.Outcome State Fault Refusal := onHw s (fun h => h.fieldFrame g.val l x)

/-- AUTONOMY_RETURN_FRAME (R216): 5.0 µs after the previous one, until outbound frames return. -/
def Hw.autoReturn (h : Hw) (g : Nat) (x : FsSeen) : Hw :=
  let f := h.fs g
  if f.powered && f.autonomy && f.valid == 0 then
    let h1 := h.untilUp (f.retAt + 5000)
    let r := f.reply true x h1.clk.up
    (h1.setFs g { r.2 with retAt := h1.clk.up }).setLnk g { h1.lnk g with ret := some r.1, conv := f.carried (f.retSeq % 8) }
  else h

/-- AUTONOMY_RETURN_FRAME. -/
def execAutonomyReturnFrame (g : Fin 6) (x : FsSeen) (s : State) : Host.Outcome State Fault Refusal := onHw s (fun h => h.autoReturn g.val x)

/-! ## Change of state and pulse catch -/

/-- Whether an input item of task `t` covers group `g`. -/
def Hw.coversGroup (h : Hw) (t g : Nat) : Bool :=
  let s := h.itemSpan t
  (List.range s.2.1).any (fun i => (h.item (s.1 + i)).kind == 0 && (h.item (s.1 + i)).group == g)

/-- A change-of-state interrupt for EVENT task `t` (R84): the release, or the pending release with a fresh sample set and the status of
its sampling instant (R72). -/
def Hw.eventArrive (h : Hw) (t inst : Nat) : Hw :=
  if h.tstate t = 0 then h.releaseTask t (h.cyc t).nextK inst
  else
    let h1 := h.pcFreeze t
    let x : PendEv := { task := t, inst := inst, recs := h1.inRecords t inst, status := h.reg 0x40000010 }
    { h1 with tsk := { h1.tsk with pendEv := h1.tsk.pendEv.filter (fun p => p.task != t) ++ [x] } }

/-- Change-of-state interrupts of group `g` (R43, R228): DI channels whose filtered state changed from `old` to `new`; none on the Zirek
link, where FLD_CHc_DI_FILTER has no effect (R221). -/
def Hw.cos (h : Hw) (g old new : Nat) : Hw :=
  let hit := (List.range 8).any (fun i =>
    let c := g * 8 + i
    h.chMode c == 1 && ((!old.testBit i && new.testBit i && h.fbit (R.FLD_CHc_DI_FILTER_COS_RISE c)) ||
      (old.testBit i && !new.testBit i && h.fbit (R.FLD_CHc_DI_FILTER_COS_FALL c))))
  if h.zirek g = false ∧ hit ∧ (h.mode = .startup ∨ h.mode = .test) then
    ((List.range 32).filter (fun t => h.kind t == 3 && h.coversGroup t g)).foldl (fun h t => h.eventArrive t h.clk.tb) h
  else h

/-- The modes in which input changes are latched (R43). -/
def Mode.latchesInputs (m : Mode) : Bool := decide (m ∈ [Mode.startup, .test, .recovery, .run, .follow])

/-- Channel `c`'s pulse counters arrive (R226, R227). -/
def Hw.pcntReport (h : Hw) (c v : Nat) : Hw :=
  let g := c / 8
  let l := h.lnk g
  let prev := l.pcnt.find? (fun p => p.1 == c % 8)
  let h1 := h.setLnk g { l with pcnt := tput l.pcnt (c % 8) (v, h.clk.up), pcGap := setBitsOf l.pcGap (c % 8) 1 0 }
  let rep := fun (h : Hw) (b : Nat) => if b != 0 && h.mode.latchesInputs then h.pcReport c b else h
  match prev with
  | none => h1
  | some (_, p, t) =>
    let gap := h.clk.up - t
    if gap > 120000 || l.pcGap.testBit (c % 8) then
      ((rep h1 3).fset (R.FLD_CHc_STATUS_PC_LOST_SEEN c) 1).raise 0x4021 c (gap / 1000)
    else rep h1 (b2n (p / 16 != v / 16) + b2n (p % 16 != v % 16) * 2)

/-! ## Return frames (R211, R212) -/

/-- LOSS_CNT's advance counts in FS_LOSS. -/
def Hw.lossReport (h : Hw) (g n : Nat) : Hw :=
  let l := h.lnk g
  let d := match l.loss with
    | some p => (n + 8 - p) % 8
    | none => 0
  (h.setLnk g { l with loss := some n }).fset (R.FLD_GRPg_ERR_FS_LOSS g) (satN 8 (h.fget (R.FLD_GRPg_ERR_FS_LOSS g) + d))

/-- AUTONOMY and event 0x4003 at the first TYPE 2 frame (R216). -/
def Hw.autoReport (h : Hw) (g typ loss : Nat) : Hw :=
  let l := h.lnk g
  let h1 := (h.grpBit g R.FLD_GRPg_STATUS_AUTONOMY (typ == 2)).setLnk g { l with auto3 := typ == 2 }
  if typ = 2 ∧ l.auto3 = false then h1.asInj l.injDown (fun h => h.raise 0x4003 g loss) else h1

/-- The STATE byte reaches the channels' registers and, while the barrier is up, the image (R73, R212), with its interrupts. -/
def Hw.stateReport (h : Hw) (g st : Nat) : Hw :=
  let h1 := (List.range 8).foldl (fun h i => h.fset (R.FLD_CHc_STATUS_STATE (g * 8 + i)) (b2n (st.testBit i))) h
  if h1.barrier g then
    let old := (h1.img g).state
    (h1.setImg g { state := st, ts := h1.clk.tb }).cos g old st
  else h1

/-- The group's supply registers follow the field side (R236). -/
def Hw.supplyReport (h : Hw) (g : Nat) (ok low : Bool) : Hw :=
  let f := h.fs g
  ((((h.grpBit g R.FLD_GRPg_STATUS_SUPPLY_OK ok).grpBit g R.FLD_GRPg_STATUS_SUPPLY_LOW low).grpBit g R.FLD_GRPg_STATUS_SUPPLY_OVER f.supOver).fset
    (R.FLD_GRPg_SUPPLY_LPLUS g) f.lplus).fset (R.FLD_GRPg_SUPPLY_FS_TEMP g) f.temp

/-- A valid return counts towards the start-up (Table 8-7 step 2). -/
def Hw.goodCount (h : Hw) (g : Nat) : Hw :=
  let l := h.lnk g
  let n := l.goodRun + 1
  h.setLnk g { l with seen := true, missRun := 0, goodRun := n, readyAt := if n ≥ 8 ∧ l.readyAt = none then some h.clk.up else l.readyAt }

/-- The slot word of a return frame: a status word in TYPE 0 and 2. -/
def Hw.slotReport (h : Hw) (g w : Nat) : Hw :=
  let c := g * 8 + frSeq w
  if frType w = 0 ∨ frType w = 2 then
    (h.supplyReport g ((frWord w).testBit 31) ((frWord w).testBit 30)).statusWord c (frWord w) (h.barrier g)
  else h

/-- A suppression of outbound frames that has brought nothing down is over with the next ordinary return frame. -/
def Hw.injDrop (h : Hw) (g typ : Nat) : Hw :=
  let l := h.lnk g
  if l.injDown && l.injSupp == 0 && h.barrier g && typ != 2 && !l.auto3 then h.setLnk g { l with injDown := false } else h

/-- A checked return frame. An injected corruption makes the echo differ. -/
def Hw.goodReturn (h : Hw) (g w : Nat) : Hw :=
  let h1 := ((((h.injDrop g (frType w)).goodCount g).lossReport g (frX w)).autoReport g (frType w) (frX w))
  let l := h1.lnk g
  let echo := if frType w = 1 then some (if l.injEcho && l.await.isSome then frWord w ^^^ 1 else frWord w) else some (frWord w + 2 ^ 32)
  let h2 := (if l.await.isSome then h1.setLnk g { l with injEcho := false } else h1).asInj (l.injEcho && l.await.isSome) (fun h => h.echoCheck g echo)
  let h3 := h2.slotReport g w
  let c := g * 8 + frSeq w
  let h4 := if h3.barrier g && h3.chMode c == 1 then h3.pcntReport c (frB w) else h3
  -- An interrupt's sample set holds all that the frame has brought (R74, R84).
  h4.stateReport g (frA w)

/-- RETURN_FRAME_CHECK: at the boundary that follows the frame; one whose CRC fails is discarded whole. -/
def Hw.returnFrame (h : Hw) (g : Nat) (l : Line) : Hw :=
  let k := h.lnk g
  match k.ret with
  | none => h
  | some w =>
    let h1 := (h.untilUp ((h.fs g).retAt + 2880))
    let h2 := (h1.untilTb (ceilTo 5000 h1.clk.tb)).setLnk g { k with ret := none, injCrc := k.injCrc - 1 }
    match l.of w with
    | none => h2
    | some v => if frameOk v && k.injCrc == 0 then h2.goodReturn g v else h2

/-- RETURN_FRAME_CHECK (R212). -/
def execReturnFrameCheck (g : Fin 6) (l : Line) (s : State) : Host.Outcome State Fault Refusal := onHw s (fun h => h.returnFrame g.val l)

/-! ## The Zirek link (R219 to R221) -/

/-- The Zirek outbound frame (Table 8-9). -/
def zirekOut (seq out : Nat) : Nat :=
  2 * 2 ^ 28 + seq % 8 * 2 ^ 24 + out % 256 * 2 ^ 16 + crc16 0xFFFF (beBytes 2 (seq % 8 * 256 + out % 256))

/-- OUT of a Zirek frame: the groundsheet value where CTRL is 0, nothing while R41 holds outputs off. -/
def Hw.zirekByte (h : Hw) (g : Nat) : Nat :=
  if h.outputsOff || h.revertOff g then 0
  else mask8 (fun i =>
    let c := g * 8 + i
    h.fget (R.FLD_CHc_CFG_MODE c) == 2 && (if h.ctrlOf c then h.outOf c else h.fbit (R.FLD_CHc_CFG_GS c)))

/-- The modes of a Zirek-link group are applied at its frame: the unit holds no configuration (R116). -/
def Hw.zirekModes (h : Hw) (g : Nat) : Hw :=
  (List.range 8).foldl (fun h i => h.fset (R.FLD_CHc_STATUS_MODE_APPLIED (g * 8 + i)) (h.fget (R.FLD_CHc_CFG_MODE (g * 8 + i)))) h

/-- Three periods without a valid return take the group down (R220). -/
def Hw.zirekMiss (h : Hw) (g : Nat) : Hw :=
  let l := h.lnk g
  if l.startAt.isSome && !l.seen then h.missed g else h

/-- ZIREK_BOUNDARY: at a 20 µs boundary at least 16 µs after the previous start. -/
def Hw.zirekBoundary (h : Hw) (g : Nat) : Hw :=
  if !h.zirek g then h
  else if !h.carrierMay g then
    (h.grpBit g R.FLD_GRPg_STATUS_BARRIER_OK false).setLnk g {}
  else
    let h1 := h.untilTb (h.nextBoundary g 20000 16000)
    let h2 := if (h1.lnk g).startAt.isNone then
        (h1.grpBit g R.FLD_GRPg_STATUS_STARTING true).setLnk g { (h1.lnk g) with upFrom := h1.clk.up } else h1.zirekMiss g
    let h3 := (h2.latchScale g true).zirekModes g
    let l := h3.lnk g
    h3.setLnk g { l with seq := (l.seq + 1) % 8, seen := false, startAt := some h3.clk.up, out := some (zirekOut l.seq (h3.zirekByte g)) }

/-- ZIREK_BOUNDARY (R219). -/
def execZirekBoundary (g : Fin 6) (s : State) : Host.Outcome State Fault Refusal := onHw s (fun h => h.zirekBoundary g.val)

/-- Whether a Zirek return frame (Table 8-10) is valid and answers the frame with `seq`. -/
def zirekOk (w seq : Nat) : Bool :=
  bitsOf w 44 4 == 2 && bitsOf w 40 3 == seq % 8 && bitsOf w 16 5 == 0 && w < 2 ^ 48 &&
    crc16 0xFFFF (beBytes 4 (bitsOf w 16 28)) == w % 65536

/-- The direction map that the configuration expects, and whether a reported one matches it. -/
def Hw.dirMap (h : Hw) (g : Nat) : Nat := mask8 (fun i => h.fget (R.FLD_CHc_CFG_MODE (g * 8 + i)) == 2)
def Hw.dirMatch (h : Hw) (g m : Nat) : Bool :=
  (List.range 8).all (fun i => let x := h.fget (R.FLD_CHc_CFG_MODE (g * 8 + i))
    x == 0 || (m.testBit i == (x == 2)))

/-- An identity frame: type and map, the match (R220). -/
def Hw.zirekIdent (h : Hw) (g w : Nat) : Hw :=
  let m := bitsOf w 32 8
  let h1 := (h.fset (R.FLD_GRPg_ZIREK_UNIT_TYPE g) (bitsOf w 24 8)).fset (R.FLD_GRPg_ZIREK_DIR_MAP g) m
  if h1.dirMatch g m then h1.grpBit g R.FLD_GRPg_STATUS_ID_OK true
  else
    let h2 := (h1.grpBit g R.FLD_GRPg_STATUS_ID_OK false).raise 0x400E g (h1.dirMap g) m
    if h2.barrier g then
      let h3 := ((h2.grpBit g R.FLD_GRPg_STATUS_BARRIER_OK false).grpBit g R.FLD_GRPg_STATUS_STARTING true).finc (R.FLD_GRPg_ERR_DOWNS g)
      h3.setLnk g { (h3.lnk g) with goodRun := 0, readyAt := none, upFrom := h.clk.up }
    else h2

/-- The states of a Zirek return enter the image, with pulse bits from changes between consecutive valid returns (R221). -/
def Hw.zirekStates (h : Hw) (g w : Nat) : Hw :=
  let st := bitsOf w 32 8
  let old := (h.lnk g).zst.getD st
  let h1 := h.setLnk g { h.lnk g with flags := bitsOf w 24 8, zst := some st }
  let h2 := if h1.barrier g && h1.mode.latchesInputs then
      (List.range 8).foldl (fun h i =>
        if h.chMode (g * 8 + i) = 1 ∧ old.testBit i ≠ st.testBit i then h.pcReport (g * 8 + i) (if st.testBit i then 1 else 2) else h) h1
    else h1
  h2.stateReport g st

/-- UNIT of a Zirek return. -/
def Hw.zirekUnit (h : Hw) (g w : Nat) : Hw :=
  ((h.grpBit g R.FLD_GRPg_STATUS_SUPPLY_OK (w.testBit 23)).grpBit g R.FLD_GRPg_STATUS_SUPPLY_LOW (w.testBit 22)).grpBit g
    R.FLD_GRPg_STATUS_AUTONOMY (w.testBit 21)

/-- The image's timestamp follows a return that bears no states (R219). -/
def Hw.zirekStamp (h : Hw) (g : Nat) : Hw := if h.barrier g then h.setImg g { h.img g with ts := h.clk.tb } else h

/-- A valid Zirek return. -/
def Hw.zirekGood (h : Hw) (g w : Nat) : Hw :=
  let h1 := (h.goodCount g).zirekUnit g w
  let h2 := if w.testBit 43 then (h1.zirekIdent g w).zirekStamp g else h1.zirekStates g w
  if !h2.barrier g && h2.fbit (R.FLD_GRPg_STATUS_ID_OK g) && decide (8 ≤ (h2.lnk g).goodRun) then h2.groupUp g else h2

/-- ZIREK_RETURN: the unit's frame `w`, at the boundary that follows. -/
def Hw.zirekReturn (h : Hw) (g w : Nat) : Hw :=
  let l := h.lnk g
  if !h.zirek g || l.startAt.isNone || l.seen then h
  else
    let h1 := h.untilTb (h.nextBoundary g 20000 16000)
    if zirekOk w (l.seq + 7) then h1.zirekGood g w else h1

/-- ZIREK_RETURN (R220). -/
def execZirekReturn (g : Fin 6) (w : Nat) (s : State) : Host.Outcome State Fault Refusal := onHw s (fun h => h.zirekReturn g.val w)

end Sys2Proof.Machine
end

