-- ==== Sys2Proof/Machine/FieldCmd.lean ====
section
/-! DEFINITION. Channel tests (R239, R256, R257): the commands CHT_START and CHT_END, and the end of a test. -/

namespace Sys2Proof.Machine

/-- Whether a CODE fits a channel's mode (Tables 8-14 and 9-6; 0 for AO). -/
def chtCode (mode code : Nat) : Bool :=
  match mode with
  | 1 => code == 1 || code == 2
  | 2 => decide (3 ≤ code ∧ code ≤ 6)
  | 3 => decide (1 ≤ code ∧ code ≤ 3)
  | 4 => code == 0
  | _ => false

/-- Whether a channel test request is valid: a channel of a native group (R221) with a CODE of its mode. -/
def Hw.chtValid (h : Hw) (d : Desc) : Bool :=
  d.p0 < 48 && !h.zirek (d.p0 / 8) && chtCode (h.fget (R.FLD_CHc_CFG_MODE d.p0)) d.p1 &&
    (h.fget (R.FLD_CHc_CFG_MODE d.p0) == 4 || d.p2 < 65536)

/-- An admitted channel test starts: a TEST frame, or for AO the registers that the channel follows (R257). -/
def Hw.startCht (h : Hw) (d : Desc) : Hw :=
  if !h.chtValid d then
    let h1 := h.complete d stValue
    if h1.fld.tests.isEmpty then h1.actSet .cht false else h1
  else
    let c := d.p0
    let ao := h.fget (R.FLD_CHc_CFG_MODE c) == 4
    let h1 := { h with fld := { h.fld with tests := tput h.fld.tests c { d := d, code := d.p1, dur := d.p2, start := h.clk.up } } }
    let h2 := h1.runCmd d
    if ao then ((h2.fset R.FLD_AN_TEST_CHANNEL c).fset R.FLD_AN_TEST_ACTIVE 1).setReg R.FLD_AN_TEST_NA (w32 d.p2)
    else
      let l := h2.lnk (c / 8)
      h2.setLnk (c / 8) { l with tests := l.tests ++ [c % 8 * 2 ^ 29 + d.p1 % 8 * 2 ^ 26 + d.p2 % 65536] }

/-- CHT_START after admission (R59, R60). -/
def Hw.cmdChtStart (h : Hw) (d : Desc) : Hw :=
  let r := h.request d .cht
  if r.2 then r.1.startCht d else r.1

/-- CHT_START. -/
def execChtStart (d : Desc) (s : State) : Host.Outcome State Fault Refusal := onHw s (fun h => h.hostCmd d 0x0A01 Hw.cmdChtStart)

/-- The value in a test result: what the field side measured, or an analogue channel's last conversion in µA. -/
def Hw.testValue (h : Hw) (c v : Nat) : Nat :=
  if h.fget (R.FLD_CHc_CFG_MODE c) = 4 then (wInt ((h.fch c).conv / 1000)).toNat % 65536 else v % 65536

/-- PASS: AI by Table 9-6, AO by R257, else as the field side found it. -/
def Hw.testPass (h : Hw) (c code dur v : Nat) (pass : Bool) : Bool :=
  match h.fget (R.FLD_CHc_CFG_MODE c) with
  | 3 =>
    (match code with
      | 1 => decide (3900 ≤ v ∧ v ≤ 4100)
      | 2 => decide (19900 ≤ v ∧ v ≤ 20100)
      | _ => (h.fch c).lim && decide (28000 ≤ v ∧ v ≤ 32000))
  | 4 => decide (((h.fch c).conv - (if h.fget R.FLD_AN_TEST_CHANNEL = c then sx 32 (h.fget R.FLD_AN_TEST_NA_CMD_NA) else sx 32 dur)).natAbs ≤ 100000)
  | _ => pass

/-- A channel test ends: event 0x4010, the completion, the channel back to the application at the next frame. -/
def Hw.endTest (h : Hw) (c : Nat) (t : ChTest) (pass : Bool) (v0 : Nat) : Hw :=
  let v := h.testValue c v0
  let ok := h.testPass c t.code t.dur v pass
  let ao := h.fget (R.FLD_CHc_CFG_MODE c) == 4
  let word := c % 8 * 2 ^ 29 + t.code % 8 * 2 ^ 26 + b2n ok * 2 ^ 25 + 2 ^ 24 + v
  let h1 := { h with fld := { h.fld with tests := tdel h.fld.tests c } }
  let h2 := if ao then (if h.fget R.FLD_AN_TEST_CHANNEL = c then h1.fset R.FLD_AN_TEST_ACTIVE 0 else h1).fset R.FLD_AN_TEST_PASS (b2n ok)
    else h1.setFch c { h1.fch c with result := some word }
  let h3 := (h2.raise 0x4010 c t.code (b2n ok)).complete t.d (if ok then stOk else stFailed) true word (b2n ok) (event := 0x4010)
  if h3.fld.tests.isEmpty then h3.actSet .cht false else h3

/-- CHANNEL_TEST_END: the DURATION of a test ends; `v` and `pass` what the field side measured and found. -/
def Hw.testTimed (h : Hw) (c : Nat) (pass : Bool) (v : Nat) : Hw :=
  match h.fld.tests.find? (fun p => p.1 == c) with
  | some (_, t) =>
    if t.dur = 0 ∨ h.aoTest c = true then h else (h.untilUp (t.start + t.dur * 1000)).endTest c t pass v
  | none => h

/-- CHANNEL_TEST_END (R239). -/
def execChannelTestEnd (c : Fin 48) (pass : Bool) (v : Nat) (s : State) : Host.Outcome State Fault Refusal :=
  onHw s (fun h => h.testTimed c.val pass v)

/-- CHT_END ends a test with DURATION 0 (an AO test has none); `aux` of the command is the field side's value in bits 15:0 and its
PASS in bit 16. -/
def Hw.cmdChtEnd (h : Hw) (d : Desc) : Hw :=
  match h.fld.tests.find? (fun p => p.1 == d.p0) with
  | some (c, t) =>
    if t.dur = 0 ∨ h.aoTest c = true then (h.endTest c t (d.aux.testBit 16) d.aux).complete d stOk true else h.complete d stValue
  | none => h.complete d stValue

/-- CHT_END. -/
def execChtEnd (d : Desc) (s : State) : Host.Outcome State Fault Refusal := onHw s (fun h => h.hostCmd d 0x0A02 Hw.cmdChtEnd)

end Sys2Proof.Machine
end

