-- ==== Sys2Proof/Machine/Cfg.lean ====
section
/-! DEFINITION. Configuration slots: their checks (R434, R436), the session and rate tables' checks (R273, R389), what applying one
does (R426, R439, R440, R371), the commands CFG_WRITE, CFG_READ and CFG_CHOOSE (R435, R437), and transfers in pieces (R338). -/

namespace Sys2Proof.Machine

/-! ## Verification with the signature helper -/

/-- One use of the signature helper (R429): a failure records 0x010F; injection 0x005 makes a good signature fail once. -/
def Hw.sigCheck (h : Hw) (o : Otp) (kind : Nat) (x : ObjHdr) (bodyOk : Bool) : Hw × Option Nat :=
  match verify o kind x bodyOk with
  | some r => (h.verifyFail kind x r, some r)
  | none =>
    if h.sup.injSig then
      let h1 := { h with sup := { h.sup with injSig := false }, evr := { h.evr with injecting := true } }
      let h2 := h1.verifyFail kind x 4
      ({ h2 with evr := { h2.evr with injecting := h.evr.injecting } }, some 4)
    else (h, none)

/-- One use of the signature helper for a message that is no signed object: whether the signature verifies, which injection 0x005
makes fail once. -/
def Hw.msgCheck (h : Hw) (ok : Bool) : Hw × Bool :=
  if h.sup.injSig then ({ h with sup := { h.sup with injSig := false } }, false) else (h, ok)

/-! ## Session entries (Table 10-2) -/

/-- Bits of a word of an entry. -/
def wBits (ws : List Word) (i lo w : Nat) : Nat := bitsOf (ws.getD i 0#32).toNat lo w

def sesKind (ws : List Word) : Nat := wBits ws 0 0 2
def sesPull (ws : List Word) : Bool := wBits ws 0 2 1 == 1
def sesTopo (ws : List Word) : Bool := wBits ws 0 7 1 == 1
def sesEng (ws : List Word) : Bool := wBits ws 0 8 1 == 1
def sesLen (ws : List Word) : Nat := wBits ws 0 16 11
def sesComId (ws : List Word) : Nat := wBits ws 1 0 32
def sesCycle (ws : List Word) : Nat := wBits ws 2 0 16
def sesTimeout (ws : List Word) : Nat := wBits ws 2 16 16
def sesPhase (ws : List Word) : Nat := wBits ws 3 0 26
def sesDest (ws : List Word) : Nat := wBits ws 4 0 32
def sesDir (ws : List Word) : Nat := wBits ws 5 0 14
def sesAny (ws : List Word) : Bool := wBits ws 5 14 1 == 1
def sesReply (ws : List Word) : Nat := wBits ws 6 0 32

/-- DATA_LEN and the reserved bits (reason 2 of Table 10-3). -/
def sesBad2 (ws : List Word) : Bool :=
  decide (1432 < sesLen ws) || wBits ws 0 9 7 != 0 || wBits ws 0 27 5 != 0 ||
    wBits ws 3 26 6 != 0 || wBits ws 5 15 1 != 0 || wBits ws 5 28 4 != 0 || wBits ws 7 0 32 != 0

/-- CYCLE_MS, TIMEOUT_MS and PHASE_US outside Table 10-2 for the KIND (reason 5). -/
def sesBad5 (ws : List Word) : Bool :=
  let cyc := sesKind ws == 1 || (sesKind ws == 2 && sesPull ws)
  let tmo := sesKind ws == 2
  (sesCycle ws == 0) == cyc || (sesTimeout ws == 0) == tmo ||
    (if sesCycle ws = 0 then sesPhase ws != 0 else decide (sesCycle ws * 1000 ≤ sesPhase ws))

/-- A session of KIND 1 or 2 whose cycle or timeout is below 2 ms (reason 4). -/
def sesFast (ws : List Word) : Bool :=
  (sesKind ws == 1 && decide (sesCycle ws < 2)) ||
    (sesKind ws == 2 && (decide (sesTimeout ws < 2) || (sesPull ws && decide (sesCycle ws < 2))))

/-- The source selection of R115 and Table 10-3. -/
def sesSource (ws : List Word) : Nat := if sesAny ws then 0x4000 else sesDir ws

/-- The entry at which the `n`-th session with `p` is passed. -/
def nthOver (p : List Word → Bool) (n : Nat) (t : List (Nat × List Word)) : Option Nat :=
  ((t.filter (fun e => p e.2))[n]?).map (·.1)

/-- The session at which the publish load passes 200 Mb/s (R275); `num` / `den` is the load so far in bits per µs. -/
def overLoad : Nat → Nat → List (Nat × List Word) → Option Nat
  | _, _, [] => none
  | num, den, (i, ws) :: r =>
    if sesKind ws = 1 ∧ sesCycle ws ≠ 0 then
      let b := sesCycle ws * 1000
      let n := num * b + (sesLen ws + 116) * 8 * den
      let d := den * b
      if 200 * d < n then some i else overLoad n d r
    else overLoad num den r

/-- The later of two subscribe sessions with equal COMID and source selection. -/
def sesTwice : List (Nat × List Word) → Option Nat
  | [] => none
  | (_, ws) :: r =>
    if sesKind ws = 2 then
      match r.find? (fun e => sesKind e.2 == 2 && sesComId e.2 == sesComId ws && sesSource e.2 == sesSource ws) with
      | some e => some e.1
      | none => sesTwice r
    else sesTwice r

/-- The first check of Table 10-3 that a session table fails: reason and session. -/
def sesRefusal (t : List (Nat × List Word)) : Option (Nat × Nat) :=
  let cs := [nthOver (fun w => sesKind w == 3) 64 t, nthOver sesBad2 0 t, overLoad 0 1 t, nthOver sesFast 256 t, nthOver sesBad5 0 t, sesTwice t]
  match (cs.zipIdx).find? (fun c => c.1.isSome) with
  | some (some s, i) => some (i + 1, s)
  | _ => none

/-! ## What a configuration names -/

/-- The records of both sections in the order in which they are written (R439), each with whether its section is the individual one. -/
def CfgImage.recs (c : CfgImage) : List (Bool × CfgRec) :=
  (c.common.recs.map (fun r => (false, r))) ++ (c.indiv.recs.map (fun r => (true, r)))

/-- Consecutive elements with their indices. -/
def runFrom {α : Type} (first step : Nat) (l : List α) : List (Nat × α) := (l.zipIdx).map (fun p => (first + p.2 * step, p.1))

/-- The register words of a configuration: section, address, word. -/
def CfgImage.regs (c : CfgImage) : List (Bool × Nat × Word) :=
  (c.recs).flatMap (fun r => match r.2 with
    | .run f ws => (runFrom f 4 ws).map (fun p => (r.1, p.1, p.2))
    | _ => [])

/-- The session entries of a configuration. -/
def CfgImage.sessions (c : CfgImage) : List (Nat × List Word) :=
  (c.recs).flatMap (fun r => match r.2 with
    | .sessions f es => runFrom f 1 es
    | _ => [])

/-- The rate entries of a configuration. -/
def CfgImage.rates (c : CfgImage) : List (Nat × Word × Word) :=
  (c.recs).flatMap (fun r => match r.2 with
    | .rates f es => runFrom f 1 es
    | _ => [])

/-- Registers whose fields belong to the module-individual section (Table 16-6). -/
def indivRegs : List Nat := [R.NET_IP, R.NET_MAC_LO, R.NET_MAC_HI, R.SUP_MODE_CFG, R.PAIR_PARTNER]

/-- The bits of a register that a section writes: SUP_ADDR and PREFERRED are individual, the rest of their registers common; PREFERRED
in a common record is ignored (Table 16-6). -/
def sectionMask (indiv : Bool) (a : Nat) : Word :=
  let only := if a = R.NET_PRP_CFG then some 0xFF0000#32 else if a = R.PAIR_CFG then some (w32 (setBitsOf 0 R.PAIR_CFG_PREFERRED.lo 1 1)) else none
  match only with
  | some m => if indiv then m else ~~~m
  | none => 0xFFFFFFFF#32

/-- Whether a register word lies in its proper section and is well formed; PTP domains are 0 to 127 (R281). -/
def regPlaced (x : Bool × Nat × Word) : Bool :=
  decide (0x40000000 ≤ x.2.1 ∧ x.2.1 < 0x400C0000) && x.2.1 % 4 == 0 &&
    (if x.1 then decide (x.2.1 ∈ indivRegs ∨ x.2.1 = R.NET_PRP_CFG ∨ x.2.1 = R.PAIR_CFG) else decide (x.2.1 ∉ indivRegs)) &&
    !(x.2.1 == R.NET_PTP_CFG && decide (128 ≤ bitsOf x.2.2.toNat 8 8))

/-- Whether a record is well formed: indices inside their tables, and only register words in the individual section. -/
def recPlaced (x : Bool × CfgRec) : Bool :=
  match x.2 with
  | .run .. => true
  | .sessions f es => !x.1 && decide (f + es.length ≤ 512) && es.all (fun e => e.length == 8)
  | .rates f es => !x.1 && decide (f + es.length ≤ 1024)
  | .pwd r k _ => !x.1 && decide (r < 16 ∧ k < 2)
  | .dirs f es => !x.1 && decide (f + es.length ≤ 16384) && es.all (fun e => e.length == 4)
  | .keyAdd s _ _ => !x.1 && decide (s < 16)
  | .revoke m _ => !x.1 && decide (m < 65536)

/-- A key for each thing a record names, by which the same field named twice is found. -/
def recKeys (x : Bool × CfgRec) : List Nat :=
  match x.2 with
  | .run f ws => (runFrom f 4 ws).map (fun p => p.1 * 2 + b2n (x.1 && p.1 ∉ indivRegs))
  | .sessions f es => (runFrom f 1 es).map (fun p => 0x200000000 + p.1)
  | .rates f es => (runFrom f 1 es).map (fun p => 0x200001000 + p.1)
  | .pwd r k _ => [0x200002000 + r * 2 + k]
  | .dirs f es => (runFrom f 1 es).map (fun p => 0x200010000 + p.1)
  | .keyAdd s _ _ => [0x200003000 + s]
  | .revoke .. => [0x200004000]

/-- Whether a list holds no number twice. -/
def noTwice : List Nat → Bool
  | [] => true
  | x :: r => !r.contains x && noTwice r

/-- Every record well formed, in its section, no field twice (R434). -/
def CfgImage.recordsOk (c : CfgImage) : Bool :=
  c.common.recsOk && c.indiv.recsOk && c.recs.all recPlaced && c.regs.all regPlaced && noTwice (c.recs.flatMap recKeys)

/-- Whether the common section holds records that need a KEYADMIN signer. -/
def CfgImage.keyRecs (c : CfgImage) : Bool :=
  c.common.recs.any (fun r => match r with
    | .keyAdd .. => true
    | .revoke .. => true
    | _ => false)

/-- The reason code of A_REASON that an image's own content gives (R434); 0 for an intact one. -/
def Hw.imageReason (h : Hw) (o : Otp) (c : CfgImage) : Nat :=
  if c.magic ≠ 0x0480C0F6 then 1
  else if c.common.seq ≠ c.seq ∨ c.indiv.seq ≠ c.seq ∨ c.common.layout ≠ c.layout ∨ c.indiv.layout ≠ c.layout then 3
  else if c.indiv.serial ≠ o.serial then 4
  else if c.layout ≠ 0 ∧ c.layout ≠ h.marker.layout then 5
  else if !c.recordsOk then 6 else 0

/-- Verification of both sections (R429, R434), whose OBJ_ID is their SEQ (Table 16-13): true where the image is authorised. -/
def Hw.sectionCheck (h : Hw) (o : Otp) (c : CfgImage) : Hw × Bool :=
  let r := h.sigCheck o 3 c.common.hdr (c.common.hdr.objId == c.common.seq)
  if r.2.isSome then (r.1, false)
  else if c.keyRecs && !o.usable c.common.hdr.keyIndex 3 then (r.1.verifyFail 3 c.common.hdr 3, false)
  else
    let q := r.1.sigCheck o 4 c.indiv.hdr (c.indiv.hdr.objId == c.indiv.seq)
    (q.1, q.2.isNone)

/-! ## Slots -/

/-- The MRAM address of a configuration slot. -/
def cfgBase (slot : Nat) : Nat := if slot = 0 then 0x50000000 else 0x50040000

/-- The image that a slot holds behind a committed header page. -/
def Hw.cfgSlot (h : Hw) (slot : Nat) : Option CfgImage := if slot = 0 then h.nvs.cfgA else h.nvs.cfgB

/-- Puts a slot's content. -/
def Hw.setSlot (h : Hw) (slot : Nat) (c : Option CfgImage) : Hw :=
  if slot = 0 then { h with nvs := { h.nvs with cfgA := c } } else { h with nvs := { h.nvs with cfgB := c } }

/-- Whether page `p` of a slot reads as committed: its commit group stands, and no group of it is uncorrectable (R353, R434). -/
def Hw.slotPage (h : Hw) (slot p : Nat) : Bool :=
  !h.nvs.badPages.contains (pageOf (cfgBase slot) + p) && (h.badGroup (cfgBase slot + p * 256) 256).isNone

/-- The pages that an image uses. -/
def CfgImage.pages (c : CfgImage) : Nat := min 1024 ((c.bytes.length + 255) / 256)

/-- The reason code of a slot (R434, SUP_CFG_STATUS); 0 for an intact one. -/
def Hw.slotReason (h : Hw) (o : Otp) (slot : Nat) : Nat :=
  match h.cfgSlot slot with
  | none => 1
  | some c =>
    if !h.slotPage slot 0 then 1
    else if !((List.range c.pages).all (h.slotPage slot)) then 2
    else h.imageReason o c

/-- INTACT, AUTH and REASON of a slot. -/
def Hw.cfgFlags (h : Hw) (slot : Nat) (intact auth : Bool) (reason : Nat) : Hw :=
  if slot = 0 then ((h.fset R.SUP_CFG_STATUS_A_INTACT (b2n intact)).fset R.SUP_CFG_STATUS_A_AUTH (b2n auth)).fset R.SUP_CFG_STATUS_A_REASON reason
  else ((h.fset R.SUP_CFG_STATUS_B_INTACT (b2n intact)).fset R.SUP_CFG_STATUS_B_AUTH (b2n auth)).fset R.SUP_CFG_STATUS_B_REASON reason

def Hw.slotIntact (h : Hw) (slot : Nat) : Bool := if slot = 0 then h.fbit R.SUP_CFG_STATUS_A_INTACT else h.fbit R.SUP_CFG_STATUS_B_INTACT
def Hw.slotAuth (h : Hw) (slot : Nat) : Bool := if slot = 0 then h.fbit R.SUP_CFG_STATUS_A_AUTH else h.fbit R.SUP_CFG_STATUS_B_AUTH

/-- Reads and verifies a slot. -/
def Hw.slotClass (h : Hw) (o : Otp) (slot : Nat) : Hw :=
  let r := h.slotReason o slot
  match h.cfgSlot slot with
  | none => h.cfgFlags slot false false r
  | some c =>
    if r ≠ 0 then h.cfgFlags slot false false r
    else
      let q := h.sectionCheck o c
      q.1.cfgFlags slot true q.2 (if q.2 then 0 else 7)

/-! ## The tables' checks -/

/-- The session table as a configuration leaves it. -/
def Hw.sesAfter (h : Hw) (c : CfgImage) : List (Nat × List Word) :=
  c.sessions.foldl (fun t e => tput t e.1 e.2) (h.net.sess.map (fun p => (p.1, p.2.entry)))

/-- A rate entry from its two words: entries 0 to 11 keep their codes (R389). -/
def rateOfWords (i : Nat) (w : Word × Word) : Rate :=
  let b := max 1 (bitsOf w.1.toNat 16 8)
  { code := if i < 12 then (rateDefault i).code else bitsOf w.1.toNat 0 16, burst := b,
    period := max 1 (bitsOf w.2.toNat 0 16), tokens := b }

/-- Whether a code may not stand in entry `i` beside the others (R389). -/
def rateClash (t : Nat → Rate) (used : List Nat) (i : Nat) : Bool :=
  (t i).code != 0 && (decide (0x9000 ≤ (t i).code ∧ (t i).code ≤ 0x9FFF) || used.any (fun j => j != i && (t j).code == (t i).code))

/-- The first entry of a configuration's rate table that R389 refuses. -/
def Hw.rateRefusal (h : Hw) (c : CfgImage) : Option Nat :=
  let t := fun i => match c.rates.find? (fun e => e.1 == i) with
    | some e => rateOfWords i e.2
    | none => h.rate i
  let used := List.range 12 ++ (h.evr.rates.map (·.1) ++ c.rates.map (·.1)).filter (fun i => decide (12 ≤ i))
  (c.rates.map (·.1)).find? (rateClash t used)

/-- The event that a refused table records (R273, R389). -/
def Hw.tableRefusal (h : Hw) (c : CfgImage) : Option (Nat × Nat × Nat) :=
  match (if c.sessions.isEmpty then none else sesRefusal (h.sesAfter c)) with
  | some (r, s) => some (0x5020, r, s)
  | none => (h.rateRefusal c).map (fun i => (0x9031, i, 0))

/-! ## Application -/

/-- The modes in which a configuration writes every field (R439). -/
def Hw.cfgFree (h : Hw) : Bool := decide (h.mode ∈ [Mode.boot, Mode.provision, Mode.stop, Mode.service])

/-- How an applied configuration's values enter (R439, R440). -/
def Hw.cfgHow (h : Hw) : Entry := if h.cfgFree then .free else .write

/-- A register word of a section merged with the bits that the section does not write. -/
def Hw.cfgWord (h : Hw) (x : Bool × Nat × Word) : Word := mergeMask (h.shown x.2.1) x.2.2 (sectionMask x.1 x.2.1)

/-- Whether a register word changes a class S field (R440). -/
def Hw.changesS (h : Hw) (x : Bool × Nat × Word) : Bool :=
  let a := regAccess x.2.1
  let m := if a.cls = .stop then a.rw ||| a.rws ||| a.rwl else a.rws
  ((h.cfgWord x ^^^ h.shown x.2.1) &&& m) != 0#32

/-- Whether a session entry would change. -/
def Hw.sesChanges (h : Hw) (e : Nat × List Word) : Bool :=
  (h.sess e.1).entry != e.2 && (e.2.any (fun w => w != 0#32) || (h.sess e.1).entry.length != 0)

/-- Whether a rate entry would change. -/
def Hw.rateChanges (h : Hw) (e : Nat × Word × Word) : Bool :=
  (h.rate e.1).code != (rateOfWords e.1 e.2).code || (h.rate e.1).burst != (rateOfWords e.1 e.2).burst ||
    (h.rate e.1).period != (rateOfWords e.1 e.2).period

/-- The address of the first class S field that a record would change: session and rate entries are behind their data registers. -/
def Hw.recS (h : Hw) (r : Bool × CfgRec) : Option Nat :=
  match r.2 with
  | .run f ws => (((runFrom f 4 ws).map (fun p => (r.1, p.1, p.2))).find? h.changesS).map (fun x => x.2.1)
  | .sessions f es => if (runFrom f 1 es).any h.sesChanges then some (R.NET_SES_DATAw 0) else none
  | .rates f es => if (runFrom f 1 es).any h.rateChanges then some R.EVR_RL_DATA0 else none
  | _ => none

/-- The address of the first class S field that a configuration would change, in record order. -/
def Hw.firstS (h : Hw) (c : CfgImage) : Option Nat := c.recs.findSome? h.recS

/-- A session entry takes effect (R270, R272): a changed one starts afresh with NEVER = 1; the counters of telegrams sent, the values
last released and the owners' releases stay (R117, R267), and a publish session that publishes goes on. -/
def Hw.putSession (h : Hw) (i : Nat) (ws : List Word) : Hw :=
  let s := h.sess i
  let pub := sesKind s.words == 1 && sesKind ws == 1
  if s.words = ws then h.setSess i { s with next := none }
  else
    h.setSess i { words := ws, seq := if pub then s.seq else 0, pulls := s.pulls, publishing := pub && s.publishing,
                  pubAt := if pub then s.pubAt else none, dup := if pub then s.dup else 0, released := s.released,
                  relBuf := s.relBuf, txBuf := s.txBuf }

/-- A session entry of a flysheet's configuration (R116): a publish session takes it at its first publication, another, which has none
to wait for, at the switch (log 112). -/
def Hw.swapSession (h : Hw) (i : Nat) (ws : List Word) : Hw :=
  let s := h.sess i
  if s.kind = 1 ∧ s.words ≠ ws then h.setSess i { s with next := some ws } else h.putSession i ws

/-- The entry that waits takes effect. -/
def Hw.latchSession (h : Hw) (i : Nat) : Hw :=
  match (h.sess i).next with
  | some ws => (h.putSession i ws).showSes
  | none => h

/-- A directory entry takes effect (R274); a session that had no entry to send to may record again (R268). -/
def Hw.putDir (h : Hw) (i : Nat) (ws : List Word) : Hw :=
  { h with net := { h.net with dirs := tset [] h.net.dirs i (if ws.all (fun w => w == 0#32) then [] else ws),
                               sess := h.net.sess.map (fun p => (p.1, if wBits ws 2 16 1 = 1 ∧ wBits ws 0 0 32 = sesDest p.2.words
                                 then { p.2 with nodir := false } else p.2)) } }

/-- Whether an address is a multicast one. -/
def multicast (ip : Nat) : Bool := ip / 2 ^ 28 == 14

/-- Membership reports for the subscribe sessions' groups (R261). -/
def Hw.igmpReports (h : Hw) : Hw :=
  let gs := h.net.sess.filter (fun p => sesKind p.2.words == 2 && multicast (sesDest p.2.words))
  gs.foldl (fun h p => h.netSend (.igmpReport (sesDest p.2.words))) h

/-- The password digest in force (R368): 0 where none is required. -/
def Hw.pwdDigest (h : Hw) (r k : Nat) : Nat := tget 0 h.nvs.pwdDigests (r % 16 * 2 + k % 2)

/-- The password state: failure counts and locks. -/
def Hw.pwdState (h : Hw) : List (Nat × Nat) × Nat :=
  (h.nvs.busy.toList ++ h.nvs.queue).foldl (fun r w => match w with
    | .pwd f l _ _ => (f, l)
    | _ => r) (h.nvs.pwdRec.get ([], 0))

/-- Fills a user region with zeros (R371). -/
def Hw.zeroRegion (h : Hw) (r : Nat) : Hw :=
  let b := 0x50300000 + r * 0x30000
  { h with mem := tfilter (fun a => a < b || b + 0x30000 ≤ a) h.mem,
           nvs := { h.nvs with writes := (List.range 768).foldl (fun w i => tset 0 w (pageOf b + i) (tget 0 w (pageOf b + i) + 1)) h.nvs.writes,
                               badPages := h.nvs.badPages.filter (fun p => p < pageOf b || pageOf b + 768 ≤ p),
                               uncorr := h.nvs.uncorr.filter (fun g => g * 8 < b || b + 0x30000 ≤ g * 8) } }

/-- An applied configuration changes a password's digest: its count and lock are cleared; a new read digest zeroes the region first
(R371). -/
def Hw.putPwd (h : Hw) (r k digest : Nat) : Hw :=
  if h.pwdDigest r k = digest then h
  else
    let i := r * 2 + k
    let h1 := if k = 0 then h.zeroRegion r else h
    let st := h1.pwdState
    let lock := setBitsOf st.2 i 1 0
    let h2 := (h1.setReg R.NVS_PWD_LOCK (w32 lock)).nvPush (.pwd (tset 0 st.1 i 0) lock none 0)
    ({ h2 with nvs := { h2.nvs with pwdDigests := tset 0 h2.nvs.pwdDigests i digest,
                                    unlocks := h2.nvs.unlocks.filter (fun u => u.pwd != i) } }).raise 0x8012 r k (1 - k)

/-- Adds a key to an unwritten slot (R426). -/
def keyAddTo (h : Hw) (o : Otp) (s perm digest : Nat) : Hw × Otp :=
  if o.written s || decide (16 ≤ s) then (h, o) else (h.raise 0x010A s perm, o.putKey s digest perm)

/-- Whether some KEYADMIN slot stays usable under a KEY_REVOKE mask. -/
def Otp.keepsAdmin (o : Otp) (mask : Nat) : Bool := (List.range 16).any (fun s => o.usable s 3 && !mask.testBit s)

/-- Revokes key slots and closes JTAG (R426); a mask that would leave no usable KEYADMIN slot is not programmed. -/
def keyRevokeTo (h : Hw) (o : Otp) (mask : Nat) (jtag : Bool) : Hw × Otp :=
  let new := (List.range 16).filter (fun s => mask.testBit s && !o.keyRevoke.testBit s)
  let r := if o.keepsAdmin mask then (new.foldl (fun h s => h.raise 0x010B s) h, o.prog 0x18 (leBytes 4 (mask % 65536))) else (h, o)
  if jtag && !o.jtagOff then (r.1.raise 0x010E, r.2.prog 0x14 [1#8]) else r

/-- One record takes effect. -/
def cfgRecord (how : Entry) (x : Hw × Otp) (r : Bool × CfgRec) : Hw × Otp :=
  match r.2 with
  | .run f ws => ((runFrom f 4 ws).foldl (fun h p => h.cfgReg p.1 (h.cfgWord (r.1, p.1, p.2)) how) x.1, x.2)
  | .sessions f es => (((runFrom f 1 es).foldl (fun h p => if how = .swap then h.swapSession p.1 p.2 else h.putSession p.1 p.2) x.1).igmpReports, x.2)
  | .rates f es => ((runFrom f 1 es).foldl (fun h p => h.setRate p.1 (rateOfWords p.1 p.2)) x.1, x.2)
  | .pwd rg k d => (x.1.putPwd rg k d, x.2)
  | .dirs f es => ((runFrom f 1 es).foldl (fun h p => h.putDir p.1 p.2) x.1, x.2)
  | .keyAdd s perm d => keyAddTo x.1 x.2 s perm d
  | .revoke m j => keyRevokeTo x.1 x.2 m j

/-- A slot's configuration is applied (R439, R440): every field it names, APPLIED, SEQ, CFG_VALID, 0x0106. -/
def cfgApply (h : Hw) (o : Otp) (slot : Nat) (c : CfgImage) (how : Entry) : Hw × Otp :=
  let r := c.recs.foldl (cfgRecord how) (h, o)
  let h0 : Hw := { r.1 with sup := { r.1.sup with cfgHash := c.common.hash, cfgH := (c.common.hdr.h, c.indiv.hdr.h) } }
  let h1 := ((h0.fset R.SUP_CFG_STATUS_APPLIED (slot + 1)).setReg R.SUP_CFG_SEQ (w32 c.seq)).fset R.SUP_MODE_STATUS_CFG_VALID 1
  -- R54: a profile applied in BOOT or PROVISION is in force at once.
  let h2 := if h1.mode = .boot ∨ h1.mode = .provision then h1.latchProfiles else h1
  (h2.raise 0x0106 slot c.seq, r.2)

/-! ## The choice at boot (R436) -/

/-- The slot that R436 chooses; `some 2` for CONFLICT. -/
def Hw.cfgChoice (h : Hw) : Option Nat :=
  match h.cfgSlot 0, h.cfgSlot 1 with
  | some a, some b =>
    if h.slotIntact 0 && h.slotIntact 1 then
      let d := (a.seq + 2 ^ 32 - b.seq % 2 ^ 32) % 2 ^ 32
      if d = 0 ∨ d = 2 ^ 31 then
        if a = b then if h.slotAuth 0 then some 0 else none
        else if h.slotAuth 0 && h.slotAuth 1 then some 2
        else if h.slotAuth 0 then some 0 else if h.slotAuth 1 then some 1 else none
      else
        let later := if d < 2 ^ 31 then 0 else 1
        if h.slotAuth later then some later else if h.slotAuth (1 - later) then some (1 - later) else none
    else if h.slotIntact 0 then if h.slotAuth 0 then some 0 else none
    else if h.slotIntact 1 then if h.slotAuth 1 then some 1 else none
    else none
  | _, _ =>
    if h.slotIntact 0 && h.slotAuth 0 then some 0 else if h.slotIntact 1 && h.slotAuth 1 then some 1 else none

/-- The 0x0105 reason of a slot that is not chosen. -/
def Hw.cfgLeft (h : Hw) (slot : Nat) (choice : Option Nat) : Nat :=
  if !h.slotIntact slot then (if slot = 0 then h.fget R.SUP_CFG_STATUS_A_REASON else h.fget R.SUP_CFG_STATUS_B_REASON)
  else if choice = some 2 then 11
  else if !h.slotAuth slot && h.cfgSlot slot != h.cfgSlot (1 - slot) then 7
  else match choice with
    | some k => if h.cfgSlot slot = h.cfgSlot k then 10 else 9
    | none => 7

/-- A configuration whose table is refused is not applied (R273, R389): REASON 8, 0x0105. -/
def Hw.cfgTableFail (h : Hw) (slot : Nat) (e : Nat × Nat × Nat) : Hw :=
  let h1 := h.raise e.1 e.2.1 e.2.2
  (if slot = 0 then h1.fset R.SUP_CFG_STATUS_A_REASON 8 else h1.fset R.SUP_CFG_STATUS_B_REASON 8).raise 0x0105 slot 8

/-- Step 6 of Table 16-1: both slots read and verified, one chosen (R436) and applied. -/
def cfgBoot (h : Hw) (o : Otp) : Hw × Otp :=
  let h1 := (h.slotClass o 0).slotClass o 1
  let ch := h1.cfgChoice
  let h2 := [0, 1].foldl (fun h i => if ch = some i then h else h.raise 0x0105 i (h1.cfgLeft i ch)) h1
  match ch with
  | none => (h2, o)
  | some 2 => ((h2.fset R.SUP_CFG_STATUS_CONFLICT 1).raise 0x0107 ((h2.cfgSlot 0).getD {}).seq, o)
  | some i =>
    match h2.cfgSlot i with
    | none => (h2, o)
    | some c =>
      match h2.tableRefusal c with
      | some e => (h2.cfgTableFail i e, o)
      | none => cfgApply h2 o i c .free

/-! ## Transfers in pieces (R338) -/

/-- The transfer of a command's kind. -/
def Hw.xferOf (h : Hw) (op : Nat) : Option Xfer := h.hif.xfers.find? (fun x => x.op == op)

/-- The activity of a transfer. -/
def xferAct (op : Nat) : Act :=
  match op with
  | 0x0201 => .pdl
  | 0x0606 => .fwu
  | _ => .cfg

/-- A piece that has been written: OK with the bytes received so far, or `last` for the last piece; a buffer error on the way aborts. -/
def Hw.pieceIn (h : Hw) (d : Desc) (last : Hw → Desc → Hw) : Hw :=
  let h1 := h.dropXfer d.op
  if h.lateErr d then h.lateFail d (xferAct d.op)
  else if d.flags.testBit 2 then
    ({ h1 with hif := { h1.hif with xfers := h1.hif.xfers ++
        [({ op := d.op, src := d.src, p0 := d.p0, next := d.p2 + d.len, last := h.clk.up } : Xfer)] } }).complete d stOk true (d.p2 + d.len)
  else last h1 d

/-- A transfer ends without its last piece (R338): the partial image is discarded, the activity ends. -/
def Hw.pieceLost (h : Hw) (op : Nat) (act : Act) : Hw :=
  let h1 := h.dropXfer op
  (if act = .fwu then h1.fwuAbort else h1).actSet act false

/-- A piece of a transfer: the first starts the activity (`start` follows its admission), each other must follow the one before, from
the same source. -/
def Hw.piece (h : Hw) (d : Desc) (act : Act) (start : Hw → Desc → Hw) (last : Hw → Desc → Hw) : Hw :=
  if d.p2 = 0 then
    let r := h.request d act
    if r.2 then (start r.1 d).pieceIn d last else r.1
  else match h.xferOf d.op with
    | some x =>
      if x.src.code == d.src.code && x.p0 == d.p0 && x.next == d.p2 then h.pieceIn d last
      else (h.pieceLost d.op act).complete d stValue
    | none => h.complete d stValue

/-! ## CFG_WRITE (R435) -/

/-- CFG ends with a refusal. -/
def Hw.cfgStop (h : Hw) (d : Desc) (st detail ev : Nat) : Hw := (h.complete d st true (detail := detail) (event := ev)).actSet .cfg false

/-- The write goes to the slot that is not applied: header invalidated, pages, header. -/
def Hw.cfgPush (h : Hw) (c : CfgImage) (d : Option Desc) : Hw :=
  let slot := if h.fget R.SUP_CFG_STATUS_APPLIED = 1 then 1 else 0
  ((h.nvPush (.cfgInval slot none)).nvPush (.cfgData slot (c.bytes.drop 256))).nvPush (.cfgHeader slot c d true)

/-- An authorised image: SEQ, the tables, the keys, class S fields in a running mode (R440), then the write. -/
def Hw.cfgAccept (h : Hw) (o : Otp) (d : Desc) (c : CfgImage) : Hw :=
  if h.fget R.SUP_CFG_STATUS_APPLIED ≠ 0 ∧ serialLater c.seq (h.reg R.SUP_CFG_SEQ).toNat = false then h.cfgStop d stValue 0 0
  else match h.tableRefusal c with
    | some e => (h.raise e.1 e.2.1 e.2.2).cfgStop d stValue 0 e.1
    | none =>
      if c.common.recs.any (fun r => match r with
          | .revoke m _ => !o.keepsAdmin m
          | _ => false) then h.cfgStop d stValue 0 0
      else match (if h.cfgFree then none else h.firstS c) with
        | some a => (h.raise 0x0109 a).cfgStop d stMode 1 0x0109
        | none => (h.runCmd d).cfgPush c (some d)

/-- The last piece has come: the image is verified before any MRAM write. -/
def Hw.cfgLast (h : Hw) (o : Otp) (d : Desc) : Hw :=
  match d.obj with
  | .cfg c =>
    if h.imageReason o c ≠ 0 then h.cfgStop d stAuth 0 0
    else
      let r := h.sectionCheck o c
      if r.2 then r.1.cfgAccept o d c else r.1.cfgStop d stAuth 0 0x010F
  | _ => h.cfgStop d stAuth 0 0

/-- CFG_WRITE: CONFLICT while a conflict stands (R437). -/
def Hw.cmdCfgWrite (h : Hw) (o : Otp) (d : Desc) : Hw :=
  if h.fbit R.SUP_CFG_STATUS_CONFLICT then h.complete d stConflict
  else h.piece d .cfg (fun h _ => h) (fun h d => h.cfgLast o d)

/-- CFG_WRITE (R435). -/
def execCfgWrite (d : Desc) (s : State) : Host.Outcome State Fault Refusal :=
  onHwO s (fun o h => h.hostCmd d 0x0801 (fun h d => h.cmdCfgWrite o d))

/-! ## CFG_READ and CFG_CHOOSE -/

/-- CFG_READ (R344): the slot's bytes from P2, as many as the buffer takes. -/
def Hw.cmdCfgRead (h : Hw) (d : Desc) : Hw :=
  if 1 < d.p0 ∨ d.p2 % 8 ≠ 0 ∨ 262144 < d.p2 then h.complete d stValue
  else
    let a := cfgBase d.p0 + d.p2
    let n := min d.len (262144 - d.p2)
    match (if n = 0 then none else h.uncorrIn a n) with
    | some g => (h.uncorrRead g 2).complete d stFailed (event := 0x8001)
    | none => (if n = 0 then h else h.corrRead a n).complete d stOk false 0 0 262144 (out := h.mbs a n)

/-- CFG_READ. -/
def execCfgRead (d : Desc) (s : State) : Host.Outcome State Fault Refusal := onHw s (fun h => h.hostCmd d 0x0802 Hw.cmdCfgRead)

/-- CFG_CHOOSE in STOP (R437), once admitted: the other slot's header page is invalidated first. -/
def Hw.startCfgChoose (h : Hw) (d : Desc) : Hw :=
  if h.mode ≠ .stop then h.cfgStop d stMode h.mode.code 0
  else if 1 < d.p0 ∨ h.slotAuth d.p0 = false then h.cfgStop d stValue 0 0
  else match h.tableRefusal ((h.cfgSlot d.p0).getD {}) with
    | some e => (h.raise e.1 e.2.1 e.2.2).cfgStop d stValue 0 e.1
    | none => (h.runCmd d).nvPush (.cfgInval (1 - d.p0) (some d))

/-- CFG_CHOOSE: checked by R58 to R62 under CFG. -/
def Hw.cmdCfgChoose (h : Hw) (d : Desc) : Hw :=
  let r := h.request d .cfg
  if r.2 then r.1.startCfgChoose d else r.1

/-- CFG_CHOOSE. -/
def execCfgChoose (d : Desc) (s : State) : Host.Outcome State Fault Refusal := onHw s (fun h => h.hostCmd d 0x0803 Hw.cmdCfgChoose)

/-! ## What the page engine's writes of a slot do when they are done -/

/-- The command waits for its values (R439, R440). -/
def Hw.latchWait (h : Hw) (d : Desc) (addr : Option Nat) (res0 res1 event : Nat) : Hw :=
  ({ h with hif := { h.hif with latching := h.hif.latching ++ [({ d := d, addr := addr, res0 := res0, res1 := res1, event := event } : Latch)] } }).latchDone

/-- A header page is invalid: the slot is not intact; for CFG_CHOOSE the chosen slot is applied (R437). -/
def cfgInvalDone (h : Hw) (o : Otp) (slot : Nat) (choose : Option Desc) : Hw × Otp :=
  let h1 := (h.setSlot slot none).cfgFlags slot false false 1
  match choose with
  | none => (h1, o)
  | some d =>
    match h1.cfgSlot (1 - slot) with
    | none => (h1.cfgStop d stValue 0 0, o)
    | some c =>
      let r := cfgApply (h1.fset R.SUP_CFG_STATUS_CONFLICT 0) o (1 - slot) c h1.cfgHow
      ((r.1.raise 0x0108 (1 - slot) c.seq).latchWait d none 0 0 0x0108, r.2)

/-- The header page is written: the slot is intact and authorised, and its configuration is applied (R435, R438); where a flysheet's
staging wrote it, the slot stays invalid until the switch commits (R106). -/
def cfgHeaderDone (h : Hw) (o : Otp) (slot : Nat) (c : CfgImage) (d : Option Desc) (apply : Bool) : Hw × Otp :=
  let h1 := ((h.setMbs (cfgBase slot) (c.bytes.take 256)).setSlot slot (some c)).useInc 7
  let r := if apply then cfgApply (h1.cfgFlags slot true true 0) o slot c h1.cfgHow else (h1.slotClass o slot, o)
  match d with
  | some d => (r.1.latchWait d none c.seq slot 0x0106, r.2)
  | none => r

end Sys2Proof.Machine
end

