-- ==== Sys2Proof/Machine/Prog.lean ====
section
/-! DEFINITION. Programs: verification of a pitch file (R429, R432), the task-set check (R64), loading and striking (R63, R94, R477). -/

namespace Sys2Proof.Machine

/-! ## The task rows of a pitch file -/

def Pitch.task (p : Pitch) (t : Nat) : TaskRow := p.tasks.getD t {}
def TaskRow.kind (r : TaskRow) : Nat := bitsOf r.ctrl 0 2
def TaskRow.prio (r : TaskRow) : Nat := bitsOf r.ctrl 2 4
def TaskRow.ep (r : TaskRow) : Nat := bitsOf r.ctrl 6 2
def TaskRow.side (r : TaskRow) : Nat := bitsOf r.ctrl 8 1
def TaskRow.safety (r : TaskRow) : Bool := r.ctrl.testBit 9
def TaskRow.pol (r : TaskRow) : Nat := bitsOf r.ctrl 11 2
def TaskRow.limit (r : TaskRow) : Nat := bitsOf r.ctrl 13 4
def TaskRow.per (r : TaskRow) : Nat := bitsOf r.period 0 26
def TaskRow.pha (r : TaskRow) : Nat := bitsOf r.phase 0 26
def TaskRow.dead (r : TaskRow) : Nat := bitsOf r.deadline 0 26
def TaskRow.retFirst (r : TaskRow) : Nat := bitsOf r.retain 0 12
def TaskRow.retLines (r : TaskRow) : Nat := bitsOf r.retain 16 13

/-- The configured tasks. -/
def Pitch.live (p : Pitch) : List Nat := (List.range 32).filter (fun t => (p.task t).kind != 0)

/-- A task's windows as (first unit, units). -/
def Pitch.inW (p : Pitch) (t : Nat) : Nat × Nat := let d := p.descs.getD t {}; (bitsOf d.w0 0 10, bitsOf d.w0 16 9)
def Pitch.outW (p : Pitch) (t : Nat) : Nat × Nat := let d := p.descs.getD t {}; (bitsOf d.w1 0 10, bitsOf d.w1 16 8)

/-- A task's items: first, inputs, outputs. -/
def Pitch.span (p : Pitch) (t : Nat) : Nat × Nat × Nat :=
  let d := p.descs.getD t {}
  (bitsOf d.w2 0 12, bitsOf d.w2 12 12, bitsOf d.w3 0 12)

/-- Whether two unit or line ranges (first, number) overlap. -/
def overlaps (a b : Nat × Nat) : Bool := a.2 != 0 && b.2 != 0 && decide (a.1 < b.1 + b.2 ∧ b.1 < a.1 + a.2)

/-- A window inside the pool (R70). -/
def inPool (w : Nat × Nat) : Bool := w.2 == 0 || decide (0x40 ≤ w.1 ∧ w.1 + w.2 ≤ 0x400)

/-- The input window limit of Table 3-4 in bytes. -/
def TaskRow.inLimit (r : TaskRow) : Nat :=
  if r.kind ≠ 1 then 16384 else if r.per < 100 then 256 else if r.per < 500 then 2048 else if r.per < 1000 then 8192 else 16384

/-- Whether an item is valid in a window of `bytes` bytes (R72, Table 3-6). -/
def itemOk (out : Bool) (bytes : Nat) (it : ItemRow) : Bool :=
  it.kind != 3 && it.out == out && it.off % (if it.kind = 0 then 4 else 8) == 0 && decide (it.off + it.size ≤ bytes) &&
    (match it.kind with
      | 0 => decide (it.group < 6)
      | 1 => decide (it.channel < 48)
      | _ => decide (1 ≤ it.flen ∧ it.foff + it.flen ≤ 1432))

/-- Items `n` from index `i`. -/
def Pitch.itemsFrom (p : Pitch) (i n : Nat) : List ItemRow := (List.range n).map (fun j => p.items.getD (i + j) {})

/-- Output items of a task. -/
def Pitch.outsOf (p : Pitch) (t : Nat) : List ItemRow := let s := p.span t; p.itemsFrom (s.1 + s.2.1) s.2.2

/-- Whether a process-data field lies in a field of the FIELDS section. -/
def FieldRow.holds (f : FieldRow) (it : ItemRow) : Bool :=
  f.session == it.session && decide (f.offset < it.foff + it.flen ∧ it.foff < f.offset + f.len)

/-- R64 reason 7 for task `t`: an output item on a channel or field that it does not own alone, or an entry of its own that another
owner's overlaps. -/
def Pitch.ownBad (p : Pitch) (t : Nat) : Bool :=
  (p.outsOf t).any (fun it => match it.kind with
    | 0 => false
    | 1 => !p.chans.any (fun c => c.channel == it.channel && c.owner == t)
    | _ => !p.fields.any (fun f => f.owner == t && f.session == it.session && decide (f.offset ≤ it.foff ∧ it.foff + it.flen ≤ f.offset + f.len))) ||
  p.chans.any (fun c => c.owner == t && decide ((p.chans.filter (fun x => x.channel == c.channel)).length ≠ 1)) ||
  p.fields.any (fun f => f.owner == t && p.fields.any (fun g => g.owner != t && g.session == f.session &&
    decide (g.offset < f.offset + f.len ∧ f.offset < g.offset + g.len)))

/-- The dispatch target of a task under the configured profiles. -/
def Hw.pitchTarget (h : Hw) (r : TaskRow) : Nat := r.ep * 2 + (if h.cfgProfile r.ep = 3 then r.side else 0)

/-- Whether a task fails check `reason` of Table 3-2. -/
def Hw.taskBad (h : Hw) (p : Pitch) (reason t : Nat) : Bool :=
  let r := p.task t
  let rest := p.live.filter (fun u => decide (u < t))
  match reason with
  | 1 => r.kind == 1 && (decide (r.per < 50) || decide (60000000 < r.per))
  | 2 => r.kind == 1 && decide (r.per ≤ r.pha)
  | 3 => (r.kind == 1 && decide (r.per < r.dead)) || (r.kind == 3 && (decide (r.dead < 50) || decide (60000000 < r.dead)))
  | 4 => !inPool (p.inW t) || !inPool (p.outW t) || overlaps (p.inW t) (p.outW t) ||
      rest.any (fun u => overlaps (p.inW t) (p.inW u) || overlaps (p.inW t) (p.outW u) || overlaps (p.outW t) (p.inW u) || overlaps (p.outW t) (p.outW u))
  | 5 => decide (r.inLimit < (p.inW t).2 * 64) || decide (8192 < (p.outW t).2 * 64)
  | 6 =>
    let s := p.span t
    decide (4096 < s.1 + s.2.1 + s.2.2) || !(p.itemsFrom s.1 s.2.1).all (itemOk false ((p.inW t).2 * 64)) ||
      !(p.itemsFrom (s.1 + s.2.1) s.2.2).all (itemOk true ((p.outW t).2 * 64))
  | 7 => p.ownBad t
  | 8 =>
    let same := p.live.filter (fun u => decide (u ≤ t) && h.pitchTarget (p.task u) == h.pitchTarget r)
    decide (8 < (same.map (fun u => (p.task u).prio)).eraseDups.length)
  | 9 =>
    h.fbit R.PAIR_CFG_ENABLE && r.kind == 1 &&
      (let cs := p.live.filter (fun u => decide (u ≤ t) && (p.task u).kind == 1)
       let s := cs.foldl (fun (x : Nat × Nat) u => (x.1 * (p.task u).per + (p.inW u).2 * 64 * x.2, x.2 * (p.task u).per)) (0, 1)
       decide (100 * s.2 < s.1))
  | 10 => (r.retLines != 0 && decide (4096 < r.retFirst + r.retLines)) ||
      rest.any (fun u => overlaps (r.retFirst, r.retLines) ((p.task u).retFirst, (p.task u).retLines))
  | 11 => r.pol == 3
  | 12 => r.safety && r.pol != 0 && r.limit == 0
  | 13 => p.timers.any (fun x => x.owner == t && decide ((p.timers.filter (fun y => y.index == x.index)).length ≠ 1))
  | _ => false

/-- The first failing reason of Table 3-2 and its task (R64). -/
def Hw.taskCheck (h : Hw) (p : Pitch) : Option (Nat × Nat) :=
  ((List.range 13).flatMap (fun i => p.live.map (fun t => (i + 1, t)))).find? (fun x => h.taskBad p x.1 x.2)

/-! ## Verification -/

/-- Whether every range with a payload has the hash of the manifest (R432). -/
def Pitch.hashesOk (p : Pitch) : Bool :=
  p.code.all (fun c => c.kept || c.hashOk) && p.data.all (fun d => d.noinit || d.hashOk) && p.retainInit.all (fun d => d.noinit || d.hashOk)

/-- Verification of a pitch file (R429): the reason of Table 16-4 where it fails. -/
def Hw.pitchCheck (h : Hw) (o : Otp) (p : Pitch) : Hw × Option Nat :=
  let r := h.sigCheck o 2 p.hdr (p.layoutOk && p.layout != 0 && p.hdr.objId == p.layout)
  match r.2 with
  | some _ => r
  | none => if p.hashesOk then r else (r.1.verifyFail 2 p.hdr 5, some 5)

/-! ## Loading (R63) -/

/-- The bytes of a range padded with zeros to its length. -/
def rangeBytes (n : Nat) (bs : List Byte) : List Byte := bs.take n ++ List.replicate (n - bs.length) 0#8

/-- The per-task registers of task `t` from the pitch file. -/
def Hw.loadTask (h : Hw) (p : Pitch) (t : Nat) : Hw :=
  let r := p.task t
  let put := fun (h : Hw) (x : Nat × Nat) => h.setReg x.1 (w32 x.2)
  let h1 := [(R.TSK_Tn_PERIOD t, r.period), (R.TSK_Tn_PHASE t, r.phase), (R.TSK_Tn_CTRL t, r.ctrl), (R.TSK_Tn_DEADLINE t, r.deadline),
    (R.TSK_Tn_RETAIN t, r.retain), (R.EXE_Tn_ENTRY t, r.entry), (R.EXE_Tn_GP t, r.gp), (R.EXE_Tn_STK_HI t, r.stkHi), (R.EXE_Tn_STK_LO t, r.stkLo),
    (R.WDG_Tn_MIN t, r.wdgMin), (R.WDG_Tn_MAX t, r.wdgMax)].foldl put h
  h1.setTstate t (if r.kind = 0 then 7 else 0)

/-- The item table. -/
def Hw.loadItems (h : Hw) (p : Pitch) : Hw :=
  let h1 := { h with regs := tfilter (fun a => a < 0x40038000 || 0x40040000 ≤ a) h.regs }
  (p.items.zipIdx).foldl (fun h x => (h.setReg (0x40038000 + x.2 * 8) (w32 x.1.w0)).setReg (0x40038004 + x.2 * 8) (w32 x.1.w1)) h1

/-- A window descriptor, CYCLE and DUE_NS 0. -/
def Hw.loadDesc (h : Hw) (p : Pitch) (t : Nat) : Hw :=
  let d := p.descs.getD t {}
  h.setMbs (imgBase + t * 32) (leBytes 4 d.w0 ++ leBytes 4 d.w1 ++ leBytes 4 d.w2 ++ leBytes 4 d.w3 ++ List.replicate 16 0#8)

/-- A data range as it starts: its payload, or zeros. -/
def DataRange.init (d : DataRange) : List Byte := if d.noinit then List.replicate d.len 0#8 else rangeBytes d.len d.bytes

/-- Code, initial data; the lines of every cache are invalidated (R169). -/
def Hw.loadCode (h : Hw) (p : Pitch) : Hw :=
  p.code.foldl (fun h c => if c.kept then h else h.setMbs (codeBase + c.start) (rangeBytes c.len c.bytes)) { h with exe := { h.exe with caches := [] } }
def Hw.loadData (h : Hw) (p : Pitch) : Hw :=
  p.data.foldl (fun h d => h.setMbs (coreToSup d.start) d.init) { h with exe := { h.exe with caches := [] } }

/-- A timer entry as a pitch file allocates it (Table 3-11). -/
def TimerRow.entry (x : TimerRow) : Timer := { w0 := x.typ % 4 + 64 + x.owner % 32 * 128 + x.ident % 65536 * 65536 }

/-- The timer table and the edge bits. -/
def Hw.loadTimers (h : Hw) (p : Pitch) : Hw :=
  { h with tsk := { h.tsk with timers := p.timers.foldl (fun t x => tset {} t x.index x.entry) [],
                               prime := p.edges.foldl (fun t e => tset false t e.inst (!e.cleared)) [],
                               edgeIdent := p.edges.foldl (fun t e => tset 0 t e.inst e.ident) [] } }

/-- Whether a task of the program owns byte `o` of session `s`'s dataset. -/
def Pitch.ownsByte (p : Pitch) (s o : Nat) : Bool := p.fields.any (fun f => f.session == s && decide (f.offset ≤ o ∧ o < f.offset + f.len))

/-- The initial value of a dataset byte. -/
def Pitch.initByte (p : Pitch) (s o : Nat) : Byte :=
  p.sesInit.foldl (fun b x => if x.session = s ∧ x.offset ≤ o ∧ o < x.offset + x.bytes.length then x.bytes.getD (o - x.offset) 0#8 else b) 0#8

/-- The end of what a program says of a session's dataset. -/
def Pitch.sesEnd (p : Pitch) (s : Nat) : Nat :=
  max ((p.fields.filter (·.session == s)).foldl (fun m f => max m (f.offset + f.len)) 0)
    ((p.sesInit.filter (·.session == s)).foldl (fun m x => max m (x.offset + x.bytes.length)) 0)

/-- A session's dataset as program `p` takes it over from program `q` (R117, R267): an owned byte keeps the value last released, or is 0 where
none was; a byte that no task owns takes its initial value. -/
def Pitch.sesBytes (p q : Pitch) (s : Nat) (old : List Byte) : List Byte :=
  (List.range (max (p.sesEnd s) (q.sesEnd s))).map (fun o =>
    if p.ownsByte s o then (if q.ownsByte s o then old.getD o 0#8 else 0#8) else p.initByte s o)

/-- The dataset bytes of the publish sessions at a change from program `q` to `p`. -/
def Hw.loadSessions (h : Hw) (q p : Pitch) : Hw :=
  let ss := ((p.fields ++ q.fields).map (·.session) ++ (p.sesInit ++ q.sesInit).map (·.session)).eraseDups
  ss.foldl (fun h i =>
    let s := h.sess i
    let b := p.sesBytes q i s.relBuf
    h.setSess i { s with relBuf := b, txBuf := h.pdForced 1 i b }) h

/-- The regions that hold nothing of an earlier program: code SRAM, data SRAM, the image region. -/
def Hw.clearSrams (h : Hw) : Hw :=
  { h with mem := tfilter (fun a => !((codeBase ≤ a && a < codeBase + 0x1000000) || (dataBase ≤ a && a < dataBase + 0x800000) ||
                                       (imgBase ≤ a && a < imgBase + 0x10000))) h.mem }

/-- What a program change leaves of the cycles and of the released values: nothing (R75, R97). -/
def Hw.clearTasks (h : Hw) : Hw :=
  { h with tsk := { h.tsk with cycles := [], pendEv := [], epoch := none, pcAcc := [], pcPend := [], wins := [], prevDi := [] },
           fld := { h.fld with relDo := [], relAo := [], carDo := [], carAo := [], driven := [], rekind := [], late := [] },
           net := { h.net with sess := h.net.sess.map (fun p => (p.1, { p.2 with relBuf := [], txBuf := [], released := [] })) } }

/-- The retain window takes a new layout: zeros and the initial retain values; an equal layout keeps it. -/
def Hw.loadRetain (h : Hw) (p : Pitch) : Hw :=
  let h1 := { h with mem := tfilter (fun a => a < retBase || retBase + 0x40000 ≤ a) h.mem }
  p.retainInit.foldl (fun h d => h.setMbs (coreToSup d.start) d.init) h1

/-- A verified program is loaded: every per-task register, table and memory that the pitch file gives. -/
def Hw.install (h : Hw) (p : Pitch) : Hw :=
  let h1 := (h.clearSrams.clearTasks.loadCode p).loadData p
  let h2 := (List.range 32).foldl (fun h t => (h.loadTask p t).loadDesc p t) (h1.loadItems p)
  let h3 := ((h2.loadTimers p).loadSessions {} p).setReg R.EXE_VBASE (w32 p.vbase)
  ({ h3 with prog := p }).fset R.SUP_MODE_STATUS_PROG_VALID 1

/-- The loaded program is struck (R94): PROG_VALID 0, no task configured, the force table cleared. -/
def Hw.strike (h : Hw) : Hw :=
  let h1 := (List.range 32).foldl (fun h t => h.loadTask {} t) (h.clearTasks.fset R.SUP_MODE_STATUS_PROG_VALID 0)
  ({ h1 with prog := {} }).clearForces 3

/-! ## PROG_STRIKE -/

/-- PROG_STRIKE once admitted: RES0 the forces lost. -/
def Hw.startStrike (h : Hw) (d : Desc) : Hw :=
  let n := (h.tsk.forces.filter (fun p => p.2.active)).length
  (h.strike.actSet .pdl false).complete d stOk true n (event := if n = 0 then 0 else 0x3013)

/-- PROG_STRIKE (R94). -/
def Hw.cmdStrike (h : Hw) (d : Desc) : Hw :=
  let r := h.request d .pdl
  if r.2 then r.1.startStrike d else r.1

/-- PROG_STRIKE. -/
def execProgStrike (d : Desc) (s : State) : Host.Outcome State Fault Refusal := onHw s (fun h => h.hostCmd d 0x0202 Hw.cmdStrike)

/-! ## PROG_LOAD (R477) -/

/-- The NOR program slot that the marker does not name. -/
def Hw.progTarget (h : Hw) : Nat := 1 - h.marker.prog % 2

/-- A program slot's content. -/
def Hw.norProg (h : Hw) (i : Nat) : NorSlot := tget {} h.nvs.norProg i
def Hw.setNorProg (h : Hw) (i : Nat) (x : NorSlot) : Hw := { h with nvs := { h.nvs with norProg := tset {} h.nvs.norProg i x } }

/-- A slot is retired before anything inside it is erased (R376). -/
def Hw.retireProg (h : Hw) (i : Nat) : Hw := (h.retireSlot (2 + i)).setNorProg i { retired := true }

/-- The first piece: the unused slot is retired; with P0 = 0 the loaded program is struck. -/
def Hw.progStart (h : Hw) (d : Desc) : Hw := (if d.p0 = 0 then h.strike else h).retireProg h.progTarget

/-- PDL ends with FAILED. -/
def Hw.progFail (h : Hw) (d : Desc) (detail res2 ev : Nat) : Hw :=
  (h.complete d stFailed true 0 0 res2 detail ev).actSet .pdl false

/-- The last piece has come: verification, the task set, then the slot's VALID word. -/
def Hw.progLast (h : Hw) (o : Otp) (d : Desc) : Hw :=
  match d.obj with
  | .pitch p =>
    let r := h.pitchCheck o p
    match r.2 with
    | some n => r.1.progFail d (if n = 1 then 2 else 1) 0 0x010F
    | none =>
      match r.1.taskCheck p with
      | some (n, t) => (r.1.raise 0x3004 n t).progFail d 3 n 0x3004
      | none =>
        let h1 := r.1.runCmd d
        { h1 with nvs := { h1.nvs with norOps := h1.nvs.norOps ++ [.progSlot h.progTarget p d (d.p0 == 0 || d.p1 == 1)] } }
  | _ => (h.verifyFail 2 { magic := 0 } 1).progFail d 2 0 0x010F

/-- The slot is programmed: VALID, the program in code SRAM with P0 = 0, the marker where R477 switches it. -/
def Hw.progDone (h : Hw) (slot : Nat) (p : Pitch) (d : Desc) (mark : Bool) : Hw :=
  let h1 := h.setNorProg slot { valid := true, pitch := some p }
  let h2 := if d.p0 = 0 then (if h1.marker.layout = p.layout then h1 else h1.loadRetain p).install p else h1
  let h3 := if mark then h2.nvPush (.marker { (h2.marker) with prog := slot, layout := p.layout }) else h2
  (h3.actSet .pdl false).complete d stOk true (p.layout % 2 ^ 32) (p.layout / 2 ^ 32)

/-- PROG_LOAD: P0 and P1 as Table 12-8 gives them. -/
def Hw.cmdProgLoad (h : Hw) (o : Otp) (d : Desc) : Hw :=
  if 1 < d.p0 ∨ 1 < d.p1 ∨ (d.p0 = 0 ∧ d.p1 ≠ 0) then h.complete d stValue
  else h.piece d .pdl Hw.progStart (fun h d => h.progLast o d)

/-- PROG_LOAD_SRAM (R477): P0 = 0. -/
def execProgLoadSram (d : Desc) (s : State) : Host.Outcome State Fault Refusal :=
  onHwO s (fun o h => h.hostCmd d 0x0201 (fun h d => h.cmdProgLoad o { d with p0 := 0 }))

/-- PROG_LOAD_NOR (R477): P0 = 1. -/
def execProgLoadNor (d : Desc) (s : State) : Host.Outcome State Fault Refusal :=
  onHwO s (fun o h => h.hostCmd d 0x0201 (fun h d => h.cmdProgLoad o { d with p0 := 1 }))

/-! ## PROG_INFO -/

/-- `n` bytes that the spec does not fix. -/
def Hw.freeBytes (h : Hw) (n : Nat) : Hw × List Byte :=
  ({ h with free := h.free + n }, (List.range n).map (fun i => (Config.freeValue (h.free + i)).setWidth 8))

/-- PROG_INFO: 256 bytes, whose layout the spec does not give. -/
def Hw.cmdProgInfo (h : Hw) (d : Desc) : Hw :=
  if !d.room 256 then h.complete d stValue
  else let r := h.freeBytes 256; r.1.complete d stOk (out := r.2)

/-- PROG_INFO. -/
def execProgInfo (d : Desc) (s : State) : Host.Outcome State Fault Refusal := onHw s (fun h => h.hostCmd d 0x0203 Hw.cmdProgInfo)

end Sys2Proof.Machine
end

