-- ==== Sys2Proof/Machine/Evr.lean ====
section
/-! DEFINITION. The event recorder: the writer with its rate limits (R388, R390), freezes and reading (R392 to R395), the authorised
clear (R396 to R398), the archive (R399, R400), the rate table's registers (R389). -/

namespace Sys2Proof.Machine

/-! ## The writer -/

/-- A record reaches the ring, or during a freeze the holding queue; one that finds the queue full ends the freeze (R393, R394). -/
def Hw.place (h : Hw) (e : Ev) : Hw :=
  if h.evr.frozen.isNone then h.ringWrite e false
  else if h.evr.heldq.length < 256 ∧ h.evr.injHeld = false then ({ h with evr := { h.evr with heldq := h.evr.heldq ++ [e] } }).evrCounts
  else ({ h with evr := { h.evr with injHeld := false } }).asInj h.evr.injHeld (fun h => h.freezeEnd 3 [e])

/-- An occurrence of a code with a rate entry takes a token, or is suppressed and counted (R386, R390); true where it is recorded. -/
def Hw.rateTake (h : Hw) (i : Nat) : Hw × Bool :=
  let r := h.rate i
  if r.tokens = 0 then
    let h1 := h.setRate i { r with supp := satInc 16 r.supp, lastSupp := h.clk.up }
    ({ h1 with nvs := { h1.nvs with rateTotals := tset 0 h1.nvs.rateTotals i (satInc 16 (tget 0 h1.nvs.rateTotals i)) } }, false)
  else (h.setRate i { r with tokens := r.tokens - 1, since := if r.tokens = r.burst then h.clk.up else r.since }, true)

/-- The writer handles one request: rate limits, then its record. -/
def Hw.writeEv (h : Hw) (e : Ev) : Hw :=
  match h.rateOf e.code with
  | none => h.place e
  | some i => let r := h.rateTake i; if r.2 then r.1.place e else r.1

/-- An event that the recorder itself writes. -/
def Hw.ownEv (h : Hw) (code p0 p1 p2 : Nat) : Ev :=
  { code := code, p0 := p0, p1 := p1, p2 := p2, time := h.clk.tb, src := h.mode.code, injected := h.evr.injecting, unsync := !h.evr.synced }

/-- The loss summary 0x9001 once the queue has room (R388). -/
def Hw.lossSummary (h : Hw) : Hw :=
  if h.evr.lostCount = 0 then h
  else
    let e := h.ownEv 0x9001 h.evr.lostCount h.evr.lostCode (satN 32 ((h.clk.up - h.evr.lostAt) / 1000))
    ({ h with evr := { h.evr with lostCount := 0, lostInj := false } }).place { e with injected := e.injected || h.evr.lostInj }

/-- The writer takes the next request: not while ARMED is 0, during a clear, nor while a freeze begins (R388, R393, R398). -/
def Hw.recordWrite (h : Hw) : Hw :=
  if h.fbit R.NVS_STATUS_ARMED = false ∨ h.evr.clearing.isSome ∨ h.evr.freezing.isSome then h
  else match h.evr.inq with
    | [] => h
    | e :: r => ((({ h with evr := { h.evr with inq := r } }).writeEv e).lossSummary).evrCounts

/-- RECORD_WRITE (R385, R388). -/
def execRecordWrite (s : State) : Host.Outcome State Fault Refusal := onHw s Hw.recordWrite

/-- EVENT_REQUEST (R388): a raising circuit's request. No circuit of the module raises a code from 0xC000: those of Forerunner
recorders and of the application (R14). -/
def execEventRequest (code : BitVec 16) (p0 p1 p2 : Word) (s : State) : Host.Outcome State Fault Refusal :=
  onHw s (fun h => if 0xC000 ≤ code.toNat then h else (h.raise code.toNat p0.toNat p1.toNat p2.toNat).evrCounts)

/-- A bucket gains a token (R390): with occurrences suppressed it is spent at once on the summary 0x9002. -/
def Hw.tokenRefill (h : Hw) (i : Nat) : Hw :=
  let r := h.rate i
  if r.burst ≤ r.tokens ∨ r.code = 0 then h
  else
    let h1 := h.untilUp (r.since + r.period * 1000000)
    let n := r.since + r.period * 1000000
    if r.supp = 0 then h1.setRate i { r with tokens := r.tokens + 1, since := n }
    else
      (h1.setRate i { r with supp := 0, since := n }).raise 0x9002 r.code r.supp (satN 32 ((h1.clk.up - r.lastSupp) / 1000))

/-- TOKEN_REFILL. -/
def execTokenRefill (i : Fin 1024) (s : State) : Host.Outcome State Fault Refusal := onHw s (fun h => h.tokenRefill i.val)

/-- The hourly save of the suppression counters, eight pages one after another (R386); without power there is none. -/
def Hw.rateSave (h : Hw) : Hw :=
  let t := h.nvs.ratesAt + 3600000000000
  let h1 := h.untilUp t
  let h2 := { h1 with nvs := { h1.nvs with ratesAt := t } }
  if h.powered then
    (List.range 8).foldl (fun h p => h.nvPush (.rates p ((List.range 128).map (fun j => tget 0 h.nvs.rateTotals (p * 128 + j))))) h2
  else h2

/-- RATE_COUNTER_SAVE. -/
def execRateCounterSave (s : State) : Host.Outcome State Fault Refusal := onHw s Hw.rateSave

/-! ## Reading -/

/-- The bytes of a 32-byte record slot at an address. -/
def Hw.slotBytes (h : Hw) (a : Nat) : List Byte := h.mbs a 32

/-- Whether a slot's CRC matches and no group of it is uncorrectable (R384). -/
def Hw.slotSound (h : Hw) (a : Nat) : Bool :=
  crc16 0xFFFF (h.mbs a 28) == h.ml (a + 28) 2 && (h.badGroup a 32).isNone

/-- The addresses of the slots whose MARK is 0xA5 in a range. -/
def Hw.marked (h : Hw) (base size : Nat) : List Nat :=
  (h.mem.filter (fun x => decide (base ≤ x.1 ∧ x.1 < base + size) && x.1 % 32 == 31 && x.2 == 0xA5#8)).map (fun x => x.1 - 31)

/-- The sequence number that a ring slot's place gives: the newest before NEXT_SEQ. -/
def Hw.placeSeq (h : Hw) (a : Nat) : Nat :=
  let next := h.fget R.EVR_SEQ_NEXT_SEQ
  let slot := (a - 0x50100000) / 32
  let top := (next + 2 ^ 32 - h.recPtr.offset) % 65536
  (next + 2 ^ 32 - 1 - (top + 65536 - 1 - slot) % 65536) % 2 ^ 32

/-- The ring's records: sequence and bytes; a damaged slot shows 0x5A in byte 31 (R384). -/
def Hw.ringRecs (h : Hw) : List (Nat × List Byte) :=
  (h.marked 0x50100000 0x200000).map (fun a =>
    if h.slotSound a then (h.ml (a + 12) 4, h.slotBytes a) else (h.placeSeq a, h.mbs a 31 ++ [0x5A#8]))

/-- The archive's records. -/
def Hw.archRecs (h : Hw) : List (Nat × List Byte) :=
  ((h.marked 0x66000000 0xA000000).filter h.slotSound).map (fun a => (h.ml (a + 12) 4, h.slotBytes a))

/-- The records that a read may return, by distance from `first`, ring before archive, none before CLEAR_SEQ (R392). -/
def Hw.readable (h : Hw) (first : Nat) : List (Nat × List Byte) :=
  let top := (h.fget R.EVR_SEQ_NEXT_SEQ + 2 ^ 32 - 1) % 2 ^ 32
  let keep := fun (x : Nat × List Byte) => !serialLater h.recPtr.clearSeq x.1 && !serialLater x.1 top && !serialLater first x.1
  ((h.archRecs ++ h.ringRecs).filter keep).foldl (fun t x => tput t ((x.1 + 2 ^ 32 - first) % 2 ^ 32) x.2) []

/-- The lowest sequence that REC_READ can return (EVR_OLDEST); NEXT_SEQ where there is none. -/
def Hw.oldest (h : Hw) : Nat :=
  let next := h.fget R.EVR_SEQ_NEXT_SEQ
  let base := (next + 2 ^ 31) % 2 ^ 32
  match h.readable ((base + 1) % 2 ^ 32) with
  | (d, _) :: _ => (base + 1 + d) % 2 ^ 32
  | [] => next

/-- The ring slot of sequence `s`. -/
def Hw.seqAddr (h : Hw) (s : Nat) : Nat := slotAddr ((s + 2 ^ 32 - h.recPtr.offset) % 65536)

/-- Whether sequence `s` is read from the ring: its slot holds it, or is damaged. -/
def Hw.inRing (h : Hw) (s : Nat) : Bool :=
  let a := h.seqAddr s
  h.ml (a + 31) 1 == 0xA5 && (!h.slotSound a || h.ml (a + 12) 4 == s)

/-- What injection 0x802 makes of the records read: the first of them that lies in the ring is damaged (Table 13-10). -/
def Hw.injRecs (h : Hw) (first : Nat) (rs : List (Nat × List Byte)) : List (Nat × List Byte) :=
  if h.nvs.injRead then
    match rs.findIdx? (fun x => h.inRing ((first + x.1) % 2 ^ 32)) with
    | some i => rs.modify i (fun x => (x.1, x.2.take 31 ++ [0x5A#8]))
    | none => rs
  else rs

/-- The slots of the ring that a REC_READ reads: corrected groups count, uncorrectable ones are recorded (R352, R384). -/
def Hw.slotReads (h : Hw) (first : Nat) (rs : List (Nat × List Byte)) : Hw :=
  ((rs.map (fun x => (first + x.1) % 2 ^ 32)).filter h.inRing).foldl (fun h s =>
    match h.uncorrIn (h.seqAddr s) 32 with
    | some g => h.uncorrRead g 5
    | none => h.corrRead (h.seqAddr s) 32) h

/-- The records of a REC_READ (R392). -/
def Hw.recAnswer (h0 : Hw) (d : Desc) : Hw :=
  let n := if d.src.isEng then min d.p1 (d.len / 32) else d.p1
  let rs0 := (h0.readable d.p0).take n
  let h := h0.slotReads d.p0 rs0
  let rs := h0.injRecs d.p0 rs0
  h.complete d stOk false rs.length ((h.fget R.EVR_SEQ_NEXT_SEQ + 2 ^ 32 - 1) % 2 ^ 32) (event := if d.p2 = 1 then 0x9003 else 0) (out := rs.flatMap (·.2))

/-- An admitted REC_READ with FREEZE = 1 (R393): first 0x9003 is written; the ring stands still from the end of that write. -/
def Hw.startFreeze (h : Hw) (d : Desc) : Hw :=
  let h1 := (h.ringWrite (h.ownEv 0x9003 d.src.code 0 0) false).runCmd d
  { h1 with evr := { h1.evr with freezing := some (d, h.clk.up) } }

/-- Whether a record write still waits. -/
def Hw.recWaits (h : Hw) : Bool := h.nvs.queue.any NvWrite.isRec

/-- The last record write ahead of a freeze has ended: the ring is frozen, and the read follows. -/
def Hw.frozenNow (h : Hw) : Hw :=
  match h.evr.freezing with
  | none => h
  | some (d, since) =>
    if h.recWaits then h
    else
      let h1 := ({ h with evr := { h.evr with freezing := none, frozen := some (d.src, since) } }).fset R.EVR_STATUS_FROZEN 1
      if h1.lateErr d then h1.lateFail d .rrf else h1.recAnswer d

/-- Whether an earlier freeze of this source has ended and is not yet reported (R395). -/
def Hw.endedFor (h : Hw) (d : Desc) : Option Nat :=
  (h.evr.ended.find? (fun x => x.1.code == d.src.code)).map (·.2)

/-- The report of an earlier end: TIMEOUT with the reason. -/
def Hw.endReport (h : Hw) (d : Desc) (r : Nat) : Hw :=
  ({ h with evr := { h.evr with ended := h.evr.ended.filter (fun x => x.1.code != d.src.code) } }).complete d stTimeout (detail := r)

/-- REC_READ (R392, R393, R395). -/
def Hw.cmdRecRead (h : Hw) (d : Desc) : Hw :=
  if d.p1 = 0 ∨ 8192 < d.p1 ∨ 1 < d.p2 ∨ (d.src.isEng = false ∧ d.room (32 * d.p1) = false) then h.complete d stValue
  else match h.endedFor d with
    | some r => h.endReport d r
    | none =>
      if d.p2 = 0 then h.recAnswer d
      else
        let r := h.request d .rrf
        if r.2 then r.1.startFreeze d else r.1

/-- REC_READ. -/
def execRecRead (d : Desc) (s : State) : Host.Outcome State Fault Refusal := onHw s (fun h => h.hostCmd d 0x0501 Hw.cmdRecRead)

/-- REC_RELEASE (R393, R395). -/
def Hw.cmdRecRelease (h : Hw) (d : Desc) : Hw :=
  match h.endedFor d with
  | some r => h.endReport d r
  | none =>
    match h.evr.frozen with
    | none => h.complete d stMode (detail := h.mode.code)
    | some (s, _) =>
      if s.code = d.src.code then (h.freezeEnd 1 []).complete d stOk true (event := 0x9004) else h.complete d stBusy (detail := 1)

/-- REC_RELEASE. -/
def execRecRelease (d : Desc) (s : State) : Host.Outcome State Fault Refusal := onHw s (fun h => h.hostCmd d 0x0502 Hw.cmdRecRelease)

/-- FREEZE_LIMIT: 10 s after admission (R394). -/
def Hw.freezeLimit (h : Hw) : Hw :=
  match h.evr.frozen with
  | some (_, t) => (h.untilUp (t + 10000000000)).freezeEnd 2 []
  | none => h

/-- FREEZE_LIMIT. -/
def execFreezeLimit (s : State) : Host.Outcome State Fault Refusal := onHw s Hw.freezeLimit

/-! ## The authorised clear -/

/-- The highest sequence written. -/
def Hw.topSeq (h : Hw) : Nat := (h.fget R.EVR_SEQ_NEXT_SEQ + 2 ^ 32 - 1) % 2 ^ 32

/-- REC_CHALLENGE (R396): serial, CLEAR_COUNT, highest sequence, 16 bytes of jitter. -/
def Hw.cmdChallenge (h : Hw) (o : Otp) (d : Desc) : Hw :=
  if !d.room 32 then h.complete d stValue
  else
    let r := h.freeBytes 16
    let c := leBytes 8 o.serial ++ leBytes 4 h.recPtrNew.clearCount ++ leBytes 4 h.topSeq ++ r.2
    ({ r.1 with evr := { r.1.evr with challenge := some (c, h.clk.up) } }).complete d stOk true (out := c)

/-- REC_CHALLENGE. -/
def execRecChallenge (d : Desc) (s : State) : Host.Outcome State Fault Refusal :=
  onHwO s (fun o h => h.hostCmd d 0x0503 (fun h d => h.cmdChallenge o d))

/-- CHALLENGE_EXPIRY (R396): 60 s after issue. -/
def Hw.challengeLapse (h : Hw) : Hw :=
  match h.evr.challenge with
  | some (_, t) => let h1 := h.untilUp (t + 60000000000); { h1 with evr := { h1.evr with challenge := none } }
  | none => h

/-- CHALLENGE_EXPIRY. -/
def execChallengeExpiry (s : State) : Host.Outcome State Fault Refusal := onHw s Hw.challengeLapse

/-- The DETAIL of a refused REC_CLEAR (R397): `aux` 1 where the signature verifies over the challenge. -/
def Hw.clearRefusal (h : Hw) (o : Otp) (d : Desc) : Option Nat :=
  match h.evr.challenge with
  | none => some 1
  | some (_, t) =>
    if 60000000000 < h.clk.up - t then some 1
    else if !o.usable d.p0 2 then some 2
    else if (h.msgCheck (d.aux == 1)).2 then none else some 3

/-- The clear begins (R398): the pointer record with CLEAR_STATE 1, then every page. -/
def Hw.clearStart (h : Hw) (d : Option Desc) (r : RecPtr) : Hw :=
  let n := ((h.marked 0x50100000 0x200000).filter h.slotSound).length
  let h1 := ({ h with evr := { h.evr with clearing := some (d, n) } }).fset R.EVR_STATUS_CLEARING 1
  (h1.nvPush (.recPtr r)).nvPush .clearRing

/-- REC_CLEAR once admitted. -/
def Hw.startRecClear (h : Hw) (o : Otp) (d : Desc) : Hw :=
  let r := h.clearRefusal o d
  let h0 := if r = some 3 ∨ r = none then (h.msgCheck true).1 else h
  let h1 := { h0 with evr := { h0.evr with challenge := none } }
  match r with
  | some x => ((h1.asInj (x == 3 && h.sup.injSig) (fun h => h.raise 0x9011 x d.p0)).complete d stAuth true (detail := x) (event := 0x9011)).actSet .rcl false
  | none =>
    let r := h1.recPtrNew
    (h1.runCmd d).clearStart (some d) { r with clearState := 1, clearKey := d.p0, clearSeq := h.fget R.EVR_SEQ_NEXT_SEQ,
                                                clearCount := (r.clearCount + 1) % 2 ^ 32 }

/-- The challenge is consumed (R397). -/
def Hw.spent (h : Hw) : Hw := { h with evr := { h.evr with challenge := none } }

/-- REC_CLEAR (R397): with its completion, whatever the outcome, the challenge is consumed. -/
def Hw.cmdRecClear (h : Hw) (o : Otp) (d : Desc) : Hw :=
  if 15 < d.p0 ∨ d.len ≠ 3309 then (h.complete d stValue).spent
  else
    let r := h.request d .rcl
    if r.2 then r.1.startRecClear o d else if r.1.hif.deferred.any (fun x => x.d == d) then r.1 else r.1.spent

/-- REC_CLEAR. -/
def execRecClear (d : Desc) (s : State) : Host.Outcome State Fault Refusal :=
  onHwO s (fun o h => h.hostCmd d 0x0504 (fun h d => h.cmdRecClear o d))

/-- The pages are zero (R398): the writer starts at slot 0 with 0x9012; the pointer record that opens the page (R385) holds the new OFFSET. -/
def Hw.clearPages (h : Hw) : Hw :=
  match h.evr.clearing with
  | none => h
  | some (_, n) =>
    let next := h.fget R.EVR_SEQ_NEXT_SEQ
    let r := h.recPtrNew
    let h0 := { h with mem := tfilter (fun a => a < 0x50100000 || 0x50300000 ≤ a) h.mem }
    let h1 := h0.nvPush (.recPtr { r with page := 0, firstSeq := next, offset := next })
    h1.ringWrite (h1.ownEv 0x9012 r.clearKey n h.topSeq) false

/-- The 0x9012 record is written: RCL ends, and the pointer record gets CLEAR_STATE 0. -/
def Hw.clearDone (h : Hw) : Hw :=
  match h.evr.clearing with
  | none => h
  | some (d, _) =>
    let h0 := (({ h with evr := { h.evr with clearing := none } }).fset R.EVR_STATUS_CLEARING 0).actSet .rcl false
    let h1 := h0.nvPush (.recPtr { (h0.recPtrNew) with clearState := 0 })
    match d with
    | some d => h1.complete d stOk true (event := 0x9012)
    | none => h1

/-! ## The archive -/

/-- The ring page that is archived next, where the writer has left it: it holds records of 0xA5 and is not the page being filled. -/
def Hw.archPage (h : Hw) : Option Nat :=
  let r := h.recPtrNew
  let p := (h.archFrom + 2 ^ 32 - r.offset) % 65536 / 8
  if serialLater h.archFrom h.topSeq || p = r.page then none
  else if (List.range 8).any (fun i => h.ml (slotAddr (p * 8 + i) + 31) 1 == 0xA5) then some p else none

/-- ARCHIVE_PAGE (R399): it yields to every activity but a freeze, and starts the NOR operation. -/
def Hw.archiveStart (h : Hw) : Hw :=
  if h.fget R.SUP_ADMIT_STATUS_RUNNING &&& 0xFFE ≠ 0 ∨ h.evr.archiving.isSome ∨ h.powered = false then h
  else match h.archPage with
    | none => h
    | some p =>
      ({ h with evr := { h.evr with archiving := some p }, nvs := { h.nvs with norOps := h.nvs.norOps ++ [NorOp.archive p] } }).fset R.EVR_STATUS_ARCHIVING 1

/-- ARCHIVE_PAGE. -/
def execArchivePage (s : State) : Host.Outcome State Fault Refusal := onHw s Hw.archiveStart

/-- The archive address of page index `a`. -/
def archAddr (a : Nat) : Nat := 0x66000000 + a % 655360 * 256

/-- The lowest archived sequence in an address list. -/
def lowestSeq : Nat → List Nat → Nat
  | s, [] => s
  | s, x :: r => lowestSeq (if serialLater s x then x else s) r

/-- A page has been copied: before the first page of a sector the sector is erased, ARCH_LOW moves past its records; ARCH_NEXT and
ARCH_HIGH follow. -/
def Hw.archiveDone (h : Hw) (p : Nat) : Hw :=
  let r := h.recPtrNew
  let a := archAddr r.archNext
  let h1 := if r.archNext % 256 = 0 then { h with mem := tfilter (fun x => x < a || a + 65536 ≤ x) h.mem } else h
  let bs := h1.mbs (0x50100000 + p * 256) 256
  let h2 := h1.setMbs a bs
  let seqs := h2.archRecs.map (·.1)
  let high := ((List.range 8).filter (fun i => h2.ml (a + i * 32 + 31) 1 == 0xA5)).foldl (fun m i =>
    let s := h2.ml (a + i * 32 + 12) 4
    if serialLater s m then s else m) h.archFrom
  let h3 := h2.nvPush (.recPtr { r with archNext := (r.archNext + 1) % 2 ^ 32, archHigh := high, archLow := lowestSeq high seqs })
  ({ h3 with evr := { h3.evr with archiving := none } }).fset R.EVR_STATUS_ARCHIVING 0

/-! ## The rate table's registers -/

/-- EVR_LOOKUP (R389): the severity of a code, its rate entry. -/
def Hw.lookup (h : Hw) (c : Nat) : Hw :=
  let h1 := ((h.fset R.EVR_LOOKUP_CODE c).fset R.EVR_LOOKUP_SEV (severityOf c))
  match h.rateOf c with
  | some i => (h1.fset R.EVR_LOOKUP_LIMITED 1).fset R.EVR_LOOKUP_BUCKET i
  | none => (h1.fset R.EVR_LOOKUP_LIMITED 0).fset R.EVR_LOOKUP_BUCKET 0

/-- EVR_LOOKUP. -/
def execEvrLookup (c : BitVec 16) (s : State) : Host.Outcome State Fault Refusal := onHw s (fun h => h.lookup c.toNat)

/-- A write of EVR_RL_DATA1 commits the entry at INDEX, or is rejected (R389). -/
def Hw.rlCommit (h : Hw) (v : Word) : Hw :=
  if !h.stopClass then h.reject R.EVR_RL_DATA1
  else
    let i := h.fget R.EVR_RL_INDEX_INDEX
    let new := rateOfWords i (h.reg R.EVR_RL_DATA0, v)
    let used := List.range 12 ++ (h.evr.rates.map (·.1)).filter (fun j => decide (12 ≤ j))
    if rateClash (fun j => if j = i then new else h.rate j) used i then ((h.showRate).reject R.EVR_RL_DATA1).raise 0x9031 i
    else (h.setRate i new).showRate

/-- RL_DATA_COMMIT. -/
def execRlDataCommit (v : Word) (s : State) : Host.Outcome State Fault Refusal := onHw s (fun h => h.rlCommit v)

/-! ## Boot -/

/-- The recorder at boot (R387): the writer resumes after the highest record of page PAGE that counts; an interrupted clear is
completed first. -/
def Hw.evrBoot (h : Hw) : Hw :=
  let r := h.recPtr
  let base := 0x50100000 + r.page % 8192 * 256
  let ok := (List.range 8).filter (fun i => h.ml (base + i * 32 + 31) 1 == 0xA5 && h.slotSound (base + i * 32) &&
    !serialLater r.firstSeq (h.ml (base + i * 32 + 12) 4))
  match ok.getLast? with
  | some i => h.fset R.EVR_SEQ_NEXT_SEQ ((h.ml (base + i * 32 + 12) 4 + 1) % 2 ^ 32)
  | none => (h.fset R.EVR_SEQ_NEXT_SEQ r.firstSeq).nvPush (.record base (List.replicate 256 0#8))

/-- R387's completion of a clear that a reset has interrupted. -/
def Hw.evrResume (h : Hw) : Hw :=
  let r := h.recPtr
  if r.clearState = 1 then (h.fset R.EVR_SEQ_NEXT_SEQ r.clearSeq).clearStart none r else h.evrBoot

end Sys2Proof.Machine
end

