-- ==== Sys2Proof/Machine/Force.lean ====
section
/-! DEFINITION. The force table: words, identities and checks (Tables 4-1 and 4-2, R94, R95), the force commands, the effective
instant (R99), relays to the active module (R337). -/

namespace Sys2Proof.Machine

/-! ## Entries (Table 4-1) -/

/-- The entry that words 0, 1 and the VALUE of a command give, with its SOURCE. -/
def forceOf (w0 w1 v src : Nat) : Force :=
  { target := bitsOf w0 0 2, dir := bitsOf w0 2 1, channel := bitsOf w0 8 6, session := bitsOf w0 16 9, off := bitsOf w1 0 11,
    len := bitsOf w1 11 4, fvalid := w1.testBit 15, source := src, value := v }

/-- Identity word 0: TARGET, DIR, CHANNEL, SESSION. -/
def Force.ident (f : Force) : Nat := f.target % 4 + f.dir % 2 * 4 + f.channel % 64 * 256 + f.session % 512 * 65536

/-- Words 0 and 1 of an entry; `pending` its PENDING bit. -/
def Force.word0 (f : Force) : Nat := f.ident + b2n f.active * 8
def Force.word1 (f : Force) (pending : Bool) : Nat :=
  f.off % 2048 + f.len % 16 * 2048 + b2n f.fvalid * 32768 + f.source % 4 * 2 ^ 24 + b2n pending * 2 ^ 30

/-- The 16 bytes of an entry. -/
def Force.bytes (f : Force) (pending : Bool) : List Byte :=
  leBytes 4 f.word0 ++ leBytes 4 (f.word1 pending) ++ leBytes 8 f.value

def Hw.force (h : Hw) (i : Nat) : Force := tget {} h.tsk.forces i
def Hw.setForce (h : Hw) (i : Nat) (f : Force) : Hw := { h with tsk := { h.tsk with forces := tset {} h.tsk.forces i f } }

/-- PENDING of entry `i`. -/
def Hw.forcePend (h : Hw) (i : Nat) : Bool := h.tsk.feffs.any (fun x => x.idx == i)

/-- TSK_FORCE_DATAw shows the entry that INDEX names. -/
def Hw.forceData (h : Hw) (w : Nat) : Word :=
  let i := h.fget R.TSK_FORCE_INDEX_INDEX
  w32 (leNat ((((h.force i).bytes (h.forcePend i)).drop (4 * w)).take 4))

/-! ## Checks (R95, Table 4-2) -/

/-- Reserved bits of words 0 and 1 are 0. -/
def forceResv (w0 w1 : Nat) : Bool :=
  bitsOf w0 4 4 == 0 && bitsOf w0 14 2 == 0 && bitsOf w0 25 7 == 0 && bitsOf w1 16 8 == 0 && bitsOf w1 26 4 == 0 && !w1.testBit 31

/-- The identity is well formed: the fields of the other kind 0, the channel or the byte range in range. -/
def Force.idOk (f : Force) : Bool :=
  if f.target = 2 then f.channel == 0 && decide (1 ≤ f.len ∧ f.len ≤ 8 ∧ f.off + f.len ≤ 1432)
  else f.target != 3 && f.session == 0 && f.off == 0 && f.len == 0 && decide (f.channel < 48)

/-- Unused bits of VALUE are 0. -/
def Force.valueOk (f : Force) : Bool :=
  decide (f.value < 2 ^ (match f.target with
    | 0 => 1
    | 1 => if f.dir = 1 then 34 else 64
    | _ => 8 * f.len))

/-- The target kind (digital or analogue, TARGET of R95) matches the channel mode; whether an item of the force's
direction holds the channel is NOITEM's question (Table 4-2). -/
def Hw.forceMode (h : Hw) (f : Force) : Bool :=
  let m := h.fget (R.FLD_CHc_CFG_MODE f.channel)
  match f.target with
  | 0 => m == 1 || m == 2
  | 1 => m == 3 || m == 4
  | _ => true

/-- Equal identities. -/
def Force.same (f g : Force) : Bool :=
  f.target == g.target && f.dir == g.dir && f.channel == g.channel && f.session == g.session && f.off == g.off && f.len == g.len

/-- Two TARGET 2 entries of one session and direction that overlap without being the same. -/
def Force.clash (f g : Force) : Bool :=
  f.target == 2 && g.target == 2 && f.dir == g.dir && f.session == g.session && !f.same g &&
    decide (f.off < g.off + g.len ∧ g.off < f.off + f.len)

/-- The active entry with an identity. -/
def Hw.forceFind (h : Hw) (f : Force) : Option Nat := (h.tsk.forces.find? (fun p => p.2.active && p.2.same f)).map (·.1)

/-- The items of direction `dir` of the running program's tasks, given as item, task. -/
def Hw.itemsDir (h : Hw) (dir : Nat) : List (ItemRow × Nat) :=
  ((List.range 32).filter (fun t => h.kind t != 0)).flatMap (fun t =>
    let s := h.itemSpan t
    if dir = 0 then (List.range s.2.1).map (fun i => (h.item (s.1 + i), t)) else (h.outItems t).map (fun it => (it, t)))

/-- Whether an item of the running program holds the target, and a task owns what an output force names. -/
def Hw.forceHeld (h : Hw) (f : Force) : Bool :=
  let items := h.itemsDir f.dir
  let hit := items.any (fun x => ({ f with active := true } : Force).marks x.1 != 0)
  if f.dir = 0 then hit
  else if f.target = 2 then
    (List.range f.len).all (fun i => items.any (fun x =>
      decide (x.1.kind ≥ 2) && x.1.session == f.session && decide (x.1.foff ≤ f.off + i ∧ f.off + i < x.1.foff + x.1.flen)))
  else hit && h.chOwner f.channel != 0xFF

/-- The lowest entry neither active nor awaiting its instant. -/
def Hw.forceFree (h : Hw) : Option Nat := (List.range 1024).find? (fun i => !(h.force i).active && !h.forcePend i)

/-! ## The effective instant (R99) -/

/-- Whether a partner follows in synchrony. -/
def Hw.partnerSynced (h : Hw) : Bool := h.pairFormed && decide (3 ≤ h.partnerSync)

/-- E of a change made now: the first whole microsecond after the table write; in a pair one at least 1 ms away. -/
def Hw.forceE (h : Hw) : Nat := if h.partnerSynced then ceilTo 1000 (h.clk.tb + 1000000) else (h.clk.tb / 1000 + 1) * 1000

/-- The force change of entry `idx` awaits E; in a pair its proposal goes to the follower. -/
def Hw.forceAwait (h : Hw) (x : FEff) : Hw :=
  let pr := h.partnerSynced
  let h1 := ({ h with tsk := { h.tsk with feffs := h.tsk.feffs ++ [{ x with confirmed := !pr }] } }).forceStatus
  if pr then h1.pairSend (.control { kind := 0, inst := x.eff, a := ({ x.new with active := x.set } : Force).word0, b := x.new.word1 false,
                                     c := x.new.value })
  else h1

/-- COUNT. -/
def Hw.forceCount (h : Hw) : Nat := h.fget R.TSK_FORCE_STATUS_COUNT

/-- The change takes effect on the table; its event is recorded by the module that answers the command. -/
def Hw.forceApply (h : Hw) (x : FEff) : Hw :=
  let h1 := (h.setForce x.idx { x.new with active := x.set }).forceStatus
  let h2 := if decide (h1.pairFormed = true ∧ h1.partnerSync = 2) then h1.pairSend (.state [.force x.idx (h1.force x.idx).word0 ((h1.force x.idx).word1 false) x.new.value]) else h1
  if x.d.op = 0 then h2 else h2.raise (if x.set then 0x3010 else 0x3011) x.idx x.new.ident (b2n x.d.src.isEng)

/-- The completion of the command of a change that has taken effect; `n` the changes that shared its instant. -/
def Hw.forceDone (h : Hw) (x : FEff) (n : Nat) : Hw :=
  if x.d.op = 0 then h
  else if x.d.op = 0x0303 then (h.complete x.d stOk true n (event := 0x3011)).actSet .frc false
  else (h.complete x.d stOk true x.idx h.forceCount (x.eff / 1000) (event := if x.set then 0x3010 else 0x3011)).actSet .frc false

/-- The earliest confirmed instant. -/
def Hw.forceNext (h : Hw) : Option FEff :=
  (h.tsk.feffs.filter (·.confirmed)).foldl (fun b x => match b with
    | none => some x
    | some y => if x.eff < y.eff then some x else some y) none

/-- The changes of the earliest confirmed instant take effect (R99, R100). -/
def Hw.forceEffective (h : Hw) : Hw :=
  match h.forceNext with
  | none => h
  | some x =>
    let now := h.tsk.feffs.filter (fun y => y.confirmed && y.eff == x.eff)
    let h1 := h.untilTb x.eff
    let h2 := { h1 with tsk := { h1.tsk with feffs := h1.tsk.feffs.filter (fun y => !(y.confirmed && y.eff == x.eff)) } }
    ((now.foldl (fun h y => h.forceApply y) h2).forceStatus).forceDone x now.length

/-- FORCE_EFFECTIVE (R99). -/
def execForceEffective (s : State) : Host.Outcome State Fault Refusal := onHw s Hw.forceEffective

/-! ## Relays (R337) -/

/-- On a follower a command goes to the active module, or completes with PAIR where guy line A has failed; elsewhere `f` runs. -/
def Hw.relay (h : Hw) (d : Desc) (f : Hw → Hw) : Hw :=
  if h.fget R.PAIR_STATUS_ROLE = 2 ∧ d.relayed = false then
    if h.fbit R.PAIR_STATUS_GUY_A then
      let h1 := (h.runCmd d).pairSend (.relay { d with relayed := true })
      { h1 with pair := { h1.pair with relayed := h1.pair.relayed ++ [d] } }
    else h.complete d stPair
  else f h

/-! ## The commands -/

/-- FRC ends with a refusal. -/
def Hw.frcStop (h : Hw) (d : Desc) (st : Nat) : Hw := (h.complete d st).actSet .frc false

/-- The SOURCE of a force. -/
def Desc.forceSrc (d : Desc) : Nat := b2n d.src.isEng

/-- FORCE_SET once admitted (R95, R99, R100). -/
def Hw.startForceSet (h : Hw) (d : Desc) : Hw :=
  let f := forceOf d.p0 d.p1 d.addr d.forceSrc
  if !(forceResv d.p0 d.p1 && f.idOk && f.valueOk && h.forceMode f) || h.tsk.forces.any (fun p => p.2.active && p.2.clash f) then h.frcStop d stValue
  else if !h.forceHeld f then h.frcStop d stNoItem
  else match h.forceFind f with
    | some i => (h.runCmd d).forceAwait ⟨i, true, { f with source := (h.force i).source }, h.forceE, d, true⟩
    | none =>
      match h.forceFree with
      | none => h.frcStop d stFull
      | some i => ((h.runCmd d).setForce i f).forceAwait ⟨i, true, f, h.forceE, d, true⟩

/-- FORCE_CLEAR once admitted: no entry, no effect. -/
def Hw.startForceClear (h : Hw) (d : Desc) : Hw :=
  let f := forceOf d.p0 d.p1 0 d.forceSrc
  if !(forceResv d.p0 d.p1 && f.idOk) then h.frcStop d stValue
  else match h.forceFind f with
    | some i => (h.runCmd d).forceAwait ⟨i, false, h.force i, h.forceE, d, true⟩
    | none => (h.complete d stOk false 0xFFFFFFFF h.forceCount).actSet .frc false

/-- FORCE_CLEAR_ALL once admitted: every active entry at one instant. -/
def Hw.startClearAll (h : Hw) (d : Desc) : Hw :=
  let es := h.tsk.forces.filter (·.2.active)
  if es.isEmpty then (h.complete d stOk).actSet .frc false
  else es.foldl (fun h' p => h'.forceAwait ⟨p.1, false, p.2, h.forceE, d, true⟩) (h.runCmd d)

def Hw.cmdForceSet (h : Hw) (d : Desc) : Hw :=
  h.relay d (fun h => let r := h.request d .frc; if r.2 then r.1.startForceSet d else r.1)
def Hw.cmdForceClear (h : Hw) (d : Desc) : Hw :=
  h.relay d (fun h => let r := h.request d .frc; if r.2 then r.1.startForceClear d else r.1)
def Hw.cmdClearAll (h : Hw) (d : Desc) : Hw :=
  h.relay d (fun h => let r := h.request d .frc; if r.2 then r.1.startClearAll d else r.1)

/-- FORCE_SET (R95). -/
def execForceSet (d : Desc) (s : State) : Host.Outcome State Fault Refusal := onHw s (fun h => h.hostCmd d 0x0301 Hw.cmdForceSet)
/-- FORCE_CLEAR (R100). -/
def execForceClear (d : Desc) (s : State) : Host.Outcome State Fault Refusal := onHw s (fun h => h.hostCmd d 0x0302 Hw.cmdForceClear)
/-- FORCE_CLEAR_ALL (R100). -/
def execForceClearAll (d : Desc) (s : State) : Host.Outcome State Fault Refusal := onHw s (fun h => h.hostCmd d 0x0303 Hw.cmdClearAll)

/-- The active entries as FORCE_LIST gives them. -/
def Hw.forceListBytes (h : Hw) : List Byte :=
  (h.tsk.forces.filter (·.2.active)).flatMap (fun p => p.2.bytes (h.forcePend p.1))

/-- FORCE_LIST (R344): the list from offset P2, as much as the buffer takes. -/
def Hw.cmdForceList (h : Hw) (d : Desc) : Hw :=
  if d.p2 % 16 ≠ 0 ∨ 16384 < d.p2 then h.complete d stValue
  else
    let bs := h.forceListBytes
    h.complete d stOk false (bs.length / 16) 0 bs.length (out := (bs.drop d.p2).take d.len)

/-- FORCE_LIST. -/
def execForceList (d : Desc) (s : State) : Host.Outcome State Fault Refusal := onHw s (fun h => h.hostCmd d 0x0304 Hw.cmdForceList)

end Sys2Proof.Machine
end

