-- ==== Sys2Proof/Machine/Olc.lean ====
section
/-! DEFINITION. On-line change (R102 to R122): staging and its checks (Table 4-3), the migration map (Tables 4-4 and 4-5), the swap
(Table 4-6), the commands OLC_STAGE, OLC_ARM, OLC_CANCEL. -/

namespace Sys2Proof.Machine

/-! ## The migration map -/

def MigRow.len (e : MigRow) : Nat := bitsOf e.w2 0 19
def MigRow.op (e : MigRow) : Nat := bitsOf e.w2 20 3
def MigRow.sw (e : MigRow) : Nat := 2 ^ bitsOf e.w2 24 2
def MigRow.dw (e : MigRow) : Nat := 2 ^ bitsOf e.w2 26 2

/-- Whether an entry moves bytes as they are (COPY, FILL). -/
def MigRow.plain (e : MigRow) : Bool := e.op == 0 || e.op == 6

/-- The source bytes of an entry; FILL has none. -/
def MigRow.srcLen (e : MigRow) : Nat := if e.op = 6 then 0 else if e.op = 0 then e.len else e.len / e.dw * e.sw

/-- The cost of an entry (Table 4-5). -/
def MigRow.cost (e : MigRow) : Nat := if e.plain then (e.len + 15) / 16 else e.len / e.dw

/-- SWAP_CLOCKS (R108). -/
def swapClocks (m : List MigRow) : Nat := 19456 + (m.map (fun e => 6 + e.cost)).foldl (· + ·) 0

/-- The operation's widths, its reserved bits, LEN, FILLV, alignment (Tables 4-4 and 4-5, R107). -/
def MigRow.formOk (e : MigRow) : Bool :=
  decide (1 ≤ e.len ∧ e.len ≤ 262144) && bitsOf e.w2 19 1 == 0 && bitsOf e.w2 23 1 == 0 && bitsOf e.w2 28 4 == 0 &&
    (e.op == 6 || e.fillv == 0) &&
    (match e.op with
      | 0 => true
      | 6 => true
      | 1 => decide (e.sw < e.dw)
      | 2 => decide (e.sw < e.dw)
      | 3 => decide (e.dw < e.sw)
      | 4 => e.sw == 4 && e.dw == 4
      | 5 => e.sw == 4 && e.dw == 4
      | _ => false) &&
    (e.plain || (e.len % e.dw == 0 && e.src % e.sw == 0 && e.dst % e.dw == 0))

/-- One element's conversion. -/
def MigRow.conv (e : MigRow) (v : Nat) : Nat :=
  match e.op with
  | 2 => (sx (8 * e.sw) v % (2 ^ (8 * e.dw) : Nat)).toNat
  | 3 => (satS (8 * e.dw) (sx (8 * e.sw) v) % (2 ^ (8 * e.dw) : Nat)).toNat
  | 4 => (fpOfInt 0 (sx 32 v)).1.toNat
  | 5 => (fpToRange 0 (-2147483648) 2147483647 (Fp.of (w32 v))).1.toNat
  | _ => v

/-- An entry is executed; the lines written are invalidated (R169). -/
def Hw.migrate (h0 : Hw) (e : MigRow) : Hw :=
  let h := h0.inval none e.dst e.len
  if e.op = 0 then h.setMbs (coreToSup e.dst) (h.mbs (coreToSup e.src) e.len)
  else if e.op = 6 then h.setMbs (coreToSup e.dst) ((List.range e.len).map (fun i => byteOf (w32 e.fillv) (i % 4)))
  else h.setMbs (coreToSup e.dst) ((List.range (e.len / e.dw)).flatMap (fun i => leBytes e.dw (e.conv (h.ml (coreToSup e.src + i * e.sw) e.sw))))

/-! ## Areas -/

/-- Whether `n` bytes at `a` lie in the union of ranges (start, length). -/
def covered (rs : List (Nat × Nat)) : Nat → Nat → Nat → Bool
  | 0, _, n => n == 0
  | f + 1, a, n =>
    if n = 0 then true
    else match rs.find? (fun r => decide (r.1 ≤ a ∧ a < r.1 + r.2)) with
      | none => false
      | some r => covered rs f (r.1 + r.2) (n - (r.1 + r.2 - a))

/-- The data areas and retain lines of the tasks that satisfy `p`. -/
def Pitch.areas (q : Pitch) (p : Nat → Bool) : List (Nat × Nat) :=
  (q.data.filter (fun d => p d.owner)).map (fun d => (d.start, d.len)) ++
    (q.live.filter p).map (fun t => (0x21000000 + (q.task t).retFirst * 64, (q.task t).retLines * 64))

/-- Whether a range meets one of a list of ranges. -/
def meets (rs : List (Nat × Nat)) (a n : Nat) : Bool := n != 0 && rs.any (fun r => decide (a < r.1 + r.2 ∧ r.1 < a + n))

/-- Whether bytes lie wholly in areas. -/
def inAreas (rs : List (Nat × Nat)) (a n : Nat) : Bool := covered rs (rs.length + 1) a n

/-! ## The checks of Table 4-3 -/

/-- What a program gives task `t`: its input items. -/
def Pitch.insOf (p : Pitch) (t : Nat) : List ItemRow := let s := p.span t; p.itemsFrom s.1 s.2.1

/-- Equal as sets. -/
def sameSet {α : Type} [BEq α] (a b : List α) : Bool := a.all b.contains && b.all a.contains

/-- Reason 4: new code meets the running program's, or a kept range is not the running program's. -/
def codeBad (q p : Pitch) : Bool :=
  p.code.any (fun c =>
    if c.kept then !q.code.any (fun r => r.start == c.start && r.len == c.len && r.hash == c.hash)
    else meets (q.code.map (fun r => (r.start, r.len))) c.start c.len)

/-- The destinations of the map. -/
def dests (p : Pitch) : List (Nat × Nat) := p.migration.map (fun e => (e.dst, e.len))

/-- Whether two destinations overlap. -/
def destsClash : List (Nat × Nat) → Bool
  | [] => false
  | d :: r => meets r d.1 d.2 || destsClash r

/-- Whether a task number is in the affected mask. -/
def Pitch.aff (p : Pitch) (t : Nat) : Bool := p.affected.testBit t

/-- Reason 5: an entry's form, or a destination that breaks R107. -/
def migBad (q p : Pitch) : Bool :=
  let old := q.areas (fun _ => true)
  let own := p.areas p.aff
  p.migration.any (fun e => !e.formOk || !inAreas own e.dst e.len || meets old e.dst e.len ||
    meets (dests p) e.src e.srcLen || (e.op != 6 && !inAreas old e.src e.srcLen)) || destsClash (dests p)

/-- Reason 6. -/
def migBig (p : Pitch) : Bool :=
  decide (4096 < p.migration.length ∨ 262144 < (p.migration.map MigRow.len).foldl (· + ·) 0 ∨ 80000 < swapClocks p.migration)

/-- Whether task `t` reads or owns channel `c`, or session `s`, in a program. -/
def Pitch.usesCh (p : Pitch) (t c : Nat) : Bool :=
  (p.insOf t ++ p.outsOf t).any (fun it => (it.kind == 0 && it.group == c / 8) || (it.kind == 1 && it.channel == c)) ||
    p.chans.any (fun x => x.channel == c && x.owner == t)
def Pitch.usesSes (p : Pitch) (t s : Nat) : Bool :=
  (p.insOf t ++ p.outsOf t).any (fun it => decide (it.kind ≥ 2) && it.session == s) || p.fields.any (fun f => f.session == s && f.owner == t)

/-! ## The configuration of a flysheet (R106) -/

/-- The channels and sessions of the affected tasks: those that one owns or reads in either program. -/
def covCh (q p : Pitch) (c : Nat) : Bool := (List.range 32).any (fun t => p.aff t && (q.usesCh t c || p.usesCh t c))
def covSes (q p : Pitch) (s : Nat) : Bool := (List.range 32).any (fun t => p.aff t && (q.usesSes t s || p.usesSes t s))

/-- What a section's records say outside the affected tasks' channels and sessions: register words, session entries, other records. -/
def CfgSection.rest (x : CfgSection) (q p : Pitch) : List (Nat × Word) × List (Nat × List Word) × List CfgRec :=
  (x.recs.flatMap (fun r => match r with
      | .run f ws => (runFrom f 4 ws).filter (fun y => match chanReg y.1 with
        | some (c, _) => !covCh q p c
        | none => true)
      | _ => []),
   x.recs.flatMap (fun r => match r with
      | .sessions f es => (runFrom f 1 es).filter (fun y => !covSes q p y.1)
      | _ => []),
   x.recs.filter (fun r => match r with
      | .run .. => false
      | .sessions .. => false
      | _ => true))

/-- Whether two sections agree outside them. -/
def restSame (q p : Pitch) (a b : CfgSection) : Bool :=
  let x := a.rest q p
  let y := b.rest q p
  sameSet x.1 y.1 && sameSet x.2.1 y.2.1 && sameSet x.2.2 y.2.2

/-- Reason 7 for the configuration as a whole (log 111): its parts outside the affected tasks' channels and sessions are not the applied
configuration's (R106). The individual section is held against the module's own where it names the same module, since both modules of a pair
stage one flysheet. -/
def Hw.cfgOther (h : Hw) (q p : Pitch) : Bool :=
  match p.cfg, (if h.fget R.SUP_CFG_STATUS_APPLIED = 0 then none else h.cfgSlot (h.fget R.SUP_CFG_STATUS_APPLIED - 1)) with
  | some c, some a =>
    a.common.hash == h.sup.cfgHash && (!restSame q p a.common c.common || (c.indiv.serial == a.indiv.serial && !restSame q p a.indiv c.indiv))
  | _, _ => false

/-- The register words and the session entries that the flysheet's configuration changes. -/
def Hw.cfgDiff (h : Hw) (c : CfgImage) : List Nat := (c.regs.filter (fun x => h.cfgWord x != h.shown x.2.1)).map (·.2.1)
def Hw.sesDiff (h : Hw) (c : CfgImage) : List Nat := (c.sessions.filter (fun e => (h.sess e.1).entry != e.2)).map (·.1)

/-- Whether the flysheet's configuration touches what task `t` owns or reads. -/
def Hw.cfgTouches (h : Hw) (q p : Pitch) (t : Nat) : Bool :=
  match p.cfg with
  | none => false
  | some c =>
    (h.cfgDiff c).any (fun a => match chanReg a with
      | some (ch, _) => q.usesCh t ch || p.usesCh t ch
      | none => true) ||
    (h.sesDiff c).any (fun s => q.usesSes t s || p.usesSes t s)

/-! ## The code of an unaffected task (R104) -/

/-- The addresses that may execute after the word `w` at `a` as the word alone shows them: a register-indirect jump gives only the return
behind a call (log 110). -/
def codeSuccs (a : Nat) (w : Word) : List Nat :=
  let rel := fun (d : Word) => (w32 a + d * 4#32).toNat
  match kyDecode w with
  | none => []
  | some (.bc _ _ d) => [a + 4, rel (d.signExtend 32)]
  | some (.j d) => [rel (d.signExtend 32)]
  | some (.call d) => [a + 4, rel (d.signExtend 32)]
  | some (.jalr rd _ _) => if rd = 0#5 then [] else [a + 4]
  | some .tend => []
  | some (.tfault _) => []
  | some .eret => []
  | some _ => [a + 4]

/-- Whether every address reached from `todo` satisfies `ok`; `n` bounds the search. -/
def Hw.codeWalk (h : Hw) (ok : Nat → Bool) : Nat → List Nat → List Nat → Bool
  | _, [], _ => true
  | 0, _ :: _, _ => false
  | n + 1, a :: todo, seen =>
    if seen.contains a then h.codeWalk ok n todo seen
    else ok a && h.codeWalk ok n (codeSuccs a (w32 (h.ml (coreToSup a) 4)) ++ todo) (a :: seen)

/-- Whether the code that task `t` reaches from its entry point, and from the return address in k1 at its start (VBASE + 0x1F0), lies in
ranges that the flysheet keeps. -/
def Hw.codeKept (h : Hw) (p : Pitch) (t : Nat) : Bool :=
  let keep := p.code.filter (·.kept)
  h.codeWalk (fun a => keep.any (fun c => decide (c.start ≤ a ∧ a + 4 ≤ c.start + c.len)))
    (2 * (keep.map (·.len)).foldl (· + ·) 0 + 8) [(p.task t).entry, p.vbase + 0x1F0] []

/-- Whether task `t` differs between the two programs (R104), timers and edges by IDENT. -/
def Hw.taskDiffers (h : Hw) (q p : Pitch) (t : Nat) : Bool :=
  q.task t != p.task t || q.descs.getD t {} != p.descs.getD t {} || q.insOf t != p.insOf t || q.outsOf t != p.outsOf t ||
    !sameSet (q.chans.filter (fun x => x.owner == t)) (p.chans.filter (fun x => x.owner == t)) ||
    !sameSet (q.fields.filter (fun x => x.owner == t)) (p.fields.filter (fun x => x.owner == t)) ||
    !sameSet ((q.data.filter (fun x => x.owner == t)).map (fun x => (x.start, x.len, x.priv)))
      ((p.data.filter (fun x => x.owner == t)).map (fun x => (x.start, x.len, x.priv))) ||
    !sameSet (q.exch.filter (fun x => x.task == t)) (p.exch.filter (fun x => x.task == t)) ||
    !sameSet (q.mailboxes.filter (fun x => x.task == t)) (p.mailboxes.filter (fun x => x.task == t)) ||
    !sameSet ((q.timers.filter (fun x => x.owner == t)).map (fun x => (x.ident, x.typ)))
      ((p.timers.filter (fun x => x.owner == t)).map (fun x => (x.ident, x.typ))) ||
    !sameSet ((q.edges.filter (fun x => x.owner == t)).map (·.ident)) ((p.edges.filter (fun x => x.owner == t)).map (·.ident)) ||
    q.vbase != p.vbase || !h.codeKept p t

/-- The tasks of either program outside the mask. -/
def outside (q p : Pitch) : List Nat := (List.range 32).filter (fun t => !p.aff t && ((q.task t).kind != 0 || (p.task t).kind != 0))

/-- Whether a migration entry reads the data or retain lines of task `t` in the running program (R107). -/
def readsArea (q p : Pitch) (t : Nat) : Bool := p.migration.any (fun e => meets (q.areas (fun u => u == t)) e.src e.srcLen)

/-- Reason 7: an unaffected task that differs, or any task outside the mask whose data a migration entry reads. -/
def Hw.outsideBad (h : Hw) (q p : Pitch) (t : Nat) : Bool :=
  readsArea q p t || ((outside q p).contains t && (h.taskDiffers q p t || h.cfgTouches q p t))

/-- Reason 8: a surviving CYCLIC task's period or phase. -/
def periodBad (q p : Pitch) (t : Nat) : Bool :=
  (q.task t).kind == 1 && (p.task t).kind == 1 && ((q.task t).per != (p.task t).per || (q.task t).pha != (p.task t).pha)

/-- Reason 15: too many edge instances, or an unaffected task's timer or edge instance that moved. -/
def movedBad (q p : Pitch) (t : Nat) : Bool :=
  !sameSet ((q.timers.filter (fun x => x.owner == t)).map (fun x => (x.index, x.ident)))
      ((p.timers.filter (fun x => x.owner == t)).map (fun x => (x.index, x.ident))) ||
    !sameSet ((q.edges.filter (fun x => x.owner == t)).map (fun x => (x.inst, x.ident)))
      ((p.edges.filter (fun x => x.owner == t)).map (fun x => (x.inst, x.ident)))

/-- The first failing check after the signature: reason and detail. -/
def Hw.stageCheck (h : Hw) (p : Pitch) : Option (Nat × Nat) :=
  let q := h.prog
  let first := fun (r : Nat) (l : List Nat) => l.head?.map (fun t => (r, t))
  match h.taskCheck p with
  | some (n, _) => some (3, n)
  | none =>
    if codeBad q p then some (4, 0) else if migBad q p then some (5, 0) else if migBig p then some (6, 0)
    else ((first 7 ((List.range 32).filter (fun t => !p.aff t && h.outsideBad q p t))).orElse fun _ =>
      (if h.cfgOther q p then some (7, 0) else none).orElse fun _ =>
      (first 8 ((List.range 32).filter (periodBad q p))).orElse fun _ =>
      (first 9 ((List.range 32).filter (fun t => (p.task t).kind != 0 && (p.task t).safety && h.split (p.task t).ep))).orElse fun _ =>
      if 8192 < p.edges.length then some (15, 0) else first 15 ((outside q p).filter (movedBad q p)))

/-! ## Staging (R102) -/

/-- Writes `bs` at core-view address `a`, but for the bytes in `rs` (`inside` false) or outside them (`inside` true). -/
def Hw.putBut (h : Hw) (rs : List (Nat × Nat)) (inside : Bool) (a : Nat) (bs : List Byte) : Hw :=
  (bs.zipIdx).foldl (fun h x => if meets rs (a + x.2) 1 == inside then h.setMb (coreToSup (a + x.2)) x.1 else h) (h.inval none a bs.length)

/-- Code, initial data and initial retain values that the running program does not reach. -/
def Hw.stageLoad (h : Hw) (p : Pitch) : Hw :=
  let old := h.prog.areas (fun _ => true)
  let h1 := p.data.foldl (fun h d => h.putBut old false d.start d.init) (h.loadCode p)
  let h2 := ((p.live).map (fun t => (p.task t))).foldl (fun h r =>
    h.putBut old false (0x21000000 + r.retFirst * 64) (List.replicate (r.retLines * 64) 0#8)) h1
  p.retainInit.foldl (fun h d => h.putBut old false d.start d.init) h2

/-- The configuration as staging writes it: the next SEQ, the flysheet's layout (R106). -/
def Hw.stageCfg (h : Hw) (p : Pitch) : Option CfgImage :=
  p.cfg.map (fun c =>
    let n := ((h.reg R.SUP_CFG_SEQ).toNat + 1) % 2 ^ 32
    { c with seq := n, layout := p.layout, common := { c.common with seq := n, layout := p.layout },
             indiv := { c.indiv with seq := n, layout := p.layout } })

/-- The writes of the slot that is not applied. -/
def Hw.stageSlot (h : Hw) (slot : Nat) (c : Option CfgImage) : Hw :=
  match c with
  | none => h
  | some c => ((h.nvPush (.cfgInval slot none)).nvPush (.cfgData slot (c.bytes.drop 256))).nvPush (.cfgHeader slot c none false)

/-- The flysheet is staged: STATE 2, the registers, 0x3020; a synchronised partner stages its own (R122). -/
def Hw.stageDone (h : Hw) (p : Pitch) : Hw :=
  let slot := if h.fget R.SUP_CFG_STATUS_APPLIED = 1 then 1 else 0
  let c := h.stageCfg p
  let pr := h.partnerSynced || decide (h.mode = .follow)
  let h1 := (h.stageLoad p).stageSlot slot c
  let h2 := { h1 with tsk := { h1.tsk with olc := { staged := some p, slot := slot, cfg := c } } }
  let h3 := (((h2.fset R.TSK_OLC_STATUS_STATE 2).fset R.TSK_OLC_STATUS_PAIRED (b2n pr)).setReg R.TSK_OLC_AFFECTED (w32 p.affected)).fset
    R.TSK_OLC_COST_SWAP_CLOCKS (swapClocks p.migration)
  let h4 := if h3.partnerSynced then h3.pairSend (.control { kind := 4, a := p.hash }) else h3
  h4.raise 0x3020 (p.layout % 2 ^ 32) (p.affected % 2 ^ 32) (swapClocks p.migration)

/-- A task set that fails R64 records 0x3004 as it does at a load. -/
def Hw.checkEvent (h : Hw) (p : Pitch) (reason : Nat) : Hw :=
  match (if reason = 3 then h.taskCheck p else none) with
  | some (n, t) => h.raise 0x3004 n t
  | none => h

/-- Staging from the unused NOR slot: the flysheet staged, or the reason and detail of the first failing check. A flysheet without the
configuration of R106, or with a table that R273 or R389 refuses, has no reason of its own in Table 4-3 and takes 2 (log 111). -/
def Hw.stageTry (h : Hw) (o : Otp) : Hw × Option (Nat × Nat) :=
  let h0 := ((h.fset R.TSK_OLC_STATUS_STATE 1).fset R.TSK_OLC_STATUS_REASON 0).fset R.TSK_OLC_STATUS_PAIRED 0
  let s := h0.norProg h0.progTarget
  match s.pitch with
  | none => (h0, some (1, 0))
  | some p =>
    if !s.valid || s.retired then (h0, some (1, 0))
    else
      let r := h0.pitchCheck o p
      if r.2.isSome then (r.1, some (2, 0))
      else
        match p.cfg with
        | none => (r.1, some (2, 0))
        | some f =>
          let c := r.1.sectionCheck o f
          if !c.2 then (c.1, some (2, 0))
          else match c.1.tableRefusal f with
            | some e => (c.1.raise e.1 e.2.1 e.2.2, some (2, 0))
            | none => match c.1.stageCheck p with
              | some x => (c.1.checkEvent p x.1, some x)
              | none => (c.1.stageDone p, none)

/-- OLC_STAGE once admitted. -/
def Hw.startStage (h : Hw) (o : Otp) (d : Desc) : Hw :=
  let r := h.stageTry o
  match r.2 with
  | some x => (r.1.olcRollback x.1 x.2).complete d stFailed (detail := x.1) (event := 0x3021)
  | none => r.1.complete d stOk true (r.1.fget R.TSK_OLC_COST_SWAP_CLOCKS) (r.1.reg R.TSK_OLC_AFFECTED).toNat (event := 0x3020)

def Hw.cmdStage (h : Hw) (o : Otp) (d : Desc) : Hw :=
  h.relay d (fun h => let r := h.request d .olc; if r.2 then r.1.startStage o d else r.1)

/-- OLC_STAGE (R102). -/
def execOlcStage (d : Desc) (s : State) : Host.Outcome State Fault Refusal :=
  onHwO s (fun o h => h.hostCmd d 0x0401 (fun h d => h.cmdStage o d))

/-- OLC_ARM (R109, R121): the search starts; BUSY while one runs, MODE without a staged flysheet. -/
def Hw.cmdArm (h : Hw) (d : Desc) : Hw :=
  h.relay d (fun h =>
    let st := h.fget R.TSK_OLC_STATUS_STATE
    if st = 2 then
      let h1 := (h.runCmd d).fset R.TSK_OLC_STATUS_STATE 3
      { h1 with tsk := { h1.tsk with olc := { h1.tsk.olc with armCmd := some d, armAt := h.clk.up, point := 0, confirmed := false } } }
    else if 3 ≤ st ∧ st ≤ 5 then h.complete d stBusy (detail := 7)
    else h.complete d stMode (detail := h.mode.code))

/-- OLC_ARM. -/
def execOlcArm (d : Desc) (s : State) : Host.Outcome State Fault Refusal := onHw s (fun h => h.hostCmd d 0x0402 Hw.cmdArm)

/-- OLC_CANCEL (R119, R121). -/
def Hw.cmdCancel (h : Hw) (d : Desc) : Hw :=
  h.relay d (fun h =>
    let st := h.fget R.TSK_OLC_STATUS_STATE
    if 1 ≤ st ∧ st ≤ 4 then (h.olcRollback 14 0).complete d stOk true (event := 0x3021)
    else h.complete d stMode (detail := h.mode.code))

/-- OLC_CANCEL. -/
def execOlcCancel (d : Desc) (s : State) : Host.Outcome State Fault Refusal := onHw s (fun h => h.hostCmd d 0x0403 Hw.cmdCancel)

/-! ## The swap (Table 4-6) -/

/-- Time passes for `n` CORE clocks. -/
def Hw.passClocks (h : Hw) (n : Nat) : Hw :=
  let r := if h.fbit R.SUP_DROOP_STATUS_STRETCH then 2 else 4
  h.pass ((n * 5 + r - 1) / r)

/-- Step 1: the retain pass in progress is abandoned; one whose commit word is being written has ended, since a write that has started is
never interrupted (R355) and takes 5 µs of the swap's at least 24 µs. -/
def Hw.passDrop (h0 : Hw) : Hw :=
  let h := match h0.nvs.busy with
    | some (.retCommit b s l) => (({ h0 with nvs := { h0.nvs with busy := none } }).fset R.NVS_STATUS_BUSY 0).bufCommit b s l
    | _ => h0
  let q := h.nvs.queue.filter (fun w => match w with
    | .retPage .. => false
    | .retCommit .. => false
    | _ => true)
  (({ h with nvs := { h.nvs with queue := q, passTasks := [], passPending := false } }).nvCount).fset R.TSK_RETAIN_STATUS_PASS_ACTIVE 0

/-- Step 3: a staged timer entry with what it takes from the running entry of its IDENT (R113); with it the old TYPE where it differs. -/
def Hw.timerCarry (h : Hw) (x : TimerRow) : Timer × Option Nat :=
  match h.tsk.timers.find? (fun p => p.2.alloc && p.2.ident == x.ident) with
  | none => (x.entry, none)
  | some (_, e) =>
    if e.typ = x.typ then
      (((((x.entry).setIn e.inp).setQ e.q).setRun e.run).setSat e.sat |>.setStart e.start, none)
    else (x.entry, some e.typ)

/-- Steps 3 and 6 for the timers: affected tasks' entries are replaced, the others stay. -/
def Hw.swapTimers (h : Hw) (p : Pitch) : Hw :=
  let mine := p.timers.filter (fun x => p.aff x.owner)
  let keep := h.tsk.timers.filter (fun e => !p.aff e.2.owner)
  let h1 := { h with tsk := { h.tsk with timers := mine.foldl (fun t x => tset {} t x.index (h.timerCarry x).1) keep } }
  mine.foldl (fun h' x => match (h.timerCarry x).2 with
    | some old => h'.raise 0x3023 x.ident old x.typ
    | none => h') h1

/-- The edge bit of instance `i` in the edge area (R114). -/
def Hw.edgeBit (h : Hw) (i : Nat) : Bool := (h.mb (dataBase + 0x7FFC00 + i / 8)).toNat.testBit (i % 8)
def Hw.setEdgeBit (h : Hw) (i : Nat) (b : Bool) : Hw :=
  let a := dataBase + 0x7FFC00 + i / 8
  (h.invalSup a 1).setMb a (BitVec.ofNat 8 (setBitsOf (h.mb a).toNat (i % 8) 1 (b2n b)))

/-- Steps 4 and 6 for the edge instances (R114). -/
def Hw.swapEdges (h : Hw) (p : Pitch) : Hw :=
  let mine := p.edges.filter (fun e => p.aff e.owner)
  let gone := (h.prog.edges.filter (fun e => p.aff e.owner)).map (·.inst)
  let h1 := gone.foldl (fun h i => { (h.setPrime i false) with tsk := { (h.setPrime i false).tsk with edgeIdent := tset 0 (h.setPrime i false).tsk.edgeIdent i 0 } }) h
  mine.foldl (fun h' e =>
    let v : Bool × Bool := match h.prog.edges.find? (fun x => x.ident == e.ident) with
      | some x => (h.edgeBit x.inst, h.primeOf x.inst)
      | none => (false, !e.cleared)
    let h2 := (h'.setEdgeBit e.inst v.1).setPrime e.inst v.2
    { h2 with tsk := { h2.tsk with edgeIdent := tset 0 h2.tsk.edgeIdent e.inst e.ident } }) h1

/-- Step 6 for the per-task registers, descriptors and items of affected tasks; a task new in the flysheet starts with the first due
instant after the swap completes, 800 CORE clocks later with step 7 (R105). -/
def Hw.swapTask (h : Hw) (q p : Pitch) (t : Nat) : Hw :=
  if !p.aff t then h
  else
    let d := p.descs.getD t {}
    let h1 := (h.loadTask p t).setMbs (imgBase + t * 32) (leBytes 4 d.w0 ++ leBytes 4 d.w1 ++ leBytes 4 d.w2 ++ leBytes 4 d.w3)
    if (q.task t).kind != 0 then h1
    else
      let base := h1.dueOf t 0
      let done := (h1.passClocks 800).clk.tb
      let k := if done < base ∨ h1.periodNs t = 0 then 0 else (done - base) / h1.periodNs t + 1
      let h2 := ((h1.setCyc t { nextK := k }).pcTake t).pcThaw t
      { h2 with tsk := { h2.tsk with wins := tset false h2.tsk.wins t false } }

/-- The bytes of affected tasks' areas that both programs use hold the flysheet's initial data (Table 4-7). -/
def Hw.swapData (h : Hw) (q p : Pitch) : Hw :=
  let old := (q.data.filter (fun d => p.aff d.owner)).map (fun d => (d.start, d.len))
  (p.data.filter (fun d => p.aff d.owner)).foldl (fun h d => h.putBut old true d.start d.init) h

/-- What a telegram is known by: kind, comId, destination, source. -/
def sesIdent (ws : List Word) : Nat × Nat × Nat × Nat := (sesKind ws, sesComId ws, sesDest ws, sesSource ws)

/-- The reason a force is released at the switch (R115), or none; `modes` and `ses` the configuration before it. -/
def Hw.forceRelease (h : Hw) (modes : List Nat) (ses : List (Nat × Sess)) (f : Force) : Option Nat :=
  if !(h.itemsDir f.dir).any (fun x => f.marks x.1 != 0) then some 1
  else if f.target = 2 then
    if sesIdent (tget {} ses f.session).entry = sesIdent (h.sess f.session).entry then none else some 2
  else if modes.getD f.channel 0 = h.modeShown f.channel then none else some 2

/-- Steps 5 and 6 for the forces: the marked ones are released with 0x3012. -/
def Hw.swapForces (h : Hw) (modes : List Nat) (ses : List (Nat × Sess)) : Hw :=
  ((h.tsk.forces.filter (·.2.active)).foldl (fun h p => match h.forceRelease modes ses p.2 with
    | some r => (h.setForce p.1 { p.2 with active := false }).raise 0x3012 p.1 p.2.ident r
    | none => h) h).forceStatus

/-- The modes of the channels as configured, with those that wait for a COMMIT. -/
def Hw.chanModes (h : Hw) : List Nat := (List.range 48).map h.modeShown

/-- A channel whose kind changes awaits its owner's first release in the new kind (R116). -/
def Hw.swapKinds (h : Hw) : Hw :=
  (List.range 48).foldl (fun h c =>
    if h.modeShown c = h.fget (R.FLD_CHc_CFG_MODE c) then h else { h with fld := { h.fld with rekind := tset false h.fld.rekind c true } }) h

/-- The flysheet's configuration is applied (R116), if its tables pass (R273); the individual section where it is this module's (log 111). -/
def swapCfg (h : Hw) (o : Otp) : Hw × Otp :=
  match h.tsk.olc.cfg with
  | none => (h, o)
  | some c => match h.tableRefusal c with
    | some e => (h.raise e.1 e.2.1 e.2.2, o)
    | none =>
      let r := cfgApply h o h.tsk.olc.slot (if c.indiv.serial = o.serial then c else { c with indiv := { c.indiv with recs := [] } }) .swap
      (r.1.swapKinds, r.2)

/-- Step 6: the switch. -/
def swapSwitch (h : Hw) (o : Otp) (p : Pitch) : Hw × Otp :=
  let q := h.prog
  let h1 := ((h.swapTimers p).swapEdges p).swapData q p
  let h2 := { ((List.range 32).foldl (fun h t => h.swapTask q p t) ((h1.loadItems p).setReg R.EXE_VBASE (w32 p.vbase))) with prog := p }
  let r := swapCfg (h2.loadSessions q p) o
  (r.1.swapForces h.chanModes h.net.sess, r.2)

/-- Step 7: 0x3022, STATE 5, the command's completion, the pass of R118. -/
def Hw.swapEnd (h : Hw) (p : Pitch) (s : Nat) : Hw :=
  let c := swapClocks p.migration
  let h1 := ((h.fset R.TSK_OLC_STATUS_STATE 5).fset R.TSK_OLC_LAST_LAST_CLOCKS c).fset R.TSK_OLC_LAST_ENTRIES p.migration.length
  let h2 := h1.raise 0x3022 c p.migration.length (s / 1000 % 2 ^ 32)
  let h3 := match h2.tsk.olc.armCmd with
    | some d => h2.complete d stOk true c (s % 2 ^ 32) (s / 2 ^ 32) (event := 0x3022)
    | none => h2
  let h4 := { h3 with tsk := { h3.tsk with olc := { point := s } }, nvs := { h3.nvs with pairLayout := some (h3.progTarget, p.layout) } }
  (h4.passStart p.layout).passClose

/-- A follower that fails after it has confirmed s enters SAFE (R122); the spec names no cause for it (log 3). -/
def Hw.followFail (h : Hw) : Hw := if h.mode = .follow then (h.bump).safe ((Config.freeValue h.free).toNat % 256) 0 else h

/-- Whether an entry reads the memory group `g` (R120). -/
def MigRow.readsGroup (e : MigRow) (g : Nat) : Bool :=
  let a := coreToSup e.src
  e.srcLen != 0 && decide (a / 8 ≤ g ∧ g ≤ (a + e.srcLen - 1) / 8)

/-- The swap at s (R110): an uncorrectable error in a source rolls it back (R120). -/
def swapRun (h : Hw) (o : Otp) (p : Pitch) (s : Nat) : Hw × Otp :=
  let h1 := ((h.untilTb s).fset R.TSK_OLC_STATUS_STATE 4).passDrop
  let h2 := { h1 with tsk := { h1.tsk with olc := { h1.tsk.olc with point := s } } }
  if p.migration.any (fun e => h2.exe.poison.any e.readsGroup) then
    ((h2.olcRollback 13 0).followFail, o)
  else
    let h3 := (p.migration.foldl Hw.migrate h2).passClocks (swapClocks p.migration - 800)
    let r := swapSwitch h3 o p
    ((r.1.passClocks 800).swapEnd p s, r.2)

/-! ## The swap point (R109, R122) -/

/-- W in ns. -/
def swapW (p : Pitch) : Nat := ((swapClocks p.migration + 399) / 400 + 2) * 1000

/-- Whether a write of the page engine copies retain lines of an affected task (R109). -/
def Hw.copiesAff (h : Hw) (p : Pitch) (w : NvWrite) : Bool :=
  match w with
  | .retPage _ _ ls => (List.range 32).any (fun t => p.aff t && ls.any (fun l => (h.linesOf t).contains l.1))
  | _ => false

/-- Whether every affected task of the running program is idle, and the retain pass is not copying lines of one (R109). -/
def Hw.swapIdle (h : Hw) (p : Pitch) : Bool :=
  (List.range 32).all (fun t => !p.aff t || (h.prog.task t).kind == 0 ||
    ((h.tstate t == 0 || h.tstate t == 7) && h.tsk.pendEv.all (fun e => e.task != t))) &&
  (h.nvs.busy.toList ++ h.nvs.queue).all (fun w => !h.copiesAff p w)

/-- The first due instant of an affected task in [s, s + W]. -/
def Hw.swapDue (h : Hw) (p : Pitch) (s : Nat) : Option Nat :=
  let due := fun t =>
    let per := h.periodNs t
    let first := h.dueOf t (h.cyc t).nextK
    if per = 0 ∨ s ≤ first then first else first + (s - first + per - 1) / per * per
  (((List.range 32).filter (fun t => p.aff t && h.releases t (h.dueOf t (h.cyc t).nextK))).map due).find? (fun d => decide (d ≤ s + swapW p))

/-- When an affected task that is released up to `s` is idle again at the latest, as its deadline has it: of its last release by then, or of
the cycle that runs or waits (R79, log 113). -/
def Hw.busyTill (h : Hw) (t s : Nat) : Nat :=
  let c := h.cyc t
  let per := h.periodNs t
  let first := h.dueOf t c.nextK
  let now := match h.tsk.pendEv.find? (fun e => e.task == t) with
    | some e => max c.dead (h.deadlineOf t e.inst)
    | none => if h.tstate t = 0 ∨ h.tstate t = 7 then 0 else c.dead
  if h.releases t first = true ∧ first ≤ s then max now (h.deadlineOf t (if per = 0 then first else first + (s - first) / per * per)) else now

/-- The first instant after `s` at which the affected tasks may all be idle; none where they are at `s`. -/
def Hw.swapBusy (h : Hw) (p : Pitch) (s : Nat) : Option Nat :=
  (((List.range 32).filter (fun t => p.aff t && (h.prog.task t).kind != 0)).map (fun t => h.busyTill t s)).find? (fun b => decide (s < b))

/-- The first whole microsecond from `s` on that meets R109 as far as it can be foreseen; `n` bounds the search. -/
def Hw.swapFree (h : Hw) (p : Pitch) : Nat → Nat → Option Nat
  | 0, _ => none
  | n + 1, s => match h.swapBusy p s with
    | some b => h.swapFree p n (ceilTo 1000 b)
    | none => match h.swapDue p s with
      | none => some s
      | some d => h.swapFree p n (ceilTo 1000 (d + 1))

/-- WAIT_MS within its limits. -/
def Hw.waitMs (h : Hw) : Nat := min 60000 (max 10 (h.fget R.TSK_OLC_CFG_WAIT_MS))

/-- In a pair: s is chosen and proposed, at least 1 ms ahead (R122). -/
def Hw.swapPropose (h : Hw) (p : Pitch) : Hw :=
  match h.swapFree p 256 (ceilTo 1000 (h.clk.tb + 1000000)) with
  | none => h
  | some s =>
    if h.tsk.olc.armAt + h.waitMs * 1000000 < h.clk.up + (s - h.clk.tb) then h else
    let h1 := { h with tsk := { h.tsk with olc := { h.tsk.olc with point := s, confirmed := false } } }
    h1.pairSend (.control { kind := 2, inst := s, a := p.hash })

/-- A point at which the module is not idle after all: the active module lets it lapse, in its follower too, and searches on; a follower has
failed (R122, log 113). -/
def Hw.swapLapse (h : Hw) : Hw :=
  let h1 := { h with tsk := { h.tsk with olc := { h.tsk.olc with point := 0, confirmed := false } } }
  if h1.mode = .follow then h1.followFail
  else h1.pairSend (.control { kind := 2, a := (h.tsk.olc.staged.map (·.hash)).getD 0, b := h.tsk.olc.point })

/-- The search of an armed online change meets its swap point. -/
def swapFound (h : Hw) (o : Otp) : Hw × Otp :=
  match h.tsk.olc.staged with
  | none => (h, o)
  | some p =>
    if h.fget R.TSK_OLC_STATUS_STATE ≠ 3 then (h, o)
    else if h.tsk.olc.point ≠ 0 then
      if !h.tsk.olc.confirmed then (h, o)
      else
        let h1 := h.untilTb h.tsk.olc.point
        if h1.swapIdle p then swapRun h1 o p h.tsk.olc.point
        else (h1.swapLapse, o)
    else if h.fbit R.TSK_OLC_STATUS_PAIRED then (h.swapPropose p, o)
    else if !h.swapIdle p then (h, o)
    else
      let s := ceilTo 1000 h.clk.tb
      if (h.swapDue p s).isSome then (h, o) else swapRun h o p s

/-- SWAP_POINT_FOUND (R109). -/
def execSwapPointFound (s : State) : Host.Outcome State Fault Refusal :=
  let r := swapFound s.hw s.otp
  .next { s with hw := r.1, otp := r.2 }

/-- SWAP_SEARCH_TIMEOUT (R109): reason 10. -/
def Hw.swapTimeout (h : Hw) : Hw :=
  if h.fget R.TSK_OLC_STATUS_STATE = 3 ∧ h.tsk.olc.armCmd.isSome = true then
    (h.untilUp (h.tsk.olc.armAt + h.waitMs * 1000000)).olcRollback 10 0
  else h

/-- SWAP_SEARCH_TIMEOUT. -/
def execSwapSearchTimeout (s : State) : Host.Outcome State Fault Refusal := onHw s Hw.swapTimeout

end Sys2Proof.Machine
end

