-- ==== Sys2Proof/Machine/Nvs.lean ====
section
/-! DEFINITION. The page engine's ends (R350 to R356, R361, R362), NOR operations (R375 to R379), the scrubber (R364 to R366), user
regions and passwords (R367 to R371), NOR_ERASE and FW_UPDATE (R377, R378). -/

namespace Sys2Proof.Machine

/-! ## What a completed write leaves in MRAM -/

/-- A copy pair whose layout Table 14-2 gives: the bytes of the page just written, generation first. -/
def Hw.pairBytes {α : Type} (h : Hw) (off : Nat) (p : CopyPair α) (bs : List Byte) : Hw :=
  h.setMbs (0x50600000 + off + (if p.inB then 0x100 else 0)) (leBytes 4 (((p.cur).map (·.1)).getD 0) ++ bs)

/-- Bytes 4 on of the recorder pointer record (Table 14-2). -/
def RecPtr.bytes (r : RecPtr) : List Byte :=
  leBytes 4 r.page ++ leBytes 4 r.firstSeq ++ leBytes 4 r.offset ++ leBytes 1 r.clearState ++ leBytes 1 r.clearKey ++ leBytes 2 0 ++
    leBytes 4 r.clearSeq ++ leBytes 4 r.clearCount ++ leBytes 4 r.archNext ++ leBytes 4 r.archHigh ++ leBytes 4 r.archLow

/-- The retain commit record of a buffer. -/
def Hw.setRet (h : Hw) (b : Nat) (x : Option (Nat × Nat)) : Hw :=
  if b = 0 then { h with nvs := { h.nvs with retA := x } } else { h with nvs := { h.nvs with retB := x } }

/-- The MRAM effect of a write. -/
def Hw.nvData (h : Hw) (w : NvWrite) : Hw :=
  match w with
  | .state l a => { h with nvs := { h.nvs with stateRec := h.nvs.stateRec.put (l, a) } }
  | .marker m => { h with nvs := { h.nvs with markerRec := h.nvs.markerRec.put m } }
  | .invalBuf b => h.setRet b none
  | .retCommit b s l => h.setRet b (some (s, l))
  | .pagePair b s l m => { (h.setRet b (some (s, l))) with nvs := { (h.setRet b (some (s, l))).nvs with markerRec := h.nvs.markerRec.put m, pairLayout := none } }
  | .journal j => { h with nvs := { h.nvs with journalRec := h.nvs.journalRec.put j } }
  | .pwd f l _ _ => { h with nvs := { h.nvs with pwdRec := h.nvs.pwdRec.put (f, l) } }
  | .recPtr r =>
    let p := h.nvs.recPtrRec.put r
    ({ h with nvs := { h.nvs with recPtrRec := p } }).pairBytes 0xA00 p r.bytes
  | .usage ws =>
    let p := h.nvs.usageRec.put ws
    ({ h with nvs := { h.nvs with usageRec := p } }).pairBytes 0xD00 p (ws.flatMap (leBytes 4))
  | .rates page supp => h.pagePut (pageOf 0x50601000 + page) 0 (supp.flatMap (leBytes 2))
  | .retPage b page lines =>
    (lines.foldl (fun h x => h.setMbs (bufBase b + x.1 * 64) x.2) h).pagePut (pageOf (bufBase b) + page) 0 []
  | .record a bs => h.setMbs a bs
  | .clearRing => { h with mem := tfilter (fun a => a < 0x50100000 || 0x50300000 ≤ a) h.mem }
  | .cfgInval slot _ => h.setSlot slot none
  | .cfgData slot bs => Hw.pagesPut 1024 (cfgBase slot + 256) bs h
  | .cfgHeader slot c _ _ => (h.pagePut (pageOf (cfgBase slot)) 0 (c.bytes.take 256)).setSlot slot (some c)
  | .user a bs _ => h.pagePut (pageOf a) (a % 256) bs
  | .refresh a => { h with nvs := { h.nvs with corr := h.nvs.corr.filter (fun g => g != a / 8) } }

/-! ## What follows a completed write -/

/-- The latch's MRAM copy is clear (R47): the backup copy follows, and a passed RECOVERY ends. -/
def Hw.latchCleared (h : Hw) : Hw :=
  (((h.fset R.CAL_BKREC0_SAFE_COPY 0).fset R.SUP_MODE_STATUS_SAFE_LATCH 0).lands).toward Mode.startup 0x21 none

/-- The firmware slot marker is switched: the journal goes to STATE 4. -/
def Hw.fwMarked (h : Hw) (m : Marker) : Hw :=
  let j := h.journalNew
  if j.st = 3 ∧ m.fw = j.target then h.setJournal { j with st := 4 } else h

/-- STATE 4 is in the journal (R378): the command completes and a commanded reset follows, with which FWU ends (Table 2-8). -/
def Hw.fwSwitched (h : Hw) : Hw :=
  let h1 := (h.actCmds .fwu).foldl (fun h d => h.complete d stOk true) h
  { h1 with sup := { h1.sup with resetDue := some (h.clk.up + 1000000) } }

/-- The switch of an online change has committed (R118). -/
def Hw.pairDone (h : Hw) (o : Otp) (b seq lay : Nat) : Hw :=
  let h1 := (h.bufCommit b seq lay).olcEnd lay b
  let h2 := { h1 with nvs := { h1.nvs with pairLayout := none }, tsk := { h1.tsk with olc := { h1.tsk.olc with cfg := none } } }
  let a := h2.fget R.SUP_CFG_STATUS_APPLIED
  if a = 0 then h2 else h2.slotClass o (a - 1)

/-- A user page is written: the command's last page completes it, a mailbox gets its reply. -/
def Hw.userDone (h : Hw) (w : UserWho) : Hw :=
  match w with
  | .cmd d last => if last then h.complete d stOk true else h
  | .mailbox reply seq len off => h.mboxReply reply seq 0 len off []
  | .sys => h

/-- What a completed write starts. -/
def nvAfter (h : Hw) (o : Otp) (w : NvWrite) : Hw × Otp :=
  match w with
  | .state l _ =>
    if l = false ∧ h.mode = Mode.recovery ∧ h.sup.selfTested = true ∧ h.fbit R.SUP_MODE_STATUS_SAFE_LATCH = true then (h.latchCleared, o) else (h, o)
  | .marker m => (h.fwMarked m, o)
  | .retCommit b s l => (h.bufCommit b s l, o)
  | .pagePair b s l _ => (h.pairDone o b s l, o)
  | .journal j => (if j.st = 4 ∧ h.actRuns .fwu = true then h.fwSwitched else h, o)
  | .pwd _ _ (some d) st => (h.complete d st (event := 0x8010), o)
  | .record _ bs => (if bs.length = 32 ∧ leNat (bs.take 2) = 0x9012 then h.clearDone else h.frozenNow, o)
  | .clearRing => (h.clearPages, o)
  | .cfgInval slot choose => cfgInvalDone h o slot choose
  | .cfgHeader slot c d apply => cfgHeaderDone h o slot c d apply
  | .user _ _ who => (h.userDone who, o)
  | .refresh _ => (h.finc R.NVS_ECC_CNT_REFRESH, o)
  | _ => (h, o)

/-- The write in progress completes, and the next one starts (R355). -/
def nvDone (h : Hw) (o : Otp) (rec : Bool) : Hw × Otp :=
  match h.nvs.busy with
  | none => (h, o)
  | some w =>
    if w.isRec ≠ rec then (h, o)
    else
      let h1 := (({ h with nvs := { h.nvs with busy := none } }).fset R.NVS_STATUS_BUSY 0).nvData w
      let r := nvAfter h1 o w
      (r.1.nvKick, r.2)

/-- PAGE_WRITE_DONE (R353). -/
def execPageWriteDone (s : State) : Host.Outcome State Fault Refusal :=
  let r := nvDone s.hw s.otp false
  .next { s with hw := r.1, otp := r.2 }

/-- RECORD_WRITE_DONE (R354). -/
def execRecordWriteDone (s : State) : Host.Outcome State Fault Refusal :=
  let r := nvDone s.hw s.otp true
  .next { s with hw := r.1, otp := r.2 }

/-- A reset and the power-fail flush wait for the write in progress (R358, R361). -/
def Hw.nvFinish (h : Hw) : Hw :=
  match h.nvs.busy with
  | none => h
  | some w => ((({ h with nvs := { h.nvs with busy := none } }).fset R.NVS_STATUS_BUSY 0).nvData w).passWritten w

/-! ## Torn writes (R362) -/

/-- The bytes `bs` at `a` of a write whose groups, counted from `base`, are new before group `n`; group `n` is new where `g` is 1. -/
def Hw.tornPart (h : Hw) (base a : Nat) (bs : List Byte) (n g : Nat) : Hw :=
  h.setMbs a (bs.take (base + 8 * (if g = 1 then n + 1 else n) - a))

/-- Group `n` from `base` is uncorrectable where `g` is 2. -/
def Hw.tornGroup (h : Hw) (base n g : Nat) : Hw :=
  if g = 2 then { h with nvs := { h.nvs with uncorr := h.nvs.uncorr ++ [base / 8 + n] } } else h

/-- The groups of a write's data: those before group `n` are new, group `n` is new where `g` is 1, uncorrectable where it is 2. -/
def Hw.tornBytes (h : Hw) (base a : Nat) (bs : List Byte) (n g : Nat) : Hw := (h.tornPart base a bs n g).tornGroup base n g

/-- A page whose commit group no longer reads as written. -/
def Hw.tornPage (h : Hw) (pg : Nat) : Hw := { h with nvs := { h.nvs with badPages := h.nvs.badPages.filter (fun x => x != pg) ++ [pg] } }

/-- The data page of a torn page write: Table 13-6. `keep`: the page is still committed as it was. -/
def Hw.tornData (h : Hw) (a : Nat) (bs : List Byte) (step n g : Nat) : Hw :=
  if step = 0 ∨ (step = 1 ∧ g = 0) then h
  else if step = 1 then h.tornPage (pageOf a)
  else if step = 2 then (h.tornBytes (a / 256 * 256) a bs n g).tornPage (pageOf a)
  else if g = 1 then h.pagePut (pageOf a) (a % 256) bs
  else (h.setMbs a bs).tornPage (pageOf a)

/-- A torn write of a copy pair's page or of a commit record: the copy being written is lost unless the old or the new commit group
stands. -/
def Hw.tornRec (h : Hw) (w : NvWrite) (step g : Nat) : Hw :=
  if step = 0 ∨ (step = 1 ∧ g = 0) then h
  else if step = 3 ∧ g = 1 then h.nvData w
  else match w with
    | .state .. => { h with nvs := { h.nvs with stateRec := h.nvs.stateRec.tear } }
    | .marker _ => { h with nvs := { h.nvs with markerRec := h.nvs.markerRec.tear } }
    | .journal _ => { h with nvs := { h.nvs with journalRec := h.nvs.journalRec.tear } }
    | .pwd .. => { h with nvs := { h.nvs with pwdRec := h.nvs.pwdRec.tear } }
    | .recPtr _ => { h with nvs := { h.nvs with recPtrRec := h.nvs.recPtrRec.tear } }
    | .usage _ => { h with nvs := { h.nvs with usageRec := h.nvs.usageRec.tear } }
    | .invalBuf b => h.setRet b none
    | .retCommit b .. => h.setRet b none
    | .pagePair b .. => h.setRet b none
    | .cfgInval slot _ => h.setSlot slot none
    | .cfgHeader slot .. => h.setSlot slot none
    | _ => h

/-- The write in progress is torn (Table 13-6, R362). -/
def Hw.tearWrite (h : Hw) (step n g : Nat) : Hw :=
  match h.nvs.busy with
  | none => h
  | some w =>
    let h1 := ({ h with nvs := { h.nvs with busy := none } }).fset R.NVS_STATUS_BUSY 0
    match w with
    | .record a bs => if 8 * n < bs.length then h1.tornBytes a a (bs.take (bs.length - 8)) n g else h1.setMbs a (bs.take (bs.length - 8))
    | .clearRing => { h1 with mem := tfilter (fun a => a < 0x50100000 || 0x50100000 + 256 * n ≤ a) h1.mem }
    | .user a bs _ => h1.tornData a bs step n g
    | .cfgData slot bs => h1.tornData (cfgBase slot + 256) (bs.take 256) step n g
    | .rates page supp => h1.tornData (0x50601000 + page * 256) (supp.flatMap (leBytes 2)) step n g
    | .retPage b page lines =>
      if step = 0 ∨ (step = 1 ∧ g = 0) then h1
      else
        let base := bufBase b + page * 256
        let put := fun (h : Hw) (x : Nat × List Byte) =>
          if step = 3 then h.setMbs (bufBase b + x.1 * 64) x.2 else if step = 2 then h.tornPart base (bufBase b + x.1 * 64) x.2 n g else h
        let h2 := lines.foldl put h1
        if step = 3 ∧ g = 1 then h2.pagePut (pageOf (bufBase b) + page) 0 []
        else (if step = 2 then h2.tornGroup base n g else h2).tornPage (pageOf (bufBase b) + page)
    | .refresh a => if g = 2 then { h1 with nvs := { h1.nvs with uncorr := h1.nvs.uncorr ++ [a / 8] } } else h1
    | _ => h1.tornRec w step g

/-! ## NOR operations -/

/-- The address and the operation (1 erase, 2 program) that event 0x8008 names. -/
def Hw.norAddr (h : Hw) (x : NorOp) : Nat × Nat :=
  match x with
  | .eraseSlot slot _ => (0x61000000 + slot * 0x2000000, 1)
  | .eraseArchive s _ => (0x66000000 + s * 65536, 1)
  | .progSlot slot .. => (0x61000000 + slot * 0x2000000, 2)
  | .copySector s => (0x60000000 + h.journalNew.target * 0x800000 + s * 65536, 2)
  | .archive _ => (archAddr h.recPtrNew.archNext, 2)

/-- The archive sectors whose records all lie before CLEAR_SEQ (R400). -/
def Hw.oldSectors (h : Hw) : List Nat :=
  let cs := h.recPtrNew.clearSeq
  let ms := (h.marked 0x66000000 0xA000000).map (fun a => ((a - 0x66000000) / 65536, h.ml (a + 12) 4))
  ((ms.map (·.1)).eraseDups).filter (fun s => ms.all (fun m => m.1 != s || serialLater cs m.2))

/-- An archive sector is erased; the last one ends NOR. -/
def Hw.sectorErased (h : Hw) (s : Nat) (d : Desc) : Hw :=
  let a := 0x66000000 + s * 65536
  let h1 := { h with mem := tfilter (fun x => x < a || a + 65536 ≤ x) h.mem }
  if h1.nvs.norOps.any (fun x => x.act == some .nor) then h1
  else
    let r := h1.recPtrNew
    let h2 := h1.nvPush (.recPtr { r with archLow := lowestSeq r.archHigh (h1.archRecs.map (·.1)) })
    (h2.complete d stOk true).actSet .nor false

/-- The sectors of an image. -/
def Journal.sectors (j : Journal) : Nat := (j.len + 65535) / 65536

/-- A sector of the firmware copy is programmed: SECTOR moves on; after the last the slot is VALID and the marker is switched. -/
def Hw.sectorCopied (h : Hw) (s : Nat) : Hw :=
  let j := { (h.journalNew) with sector := s + 1 }
  let h1 := (h.nvPush (.journal j)).fwuStatus j
  if s + 1 < j.sectors then { h1 with nvs := { h1.nvs with norOps := h1.nvs.norOps ++ [NorOp.copySector (s + 1)] } }
  else
    let h2 := { h1 with nvs := { h1.nvs with norFw := tset {} h1.nvs.norFw j.target { valid := true, fw := h1.nvs.journalImage } } }
    h2.nvPush (.marker { (h2.marker) with fw := j.target })

/-- A NOR operation completes. -/
def Hw.norDone (h : Hw) (x : NorOp) : Hw :=
  match x with
  | .eraseSlot slot d => ((h.setNorProg slot {}).complete d stOk true).actSet .nor false
  | .eraseArchive s d => h.sectorErased s d
  | .progSlot slot p d mark => h.progDone slot p d mark
  | .copySector s => h.sectorCopied s
  | .archive p => h.archiveDone p

/-- A NOR operation fails: 0x8008, its command FAILED. -/
def Hw.norFailed (h : Hw) (x : NorOp) : Hw :=
  let a := h.norAddr x
  let h1 := h.raise 0x8008 a.1 a.2
  match x with
  | .eraseSlot _ d => (h1.complete d stFailed (event := 0x8008)).actSet .nor false
  | .eraseArchive _ d => ((h1.norDrop .nor).complete d stFailed (event := 0x8008)).actSet .nor false
  | .progSlot _ _ d _ => h1.progFail d 0 0 0x8008
  | .copySector _ => ((h1.actCmds .fwu).foldl (fun h d => h.complete d stFailed (event := 0x8008)) h1).actSet .fwu false
  | .archive _ => ({ h1 with evr := { h1.evr with archiving := none } }).fset R.EVR_STATUS_ARCHIVING 0

/-- The NOR operation in progress ends (R375); injection 0x805 makes one fail. -/
def Hw.norEnd (h : Hw) (ok : Bool) : Hw :=
  match h.nvs.norOps with
  | [] => h
  | x :: r =>
    let h1 := { h with nvs := { h.nvs with norOps := r, norFail := false } }
    if ok && !h.nvs.norFail then h1.norDone x else h1.asInj h.nvs.norFail (fun h => h.norFailed x)

/-- NOR_OP_DONE: `ok` is what the NOR reports. -/
def execNorOpDone (ok : Bool) (s : State) : Host.Outcome State Fault Refusal := onHw s (fun h => h.norEnd ok)

/-! ## The scrubber -/

/-- Whether a group (address / 8) lies in a slice. -/
def inSlice (s g : Nat) : Bool := decide (0x50000000 + s * 65536 ≤ g * 8 ∧ g * 8 < 0x50000000 + (s + 1) * 65536)

/-- Margin-reads the slice: correctable groups are refreshed, uncorrectable ones reported (R352, R365). -/
def Hw.sliceRead (h : Hw) (s : Nat) : Hw :=
  let h0 := if h.nvs.scrubRef then { h with nvs := { h.nvs with scrubRef := false, corr := h.nvs.corr ++ [(0x50000000 + s * 65536) / 8] } } else h
  let cs0 := h0.nvs.corr.filter (inSlice s)
  let us := h0.nvs.uncorr.filter (inSlice s)
  let cs := cs0.filter (fun g => !us.contains g)
  let h1 := cs.foldl (fun h g => h.nvPush (.refresh (g * 8))) (h0.corrRead (0x50000000 + s * 65536) 65536)
  let h2 := us.foldl (fun h g => h.uncorrRead (g * 8) 4) h1
  { h2 with nvs := { h2.nvs with scrubCorr := h2.nvs.scrubCorr + cs.length, scrubUncorr := h2.nvs.scrubUncorr + us.length } }

/-- The background slice due at `t` has run. -/
def Hw.sliceAt (h : Hw) (t : Nat) : Hw := { h with nvs := { h.nvs with scrubAt := t } }

/-- The pass is complete: 0x8003, AGE_H 0, and the end of SCR. -/
def Hw.scrubEnd (h : Hw) : Hw :=
  let c := h.nvs.scrubCorr
  let u := h.nvs.scrubUncorr
  let h1 := ((h.fset R.NVS_SCRUB_STATUS_SLICE 0).fset R.NVS_SCRUB_STATUS_AGE_H 0).raise 0x8003 c u
  let h2 := { h1 with nvs := { h1.nvs with scrubCorr := 0, scrubUncorr := 0, scrubCmd := none } }
  match h.nvs.scrubCmd with
  | some d => ((h2.sliceAt h2.clk.up).complete d stOk true c u (event := 0x8003)).actSet .scr false
  | none => h2

/-- The next slice runs. -/
def Hw.sliceRun (h : Hw) : Hw :=
  let s := h.fget R.NVS_SCRUB_STATUS_SLICE
  let h1 := h.sliceRead s
  if s = 127 then h1.scrubEnd else h1.fset R.NVS_SCRUB_STATUS_SLICE (s + 1)

/-- A slice runs (R364, R366): those of SCR back to back; a background one every 675 s, or once in a housekeeping wake of PARKED, and not
beside an activity: it then runs once none runs. -/
def Hw.scrubSlice (h : Hw) : Hw :=
  if h.nvs.scrubCmd.isSome then h.sliceRun
  else if h.fget R.SUP_ADMIT_STATUS_RUNNING != 0 || !h.powered then h
  else if h.mode = .parked then
    if h.nvs.scrubAt < h.sup.parkedAt then h.sliceRun.sliceAt h.sup.parkedAt else h
  else
    let t := h.nvs.scrubAt + 675000000000
    ((h.untilUp t).sliceRun).sliceAt t

/-- SCRUB_SLICE (R364). -/
def execScrubSlice (s : State) : Host.Outcome State Fault Refusal := onHw s Hw.scrubSlice

/-- NV_SCRUB once admitted (R366): every slice, from slice 0. -/
def Hw.startScrub (h : Hw) (d : Desc) : Hw :=
  ({ (h.runCmd d) with nvs := { (h.runCmd d).nvs with scrubCmd := some d, scrubCorr := 0, scrubUncorr := 0 } }).fset R.NVS_SCRUB_STATUS_SLICE 0

def Hw.cmdScrub (h : Hw) (d : Desc) : Hw :=
  let r := h.request d .scr
  if r.2 then r.1.startScrub d else r.1

/-- NV_SCRUB. -/
def execNvScrub (d : Desc) (s : State) : Host.Outcome State Fault Refusal := onHw s (fun h => h.hostCmd d 0x0604 Hw.cmdScrub)

/-! ## User regions -/

/-- Whether a command's range lies in a user region. -/
def userRange (d : Desc) : Bool := decide (d.p0 ≤ 15 ∧ 1 ≤ d.len ∧ d.p1 + d.len ≤ 0x30000)

/-- Whether password `k` of region `r` stands open for a source (R368, R369). -/
def Hw.pwdOpen (h : Hw) (r k : Nat) (src : Src) : Bool :=
  h.pwdDigest r k == 0 || h.nvs.unlocks.any (fun u => u.pwd == r * 2 + k && u.src == src.code)

/-- An access by a source to a region renews its unlocks (R369). -/
def Hw.pwdTouch (h : Hw) (r : Nat) (src : Src) : Hw :=
  { h with nvs := { h.nvs with unlocks := h.nvs.unlocks.map (fun u => if u.pwd / 2 = r ∧ u.src = src.code then { u with last := h.clk.up } else u) } }

/-- The read of a user region, whose pages are all committed or not (R363). -/
def Hw.nvReadNow (h : Hw) (d : Desc) (a : Nat) : Hw :=
  match h.uncorrIn a d.len with
  | some g =>
    -- the bytes of an uncorrectable group have no value that the spec states
    let r := (h.uncorrRead g 2).freeBytes d.len
    let bad := fun (x : Nat) => x / 8 * 8 == g || h.nvs.uncorr.contains (x / 8)
    r.1.complete d stFailed (detail := 1) (event := 0x8001) (out := (h.mbs a d.len).zipIdx.map (fun p => if bad (a + p.2) then r.2.getD p.2 0#8 else p.1))
  | none =>
    let h1 := h.corrRead a d.len
    if (pagesOf a d.len).all h.pageOk then h1.complete d stOk (out := h.mbs a d.len)
    else h1.complete d stFailed (detail := 1) (out := h.mbs a d.len)

/-- NV_READ (R368). -/
def Hw.cmdNvRead (h : Hw) (d : Desc) : Hw :=
  if !userRange d then h.complete d stValue
  else if !h.pwdOpen d.p0 0 d.src then h.complete d stAuth
  else (h.pwdTouch d.p0 d.src).nvReadNow d (0x50300000 + d.p0 * 0x30000 + d.p1)

/-- NV_READ. -/
def execNvRead (d : Desc) (s : State) : Host.Outcome State Fault Refusal := onHw s (fun h => h.hostCmd d 0x0601 Hw.cmdNvRead)

/-- The pages of a write, each one request, in ascending order (R367); `n` bounds them. -/
def Hw.userPages (d : Desc) : Nat → Nat → List Byte → Hw → Hw
  | 0, _, _, h => h
  | n + 1, a, bs, h =>
    let k := 256 - a % 256
    let h1 := h.nvPush (.user a (bs.take k) (.cmd d (decide (bs.length ≤ k))))
    if bs.length ≤ k then h1 else Hw.userPages d n (a + k) (bs.drop k) h1

/-- NV_WRITE (R367, R368). -/
def Hw.cmdNvWrite (h : Hw) (d : Desc) : Hw :=
  if !userRange d then h.complete d stValue
  else if !h.pwdOpen d.p0 1 d.src then h.complete d stAuth
  else Hw.userPages d 769 (0x50300000 + d.p0 * 0x30000 + d.p1) (sliceZ d.data 0 d.len) ((h.pwdTouch d.p0 d.src).runCmd d)

/-- NV_WRITE. -/
def execNvWrite (d : Desc) (s : State) : Host.Outcome State Fault Refusal := onHw s (fun h => h.hostCmd d 0x0602 Hw.cmdNvWrite)

/-- A wrong password (R370): the count is written before the command completes; the eighth locks it. -/
def Hw.pwdWrong (h : Hw) (d : Desc) : Hw :=
  let i := d.p0 * 2 + d.p1
  let st := h.pwdState
  let n := tget 0 st.1 i + 1
  let lock := if 8 ≤ n then setBitsOf st.2 i 1 1 else st.2
  let h1 := ((h.runCmd d).nvPush (.pwd (tset 0 st.1 i n) lock (some d) stAuth)).raise 0x8010 d.p0 d.p1 n
  if 8 ≤ n then (h1.setReg R.NVS_PWD_LOCK (w32 lock)).raise 0x8011 d.p0 d.p1 else h1

/-- A right password: the count goes to 0, the source's unlock begins. -/
def Hw.pwdRight (h : Hw) (d : Desc) : Hw :=
  let i := d.p0 * 2 + d.p1
  let st := h.pwdState
  let h1 := if tget 0 st.1 i = 0 then h else h.nvPush (.pwd (tset 0 st.1 i 0) st.2 none 0)
  let us := h1.nvs.unlocks.filter (fun u => !(u.pwd == i && u.src == d.src.code))
  ({ h1 with nvs := { h1.nvs with unlocks := us ++ [({ pwd := i, src := d.src.code, last := h.clk.up } : Unlock)] } }).complete d stOk true

/-- NV_UNLOCK (R369, R370); `aux` is 1 where the password's digest is the configured one. -/
def Hw.cmdNvUnlock (h : Hw) (d : Desc) : Hw :=
  if 15 < d.p0 ∨ 1 < d.p1 then h.complete d stValue
  else if h.fbit R.NVS_STATUS_ARMED = false then h.complete d stBusy
  else if h.pwdState.2.testBit (d.p0 * 2 + d.p1) then h.complete d stLocked
  else if h.pwdDigest d.p0 d.p1 = 0 ∨ d.aux = 1 then h.pwdRight d else h.pwdWrong d

/-- NV_UNLOCK. -/
def execNvUnlock (d : Desc) (s : State) : Host.Outcome State Fault Refusal := onHw s (fun h => h.hostCmd d 0x0603 Hw.cmdNvUnlock)

/-- The unlock that has been without an access longest. -/
def Hw.oldUnlock (h : Hw) : Option Unlock :=
  h.nvs.unlocks.foldl (fun b u => match b with
    | none => some u
    | some v => if u.last < v.last then some u else some v) none

/-- An unlock lapses 600 s after its last access. -/
def Hw.unlockLapse (h : Hw) : Hw :=
  match h.oldUnlock with
  | none => h
  | some u =>
    let h1 := h.untilUp (u.last + 600000000000)
    { h1 with nvs := { h1.nvs with unlocks := h1.nvs.unlocks.filter (fun x => x != u) } }

/-- UNLOCK_EXPIRY (R369). -/
def execUnlockExpiry (s : State) : Host.Outcome State Fault Refusal := onHw s Hw.unlockLapse

/-! ## NOR_ERASE -/

/-- NOR_ERASE with P0 = 0, once admitted. -/
def Hw.startEraseArchive (h : Hw) (d : Desc) : Hw :=
  let ss := h.oldSectors
  if ss.isEmpty then (h.complete d stOk true).actSet .nor false
  else { (h.runCmd d) with nvs := { (h.runCmd d).nvs with norOps := h.nvs.norOps ++ ss.map (fun s => NorOp.eraseArchive s d) } }

/-- NOR_ERASE with P0 = 1, once admitted: the slot is retired first (R376, R377). -/
def Hw.startEraseSlot (h : Hw) (d : Desc) : Hw :=
  let h1 := (h.runCmd d).retireProg h.progTarget
  { h1 with nvs := { h1.nvs with norOps := h1.nvs.norOps ++ [NorOp.eraseSlot h.progTarget d] } }

/-- NOR_ERASE. -/
def Hw.cmdNorErase (h : Hw) (d : Desc) : Hw :=
  if 1 < d.p0 then h.complete d stValue
  else
    let r := h.request d .nor
    if !r.2 then r.1 else if d.p0 = 0 then r.1.startEraseArchive d else r.1.startEraseSlot d

/-- NOR_ERASE_ARCHIVE (R400): P0 = 0. -/
def execNorEraseArchive (d : Desc) (s : State) : Host.Outcome State Fault Refusal :=
  onHw s (fun h => h.hostCmd d 0x0605 (fun h d => h.cmdNorErase { d with p0 := 0 }))
/-- NOR_ERASE_PROGRAM_SLOT (R377): P0 = 1. -/
def execNorEraseProgramSlot (d : Desc) (s : State) : Host.Outcome State Fault Refusal :=
  onHw s (fun h => h.hostCmd d 0x0605 (fun h d => h.cmdNorErase { d with p0 := 1 }))

/-! ## FW_UPDATE (R378) -/

/-- The first piece: an open journal is replaced, STATE 1. -/
def Hw.fwStart (h : Hw) : Hw :=
  let j := h.journalNew
  let h1 := if 1 ≤ j.st ∧ j.st ≤ 3 then h.dropJournal 3 else h
  h1.setJournal { st := 1, target := h.fwTarget }

/-- FWU ends with FAILED and the journal discarded. -/
def Hw.fwFail (h : Hw) (d : Desc) (detail : Nat) : Hw :=
  (((h.dropJournal 2)).complete d stFailed (detail := detail) (event := 0x8022)).actSet .fwu false

/-- The last piece: verification, then the copy into the other slot. -/
def Hw.fwLast (h : Hw) (o : Otp) (d : Desc) : Hw :=
  match d.obj with
  | .fw f =>
    let r := h.sigCheck o 1 f.hdr true
    match r.2 with
    | some n => r.1.fwFail d (if n = 3 then 2 else 1)
    | none =>
      let h1 := { (r.1.runCmd d) with nvs := { (r.1.runCmd d).nvs with journalImage := some f } }
      (h1.setJournal { (h1.journalNew) with st := 2, len := d.p2 + d.len, hash := f.hdr.objId }).fwCopy 0
  | _ => (h.verifyFail 1 { magic := 0 } 1).fwFail d 1

/-- FW_UPDATE: the image with its signature is at most 8 MiB − 64 KiB. -/
def Hw.cmdFwUpdate (h : Hw) (o : Otp) (d : Desc) : Hw :=
  if 0x7F0000 < d.p2 + d.len then h.complete d stValue
  else h.piece d .fwu (fun h _ => h.fwStart) (fun h d => h.fwLast o d)

/-- FW_UPDATE. -/
def execFwUpdate (d : Desc) (s : State) : Host.Outcome State Fault Refusal :=
  onHwO s (fun o h => h.hostCmd d 0x0606 (fun h d => h.cmdFwUpdate o d))

/-- PIECE_GAP_TIMEOUT (R338): 10 s after the last piece. -/
def Hw.pieceGap (h : Hw) : Hw :=
  match h.hif.xfers with
  | [] => h
  | x :: _ => (h.untilUp (x.last + 10000000000)).pieceLost x.op (if x.op = 0x0201 then .pdl else if x.op = 0x0606 then .fwu else .cfg)

/-- PIECE_GAP_TIMEOUT. -/
def execPieceGapTimeout (s : State) : Host.Outcome State Fault Refusal := onHw s Hw.pieceGap

/-! ## The hourly counters (R443) -/

/-- USAGE_COUNTER_SAVE: an hour has passed, and AGE_H follows; outside PARKED it is one of operation, which is counted and saved. -/
def Hw.usageSave (h : Hw) : Hw :=
  let t := h.nvs.hourAt + 3600000000000
  let h1 := (h.untilUp t).finc R.NVS_SCRUB_STATUS_AGE_H
  let h2 := { h1 with nvs := { h1.nvs with hourAt := t } }
  if h.mode = Mode.parked then h2 else let h3 := h2.useInc 8; h3.nvPush (.usage h3.sup.usage)

/-- USAGE_COUNTER_SAVE. -/
def execUsageCounterSave (s : State) : Host.Outcome State Fault Refusal := onHw s Hw.usageSave

end Sys2Proof.Machine
end

