-- ==== Sys2Proof/Machine/CalWdg.lean ====
section
/-! DEFINITION. The calendar (R402 to R412) and the watchdog (R413 to R419). -/

namespace Sys2Proof.Machine

/-! ## Dates -/

/-- A leap year (R408). -/
def leap (y : Nat) : Bool := (y % 4 == 0 && y % 100 != 0) || y % 400 == 0

/-- days_in of R408. -/
def daysIn (m y : Nat) : Nat :=
  if m = 2 then (if leap y then 29 else 28) else if m = 4 || m = 6 || m = 9 || m = 11 then 30 else 31

/-- The fields of the date and time words (CAL_DATE, CAL_TIME). -/
def dYear (d : Nat) : Nat := bitsOf d 16 16
def dMonth (d : Nat) : Nat := bitsOf d 8 4
def dDay (d : Nat) : Nat := bitsOf d 0 5
def dWday (d : Nat) : Nat := bitsOf d 5 3
def tHour (t : Nat) : Nat := bitsOf t 16 5
def tMin (t : Nat) : Nat := bitsOf t 8 6
def tSec (t : Nat) : Nat := bitsOf t 0 6

/-- A date word from its fields. -/
def dateWord (y m d w : Nat) : Nat := d % 32 + w % 8 * 32 + m % 16 * 256 + y % 65536 * 65536

/-- A time word from its fields, FRAC 0. -/
def timeWord (h m s : Nat) : Nat := s % 64 + m % 64 * 256 + h % 32 * 65536

/-- The next day (R408). -/
def nextDay (d : Nat) : Nat :=
  let y := dYear d
  let m := dMonth d
  let w := if dWday d ≥ 6 then 0 else dWday d + 1
  if dDay d < daysIn m y then dateWord y m (dDay d + 1) w
  else if m = 12 then dateWord ((y + 1) % 65536) 1 1 w
  else dateWord y ((m + 1) % 16) 1 w

/-- The counters after one more second (R408). -/
def nextSecond (d t : Nat) : Nat × Nat :=
  let s := tSec t
  let m := tMin t
  let h := tHour t
  if s < 59 then (d, timeWord h m (s + 1))
  else if m < 59 then (d, timeWord h (m + 1) 0)
  else if h < 23 then (d, timeWord (h + 1) 0 0)
  else (nextDay d, timeWord 0 0 0)

/-- RANGE_OK (R409). -/
def rangeOk (d t : Nat) : Bool :=
  decide (tSec t ≤ 59 ∧ tMin t ≤ 59 ∧ tHour t ≤ 23 ∧ 1 ≤ dMonth d ∧ dMonth d ≤ 12 ∧ 1 ≤ dDay d ∧ dDay d ≤ daysIn (dMonth d) (dYear d))

/-- Days from 1970-01-01 to a date of the Gregorian calendar. -/
def daysOf (y m d : Nat) : Int :=
  let y1 : Int := if m ≤ 2 then (y : Int) - 1 else y
  let era := y1 / 400
  let yoe := y1 - era * 400
  let doy : Int := (153 * (if m > 2 then (m : Int) - 3 else m + 9) + 2) / 5 + d - 1
  era * 146097 + (yoe * 365 + yoe / 4 - yoe / 100 + doy) - 719468

/-- The date of a day number. -/
def civilOf (n : Int) : Nat × Nat × Nat :=
  let z := n + 719468
  let era := z / 146097
  let doe := z - era * 146097
  let yoe := (doe - doe / 1460 + doe / 36524 - doe / 146096) / 365
  let doy := doe - (365 * yoe + yoe / 4 - yoe / 100)
  let mp := (5 * doy + 2) / 153
  let d := doy - (153 * mp + 2) / 5 + 1
  let m := if mp < 10 then mp + 3 else mp - 9
  let y := yoe + era * 400 + (if m ≤ 2 then 1 else 0)
  ((y % 65536).toNat, m.toNat, d.toNat)

/-- Seconds from 1970-01-01 00:00:00 to a date and time word. -/
def secondsOf (d t : Nat) : Int := daysOf (dYear d) (dMonth d) (dDay d) * 86400 + (tHour t * 3600 + tMin t * 60 + tSec t : Nat)

/-- The date and time words of a second count; weekday 0 is Sunday (Table 15-2; log 22). -/
def wordsOf (s : Int) : Nat × Nat :=
  let days := s / 86400
  let c := civilOf days
  let r := (s % 86400).toNat
  (dateWord c.1 c.2.1 c.2.2 ((days + 4) % 7).toNat, timeWord (r / 3600) (r / 60 % 60) (r % 60))

/-! ## The counters -/

/-- The counters take new values; RANGE_OK follows (R409). -/
def Hw.setCounters (h : Hw) (d t : Nat) : Hw :=
  ({ h with cal := { h.cal with date := d, time := t } }).fset R.CAL_STATUS_RANGE_OK (b2n (rangeOk d t))

/-- CORR as a signed number. -/
def Hw.corr (h : Hw) : Int := sx 16 (h.fget R.CAL_COMP_CORR)

/-- The length of the current second in ns. -/
def Cal.secNs (c : Cal) : Nat := c.cycles * 1000000000 / 32768

/-- A second ends (R408), and the engine sets the length of the next one (R411). -/
def Hw.calSecond (h : Hw) : Hw :=
  let ends := h.cal.secAt + h.cal.secNs
  let h1 := h.untilUp ends
  let n := nextSecond h1.cal.date h1.cal.time
  let acc := (h1.cal.acc : Int) + h1.corr
  let k := acc / 1024
  let h2 := h1.setCounters n.1 n.2
  { h2 with cal := { h2.cal with acc := (acc - k * 1024).toNat, cycles := (32768 - k).toNat, secAt := ends } }

/-- CAL_SECOND. -/
def execCalSecond (s : State) : Host.Outcome State Fault Refusal := onHw s Hw.calSecond

/-- Curve point `i`. -/
def Hw.point (h : Hw) (i : Nat) : Int := sx 16 (h.fget (R.CAL_CURVEi_POINT i))

/-- A quotient by 40, to nearest, ties away from zero. -/
def round40 (n : Int) : Int := if 0 ≤ n then (n + 20) / 40 else -((20 - n) / 40)

/-- The correction at reading `t` (R411). -/
def Hw.corrAt (h : Hw) (t : Int) : Int :=
  if t < -320 then h.point 0
  else if 960 < t then h.point 32
  else
    let x := (t + 320).toNat
    let i := min (x / 40) 31
    h.point i + round40 ((h.point (i + 1) - h.point i) * (x - 40 * i : Nat))

/-- A temperature reading `t0` in 0.125 °C, −55 °C to +150 °C (R410, R411); injection 0xA02 makes it +125 °C. -/
def Hw.tempReading (h : Hw) (t0 : Int) : Hw :=
  let t := if h.cal.injTemp then 1000 else max (-440) (min 1200 t0)
  let h1 := { h with cal := { h.cal with injTemp := false } }
  (h1.fset R.CAL_COMP_CORR (wInt (h1.corrAt t)).toNat).fset R.CAL_COMP_TEMP (wInt t).toNat

/-- TEMP_READING. -/
def execTempReading (t : Int) (s : State) : Host.Outcome State Fault Refusal := onHw s (fun h => h.tempReading t)

/-- FRAC: prescaler bits 14:7; a second longer than 32,768 cycles holds it at its end. -/
def Hw.calFrac (h : Hw) : Nat := min 255 ((h.clk.up - h.cal.secAt) * 256 / 1000000000)

/-- A capture of all counters (R405). -/
def Hw.capture (h : Hw) : Hw :=
  (h.setReg R.CAL_DATE (w32 h.cal.date)).setReg R.CAL_TIME (w32 (h.cal.time % 2 ^ 24 + h.calFrac * 2 ^ 24))

/-- CAL_DATE_READ. -/
def execCalDateRead (s : State) : Host.Outcome State Fault Refusal := onHw s Hw.capture

/-! ## Sets (R406, R407) -/

/-- A set is on its way to the BKP domain. -/
def Hw.calPut (h : Hw) (x : CalSet) : Hw :=
  ({ h with cal := { h.cal with sets := h.cal.sets ++ [x] } }).actSet .cal true

/-- The counters' fields of two words; the other bits are not stored. -/
def dateMask (d : Nat) : Nat := dateWord (dYear d) (dMonth d) (dDay d) (dWday d)
def timeMask (t : Nat) : Nat := timeWord (tHour t) (tMin t) (tSec t)

/-- A set loads date, time and prescaler at one edge (R406). -/
def Hw.calLoad (h : Hw) (x : CalSet) : Hw :=
  let h1 := h.setCounters (dateMask x.date) (timeMask x.time)
  let h2 := { h1 with cal := { h1.cal with secAt := h1.clk.up } }
  let h3 := ((h2.fset R.CAL_STATUS_VALID 1).fset R.CAL_STATUS_SOURCE x.source).finc R.CAL_STATUS_SETS
  h3.raise 0xA002 x.source (dateMask x.date) (timeMask x.time)

/-- The acknowledgement of the oldest set; CAL ends with the last. -/
def Hw.calAck (h : Hw) : Hw :=
  match h.cal.sets with
  | [] => h
  | x :: r =>
    let h1 := ({ h with cal := { h.cal with sets := r } }).calLoad x
    let h2 := match x.d with
      | some d => h1.complete d stOk true (event := 0xA002)
      | none => h1
    if r.isEmpty then h2.actSet .cal false else h2

/-- CALENDAR_SET_ACK. -/
def execCalendarSetAck (s : State) : Host.Outcome State Fault Refusal := onHw s Hw.calAck

/-- CAL_SET's effect once admitted. -/
def Hw.startCalSet (h : Hw) (d : Desc) : Hw := (h.runCmd d).calPut { date := d.p0 % 2 ^ 32, time := d.p1 % 2 ^ 32, source := 1, d := some d }

/-- CAL_SET (R406). -/
def Hw.cmdCalSet (h : Hw) (d : Desc) : Hw :=
  let r := h.request d .cal
  if r.2 then r.1.startCalSet d else r.1

/-- CAL_SET. -/
def execCalSet (d : Desc) (s : State) : Host.Outcome State Fault Refusal := onHw s (fun h => h.hostCmd d 0x0701 Hw.cmdCalSet)

/-- CAL_GET (R405): date word, time word, VALID. -/
def Hw.cmdCalGet (h : Hw) (d : Desc) : Hw :=
  let h1 := h.capture
  h1.complete d stOk false (h1.reg R.CAL_DATE).toNat (h1.reg R.CAL_TIME).toNat (h1.fget R.CAL_STATUS_VALID)

/-- CAL_GET. -/
def execCalGet (d : Desc) (s : State) : Host.Outcome State Fault Refusal := onHw s (fun h => h.hostCmd d 0x0702 Hw.cmdCalGet)

/-- UTC at a timebase value (R407): whole seconds less OFFSET_S. -/
def Hw.utcAt (h : Hw) (tb : Nat) : Int := (tb / 1000000000 : Nat) - (h.fget R.NET_UTC_OFFSET_OFFSET_S : Int)

/-- A set from the timebase at its next whole second. -/
def Hw.calFromTb (h : Hw) (source : Nat) : Hw :=
  let h1 := h.untilTb (ceilTo 1000000000 h.clk.tb)
  let w := wordsOf (h1.utcAt h1.clk.tb)
  h1.calPut { date := w.1, time := w.2, source := source, d := none }

/-- The firmware's own request for a set from the timebase. -/
def ownCal (source : Nat) : Desc := { src := .own, op := 0x0701, p2 := source }

/-- The firmware's set is a CAL activity like every other (R406): R59 to R61 admit, defer or refuse it. -/
def Hw.calRequest (h : Hw) (source : Nat) : Hw :=
  let r := h.request (ownCal source) .cal
  if r.2 then r.1.calFromTb source else r.1

/-- Whether PTP is LOCKED. -/
def Hw.ptpLocked (h : Hw) : Bool := h.fget R.NET_PTP_STATUS_STATE == 2

/-- The firmware's sets (R407): at once when PTP locks; in a follower without a valid calendar once it is SYNCED and the active
module has reported one; every 3,600 s while PTP stays LOCKED. -/
def Hw.calFromTimebase (h : Hw) : Hw :=
  if h.mode = Mode.boot ∨ h.mode = Mode.parked then h
  else if h.ptpLocked && h.cal.ptpNow then
    ({ h with cal := { h.cal with ptpNow := false, ptpSetAt := h.clk.up } }).calRequest 2
  else if h.fget R.PAIR_STATUS_ROLE = 2 ∧ h.fget R.PAIR_STATUS_SYNC = 4 ∧ h.pair.calOk = true ∧ h.fbit R.CAL_STATUS_VALID = false then
    ({ h with pair := { h.pair with calOk := false } }).calRequest 3
  else if h.ptpLocked then
    let h1 := h.untilUp (h.cal.ptpSetAt + 3600000000000)
    ({ h1 with cal := { h1.cal with ptpSetAt := h1.clk.up } }).calRequest 2
  else h

/-- CAL_SET_FROM_TIMEBASE. -/
def execCalSetFromTimebase (s : State) : Host.Outcome State Fault Refusal := onHw s Hw.calFromTimebase

/-! ## The watchdog -/

/-- Whether WDG decides at all: not disabled (R419), VIN not lost (R418). -/
def Hw.wdgOn (h : Hw) : Bool := !h.fbit R.WDG_CTRL_DISABLED && !h.nvs.vinLost

/-- An entry's COUNT reaches MAX with its window open (R413, R414): time passes up to it, and the trap has cause 1. -/
def Hw.wdgExpiry (h : Hw) (t : Nat) : Hw :=
  let mx := h.fget (R.WDG_Tn_MAX_MAX t)
  match h.wdg.opens.find? (fun p => p.1 == t) with
  | some (_, c0) =>
    if h.wdgOn && h.wdgEn t then
      let h1 := h.passClocks (c0 + mx * 4096 - h.coreClocks)
      h1.wdTrapNow 1 t ((h1.wdgCount t).getD mx) false
    else h
  | none => h

/-- WDG_EXPIRY. -/
def execWdgExpiry (t : Fin 32) (s : State) : Host.Outcome State Fault Refusal := onHw s (fun h => h.wdgExpiry t.val)

/-- SUP MAX: 500 ms until the boot sequence completes; 0 acts as 1 (R415). -/
def Hw.supMax (h : Hw) : Nat := if h.wdg.bootLimits then 97657 else max 1 (h.fget R.WDG_SUP_WIN_MAX)

/-- SUP MIN. -/
def Hw.supMin (h : Hw) : Nat := if h.wdg.bootLimits then 0 else h.fget R.WDG_SUP_WIN_MIN

/-- The SUP entry's COUNT. -/
def Hw.supCount (h : Hw) : Nat := (h.coreClocks - h.wdg.supAt) / 4096

/-- The SUP entry reaches SUP MAX (R415): the trap has cause 5. -/
def Hw.supExpiry (h : Hw) : Hw :=
  if h.wdgOn && decide (h.mode ≠ .parked) && !h.wdg.supOver then
    let h1 := h.passClocks (h.wdg.supAt + h.supMax * 4096 - h.coreClocks)
    ({ h1 with wdg := { h1.wdg with supOver := true, injLate := false } }).asInj h.wdg.injLate (fun h => h.wdTrapNow 5 0 h1.supCount true)
  else h

/-- SUP_WDG_EXPIRY. -/
def execSupWdgExpiry (s : State) : Host.Outcome State Fault Refusal := onHw s Hw.supExpiry

/-- A write to WDG_SUP_CHECK (R415): a check-in restarts the window; another value, or one below SUP MIN, raises the trap with cause
6. Injection 0xB03 suppresses one check-in. -/
def Hw.supCheck (h : Hw) (v : Word) : Hw :=
  if h.mode = Mode.parked ∨ h.wdgOn = false then h
  else if h.wdg.injSup then { h with wdg := { h.wdg with injSup := false, injLate := true } }
  else if v ≠ 0xA5C3#32 ∨ h.supCount < h.supMin then h.wdTrapNow 6 0 h.supCount true
  else { h with wdg := { h.wdg with supAt := h.coreClocks, supOver := false, injLate := false } }

/-- WDG_SUP_CHECK. -/
def execWdgSupCheck (v : Word) (s : State) : Host.Outcome State Fault Refusal := onHw s (fun h => h.supCheck v)

/-- The disable sequence is complete (R419): refused with LOCK, else no entry counts until reset. -/
def Hw.wdgDisable (h : Hw) (src : Nat) : Hw :=
  if h.fbit R.WDG_CTRL_LOCK then h.raise 0xB004
  else (({ h with wdg := { h.wdg with opens := [] } }).fset R.WDG_CTRL_DISABLED 1).raise 0xB003 src

/-- A write to WDG_KEY from source `src` (R419). -/
def Hw.wdgKey (h : Hw) (src : Nat) (v : Word) : Hw :=
  let first := { h with wdg := { h.wdg with keyAt := if v = 0x5A17#32 then some h.clk.up else none } }
  match h.wdg.keyAt with
  | none => first
  | some t0 =>
    if h.clk.up > t0 + 1000000 then first
    else
      let h1 := { h with wdg := { h.wdg with keyAt := none } }
      if v = 0xC0DE#32 then h1.wdgDisable src else h1.raise 0xB005 v.toNat

/-- WDG_KEY. -/
def execWdgKey (src : Nat) (v : Word) (s : State) : Host.Outcome State Fault Refusal := onHw s (fun h => h.wdgKey src v)

/-- No second key write within 1 ms (R419): the sequence lapses. -/
def Hw.wdgKeyLapse (h : Hw) : Hw :=
  match h.wdg.keyAt with
  | some t0 => let h1 := h.untilUp (t0 + 1000000)
               { h1 with wdg := { h1.wdg with keyAt := none } }
  | none => h

/-- WDG_KEY_TIMEOUT. -/
def execWdgKeyTimeout (s : State) : Host.Outcome State Fault Refusal := onHw s Hw.wdgKeyLapse

/-- LOCK (R419), until reset. -/
def Hw.wdgLock (h : Hw) : Hw := h.fset R.WDG_CTRL_LOCK 1

/-- WDG_LOCK. -/
def execWdgLock (s : State) : Host.Outcome State Fault Refusal := onHw s Hw.wdgLock

/-- HARD_LEFT_MS as it reads: what is left of the hard timer in ms, begun ms counted. -/
def Hw.hardLeft (h : Hw) : Nat :=
  match h.wdg.hardDue with
  | some t => (t - h.clk.up + 999999) / 1000000
  | none => 0

end Sys2Proof.Machine
end

