-- ==== Sys2Proof/Machine/Boot.lean ====
section
/-! DEFINITION. Resets and the boot sequence (R421 to R423, Table 16-1, Table 2-3), the supply (R356 to R359, R362), the backup
domain's retention detector (R403), PARKED wakes (R53, R412). -/

namespace Sys2Proof.Machine

/-! ## The supply comparisons (R356, R357) -/

/-- NVS_SUPPLY, VIN_LOW, HOLD_LOW and ARMED follow VIN and HOLD, in 0.1 V; while the reserve is latched ARMED stays 0. -/
def Hw.supply (h : Hw) (vin hold : Nat) : Hw :=
  let h1 := { h with nvs := { h.nvs with vin := vin, hold := hold } }
  let h2 := (h1.fset R.NVS_SUPPLY_VIN (satN 9 vin)).fset R.NVS_SUPPLY_HOLD (satN 9 hold)
  let h3 := (h2.fset R.NVS_STATUS_VIN_LOW (b2n (decide (vin < 95)))).fset R.NVS_STATUS_HOLD_LOW (b2n (decide (hold < 200)))
  h3.fset R.NVS_STATUS_ARMED (b2n (decide (95 ≤ vin ∧ 200 ≤ hold) && !h3.fbit R.NVS_STATUS_RESERVE))

/-- Since when HOLD has been low with VIN at or above 9.5 V (R357). -/
def Hw.holdWatch (h : Hw) : Hw :=
  { h with nvs := { h.nvs with holdLowSince :=
      if 95 ≤ h.nvs.vin ∧ h.nvs.hold < 200 then some (h.nvs.holdLowSince.getD h.clk.up) else none } }

/-- VIN falls below 9.5 V to `vin`: ARMED falls; with HOLD at or above 20 V the reserve latches; 0x8004. -/
def Hw.reserveLatch (h : Hw) (vin : Nat) : Hw :=
  if h.nvs.vinLost || h.fbit R.NVS_STATUS_VIN_LOW then h
  else
    let h1 := if 200 ≤ h.nvs.hold then h.fset R.NVS_STATUS_RESERVE 1 else h
    ((h1.supply (min vin 94) h.nvs.hold).holdWatch).raise 0x8004 (min vin 94)

/-- RESERVE_LATCH. -/
def execReserveLatch (vin : Nat) (s : State) : Host.Outcome State Fault Refusal := onHw s (fun h => h.reserveLatch vin)

/-- VIN has been at or above 9.5 V for 1 ms: the reserve latch drops, ARMED returns with HOLD at or above 20 V. -/
def Hw.vinRestored (h : Hw) (vin : Nat) : Hw :=
  if h.nvs.vinLost || !h.fbit R.NVS_STATUS_VIN_LOW then h
  else ((((h.pass 1000000).fset R.NVS_STATUS_RESERVE 0).supply (max 95 vin) h.nvs.hold).holdWatch).nvKick

/-- VIN_RESTORED. -/
def execVinRestored (vin : Nat) (s : State) : Host.Outcome State Fault Refusal := onHw s (fun h => h.vinRestored vin)

/-- HOLD reaches 20 V; injection 0x804 holds its reading at 19.0 V for its 100 ms. -/
def Hw.holdCharged (h : Hw) (hold : Nat) : Hw :=
  if h.nvs.vinLost then h
  else
    let h1 := h.untilUp (h.nvs.holdInj.getD 0)
    let h2 := ({ h1 with nvs := { h1.nvs with holdInj := none } }).supply h1.nvs.vin (max 200 hold)
    (h2.holdWatch).nvKick

/-- HOLD_CHARGED. -/
def execHoldCharged (hold : Nat) (s : State) : Host.Outcome State Fault Refusal := onHw s (fun h => h.holdCharged hold)

/-- HOLD has stayed below 20 V for 10 s with VIN at or above 9.5 V: RESERVE_FAULT, 0x8005, once for each such stay. -/
def Hw.reserveFault (h : Hw) : Hw :=
  match h.nvs.holdLowSince with
  | none => h
  | some t =>
    if h.nvs.vinLost || h.fbit R.NVS_STATUS_RESERVE_FAULT then h
    else ((h.untilUp (t + 10000000000)).fset R.NVS_STATUS_RESERVE_FAULT 1).asInj h.nvs.holdInj.isSome (fun h => h.raise 0x8005 h.nvs.hold)

/-- RESERVE_FAULT. -/
def execReserveFault (s : State) : Host.Outcome State Fault Refusal := onHw s Hw.reserveFault

/-- The NVS domain loses power, or HOLD falls below 12 V, during a write (R362): `step` and `n` where the sequence stopped, `g` what
the group in progress reads (0 old, 1 new, 2 uncorrectable). -/
def Hw.holdCollapse (h : Hw) (step n g : Nat) : Hw :=
  let h1 := if h.nvs.vinLost then h else h.supply h.nvs.vin (min h.nvs.hold 119)
  (h1.tearWrite step n g).holdWatch

/-- HOLD_COLLAPSE. -/
def execHoldCollapse (step : Fin 4) (n : Fin 32) (g : Fin 3) (s : State) : Host.Outcome State Fault Refusal :=
  onHw s (fun h => h.holdCollapse step.val n.val g.val)

/-! ## Reset -/

/-- The registers that a reset leaves: the calendar's, its compensation and the backup record (BKP domain). -/
def keptReg (a : Nat) : Bool :=
  decide (a ∈ [R.CAL_DATE, R.CAL_TIME, R.CAL_STATUS, R.CAL_COMP]) || (0x400A0100 ≤ a && a < 0x400A022C)

/-- The memories that keep their contents: SUP ROM, MRAM, NOR. -/
def keptMem (a : Nat) : Bool := a < 0x40000 || (0x50000000 ≤ a && a < 0x70000000)

/-- The non-volatile store after a reset: what MRAM and NOR hold, and the supply; the rest starts afresh. NOR operations are cut
(R376). -/
def Hw.nvsKept (h : Hw) : Nvs :=
  let n := h.nvs
  { vin := n.vin, hold := n.hold, vinLost := n.vinLost, stateRec := n.stateRec, markerRec := n.markerRec, retA := n.retA, retB := n.retB,
    journalRec := n.journalRec, pwdRec := n.pwdRec, recPtrRec := n.recPtrRec, usageRec := n.usageRec, writes := n.writes,
    badPages := n.badPages, uncorr := n.uncorr, corr := n.corr, pairLayout := n.pairLayout, cfgA := n.cfgA, cfgB := n.cfgB,
    norProg := n.norProg, norFw := n.norFw, journalImage := n.journalImage, pwdDigests := n.pwdDigests, flushSt := n.flushSt,
    holdLowSince := n.holdLowSince, scrubAt := h.clk.up, hourAt := h.clk.up, ratesAt := h.clk.up,
    norCut := n.norCut ++ (n.norOps.take 1).map (fun x => (h.norAddr x).1) }

/-- The logic's state is lost: what stays is MRAM, NOR, the BKP domain, the supply and the level of the LIVE_IN land. -/
def Hw.fresh (h : Hw) : Hw :=
  let live := h.fget R.SUP_MODE_STATUS_LIVE_IN
  let h1 : Hw := { clk := { h.clk with tb := 0 }, regs := tfilter keptReg h.regs, mem := tfilter keptMem h.mem, nvs := h.nvsKept,
                   cal := { h.cal with sets := [], ptpNow := false, injTemp := false }, free := h.free,
                   wdg := { supAt := h.coreClocks } }
  (h1.fset R.SUP_MODE_STATUS_LIVE_IN live).supply h.nvs.vin h.nvs.hold

/-- A reset to BOOT with a reset cause (Table 2-3, Table 2-5) and the cause of the transition: RESET_CAUSE, the SAFE latch after a
watchdog or clock-monitor reset (R47). A tripped retention detector makes it a power-on (R403). AUTO_LEFT stays (R50). The recorder
records 0x0043 for each running activity that it ends (R62); an update's commanded reset is FWU's own end (Table 2-8). -/
def Hw.resetTo (h : Hw) (cause0 trans : Nat) : Hw :=
  let cause := if h.cal.tripped then 1 else cause0
  let old := if cause0 = 1 ∧ trans = 1 then 0 else h.mode.code
  let h1 := (h.nvFinish).fresh
  let h2 := (h1.fset R.CAL_BKREC0_RESET_CAUSE cause).fset R.CAL_BKREC0_CLK_DOMAIN 0
  let h3 := if cause0 = 3 ∨ cause0 = 4 then h2.fset R.CAL_BKREC0_SAFE_COPY 1 else h2
  let h4 := ((h3.fset R.SUP_MODE_STATUS_PREV_MODE old).fset R.SUP_MODE_STATUS_CAUSE (if trans = 0x23 then trans else cause)).fset
    R.SUP_MODE_STATUS_AUTO_LEFT (h.fget R.SUP_MODE_STATUS_AUTO_LEFT)
  let h5 := { h4 with sup := { h4.sup with bootAt := h4.clk.up, booting := true, monAt := h4.clk.up } }
  ((h.notIn .boot).filter (fun a => a != .fwu || cause0 != 5)).foldl (fun h a => h.raise 0x0043 a.code Mode.boot.code) h5

/-! ## Boot, step 3: the backup record and the counters region -/

/-- BKLOST found at boot (R403): the calendar at 2000-01-01 00:00:00, VALID 0, the backup record cleared with power-on as the cause,
0xA001; the detector re-arms. -/
def Hw.bklostBoot (h : Hw) : Hw :=
  if h.cal.tripped then
    let h1 := { h with regs := tfilter (fun a => a < 0x400A0200 || 0x400A022C ≤ a) h.regs,
                       cal := { h.cal with acc := 0, cycles := 32768, secAt := h.clk.up, tripped := false },
                       nvs := { h.nvs with flushSt := 0 } }
    let h2 := (h1.setCounters 0x07D00101 0).fset R.CAL_BKREC0_RESET_CAUSE 1
    let h3 := ((h2.fset R.CAL_STATUS_VALID 0).fset R.CAL_STATUS_SOURCE 0).fset R.CAL_STATUS_SETS 0
    (((h3.setReg R.CAL_COMP 0#32).setReg R.CAL_DATE 0x07D00101#32).setReg R.CAL_TIME 0#32).raise 0xA001
  else h

/-- The compensation curve is copied from the factory area (R410). -/
def Hw.curveBoot (h : Hw) : Hw :=
  match h.cal.curveCrc with
  | some c => (((List.range 33).foldl (fun h i => h.fset (R.CAL_CURVEi_POINT i) 0) h).fset R.CAL_STATUS_CURVE_BAD 1).raise 0xA003 c
  | none => ((List.range 33).foldl (fun h i => h.fset (R.CAL_CURVEi_POINT i) (Config.curvePoint i).toNat) h).fset R.CAL_STATUS_CURVE_BAD 0

/-- The report of the last power-fail flush (R358, R359, R363): LAST_FLUSH, 0x8006 or 0x8007. -/
def Hw.flushBoot (h : Hw) : Hw :=
  let pages := h.fget R.CAL_BKREC1_FLUSH_PAGES
  let h1 := { h with nvs := { h.nvs with flushSt := 0 } }
  if h.fbit R.CAL_BKREC0_FLUSH_ACTIVE then
    ((h1.fset R.CAL_BKREC0_FLUSH_ACTIVE 0).fset R.NVS_STATUS_LAST_FLUSH 2).raise 0x8007 pages
  else if h.nvs.flushSt = 0 then h1
  else (h1.fset R.NVS_STATUS_LAST_FLUSH h.nvs.flushSt).raise 0x8006 pages (h.fget R.CAL_BKREC1_FLUSH_US) (h.fget R.CAL_BKREC2_FLUSH_HOLD)

/-- What the rest of the backup record reports: a brown-out (R31), forces lost (R94), an unrecorded watchdog trap (R416), skipped wakes
(R412), a clock-monitor reset that names CORE. -/
def Hw.recordBoot (h : Hw) : Hw :=
  let cause := h.fget R.CAL_BKREC0_RESET_CAUSE
  let h1 := if cause = 2 then h.raise 0x0024 else h
  let h2 := if cause = 4 ∧ h1.fget R.CAL_BKREC0_CLK_DOMAIN = 0 then h1.fset R.SUP_CLKMON_STATUS_CORE_F 1 else h1
  let n := h2.fget R.CAL_BKREC0_FORCE_COUNT
  let h3 := if n = 0 then h2 else (h2.raise 0x3013 n 1).fset R.CAL_BKREC0_FORCE_COUNT 0
  let h4 := h3.flushBoot
  let t := fun i => (h4.reg (R.CAL_BKTRAP i)).toNat
  let h5 := if !h4.fbit R.CAL_BKREC2_RECORDED && (t 0).testBit 3 then (h4.raise 0xB002 (t 0) (t 1) (t 2)).fset R.CAL_BKREC2_RECORDED 1 else h4
  let w := h5.fget R.CAL_BKREC2_WAKE_SKIPS
  if w = 0 then h5 else (h5.raise 0xA004 w).fset R.CAL_BKREC2_WAKE_SKIPS 0

/-- The SAFE latch at boot (R47): set when either copy is; the other is brought to set. AUTO_LEFT as the state record holds it at a
power-on, else as it was (R50), and the record follows. -/
def Hw.latchBoot (h : Hw) : Hw :=
  let r := h.stateRec
  let c := h.fbit R.CAL_BKREC0_SAFE_COPY
  let h1 := if h.fget R.CAL_BKREC0_RESET_CAUSE = 1 then h.fset R.SUP_MODE_STATUS_AUTO_LEFT r.2 else h
  let n := h1.fget R.SUP_MODE_STATUS_AUTO_LEFT
  let h2 := if r.1 || c then (h1.fset R.SUP_MODE_STATUS_SAFE_LATCH 1).fset R.CAL_BKREC0_SAFE_COPY 1 else h1
  if r = (r.1 || c, n) then h2 else h2.nvPush (.state (r.1 || c) n)

/-- The update journal at boot (Table 13-8): RECEIVING is discarded; and the NOR operations that were cut (R376). -/
def Hw.journalBoot (h : Hw) : Hw :=
  let h1 := h.nvs.norCut.foldl (fun h a => h.raise 0x8009 a) h
  let h2 := ({ h1 with nvs := { h1.nvs with norCut := [] } }).fwuStatus h.journalNow
  if h2.journalNow.st = 1 then h2.dropJournal 1 else h2

/-- The records of suppressed occurrences as last saved (R390), the locked passwords (R370), the usage counters with this boot and its
cause (R443). -/
def Hw.countersBoot (h : Hw) : Hw :=
  let tot := (List.range 1024).foldl (fun t i => tset 0 t i (if h.pageOk (pageOf 0x50601000 + i / 128) then h.ml (0x50601000 + i * 2) 2 else 0)) []
  let u := h.nvs.usageRec.get []
  let h1 := { h with nvs := { h.nvs with rateTotals := tot }, sup := { h.sup with usage := u } }
  let h2 := (h1.useInc 0).useInc (h.fget R.CAL_BKREC0_RESET_CAUSE)
  (h2.setReg R.NVS_PWD_LOCK (w32 (h.nvs.pwdRec.get ([], 0)).2)).nvPush (.usage h2.sup.usage)

/-- Step 3. -/
def Hw.bootStep3 (h : Hw) : Hw := ((((((h.bklostBoot).curveBoot).recordBoot).latchBoot).journalBoot).countersBoot).evrResume

/-! ## Steps 4 to 8 -/

/-- The reason a firmware slot fails verification (R423): one that is not usable has no readable header. -/
def Hw.fwSlotCheck (h : Hw) (o : Otp) (slot : Nat) : Hw × Bool :=
  let s := tget {} h.nvs.norFw slot
  let fail := fun (h : Hw) (r : Nat) => (h.raise 0x0102 slot r, false)
  match (if s.valid && !s.retired then s.fw else none) with
  | none => fail (h.verifyFail 1 { magic := 0 } 1) 1
  | some f =>
    let r := h.sigCheck o 1 f.hdr true
    match r.2 with
    | some n => fail r.1 n
    | none => (r.1, true)

/-- The marker is switched back from the target of a STATE 4 journal that fails (R423). -/
def Hw.fwBack (h : Hw) (slot : Nat) : Hw :=
  let j := h.journalNew
  if j.st = 4 ∧ j.target = slot then (h.nvPush (.marker { (h.marker) with fw := 1 - slot })).setJournal { st := 0 } else h

/-- Step 4 (R423): the slot that the marker names, else the other, else ROM alone. -/
def Hw.bootFw (h : Hw) (o : Otp) : Hw :=
  let m := h.marker.fw % 2
  let r := h.fwSlotCheck o m
  if r.2 then
    let j := r.1.journalNew
    (if j.st = 4 ∧ j.target = m then r.1.setJournal { st := 0 } else r.1).fset R.SUP_BOOT_STATUS_FW_SLOT m
  else
    let q := r.1.fwSlotCheck o (1 - m)
    if q.2 then
      ((((q.1.raise 0x0103 (1 - m)).fset R.SUP_BOOT_STATUS_FW_FALLBACK 1).fset R.SUP_BOOT_STATUS_FW_SLOT (1 - m))).fwBack m
    else { (q.1.fwBack m) with sup := { (q.1.fwBack m).sup with romOnly := true } }

/-- Step 5: the timebase starts (R280, R409), from the calendar plus OFFSET_S where VALID and RANGE_OK are 1. -/
def Hw.bootTb (h : Hw) : Hw :=
  let ok := h.fbit R.CAL_STATUS_VALID && h.fbit R.CAL_STATUS_RANGE_OK
  let secs := (secondsOf h.cal.date h.cal.time + (h.fget R.NET_UTC_OFFSET_OFFSET_S : Int)).toNat
  let tb := if ok then (secs * 1000000000 + h.calFrac * 1000000000 / 256) % 2 ^ 64 else 0
  let h1 := { h with clk := { h.clk with tb := tb }, evr := { h.evr with synced := ok } }
  if h.fbit R.CAL_STATUS_VALID && !h.fbit R.CAL_STATUS_RANGE_OK then h1.raise 0xA005 h.cal.date h.cal.time else h1

/-- AUTO_LEFT is loaded at a power-on reset (R50). -/
def Hw.autoBoot (h : Hw) : Hw :=
  if h.fget R.CAL_BKREC0_RESET_CAUSE = 1 then h.setAutoLeft (h.fget R.SUP_MODE_CFG_AUTO_RECOVER) else h

/-- Step 7 fails with a reason of Table 16-4 (R422). -/
def Hw.progBootFail (h : Hw) (slot reason : Nat) : Hw := (h.fset R.SUP_BOOT_STATUS_PROG_REASON reason).raise 0x0104 slot reason

/-- Step 7: the program slot that the marker names; a module without a program has none to fail. -/
def Hw.bootProg (h : Hw) (o : Otp) : Hw :=
  let m := h.marker
  let s := h.norProg (m.prog % 2)
  let h0 := h.fset R.SUP_BOOT_STATUS_PROG_SLOT m.prog
  if m.layout = 0 then h0
  else match (if s.valid && !s.retired then s.pitch else none) with
    | none => (h0.verifyFail 2 { magic := 0 } 1).progBootFail (m.prog % 2) 1
    | some p =>
      let r := h0.pitchCheck o p
      match r.2 with
      | some n => r.1.progBootFail (m.prog % 2) n
      | none =>
        if p.layout ≠ m.layout then r.1.progBootFail (m.prog % 2) 6
        else match r.1.taskCheck p with
          | some (n, t) => (r.1.raise 0x3004 n t).progBootFail (m.prog % 2) 7
          | none => (r.1.install p).fset R.SUP_BOOT_STATUS_PROG_VERIFIED 1

/-- The later committed retain buffer: its number, pass sequence, layout. -/
def Hw.retLatest (h : Hw) : Option (Nat × Nat × Nat) :=
  match h.nvs.retA, h.nvs.retB with
  | some a, some b => if a.1 < b.1 then some (1, b) else some (0, a)
  | some a, none => some (0, a)
  | none, some b => some (1, b)
  | none, none => none

/-- A cold start (R92): the window is zeros, 0x3007. -/
def Hw.retCold (h : Hw) (reason : Nat) : Hw := (h.fset R.TSK_RETAIN_STATUS_COLD 1).raise 0x3007 reason

/-- Step 8: the retain restore (R92). -/
def Hw.bootRetain (h : Hw) : Hw :=
  if !h.fbit R.SUP_MODE_STATUS_PROG_VALID then h
  else match h.retLatest with
    | none => h.retCold 1
    | some (b, seq, lay) =>
      let h1 := ({ h with nvs := { h.nvs with passSeq := seq } }).fset R.TSK_RETAIN_STATUS_NEXT (1 - b)
      if lay ≠ h.prog.layout then h1.retCold 2
      else
        let base := bufBase b
        let bs := (h.mem.filter (fun p => base ≤ p.1 && p.1 < base + 0x40000)).map (fun p => (p.1 - base + retBase, p.2))
        let h2 := bs.foldl (fun h p => h.setMb p.1 p.2) (match h1.uncorrIn base 0x40000 with
          | some g => h1.uncorrRead g 1
          | none => h1.corrRead base 0x40000)
        (h2.fset R.TSK_RETAIN_STATUS_RESTORED_FROM (b + 1)).raise 0x3006 b seq

/-- TSK_RETAIN_STATUS as boot leaves it is kept for the status page. -/
def Hw.noteRetain (h : Hw) : Hw := { h with tsk := { h.tsk with retBoot := h.reg R.TSK_RETAIN_STATUS } }

/-- A swap whose page pair had not committed is abandoned (R118): 0x3025. -/
def Hw.swapBoot (h : Hw) : Hw :=
  match h.nvs.pairLayout with
  | none => h
  | some (_, lay) => ({ h with nvs := { h.nvs with pairLayout := none } }).raise 0x3025 (h.marker.layout % 2 ^ 32) (lay % 2 ^ 32)

/-- The barriers start (Table 8-7): the carrier of every native group in use. -/
def Hw.bootBarriers (h : Hw) : Hw :=
  let h1 := { h with sup := { h.sup with bootDone := true } }
  (List.range 6).foldl (fun h g => if h.carrierMay g && !h.fbit (R.FLD_GRPg_CFG_LINK g) then h.carrierStart g else h) h1

/-- Step 2: NET_MAC from the OTP store, and the SUP core released into its ROM. -/
def Hw.macBoot (h : Hw) (o : Otp) : Hw :=
  let h1 := (h.setReg R.NET_MAC_LO (w32 o.macBase)).setReg R.NET_MAC_HI (w32 (o.macBase / 2 ^ 32 % 65536))
  { h1 with exe := { h1.exe with supRunning := true } }

/-- The boot steps 2 to 8 of Table 16-1 (R421). From ROM alone no configuration and no program is loaded (R423). -/
def bootSteps (h : Hw) (o : Otp) : Hw × Otp :=
  let h1 := (((h.macBoot o).bootStep3.bootFw o).bootTb)
  if h1.sup.romOnly then ({ (h1.fset R.HIF_STATUS_READY 1) with sup := { (h1.fset R.HIF_STATUS_READY 1).sup with bootDone := true } }, o)
  else
    let r := cfgBoot h1 o
    let h2 := (((((r.1.autoBoot).bootBarriers).bootProg r.2).bootRetain).noteRetain).swapBoot
    (((h2.showRate).showSes.showDir).fset R.HIF_STATUS_READY 1, r.2)

/-- A reset followed by the boot steps. -/
def resetBoot (s : State) (cause trans : Nat) : State :=
  let r := bootSteps (s.hw.resetTo cause trans) s.otp
  { s with hw := r.1, otp := r.2 }

/-! ## Step 9 -/

/-- The firmware image that was booted. -/
def Hw.bootedFw (h : Hw) : Option FwImage := (tget {} h.nvs.norFw (h.fget R.SUP_BOOT_STATUS_FW_SLOT)).fw

/-- The FW_REVOKE mask of the booted image (R427): a bit that names the key that signed it is ignored. -/
def fwRevokeBoot (h : Hw) (o : Otp) : Hw × Otp :=
  match (if h.sup.romOnly then none else h.bootedFw) with
  | none => (h, o)
  | some f =>
    let m := setBitsOf (f.hdr.fwRevoke % 16) f.hdr.keyIndex 1 0
    if f.hdr.flags.testBit 0 && decide ((m ||| o.fwRevoke) ≠ o.fwRevoke) then (h.raise 0x010C m, o.prog 0x14 [BitVec.ofNat 8 (m * 16)])
    else (h, o)

/-- Whether a key has been provisioned. -/
def Otp.rooted (o : Otp) : Bool := (List.range 16).any o.written

/-- The mode that Table 2-3 selects, entered with the reset cause; autostart goes toward STARTUP or RECOVERY. -/
def Hw.bootMode (h : Hw) (o : Otp) : Hw :=
  let cause := h.fget R.CAL_BKREC0_RESET_CAUSE
  if h.sup.romOnly then ((h.setMode Mode.service cause).booted).fwuResume (h.fwuOk o)
  else if h.fbit R.SUP_MODE_STATUS_SAFE_LATCH then (h.safeEntry 0x38 0).booted
  else if !o.rooted || (!h.fbit R.SUP_MODE_STATUS_CFG_VALID && !h.fbit R.SUP_CFG_STATUS_CONFLICT) then (h.setMode Mode.provision cause).booted
  else if h.fbit R.SUP_MODE_CFG_AUTOSTART && h.startable then
    match h.startRefusal .startup with
    | some (c, p0, p1) => ((h.raise c p0 p1).setMode Mode.stop cause).booted
    | none => h.toward (if h.pairOn && h.liveIn then Mode.recovery else Mode.startup) 0x11 none
  else (h.setMode Mode.stop cause).booted

/-- The boot sequence is complete (R421): `us` the time from VIN valid, within Table 16-1's bounds; FW_REVOKE, the mode decision. The SUP
entry's limits become WDG_SUP_WIN's (R415). -/
def bootDecision (h : Hw) (o : Otp) (us : Nat) : Hw × Otp :=
  if h.sup.booting && decide (h.mode = .boot) && h.sup.waitTo.isNone && !h.nvs.vinLost then
    let most := if h.fbit R.SUP_BOOT_STATUS_FW_FALLBACK || h.sup.romOnly then 292000 else 248000
    let h1 := h.untilUp (h.sup.bootAt + min us most * 1000)
    let r := fwRevokeBoot h1 o
    let h2 := { r.1 with wdg := { r.1.wdg with bootLimits := false, supAt := r.1.coreClocks } }
    (h2.bootMode r.2, r.2)
  else (h, o)

/-- BOOT_MODE_DECISION. -/
def execBootModeDecision (us : Nat) (s : State) : Host.Outcome State Fault Refusal :=
  let r := bootDecision s.hw s.otp us
  .next { s with hw := r.1, otp := r.2 }

/-! ## Power on and the resets -/

/-- VIN becomes valid with HOLD at `hold` (0.1 V), LIVE_IN as its land stands, `crc` the CRC read of a factory curve whose CRC is wrong
(R410, R421). A parked module returns to BOOT with cause 0x23. -/
def powerOn (s : State) (vin hold : Nat) (liveIn : Bool) (crc : Option Word) : State :=
  if s.hw.nvs.vinLost then
    let h := s.hw
    let h1 := { h with nvs := { h.nvs with vinLost := false, vin := max 90 vin, hold := hold, holdLowSince := none },
                       cal := { h.cal with curveCrc := crc.map BitVec.toNat } }
    let h2 := (h1.fset R.SUP_MODE_STATUS_LIVE_IN (b2n liveIn)).holdWatch
    resetBoot { s with hw := h2 } 1 (if h.mode = .parked then 0x23 else 1)
  else s

/-- POWER_ON. -/
def execPowerOn (vin hold : Nat) (liveIn : Bool) (crc : Option Word) (s : State) : Host.Outcome State Fault Refusal :=
  .next (powerOn s vin hold liveIn crc)

/-- CORE_RAIL_BROWN_OUT (R31): the core rail below 0.72 V. -/
def execCoreRailBrownOut (s : State) : Host.Outcome State Fault Refusal := .next (if s.hw.powered then resetBoot s 2 2 else s)

/-- CORE_FAULT_RESET (R33): 1 ms after a CORE clock fault. -/
def execCoreFaultReset (s : State) : Host.Outcome State Fault Refusal :=
  match s.hw.sup.coreResetDue with
  | some t => .next (resetBoot { s with hw := s.hw.untilUp t } 4 4)
  | none => .next s

/-- HARD_RESET_EXPIRY (R417): the hard timer, stopped by loss of VIN (R418). -/
def execHardResetExpiry (s : State) : Host.Outcome State Fault Refusal :=
  match (if s.hw.nvs.vinLost then none else s.hw.wdg.hardDue) with
  | some t => .next (resetBoot { s with hw := s.hw.untilUp t } 3 3)
  | none => .next s

/-- COMMANDED_RESET_EXPIRY (R336): 1 ms after the completion of RESET, PROV_COMMIT or a firmware update. -/
def execCommandedResetExpiry (s : State) : Host.Outcome State Fault Refusal :=
  match s.hw.sup.resetDue with
  | some t => .next (resetBoot { s with hw := s.hw.untilUp t } 5 5)
  | none => .next s

/-! ## Loss of VIN (R357 to R359) -/

/-- The flush's first page: the newest state-record change that waits (R47, R358). -/
def Hw.flushState (h : Hw) : Hw × Nat :=
  match h.nvs.queue.reverse.find? (fun w => match w with
    | .state .. => true
    | _ => false) with
  | some w => ({ (h.nvData w) with nvs := { (h.nvData w).nvs with queue := h.nvs.queue.filter (fun x => match x with
      | .state .. => false
      | _ => true) } }, 1)
  | none => (h, 0)

/-- A flush that the reserve does not carry to its end (R362): `n` pages are written, the next is torn; FLUSH_ACTIVE stays set. -/
def Hw.flushCut (h : Hw) (ovf : List Nat) (n : Nat) : Hw :=
  let r := if n = 0 then (h, 0) else h.flushState
  let b := h.nextBuf
  let ls := r.1.closeLines b ovf
  let ps := linePages ls
  let done := ps.take (n - r.2)
  let h1 := if r.1.fbit R.TSK_RETAIN_STATUS_PASS_ACTIVE then r.1 else r.1.setRet b none
  let h2 := (ls.filter (fun l => done.contains (l / 4))).foldl (fun h l => h.setMbs (bufBase b + l * 64) (h.mbs (retBase + l * 64) 64)) h1
  let h3 := done.foldl (fun h p => h.pagePut (pageOf (bufBase b) + p) 0 []) h2
  let h4 := ((ps.drop (n - r.2)).take 1).foldl (fun h p => h.tornPage (pageOf (bufBase b) + p)) h3
  h4.fset R.CAL_BKREC1_FLUSH_PAGES (min n 65535)

/-- The whole flush: its pages. -/
def Hw.flushAll (h : Hw) (ovf : List Nat) : Hw × Nat :=
  let r := h.flushState
  if r.1.fbit R.SUP_MODE_STATUS_PROG_VALID then
    let q := r.1.closePass ovf
    (q.1, r.2 + q.2)
  else r

/-- The flush on the latched reserve (R358): it lasts `us`, leaves HOLD at `hold`, or is cut after some pages. -/
def Hw.flushRun (h : Hw) (ovf : List Nat) (us hold : Nat) (cut : Option Nat) : Hw :=
  let h1 := (((h.fset R.NVS_STATUS_FLUSHING 1).fset R.CAL_BKREC0_FLUSH_ACTIVE 1).nvFinish)
  match cut with
  | some n => h1.flushCut ovf n
  | none =>
    let r := h1.flushAll ovf
    let h2 := ((r.1.pass (us * 1000)).fset R.CAL_BKREC0_FLUSH_ACTIVE 0).fset R.CAL_BKREC1_FLUSH_PAGES (min r.2 65535)
    let h3 := (h2.fset R.CAL_BKREC1_FLUSH_US (satN 16 us)).fset R.CAL_BKREC2_FLUSH_HOLD (satN 9 hold)
    { h3 with nvs := { h3.nvs with flushSt := 1 } }

/-- Without a latched reserve only the write in progress is finished (R359). -/
def Hw.flushNone (h : Hw) (hold : Nat) : Hw :=
  let h1 := (((h.nvFinish).fset R.CAL_BKREC1_FLUSH_PAGES 0).fset R.CAL_BKREC1_FLUSH_US 0).fset R.CAL_BKREC2_FLUSH_HOLD (satN 9 hold)
  { h1 with nvs := { h1.nvs with flushSt := 3 } }

/-- Loss of VIN is declared (R357, R418): LIVE_OUT low, every cycle rolled back, the flush; then the module powers down, and only the
BKP domain goes on. -/
def Hw.vinLoss (h : Hw) (us hold : Nat) (cut : Option Nat) : Hw :=
  if h.nvs.vinLost then h
  else
    let h0 := h.pass 20000
    let ovf := h0.ovfTasks
    let parked := decide (h.mode = .parked)
    let h1 := if parked then h0
      else if h0.fbit R.NVS_STATUS_RESERVE then h0.endCycles.flushRun ovf us hold cut else h0.endCycles.flushNone hold
    let h2 := { h1 with nvs := { h1.nvs with vinLost := true, vin := 0, hold := hold, holdLowSince := none } }
    let h3 := h2.fresh
    if parked then { ((h3.fset R.SUP_MODE_STATUS_MODE 11).setReg R.CAL_WAKE (h.reg R.CAL_WAKE)) with sup := { h3.sup with parkedAt := h.sup.parkedAt } } else h3

/-- VIN_LOSS. -/
def execVinLoss (us hold : Nat) (cut : Option Nat) (s : State) : Host.Outcome State Fault Refusal := onHw s (fun h => h.vinLoss us hold cut)

/-! ## The backup domain and PARKED -/

/-- The backup rail falls below 1.6 V (R403): BKLOST latches; the calendar is no longer VALID. -/
def Hw.bkTrip (h : Hw) : Hw :=
  (({ h with cal := { h.cal with tripped := true } }).fset R.CAL_STATUS_BKLOST 1).fset R.CAL_STATUS_VALID 0

/-- BACKUP_RETENTION_TRIP. -/
def execBackupRetentionTrip (s : State) : Host.Outcome State Fault Refusal := onHw s Hw.bkTrip

/-- PERIOD in ns (R412). -/
def Hw.wakeNs (h : Hw) : Nat := min 16588800 (max 1 (h.fget R.CAL_WAKE_PERIOD)) * 1000000000 / 256

/-- Whether MON's checks of XTAL_SYS and XTAL_NET before the CORE domain leaves reset pass (R35): neither clock lay out of band in the two
windows of the 200 µs (CLKMON_WINDOW of domains 0 and 1). -/
def Hw.xtalOk (h : Hw) : Bool := decide (tget 0 h.sup.oob 0 < 2 ∧ tget 0 h.sup.oob 1 < 2)

/-- The wake timer expires (R412): with VIN valid, MON checks XTAL_SYS and XTAL_NET for 200 µs (R35); where they pass, housekeeping
starts, the SUP core from its ROM; else CORE stays in reset until the next wake (log 99). Without VIN the wake is skipped. -/
def Hw.parkedWake (h : Hw) : Hw :=
  if h.mode = Mode.parked ∧ h.fbit R.CAL_WAKE_EN = true ∧ h.fbit R.SUP_MODE_STATUS_HOUSEKEEP = false then
    let h1 := h.untilUp (h.sup.parkedAt + h.wakeNs)
    let h2 := { h1 with sup := { h1.sup with parkedAt := h1.clk.up } }
    if h2.nvs.vinLost then h2.finc R.CAL_BKREC2_WAKE_SKIPS
    else
      let ok := h2.xtalOk
      let h3 := { h2.pass 200000 with sup := { h2.sup with oob := [] } }
      if ok then
        { (h3.fset R.SUP_MODE_STATUS_HOUSEKEEP 1) with exe := { h3.exe with sup := ({} : Exe).sup, supRunning := true },
                                                       sup := { h3.sup with monAt := h3.clk.up }, wdg := { h3.wdg with supAt := h3.coreClocks } }
      else h3
  else h

/-- PARKED_WAKE. -/
def execParkedWake (s : State) : Host.Outcome State Fault Refusal := onHw s Hw.parkedWake

/-- The housekeeping wake ends after `ms`, at most 2 s (R53): 0x0030 with cause 0x22, the timer is loaded again. -/
def Hw.houseEnd (h : Hw) (ms : Nat) : Hw :=
  if h.mode = Mode.parked ∧ h.fbit R.SUP_MODE_STATUS_HOUSEKEEP = true then
    let h1 := (h.untilUp (h.sup.parkedAt + min ms 2000 * 1000000)).setMode Mode.parked 0x22
    { (h1.fset R.SUP_MODE_STATUS_HOUSEKEEP 0) with sup := { h1.sup with parkedAt := h1.clk.up } }
  else h

/-- HOUSEKEEPING_END. -/
def execHousekeepingEnd (ms : Nat) (s : State) : Host.Outcome State Fault Refusal := onHw s (fun h => h.houseEnd ms)

/-- WAKE_N_LOW (R53): WAKE_N low for 10 ms ends PARKED with cause 0x23. -/
def execWakeNLow (s : State) : Host.Outcome State Fault Refusal :=
  .next (if s.hw.mode = Mode.parked ∧ s.hw.nvs.vinLost = false then resetBoot { s with hw := s.hw.pass 10000000 } 1 0x23 else s)

end Sys2Proof.Machine
end

