-- ==== Sys2Proof/Machine/Net.lean ====
section
/-! DEFINITION. The network engine: ports, parallel redundancy, process data, message data, PTP and the timebase (R260 to R284).
Checks that the engine finishes within 2 µs of a frame's last byte pass no time here. -/

namespace Sys2Proof.Machine

/-- Whether the network is served: power, and a mode other than BOOT and PARKED (R44). -/
def Hw.netOn (h : Hw) : Bool := h.powered && decide (h.mode ≠ .boot ∧ h.mode ≠ .parked)

/-! ## Ports -/

/-- A port's link comes up at the speed found, 100 Mb/s where the port is forced to it; 0x5002. A disabled port has no link. -/
def Hw.portUp (h : Hw) (b fast : Bool) : Hw :=
  let m := h.fget (portMode b)
  let f := fast && m != 1
  if m = 3 ∨ h.fbit (portLink b) = true then h
  else ((h.fset (portLink b) 1).fset (portFast b) (b2n f)).raise 0x5002 (b2n b) (if f then 1000 else 100)

/-- The link of a port returns; one that injection 0x503 holds down does so at the injection's end. -/
def Hw.portReturn (h : Hw) (b fast : Bool) : Hw :=
  match h.net.injPort with
  | some (p, till) =>
    if p = b then (({ h with net := { h.net with injPort := none } }).untilUp till).asInj true (fun h => h.portUp b fast)
    else h.portUp b fast
  | none => h.portUp b fast

/-- ETH_LINK_CHANGE (R260): port B or A, up or down, at 1000 Mb/s or 100. -/
def execEthLinkChange (b up fast : Bool) (s : State) : Host.Outcome State Fault Refusal :=
  onHw s (fun h => if !h.powered || decide (h.mode = .parked) then h else if up then h.portReturn b fast else h.portDown b)

/-! ## Parallel redundancy -/

/-- FORGET_MS within its limits, in ns. -/
def Hw.forgetNs (h : Hw) : Nat := min 1000 (max 10 (h.fget R.NET_PRP_CFG_FORGET_MS)) * 1000000

/-- A full receive queue drops the frame (R276). -/
def Hw.rxDrop (h : Hw) (b : Bool) : Hw :=
  let f := if b then R.NET_RX_DROP_B_DROP else R.NET_RX_DROP_A_DROP
  let h1 := h.finc f
  h1.raise 0x5003 (b2n b) (h1.fget f)

/-- The duplicate discard table (R263): whether the frame is passed on. -/
def Hw.prpCheck (h : Hw) (f : RxFrame) : Hw × Bool :=
  match f.trailer with
  | none => (h, true)
  | some (q, lan) =>
    let h1 := if lan = (if f.portB then 0xB else 0xA) then h else h.finc R.NET_PRP_STATUS_WRONG_LAN
    let live := h1.net.prp.filter (fun e => decide (h1.clk.up < e.2.2 + h1.forgetNs))
    if live.any (fun e => e.1 == f.mac && e.2.1 == q) then
      let h2 := { h1 with net := { h1.net with prp := live.filter (fun e => !(e.1 == f.mac && e.2.1 == q)) } }
      (h2.fset R.NET_PRP_CNT_DISCARDS (h2.fget R.NET_PRP_CNT_DISCARDS + 1), false)
    else if live.length < 8192 then ({ h1 with net := { h1.net with prp := live ++ [(f.mac, q, h1.clk.up)] } }, true)
    else
      let h2 := h1.finc R.NET_PRP_STATUS_TABLE_FULL
      (h2.raise 0x5005 (h2.fget R.NET_PRP_STATUS_TABLE_FULL), true)

/-- What a received frame meets before its contents are looked at: its size of at most 1,522 bytes (R260, R261), the receive queue, the discard table, its checks. -/
def Hw.rx (h : Hw) (f : RxFrame) : Hw × Bool :=
  if !h.netOn || !h.fbit (portLink f.portB) || decide (1522 < f.size) then (h, false)
  else if f.full then (h.rxDrop f.portB, false)
  else
    let r := h.prpCheck f
    (r.1, r.2 && f.ok)

/-- PRP_ENTRY_FORGET (R263): the oldest entry reaches its age. -/
def Hw.prpForget (h : Hw) : Hw :=
  match h.net.prp with
  | [] => h
  | e :: _ =>
    let h1 := h.untilUp (e.2.2 + h.forgetNs)
    { h1 with net := { h1.net with prp := h1.net.prp.filter (fun e => decide (h1.clk.up < e.2.2 + h1.forgetNs)) } }

/-- PRP_ENTRY_FORGET. -/
def execPrpEntryForget (s : State) : Host.Outcome State Fault Refusal := onHw s Hw.prpForget

/-- PRP_SUPERVISION_SEND (R262): every 2 s while SUP_EN = 1. -/
def Hw.prpSupSend (h : Hw) : Hw :=
  if h.netOn && h.fbit R.NET_PRP_CFG_SUP_EN then
    let h1 := h.untilUp (h.net.supAt + 2000000000)
    ({ h1 with net := { h1.net with supAt := h1.clk.up } }).netSend (.prpSup (h1.fget R.NET_PRP_CFG_SUP_ADDR))
  else h

/-- PRP_SUPERVISION_SEND. -/
def execPrpSupervisionSend (s : State) : Host.Outcome State Fault Refusal := onHw s Hw.prpSupSend

/-! ## The directory -/

/-- Word `w` of directory entry `i`; VALID, ENG. -/
def Hw.dirW (h : Hw) (i w : Nat) : Nat := ((tget [] h.net.dirs i).getD w 0#32).toNat
def Hw.dirValid (h : Hw) (i : Nat) : Bool := (h.dirW i 2).testBit 16
def Hw.dirEng (h : Hw) (i : Nat) : Bool := (h.dirW i 2).testBit 17

/-- The lowest-indexed valid entry with an address (R268). -/
def Hw.dirOf (h : Hw) (ip : Nat) : Option Nat :=
  (h.net.dirs.find? (fun p => h.dirValid p.1 && h.dirW p.1 0 == ip)).map (·.1)

/-- The MAC address of a destination (R268): the group mapping of a multicast address, else the directory entry's. -/
def Hw.destMac (h : Hw) (ip : Nat) : Nat :=
  if multicast ip then 0x01005E000000 + ip % 2 ^ 23
  else match h.dirOf ip with
    | some i => h.dirW i 1 + h.dirW i 2 % 65536 * 2 ^ 32
    | none => 0

/-- What a telegram of session `s` to `ip` carries (R265); `request`: of a pull request. -/
def Hw.pdHdr (h : Hw) (s : Sess) (ip : Nat) (request : Bool) : PdHdr :=
  { etb := (h.reg R.NET_TOPO_ETB).toNat, opt := (h.reg R.NET_TOPO_OPT).toNat, len := s.dataLen,
    replyComId := if request then s.wd 6 else 0, replyIp := if request then (h.reg R.NET_IP).toNat else 0,
    srcIp := if s.anySrc then (h.reg R.NET_IP).toNat else h.dirW s.srcDir 0, tos := s.qos * 32,
    vlan := if (s.wd 0).testBit 6 then some (bitsOf (s.wd 5) 16 12, s.qos) else none, mac := h.destMac ip }

/-- Whether a session takes frames from an address (R269 test 3). -/
def Hw.fromOk (h : Hw) (s : Sess) (ip : Nat) : Bool := s.anySrc || (h.dirValid s.srcDir && h.dirW s.srcDir 0 == ip)

/-! ## Subscribing -/

/-- The sequence test of R269: the counters, and whether the telegram passes. -/
inductive SeqTest where
  | pass
  | dup
  | older (run : Nat)
  | restart
  deriving DecidableEq, Repr

/-- What the sequence test finds for counter `q`; `n` is RESTART_N. -/
def Sess.seqTest (s : Sess) (q n : Nat) : SeqTest :=
  let d := (q + 2 ^ 32 - s.seq) % 2 ^ 32
  if s.never || !s.valid then .pass
  else if d = 0 then .dup
  else if d < 2 ^ 31 then .pass
  else
    let r := if s.restartRun ≠ 0 ∧ q = (s.runSeq + 1) % 2 ^ 32 then s.restartRun + 1 else 1
    if n ≠ 0 ∧ n ≤ r then .restart else .older r

/-- An accepted telegram (R269). -/
def Hw.accept (h : Hw) (i : Nat) (q : Nat) (bs : List Byte) : Hw :=
  h.setSess i { h.sess i with seq := q, valid := true, never := false, restartRun := 0, rxAt := h.clk.up, rxBuf := bs }

/-- Tests 4 to 6 of R269 for a telegram that session `i` takes by tests 1 to 3. -/
def Hw.subscribe (h : Hw) (i : Nat) (t : PdTelegram) : Hw :=
  let s := h.sess i
  if t.len ≠ s.dataLen then h.raise 0x5012 i t.len
  else if s.topoChk && ((t.etb != 0 && t.etb != (h.reg R.NET_TOPO_ETB).toNat) || (t.opt != 0 && t.opt != (h.reg R.NET_TOPO_OPT).toNat)) then
    h.raise 0x5013 i t.etb t.opt
  else match s.seqTest t.seq (h.fget R.NET_TRDP_CFG_RESTART_N) with
    | .pass => h.accept i t.seq t.bytes
    | .dup => h.setSess i { s with dup := satInc 8 s.dup }
    | .older r => h.setSess i { s with old := satInc 8 s.old, restartRun := r, runSeq := t.seq }
    | .restart =>
      ((h.setSess i { s with restarts := satInc 8 s.restarts }).accept i t.seq t.bytes).raise 0x5011 i s.seq t.seq

/-- The partner's address (PARTNER_DIR). -/
def Hw.partnerIp (h : Hw) : Nat := h.dirW (h.fget R.PAIR_PARTNER_PARTNER_DIR) 0

/-- Whether a telegram is a guy line B heartbeat, which reaches no session (R312). -/
def Hw.hbTelegram (h : Hw) (f : RxFrame) (t : PdTelegram) : Bool :=
  h.fbit R.PAIR_CFG_ENABLE && t.msg == 0x5064 && t.comId == (h.reg R.PAIR_HB_COMID).toNat && f.ip == h.partnerIp

/-- Tests 2 and 3 of R269 for session `s`, and the injected drop (point 0x501). -/
def Hw.takes (h : Hw) (s : Sess) (f : RxFrame) (t : PdTelegram) : Bool :=
  s.kind == 2 && t.ver / 256 == 1 && (t.msg == 0x5064 || (s.pull && t.msg == 0x5070)) && t.comId == s.comId && h.fromOk s f.ip &&
    decide (s.dropUntil ≤ h.clk.up)

/-- A process-data telegram arrives (R269, R276, R263). -/
def Hw.pdReceive (h : Hw) (f : RxFrame) (t : PdTelegram) : Hw :=
  let r := h.rx f
  if r.2 && t.crcOk && !r.1.hbTelegram f t then
    (r.1.net.sess.filter (fun p => r.1.takes p.2 f t)).foldl (fun h p => h.subscribe p.1 t) r.1
  else r.1

/-- PD_TELEGRAM_RECEIVE (R269). -/
def execPdTelegramReceive (f : RxFrame) (t : PdTelegram) (s : State) : Host.Outcome State Fault Refusal := onHw s (fun h => h.pdReceive f t)

/-- VALID lapses TIMEOUT_MS after the reception instant of the last accepted telegram (R270). -/
def Hw.sessTimeout (h : Hw) (i : Nat) : Hw :=
  let s := h.sess i
  if s.kind = 2 ∧ s.valid = true then
    let h1 := h.untilUp (s.rxAt + s.timeoutMs * 1000000)
    (h1.setSess i { s with valid := false, timeouts := satInc 8 s.timeouts, dropUntil := 0 }).asInj (s.dropUntil != 0) (fun h => h.raise 0x5010 i s.seq)
  else h

/-- SESSION_TIMEOUT (R270). -/
def execSessionTimeout (i : Fin 512) (s : State) : Host.Outcome State Fault Refusal := onHw s (fun h => h.sessTimeout i.val)

/-! ## Publishing -/

/-- The session's next instant on the timebase (R266): the first at or after now that it has not used. -/
def Hw.nextInstant (h : Hw) (s : Sess) : Nat :=
  let per := s.cycleMs * 1000000
  let ph := s.phaseUs * 1000
  let from0 := if s.pubAt = some h.clk.tb then h.clk.tb + 1 else h.clk.tb
  ph + ceilTo per (from0 - ph)

/-- Where a session's telegrams go (R268): none where no entry has the address. -/
def Hw.route (h : Hw) (ip : Nat) : Bool := multicast ip || (h.dirOf ip).isSome

/-- Whether every task that owns a field of session `i` has released once since publishing began (R267); in FOLLOW, has joined and
completed one copy (R310). -/
def Hw.ownersReady (h : Hw) (i : Nat) : Bool :=
  (h.prog.fields.filter (fun x => x.session == i)).all (fun x =>
    if h.mode = .follow then (h.fget R.PAIR_JOINED_JOINED).testBit x.owner && tget false h.pair.copied x.owner
    else tget false (h.sess i).released x.owner)

/-- A session whose DEST_IP no valid entry has sends nothing; 0x5015 once (R268). -/
def Hw.noRoute (h : Hw) (i : Nat) : Hw :=
  let s := h.sess i
  if s.nodir then h else (h.setSess i { s with nodir := true }).raise 0x5015 i s.destIp

/-- A telegram of publish session `i` leaves with the present publish buffer (R265, R266, R267). -/
def Hw.publishOne (h : Hw) (i : Nat) : Hw :=
  let s := h.sess i
  if !h.route s.destIp then h.noRoute i
  else
    let q := (s.seq + 1) % 2 ^ 32
    (h.setSess i { s with seq := q, badCrc := false }).netSend (.pd i 0x5064 q s.comId s.destIp (sliceZ s.txBuf 0 s.dataLen) s.badCrc (h.pdHdr s s.destIp false))

/-- Session `i` at its publication instant `t`, which has come. -/
def Hw.publishAt (h : Hw) (i t : Nat) (late : Bool) : Hw :=
  let h1 := h.latchSession i
  let s := h1.sess i
  if s.kind ≠ 1 then h1
  else if !s.publishing && !h1.ownersReady i then h1.setSess i { s with pubAt := some t }
  else
    let s1 := { s with publishing := true, pubAt := some t }
    if late then
      let n := satInc 8 s.dup
      (h1.setSess i { s1 with dup := n }).raise 0x5014 i n
    else (h1.setSess i s1).publishOne i

/-- The publish sessions due at instant `t` that start before session `i`: the higher QOS first, then the session number (R266). -/
def Hw.ahead (h : Hw) (i t : Nat) : List Nat :=
  let q := (h.sess i).qos
  let due := h.net.sess.filter (fun p => p.2.kind == 1 && h.nextInstant p.2 == t && p.1 != i)
  [7, 6, 5, 4, 3, 2, 1, 0].flatMap (fun k => ((due.filter (fun p => p.2.qos == k && (decide (q < k) || (k == q && decide (p.1 < i))))).map (·.1)))

/-- A publication instant (R266, R267): the telegrams due then that start before session `i`'s own, then that one; `late`: it has not started
by the session's next instant, so it is not sent. -/
def Hw.publish (h : Hw) (i : Nat) (late : Bool) : Hw :=
  let s := h.sess i
  if s.kind ≠ 1 ∨ h.powered = false ∨ h.mode.publishes = false then h
  else
    let t := h.nextInstant s
    ((h.ahead i t).foldl (fun h j => h.publishAt j t false) (h.untilTb t)).publishAt i t late

/-- PUBLICATION_INSTANT (R266). -/
def execPublicationInstant (i : Fin 512) (late : Bool) (s : State) : Host.Outcome State Fault Refusal := onHw s (fun h => h.publish i.val late)

/-! ## Pull -/

/-- A pull reply (R271): the second counter; at most one in 1 ms. -/
def Hw.pullReply (h : Hw) (i ip : Nat) : Hw :=
  let s := h.sess i
  if (s.pullAt.map (fun a => decide (h.clk.up < a + 1000000))).getD false then
    (h.setSess i { s with pullDrops := s.pullDrops + 1 }).raise 0x5016 i (s.pullDrops + 1)
  else if !h.route ip then h
  else
    let com := if s.wd 6 = 0 then s.comId else s.wd 6
    let q := (s.pulls + 1) % 2 ^ 32
    (h.setSess i { s with pulls := q, pullAt := some h.clk.up, pullDrops := 0 }).netSend
      (.pd i 0x5070 q com ip (sliceZ s.txBuf 0 s.dataLen) false (h.pdHdr s ip false))

/-- A Pr arrives; a module in FOLLOW answers none. -/
def Hw.pullRequest (h : Hw) (f : RxFrame) (t : PdTelegram) (replyIp : Nat) : Hw :=
  let r := h.rx f
  if r.2 && t.crcOk && t.ver / 256 == 1 && t.msg == 0x5072 && h.mode.publishes && decide (h.mode ≠ .follow) then
    (r.1.net.sess.filter (fun p => p.2.kind == 1 && p.2.pull && p.2.comId == t.comId)).foldl
      (fun h p => h.pullReply p.1 (if replyIp = 0 then f.ip else replyIp)) r.1
  else r.1

/-- PULL_REQUEST_RECEIVE (R271). -/
def execPullRequestReceive (f : RxFrame) (t : PdTelegram) (replyIp : Word) (s : State) : Host.Outcome State Fault Refusal :=
  onHw s (fun h => h.pullRequest f t replyIp.toNat)

/-- The instant of a pull subscribe session: a Pr to DEST_IP (R271). R265 gives the length of its dataset, nothing gives the bytes, which are
free (log 126). -/
def Hw.pullSend (h : Hw) (i : Nat) : Hw :=
  let s := h.sess i
  if s.kind = 2 ∧ s.pull = true ∧ h.netOn = true then
    let t := h.nextInstant s
    let q := (s.pulls + 1) % 2 ^ 32
    let h1 := h.untilTb t
    if h1.route s.destIp then
      let r := h1.freeBytes s.dataLen
      (r.1.setSess i { s with pubAt := some t, pulls := q }).netSend (.pr i q s.comId s.destIp r.2 (h1.pdHdr s s.destIp true))
    else (h1.setSess i { s with pubAt := some t }).noRoute i
  else h

/-- PULL_SUBSCRIBE_INSTANT (R271). -/
def execPullSubscribeInstant (i : Fin 512) (s : State) : Host.Outcome State Fault Refusal := onHw s (fun h => h.pullSend i.val)

/-! ## Message data -/

/-- A message dropped (R278). -/
def Hw.msgDrop (h : Hw) (reason ip : Nat) : Hw := h.raise 0x5021 reason ip

/-- A message in its second: at most 500 are served (R278). -/
def Hw.msgTick (h : Hw) : Hw :=
  let s := h.clk.up / 1000000000
  if h.net.msgSec = s then { h with net := { h.net with msgCount := h.net.msgCount + 1 } }
  else { h with net := { h.net with msgSec := s, msgCount := 1 } }

/-- A message that a session takes: an ENG one waits for its service; another is served at once, with no effect the spec describes. -/
def Hw.msgTake (h : Hw) (i : Nat) (f : RxFrame) (sid : Nat) (bs : List Byte) : Hw :=
  let s := h.sess i
  let dir := (h.dirOf f.ip).getD 0
  if s.eng && !((h.dirOf f.ip).isSome && h.dirEng dir) then h.msgDrop 3 f.ip
  else if 32 ≤ h.net.msgs.length || (h.net.msgSec == h.clk.up / 1000000000 && decide (500 ≤ h.net.msgCount)) then h.msgDrop 1 f.ip
  else
    let h1 := h.msgTick
    if s.eng then { h1 with net := { h1.net with msgs := h1.net.msgs ++ [⟨i, dir, sid, bs⟩] } } else h1

/-- A message-data datagram arrives (R278, R279). -/
def Hw.msgReceive (h : Hw) (f : RxFrame) (comId sid : Nat) (bs : List Byte) : Hw :=
  let r := h.rx f
  if !r.2 then r.1
  else if 16384 < bs.length then r.1.msgDrop 2 f.ip
  else match r.1.net.sess.find? (fun p => p.2.kind == 3 && p.2.comId == comId && r.1.fromOk p.2 f.ip) with
    | none => r.1.msgDrop 2 f.ip
    | some p => r.1.msgTake p.1 f sid bs

/-- MESSAGE_RECEIVE (R278). -/
def execMessageReceive (f : RxFrame) (comId : Word) (sid : Nat) (bs : List Byte) (s : State) : Host.Outcome State Fault Refusal :=
  onHw s (fun h => h.msgReceive f comId.toNat sid bs)

/-! ## ARP, ICMP, IGMP -/

/-- Whether the module answers for an address: NET_IP (R261); of a pair the active one also for the sources of its publish sessions
(R306). -/
def Hw.answersFor (h : Hw) (ip : Nat) : Bool :=
  (ip != 0 && ip == (h.reg R.NET_IP).toNat) ||
    (h.fbit R.PAIR_CFG_ENABLE && h.fget R.PAIR_STATUS_ROLE == 1 &&
      h.net.sess.any (fun p => p.2.kind == 1 && !p.2.anySrc && h.dirValid p.2.srcDir && h.dirW p.2.srcDir 0 == ip))

/-- ARP_REQUEST (R261, R306). -/
def execArpRequest (f : RxFrame) (ip : Word) (s : State) : Host.Outcome State Fault Refusal :=
  onHw s (fun h => let r := h.rx f; if r.2 && r.1.answersFor ip.toNat then r.1.netSend (.arpReply ip.toNat) else r.1)

/-- ICMP_ECHO (R261). -/
def execIcmpEcho (f : RxFrame) (ip : Word) (bs : List Byte) (s : State) : Host.Outcome State Fault Refusal :=
  onHw s (fun h => let r := h.rx f; if r.2 && r.1.answersFor ip.toNat then r.1.netSend (.icmpReply f.ip bs) else r.1)

/-- IGMP_QUERY (R261). -/
def execIgmpQuery (f : RxFrame) (s : State) : Host.Outcome State Fault Refusal :=
  onHw s (fun h => let r := h.rx f; if r.2 then r.1.igmpReports else r.1)

/-! ## The timebase and PTP -/

/-- |x|. -/
def absI (x : Int) : Nat := x.natAbs

/-- STEP_US in ns and SLEW_MAX in ppm, within their limits. -/
def Hw.stepNs (h : Hw) : Nat := max 10 (h.fget R.NET_TB_CFG_STEP_US) * 1000
def Hw.slewMax (h : Hw) : Nat := min 500 (max 10 (h.fget R.NET_TB_CFG_SLEW_MAX))

/-- `x` within ±`m`. -/
def clampI (m : Nat) (x : Int) : Int := max (-(m : Int)) (min m x)

/-- The rate correction, in 0.01 ppb. -/
def Hw.setRateCorr (h : Hw) (r : Int) : Hw := h.fset R.NET_TB_RATE_RATE (wInt r).toNat

/-- The frequency and proportional terms (R282): F := F − o / 16, R := F − o, each within ±1,000 × SLEW_MAX ppb; F is kept in
sixteenths of a ppb and R is rounded to 0.01 ppb. -/
def Hw.servoRate (h : Hw) (o : Int) : Hw :=
  let m := 16000 * h.slewMax
  let f := clampI m (h.net.freq - o)
  let r := clampI m (f - 16 * o)
  ({ h with net := { h.net with freq := f, slewing := false } }).setRateCorr ((r * 100 + 8) / 16)

/-- The cause of a step (event 0x5030), 0 where no condition holds (R282). -/
def Hw.stepCause (h : Hw) : Nat :=
  if !h.mode.runsTasks then 1 else if h.fbit R.NET_TB_CFG_STEP_RUN then 2
  else if h.fbit R.NET_TB_CFG_FIRST_STEP && !h.net.corrected then 3 else 0

/-- The due instants of a task that a step from `t0` to `t1` passes (R67). -/
def Hw.passedDue (h : Hw) (t t0 t1 : Nat) : Nat :=
  let c := h.cyc t
  let first := h.dueOf t (c.nextK + c.passed)
  if h.kind t = 1 ∧ t0 < first ∧ first ≤ t1 then (t1 - first) / h.periodNs t + 1 else 0

/-- How far a step of the timebase to `t1` moves a group's next outbound boundary (R208). -/
def Hw.boundaryShift (h : Hw) (g t1 : Nat) : Int :=
  let w := ((tget {} h.fld.lnk g : Lnk).startAt.getD 0 + 4000) - h.clk.up
  (ceilTo 5000 (t1 + w) : Int) - ceilTo 5000 (h.clk.tb + w)

/-- The conversions that run keep their number of periods across a step (R241). -/
def Hw.stepConv (h : Hw) (t1 : Nat) : Hw :=
  { h with fld := { h.fld with fs := h.fld.fs.map (fun p =>
      (p.1, { p.2 with chs := p.2.chs.map (fun x => (x.1, { x.2 with convAt := ((x.2.convAt : Int) + h.boundaryShift p.1 t1).toNat })) })) } }

/-- A step of the timebase by `d` ns (R282); tasks count the due instants it passes (R67). -/
def Hw.stepTb (h : Hw) (d : Int) (cause : Nat) : Hw :=
  let t1 := ((h.clk.tb : Int) + d).toNat
  let h1 := if h.mode.runsTasks && h.tsk.epoch.isSome then
      (List.range 32).foldl (fun x t => let n := h.passedDue t h.clk.tb t1
                                        if n = 0 then x else x.setCyc t { x.cyc t with passed := (x.cyc t).passed + n }) h else h
  let h2 := { h1.stepConv t1 with clk := { h1.clk with tb := t1 % 2 ^ 64 } }
  let w := (BitVec.ofInt 64 d).toNat
  (h2.finc R.NET_PTP_STATUS_STEPS).raise 0x5030 (w % 2 ^ 32) (w / 2 ^ 32) cause

/-- The servo of R282 at one offset measurement of `o` ns. -/
def Hw.servo (h : Hw) (o : Int) : Hw :=
  let h1 :=
    if absI o < h.stepNs then h.servoRate o
    else if h.stepCause ≠ 0 then
      let h2 := h.stepTb (-(8 * ((o + 4) / 8))) h.stepCause
      { h2 with net := { h2.net with slewing := false } }
    else
      let h2 := h.setRateCorr (if 0 < o then -(100000 * (h.slewMax : Int)) else 100000 * (h.slewMax : Int))
      if h.net.slewing then h2
      else ({ h2 with net := { h2.net with slewing := true } }).raise 0x5031 (absI o / 1000)
  { h1 with net := { h1.net with corrected := true }, evr := { h1.evr with synced := true } }

/-- STATE after a measurement (R283): LOCKED after 16 consecutive small offsets, LOCKING at a large one. -/
def Hw.ptpState (h : Hw) (o : Int) : Hw :=
  let st := h.fget R.NET_PTP_STATUS_STATE
  if absI o < 1000 then
    let n := min 16 (h.net.smallRun + 1)
    let h1 := { h with net := { h.net with smallRun := n } }
    if n = 16 ∧ st ≠ 2 then
      let h2 := (h1.fset R.NET_PTP_STATUS_STATE 2).raise 0x5032 (h1.fget R.NET_PTP_STATUS_PORT) (wInt o).toNat
      { h2 with cal := { h2.cal with ptpNow := true } }
    else if st = 0 then h1.fset R.NET_PTP_STATUS_STATE 1 else h1
  else ({ h with net := { h.net with smallRun := 0 } }).fset R.NET_PTP_STATUS_STATE 1

/-- The last offset of each port; two that differ by more than 1 µs are recorded (R281). -/
def Hw.ptpOffsets (h : Hw) (b : Bool) (o : Int) (aSync : Bool) : Hw :=
  let h1 := { h with net := if b then { h.net with offB := some o, offA := if aSync then h.net.offA else none } else { h.net with offA := some o } }
  match h1.net.offA, h1.net.offB with
  | some x, some y => if 1000 < absI (x - y) then h1.raise 0x5035 (absI (x - y)) else h1
  | _, _ => h1

/-- An offset measurement of `o` ns on a port; `aSync`: port A receives Sync from the selected grandmaster (R281). In FOLLOW the
module only keeps measuring (R295). -/
def Hw.ptpMeasure (h : Hw) (b : Bool) (o : Int) (aSync : Bool) : Hw :=
  if !h.netOn || !h.fbit R.NET_PTP_CFG_ENABLE then h
  else
    let h1 := h.ptpOffsets b o aSync
    if b && aSync then h1
    else
      let h2 := if h1.fget R.NET_PTP_STATUS_PORT = b2n b then h1 else (h1.fset R.NET_PTP_STATUS_PORT (b2n b)).raise 0x5034 (b2n b)
      let h3 := h2.setReg R.NET_PTP_OFFSET (wInt (satS 32 (max (-2147483647) o)))
      if h3.mode = .follow then h3 else (h3.servo o).ptpState o

/-- PTP_MEASUREMENT (R282). -/
def execPtpMeasurement (b : Bool) (o : Int) (aSync : Bool) (s : State) : Host.Outcome State Fault Refusal :=
  onHw s (fun h => h.ptpMeasure b o aSync)

/-- PTP_ANNOUNCE_TIMEOUT (R283): no Sync for three announce intervals; the rate last applied stays (R280). A module that may be master
becomes it, since the best-master algorithm hears no other clock. -/
def Hw.ptpLost (h : Hw) : Hw :=
  if !h.netOn || !h.fbit R.NET_PTP_CFG_ENABLE then h
  else
    let st := h.fget R.NET_PTP_STATUS_STATE
    let h1 := { h with net := { h.net with smallRun := 0, offA := none, offB := none } }
    let h2 := if st = 1 ∨ st = 2 then (h1.fset R.NET_PTP_STATUS_STATE 3).raise 0x5033 (h1.fget R.NET_PTP_STATUS_PORT) else h1
    if h2.fbit R.NET_PTP_CFG_MASTER_EN && decide (h2.mode ≠ .follow) then h2.fset R.NET_PTP_STATUS_MASTER 1 else h2

/-- PTP_ANNOUNCE_TIMEOUT. -/
def execPtpAnnounceTimeout (s : State) : Host.Outcome State Fault Refusal := onHw s Hw.ptpLost

/-- Whether an announced clock is better than this module (R281): priority1, then clockClass against 248, then the data set's later
members, which the operand `tie` compares. -/
def Hw.betterMaster (h : Hw) (a : Announce) : Bool :=
  let p := h.fget R.NET_PTP_CFG_PRIORITY1
  if !h.fbit R.NET_PTP_CFG_MASTER_EN then true
  else if a.prio1 ≠ p then decide (a.prio1 < p)
  else if a.clockClass ≠ 248 then decide (a.clockClass < 248) else a.tie

/-- An announce message (R281). -/
def Hw.announce (h : Hw) (a : Announce) : Hw :=
  if !h.netOn || !h.fbit R.NET_PTP_CFG_ENABLE || a.domain != h.fget R.NET_PTP_CFG_DOMAIN then h
  else if h.betterMaster a then
    let h1 := h.fset R.NET_PTP_STATUS_MASTER 0
    if a.utcValid then (h1.fset R.NET_UTC_OFFSET_OFFSET_S a.utc).fset R.NET_UTC_OFFSET_FROM_PTP 1 else h1
  else h.fset R.NET_PTP_STATUS_MASTER 1

/-- PTP_ANNOUNCE_RECEIVE (R281). -/
def execPtpAnnounceReceive (a : Announce) (s : State) : Host.Outcome State Fault Refusal := onHw s (fun h => h.announce a)

/-! ## Registers that latch or commit -/

/-- NET_TB_LO reads the timebase and latches NET_TB_HI (R280). -/
def Hw.tbLoRead (h : Hw) : Hw × Word :=
  (h.setReg R.NET_TB_HI (w32 (h.clk.tb / 2 ^ 32)), w32 h.clk.tb)

/-- TB_LO_READ (R280). -/
def execTbLoRead (s : State) : Host.Outcome State Fault Refusal :=
  onHw s (fun h => let r := h.tbLoRead; r.1.setReg R.NET_TB_LO r.2)

/-- A write of word 7 commits the eight words written (R272), in a mode that takes class S writes. -/
def Hw.sesCommit (h : Hw) (v : Word) : Hw :=
  if !h.stopClass then h.reject (R.NET_SES_DATAw 7)
  else
    let h1 := h.setReg (R.NET_SES_DATAw 7) v
    let ws := (List.range 8).map (fun w => h1.reg (R.NET_SES_DATAw w))
    (h1.putSession (h1.fget R.NET_SES_INDEX_INDEX) ws).showSes

/-- SES_DATA_COMMIT (R272). -/
def execSesDataCommit (v : Word) (s : State) : Host.Outcome State Fault Refusal := onHw s (fun h => h.sesCommit v)

/-- A write of word 3 commits the entry (R274). -/
def Hw.dirCommit (h : Hw) (v : Word) : Hw :=
  let h1 := h.setReg (R.NET_DIR_DATAw 3) v
  (h1.putDir (h1.fget R.NET_DIR_INDEX_INDEX) ((List.range 4).map (fun w => h1.reg (R.NET_DIR_DATAw w)))).showDir

/-- DIR_DATA_COMMIT (R274). -/
def execDirDataCommit (v : Word) (s : State) : Host.Outcome State Fault Refusal := onHw s (fun h => h.dirCommit v)

end Sys2Proof.Machine
end

