-- ==== Sys2Proof/Machine/Pair.lean ====
section
/-! DEFINITION. Hot-standby pairing (R285 to R323): heartbeats and guy lines, the sync link's receiving side, following,
resynchronisation, takeover, revert, coordinated changes. -/

namespace Sys2Proof.Machine

/-- Whether the pair unit works: enabled, power, not PARKED. -/
def Hw.pairUnit (h : Hw) : Bool := h.fbit R.PAIR_CFG_ENABLE && h.powered && decide (h.mode ≠ .parked)

/-! ## Guy lines (R312 to R314) -/

def Hw.guy (h : Hw) (b : Bool) : Guy := tget {} h.pair.lines (b2n b)
def Hw.setGuy (h : Hw) (b : Bool) (g : Guy) : Hw := { h with pair := { h.pair with lines := tset {} h.pair.lines (b2n b) g } }
def guyBit (b : Bool) : Fld := if b then R.PAIR_STATUS_GUY_B else R.PAIR_STATUS_GUY_A

/-- P_HB in µs (R312): the shortest period of a CYCLIC task, at most 1,000. -/
def Hw.phb (h : Hw) : Nat :=
  ((List.range 32).filter (fun t => h.kind t == 1 && h.fbit R.SUP_MODE_STATUS_PROG_VALID)).foldl
    (fun m t => min m (max 1 (h.fget (R.TSK_Tn_PERIOD_PERIOD_US t)))) 1000

/-- The heartbeat of this instant (Table 11-4). -/
def Hw.beat (h : Hw) : Beat :=
  { count := h.pair.hbCount, mode := h.mode.code, live := h.fbit R.SUP_MODE_STATUS_LIVE_OUT, fault := h.sup.fault,
    preferred := h.fbit R.PAIR_CFG_PREFERRED, conflict := h.fbit R.PAIR_STATUS_CONFLICT, sync := h.fget R.PAIR_STATUS_SYNC,
    guyA := h.fbit R.PAIR_STATUS_GUY_A, guyB := h.fbit R.PAIR_STATUS_GUY_B, revertReady := h.pair.ready,
    xchk := (h.reg R.PAIR_XCHK_STATUS).toNat % 65536, tb := h.clk.tb, mac := h.ownMac, phb := h.phb,
    cfgHash := h.sup.cfgHash % 2 ^ 32, progHash := h.prog.hash % 2 ^ 32 }

/-- The revert is given up (R318): S discarded, 0x600C with the condition of R317 that failed, or 0. -/
def Hw.revertDrop (h : Hw) (why : Nat) : Hw :=
  ((({ h with pair := { h.pair with revertS := none, revertConf := false, proposeAt := h.clk.up + 1000000000 } }).fset
    R.PAIR_STATUS_REVERT_PENDING 0).raise 0x600C why)

/-- The condition of R317 that fails as the active module sees it, 0 for none. -/
def Hw.revertBadActive (h : Hw) : Nat :=
  if !h.fbit R.PAIR_CFG_REVERT_EN then 1
  else if h.preferred then 2
  else if h.fbit R.PAIR_STATUS_PREF_CLASH then 3
  else match h.pair.partner with
    | some b => if b.mode == 5 && b.sync == 4 && !b.fault && h.fbit R.PAIR_STATUS_GUY_A && h.fbit R.PAIR_STATUS_GUY_B then 0 else 4
    | none => 4

/-- The conditions of R317 are looked at again: the healthy time starts or ends, a pending revert is given up. -/
def Hw.revertTrack (h : Hw) : Hw :=
  let bad := if h.fget R.PAIR_STATUS_ROLE = 1 then h.revertBadActive else h.revertBad
  let h1 := if h.pair.revertS.isSome && h.pair.reverting == 0 && bad != 0 then h.revertDrop bad else h
  if h1.fget R.PAIR_STATUS_ROLE = 2 then
    if bad = 0 then
      if h1.pair.okSince.isNone then { h1 with pair := { h1.pair with okSince := some h1.clk.up } } else h1
    else { h1 with pair := { h1.pair with okSince := none, ready := false } }
  else { h1 with pair := { h1.pair with okSince := none, ready := false } }

/-- HEARTBEAT_INSTANT (R312): a heartbeat on each guy line, unless an injection suppresses it, and a TIME frame (R295). -/
def Hw.heartbeat (h : Hw) : Hw :=
  if !h.pairUnit then h
  else
    let per := h.phb * 1000
    let t := ceilTo per (if h.pair.hbAt = some h.clk.tb then h.clk.tb + 1 else h.clk.tb)
    let h1 := (h.untilTb t).revertTrack
    let h2 := { h1 with pair := { h1.pair with hbCount := (h1.pair.hbCount + 1) % 2 ^ 32, hbAt := some h1.clk.tb,
                                               injA := h1.pair.injA - 1, injB := h1.pair.injB - 1 } }
    let b := h2.beat
    let h3 := if h1.pair.injA = 0 then h2.pairSend (.heartbeat b) else h2
    let h4 := if h1.pair.injB = 0 ∧ h3.dirValid (h3.fget R.PAIR_PARTNER_PARTNER_DIR) = true then h3.netSend (.heartbeat b) else h3
    h4.pairSend (.time h4.clk.tb h4.pair.timeRx.1 h4.pair.timeRx.2)

/-- HEARTBEAT_INSTANT. -/
def execHeartbeatInstant (s : State) : Host.Outcome State Fault Refusal := onHw s Hw.heartbeat

/-- Resynchronisation fails (R311): 0x6008; in RECOVERY the module ends in STOP, in FOLLOW it tries again 1 s later. -/
def Hw.resyncFail (h : Hw) (reason : Nat) : Hw :=
  let h1 := ((h.fset R.PAIR_STATUS_SYNC 0).fset R.PAIR_JOINED_JOINED 0).raise 0x6008 reason
  let h2 := { h1 with pair := { h1.pair with step := 0, retryAt := some (h1.clk.tb + 1000000000) } }
  if h2.mode = .recovery then h2.setMode Mode.stop 0x21 else h2

/-- Relayed commands have no answer to wait for any more (R337). -/
def Hw.relayFail (h : Hw) : Hw :=
  h.pair.relayed.foldl (fun h d => h.complete d stPair) { h with pair := { h.pair with relayed := [] } }

/-- Guy line A's failure at a follower: a resynchronisation fails with reason 5, else synchronisation is lost with reason 1. -/
def Hw.lineALost (h : Hw) : Hw :=
  let h1 := h.relayFail
  if h1.pair.step ≠ 0 ∧ (h1.mode = .follow ∨ h1.mode = .recovery) then h1.resyncFail 5
  else if h1.mode = .follow ∧ h1.fget R.PAIR_STATUS_SYNC ≠ 0 then h1.syncLoss 1
  else h1

/-- A guy line fails (R313): 0x6003; with both failed PARTNER_LOST and 0x6005. -/
def Hw.guyFail (h : Hw) (b : Bool) : Hw :=
  if !h.fbit (guyBit b) then h
  else
    let h1 := (h.fset (guyBit b) 0).raise 0x6003 (b2n b)
    let h2 := if b then h1 else h1.lineALost
    let h3 := if h2.fbit R.PAIR_STATUS_GUY_A || h2.fbit R.PAIR_STATUS_GUY_B then h2
      else (({ h2 with pair := { h2.pair with liveRuns := 0 } }).fset R.PAIR_STATUS_PARTNER_LOST 1).raise 0x6005 (b2n h2.liveIn)
    h3.revertTrack

/-- A period passes without a valid heartbeat on a line. -/
def Hw.guyMissed (h : Hw) (b : Bool) : Hw :=
  let g := h.guy b
  let h1 := h.setGuy b { g with misses := min 3 (g.misses + 1), goods := 0, arr := h.clk.up }
  if 2 ≤ g.misses then h1.guyFail b else h1

/-- GUY_LINE_MISS (R313): one sender P_HB after the last valid heartbeat, or the last miss. -/
def Hw.guyMiss (h : Hw) (b : Bool) : Hw :=
  if !h.pairUnit then h
  else (h.untilUp ((h.guy b).arr + max 1 ((h.pair.partner.map (·.phb)).getD 1000) * 1000)).guyMissed b

/-- GUY_LINE_MISS. -/
def execGuyLineMiss (b : Bool) (s : State) : Host.Outcome State Fault Refusal := onHw s (fun h => h.guyMiss b)

/-- A valid heartbeat: after three in a row the line is restored (R313). -/
def Hw.guyGood (h : Hw) (b : Bool) : Hw :=
  let g := h.guy b
  let n := min 3 (g.goods + 1)
  let h1 := h.setGuy b { g with misses := 0, goods := n, arr := h.clk.up }
  if n = 3 ∧ h1.fbit (guyBit b) = false then
    (((h1.fset (guyBit b) 1).fset R.PAIR_STATUS_PARTNER_LOST 0).raise 0x6004 (b2n b))
  else h1

/-- Three consecutive periods in which both modules assert LIVE (R288): CONFLICT, 0x600D, and the non-preferred module goes to SAFE. -/
def Hw.dualActive (h : Hw) (b : Beat) : Hw :=
  if !h.fbit R.SUP_MODE_STATUS_LIVE_OUT || !b.live then
    ({ h with pair := { h.pair with liveRuns := 0, hbSeen := b.count } }).fset R.PAIR_STATUS_CONFLICT 0
  else if h.pair.liveRuns ≠ 0 ∧ serialLater b.count h.pair.hbSeen = false then h
  else
    let n := if b.count = (h.pair.hbSeen + 1) % 2 ^ 32 ∨ h.pair.liveRuns = 0 then h.pair.liveRuns + 1 else 1
    let h1 := { h with pair := { h.pair with liveRuns := min 3 n, hbSeen := b.count } }
    if n < 3 ∨ h1.fbit R.PAIR_STATUS_CONFLICT = true then h1
    else
      let h2 := (h1.fset R.PAIR_STATUS_CONFLICT 1).raise 0x600D (b2n (h1.fbit R.PAIR_CFG_PREFERRED)) (b.mac % 2 ^ 32)
      if h2.preferred then h2 else h2.safe 0x10 0

/-- The same PREFERRED value on both modules (R289). -/
def Hw.prefClash (h : Hw) (b : Beat) : Hw :=
  if b.preferred = h.fbit R.PAIR_CFG_PREFERRED then
    if h.fbit R.PAIR_STATUS_PREF_CLASH then h else (h.fset R.PAIR_STATUS_PREF_CLASH 1).raise 0x600E (b2n b.preferred)
  else h.fset R.PAIR_STATUS_PREF_CLASH 0

/-- The heartbeats show that a revert is complete (R320): 0x600B. -/
def Hw.revertShown (h : Hw) (b : Beat) : Hw :=
  if h.pair.swapped = 2 ∧ b.mode = 5 ∧ b.live = false then
    ({ h with pair := { h.pair with swapped := 0 } }).raise 0x600B (h.ownMac % 2 ^ 32)
  else if h.pair.swapped = 1 ∧ b.mode = 4 ∧ b.live = true then
    ({ h with pair := { h.pair with swapped := 0 } }).raise 0x600B (b.mac % 2 ^ 32)
  else h

/-- What the active module keeps of its partner's resynchronisation. -/
def Hw.partnerResync (h : Hw) (b : Beat) : Hw :=
  if h.fget R.PAIR_STATUS_ROLE = 1 then
    if b.sync ≤ 1 ∧ h.pair.swapped = 0 then { h with pair := { h.pair with step := 0, joinAt := 0 } }
    else if b.sync = 4 then { h with pair := { h.pair with step := 0 } } else h
  else h

/-- The content of a partner's heartbeat enters the registers. -/
def Hw.beatTaken (h : Hw) (b : Beat) : Hw :=
  let h1 := { h with pair := { h.pair with partner := some b } }
  let h2 := (h1.fset R.PAIR_STATUS_PARTNER_LIVE (b2n b.live)).fset R.PAIR_STATUS_PARTNER_MODE b.mode
  ((((h2.prefClash b).partnerResync b).revertShown b).dualActive b).revertTrack

/-- A heartbeat arrives on a line; it is valid if its HB_COUNT is higher than the last one's on that line. -/
def Hw.beatIn (h : Hw) (line : Bool) (b : Beat) : Hw :=
  let g := h.guy line
  let ok := match g.count with
    | none => true
    | some c => serialLater b.count c
  let h1 := h.setGuy line { g with count := some b.count }
  if ok then (h1.guyGood line).beatTaken b else h1

/-! ## The sync link (R293, R294) -/

/-- SYNC_LINK_UP: 64 valid idle ordered sets. -/
def execSyncLinkUp (s : State) : Host.Outcome State Fault Refusal :=
  onHw s (fun h => if h.pairUnit then { h with pair := { h.pair with linkUp := true, rxSeq := none, missing := [] } } else h)

/-- SYNC_LINK_DOWN: 1 µs without comma alignment. -/
def execSyncLinkDown (s : State) : Host.Outcome State Fault Refusal := onHw s (fun h => { h with pair := { h.pair with linkUp := false } })

/-- SYNC_FRAME_ERROR: the frame is discarded, counted, 0x6012. -/
def execSyncFrameError (s : State) : Host.Outcome State Fault Refusal :=
  onHw s (fun h => if h.pairUnit && h.pair.linkUp then
    let h1 := h.finc R.PAIR_LINK_CNT_FRAME_ERR
    h1.raise 0x6012 (h1.fget R.PAIR_LINK_CNT_FRAME_ERR) else h)

/-- What the header of a received frame leads to: a NAK for a gap in FSEQ, an ACK where the type asks for one; whether the frame is
new. -/
def Hw.pairRx (h : Hw) (fseq : Nat) (acked : Bool) : Hw × Bool :=
  let a := fun (x : Hw) => if acked then x.pairSend (.ack fseq) else x
  if !h.pairUnit || !h.pair.linkUp then (h, false)
  else match h.pair.rxSeq with
    | none => (a { h with pair := { h.pair with rxSeq := some fseq } }, true)
    | some q =>
      let d := (fseq + 2 ^ 32 - q % 2 ^ 32) % 2 ^ 32
      if d = 0 then (a h, false)
      else if d < 2 ^ 31 then
        let gone := (List.range (min 64 (d - 1))).map (fun i => (q + 1 + i) % 2 ^ 32)
        let h1 := { h with pair := { h.pair with rxSeq := some fseq, missing := h.pair.missing ++ gone } }
        (a (if d = 1 then h1 else h1.pairSend (.nak ((q + 1) % 2 ^ 32) ((fseq + 2 ^ 32 - 1) % 2 ^ 32))), true)
      else if h.pair.missing.contains fseq then (a { h with pair := { h.pair with missing := h.pair.missing.erase fseq } }, true)
      else (a h, false)

/-- HEARTBEAT_RECEIVE: on guy line A with its FSEQ, on guy line B as a telegram in frame `f`. -/
def Hw.hbReceive (h : Hw) (fseq : Nat) (f : Option RxFrame) (b : Beat) : Hw :=
  match f with
  | none => let r := h.pairRx fseq false; if r.2 then r.1.beatIn false b else r.1
  | some f => let r := h.rx f; if r.2 && r.1.pairUnit && f.ip == r.1.partnerIp then r.1.beatIn true b else r.1

/-- HEARTBEAT_RECEIVE (R313). -/
def execHeartbeatReceive (fseq : Nat) (f : Option RxFrame) (b : Beat) (s : State) : Host.Outcome State Fault Refusal :=
  onHw s (fun h => h.hbReceive fseq f b)

/-- The task of a frame that is resent by NAK. -/
def SyncMsg.nakTask : SyncMsg → Option Nat
  | .snapshot t .. => some t
  | .reads es _ => (es.head?).map (·.task)
  | .digest t .. => some t
  | .marker t .. => some t
  | _ => none

/-- A NAK: each lost SNAPSHOT, READS or RELEASE frame is resent once where that can be done before its task's deadline. -/
def Hw.nakResend (h : Hw) (lo n : Nat) : Hw :=
  let lost := h.pair.out.filter (fun x => decide ((x.1 + 2 ^ 32 - lo) % 2 ^ 32 ≤ n) && !h.pair.resent.contains x.1 &&
    (match x.2.2.nakTask with
      | some t => decide (h.clk.tb + 33200 ≤ (h.cyc t).dead)
      | none => false))
  { h with pair := { h.pair with out := h.pair.out ++ lost.map (fun x => (x.1, false, x.2.2)), resent := h.pair.resent ++ lost.map (·.1) } }

/-- ACK_RECEIVE (R294): the frame `lo` is acknowledged, or the range `lo` to `hi` is missing. -/
def execAckReceive (fseq lo : Nat) (hi : Option Nat) (s : State) : Host.Outcome State Fault Refusal :=
  onHw s (fun h =>
    let r := h.pairRx fseq false
    if !r.2 then r.1
    else match hi with
      | none => { r.1 with pair := { r.1.pair with unacked := r.1.pair.unacked.filter (fun x => x.1 != lo) } }
      | some e => r.1.nakResend lo ((e + 2 ^ 32 - lo % 2 ^ 32) % 2 ^ 32))

/-- ACK_TIMEOUT (R294): the oldest unacknowledged frame is resent after 20 µs, at most 8 times; then guy line A fails. -/
def Hw.ackTimeout (h : Hw) : Hw :=
  match h.pair.unacked with
  | [] => h
  | (n, at0, k, m) :: rest =>
    let h1 := h.untilUp (at0 + 20000)
    if k < 8 then { h1 with pair := { h1.pair with unacked := rest ++ [(n, h1.clk.up, k + 1, m)], out := h1.pair.out ++ [(n, false, m)] } }
    else ({ h1 with pair := { h1.pair with unacked := rest } }).guyFail false

/-- ACK_TIMEOUT. -/
def execAckTimeout (s : State) : Host.Outcome State Fault Refusal := onHw s Hw.ackTimeout

/-- TIME_RECEIVE (R295): the partner's timebase `own` at its frame, its receive time `seen` of this module's TIME frame sent at `sent`.
A follower steers by the offset. -/
def Hw.timeReceive (h : Hw) (own seen sent : Nat) : Hw :=
  let h1 := { h with pair := { h.pair with timeRx := (h.clk.tb, own) } }
  let steers := h1.mode == .follow || (h1.mode == .recovery && h1.pair.step != 0)
  if steers && seen != 0 then
    let o : Int := (((sent : Int) - seen) + ((h1.clk.tb : Int) - own)) / 2
    let h2 := h1.setReg R.PAIR_TB_OFFSET (if h1.mode = .follow then wInt (satS 32 (max (-2147483647) o)) else 0#32)
    h2.servo o
  else h1

/-- TIME_RECEIVE. -/
def execTimeReceive (fseq own seen sent : Nat) (s : State) : Host.Outcome State Fault Refusal :=
  onHw s (fun h => let r := h.pairRx fseq false; if r.2 then r.1.timeReceive own seen sent else r.1)

/-! ## Following (R296 to R307) -/

/-- What the cross-check finds for one channel (R307): `bit` its bit of PAIR_XCHK_STATUS. -/
def Hw.xchkOne (h : Hw) (bit c : Nat) (differs : Bool) (own snap : Nat) : Hw :=
  let ms := h.fget R.PAIR_XCHK_CFG_XCHK_MS * 1000000
  let e := tget (0, false) h.pair.xchkSince c
  if !differs then { h with pair := { h.pair with xchkSince := tdel h.pair.xchkSince c } }
  else if e = (0, false) then { h with pair := { h.pair with xchkSince := tput h.pair.xchkSince c (h.clk.up, false) } }
  else if h.clk.up ≤ e.1 + ms then h
  else
    let h1 := { h with pair := { h.pair with xchkSince := tput h.pair.xchkSince c (e.1, true), xchkClear := tput h.pair.xchkClear bit h.clk.up } }
    if e.2 then h1
    else
      let h2 := h1.setReg R.PAIR_XCHK_STATUS (h1.reg R.PAIR_XCHK_STATUS ||| w32 (2 ^ bit))
      (h2.finc R.PAIR_XCHK_STATUS_EPISODES).raise 0x6009 c own snap

/-- Bits whose groups have shown no disagreement for XCHK_MS clear. -/
def Hw.xchkSettle (h : Hw) : Hw :=
  let ms := h.fget R.PAIR_XCHK_CFG_XCHK_MS * 1000000
  h.pair.xchkClear.foldl (fun h e =>
    if e.2 + ms ≤ h.clk.up then
      let h1 := { h with pair := { h.pair with xchkClear := tdel h.pair.xchkClear e.1 } }
      h1.setReg R.PAIR_XCHK_STATUS (h1.reg R.PAIR_XCHK_STATUS &&& ~~~(w32 (2 ^ e.1)))
    else h) h

/-- The cross-check of one input item: its own record `own` against the snapshot's at `a`. -/
def Hw.xchkItem (h : Hw) (it : ItemRow) (a : Nat) (own : List Byte) : Hw :=
  match it.kind with
  | 0 =>
    let st := fun (b : Nat) => (own.getD b 0#8).toNat
    ((List.range 8).filter (fun i => h.chMode (it.group * 8 + i) == 1 && (st 1).testBit i && (h.mb (a + 1)).toNat.testBit i)).foldl (fun h i =>
      let x := (st 0).testBit i
      let y := (h.mb a).toNat.testBit i
      h.xchkOne it.group (it.group * 8 + i) (x != y) (b2n x) (b2n y)) h
  | 1 =>
    if h.chMode it.channel == 3 && (own.getD 12 0#8).toNat.testBit 0 && (h.mb (a + 12)).toNat.testBit 0 then
      let x := leNat (own.take 4)
      let y := h.ml a 4
      h.xchkOne (6 + it.channel / 8) it.channel (decide (h.fget R.PAIR_XCHK_CFG_XCHK_UA * 1000 < (sx 32 x - sx 32 y).natAbs)) x y
    else h
  | _ => h

/-- INPUT_CROSS_CHECK (R307) of task `t`'s completed snapshot. -/
def Hw.crossCheck (h : Hw) (t : Nat) : Hw :=
  if h.fget R.PAIR_XCHK_CFG_XCHK_MS = 0 then h
  else
    let s := h.itemSpan t
    let base := imgBase + ((h.inWin t).1 - 0x20000000)
    ((List.range s.2.1).foldl (fun h i =>
      let it := h.item (s.1 + i)
      match (h.cyc t).own.find? (fun p => p.1 == base + it.off) with
      | some p => h.xchkItem it p.1 p.2
      | none => h) h).xchkSettle

/-- The window bytes of a fragment and where they go: fragment 0 carries DUE_NS and CYCLE first (R296). -/
def fragPlace (frag : Nat) (bs : List Byte) : Nat × List Byte := if frag = 0 then (0, bs.drop 16) else (frag * 2040 - 16, bs)

/-- A snapshot fragment (R297): written into the input window; with the last the window is complete and the task is dispatched. -/
def Hw.snapshotIn (h : Hw) (t frag k due : Nat) (bs : List Byte) (last : Bool) : Hw :=
  let h0 := if h.followsNow && h.tstate t == 0 && (h.cyc t).nextK == k && frag == 0 then h.releaseDue t else h
  let c := h0.cyc t
  let next := (tget (0, 0) h0.pair.snaps t)
  let exp := if next.1 = k + 1 then next.2 else 0
  if h0.tstate t ≠ 1 || !c.foll || c.k != k || frag != exp then h0
  else
    let p := fragPlace frag bs
    let a := imgBase + ((h0.inWin t).1 - 0x20000000) + p.1
    let h1 := h0.setMbs a (p.2.take ((h0.inWin t).2 - p.1))
    if last then
      let h2 := ({ h1 with pair := { h1.pair with snaps := tdel h1.pair.snaps t } }).crossCheck t
      let h3 := h2.startCycle t k due []
      h3.setCyc t { h3.cyc t with foll := true }
    else { h1 with pair := { h1.pair with snaps := tput h1.pair.snaps t (k + 1, frag + 1) } }

/-- SNAPSHOT_RECEIVE. -/
def execSnapshotReceive (fseq : Nat) (t : Fin 32) (frag k due : Nat) (bs : List Byte) (last : Bool) (s : State) :
    Host.Outcome State Fault Refusal :=
  onHw s (fun h => let r := h.pairRx fseq false; if r.2 then r.1.snapshotIn t.val frag k due bs last else r.1)

/-- READS_RECEIVE (R300): the entries wait for the lead core; those of earlier cycles go. -/
def Hw.readsIn (h : Hw) (es : List ReadEntry) : Hw :=
  es.foldl (fun h e =>
    let old := (tget [] h.pair.readsIn e.task).filter (fun x => decide (e.cycle ≤ x.cycle + 1))
    { h with pair := { h.pair with readsIn := tset [] h.pair.readsIn e.task (old ++ [e]) } }) h

/-- READS_RECEIVE; `over`: the active module has marked the execution as overflowed. -/
def execReadsReceive (fseq : Nat) (es : List ReadEntry) (ovr : Bool) (s : State) : Host.Outcome State Fault Refusal :=
  onHw s (fun h =>
    let r := h.pairRx fseq false
    if !r.2 || !decide (r.1.mode = .follow) then r.1
    else if ovr then r.1.syncLoss 7 ((es.head?.map (·.task)).getD 0) else r.1.readsIn es)

/-- RELEASE_RECEIVE (R302): the digest waits for, or meets, the follower's agreement. -/
def execReleaseReceive (fseq : Nat) (t : Fin 32) (k : Nat) (d : BitVec 64) (s : State) : Host.Outcome State Fault Refusal :=
  onHw s (fun h =>
    let r := h.pairRx fseq false
    if r.2 then ({ r.1 with pair := { r.1.pair with rxDig := tput r.1.pair.rxDig t.val (k + 1, d) } }).digestCheck t.val else r.1)

/-- A re-execution marker (R301): the follower rolls its execution back by steps 2 to 6 of R142, not counted as a mismatch, and starts
again on the new READS; with an overflowed undo log it loses synchronisation. -/
def Hw.markerIn (h : Hw) (t k exec : Nat) : Hw :=
  let c := h.cyc t
  let i := h.targetOf t
  if !c.foll || c.k != k || decide (h.tstate t < 3 ∨ 5 < h.tstate t) then h.setCyc t { c with exec := if c.foll && c.k == k then exec else c.exec }
  else if c.ovf then h.syncLoss 8 t
  else
    let h1 := (h.rollBack i t).setCyc t { c with exec := exec }
    if (h1.tgt i).task = some t then
      let h2 := h1.restart i t
      h2.setTgt i { h2.tgt i with reexec := false }
    else
      let g := h1.tgt i
      h1.setTgt i { g with saved := g.saved.map (fun x => if x.task = t then { x with restart := true } else x) }

/-- REEXEC_MARKER. -/
def execReexecMarker (fseq : Nat) (t : Fin 32) (k exec : Nat) (s : State) : Host.Outcome State Fault Refusal :=
  onHw s (fun h => let r := h.pairRx fseq false; if r.2 then r.1.markerIn t.val k exec else r.1)

/-- COUNTERS_SEND (R305): every 100 ms while the pair is formed. -/
def Hw.countersSend (h : Hw) : Hw :=
  if h.pairFormed then
    let h1 := h.untilUp (h.pair.countersAt + 100000000)
    ({ h1 with pair := { h1.pair with countersAt := h1.clk.up } }).pairSend
      (.counters ((h1.net.sess.filter (fun (p : Nat × Sess) => p.2.kind == 1)).map (fun (p : Nat × Sess) => (p.1, p.2.seq, p.2.pulls))))
  else h

/-- COUNTERS_SEND. -/
def execCountersSend (s : State) : Host.Outcome State Fault Refusal := onHw s Hw.countersSend

/-- The publication instants of a session in the last `age` ns. -/
def Hw.pubsIn (h : Hw) (s : Sess) (age : Nat) : Nat :=
  let per := s.cycleMs * 1000000
  let n := fun x => if per = 0 then 0 else (x + per - s.phaseUs * 1000 % per) / per
  n h.clk.tb - n (h.clk.tb - age)

/-- One session of a COUNTERS frame sent `age` ns ago: corrected where it differs. -/
def Hw.counterFix (x : Hw × Nat) (e : Nat × Nat × Nat) (age : Nat) : Hw × Nat :=
  let s := x.1.sess e.1
  let want := (e.2.1 + if s.publishing then x.1.pubsIn s age else 0) % 2 ^ 32
  let n := { s with seq := want, pulls := e.2.2 % 2 ^ 32 }
  if s.kind ≠ 1 then x else if s.seq = want then (x.1.setSess e.1 n, x.2) else (x.1.setSess e.1 n, x.2 + 1)

/-- COUNTERS_RECEIVE (R305). -/
def execCountersReceive (fseq : Nat) (cs : List (Nat × Nat × Nat)) (age : Nat) (s : State) : Host.Outcome State Fault Refusal :=
  onHw s (fun h =>
    let r := h.pairRx fseq false
    if r.2 && decide (r.1.mode = .follow) then
      let x := cs.foldl (fun x e => Hw.counterFix x e age) (r.1, 0)
      if x.2 = 0 then x.1 else x.1.raise 0x6011 x.2
    else r.1)

/-! ## Resynchronisation (R308 to R311) -/

/-- RESYNC_START (R303, R311): at the whole second, or 1 s after a failure, while guy line A is up. -/
def Hw.resyncStart (h : Hw) : Hw :=
  match h.pair.retryAt with
  | some t =>
    if h.mode = .follow ∧ h.fbit R.PAIR_STATUS_GUY_A = true ∧ h.pair.step = 0 then
      (h.untilTb (if h.clk.tb ≤ t then t else ceilTo 1000000000 h.clk.tb)).startResync
    else h
  | none => h

/-- RESYNC_START. -/
def execResyncStart (s : State) : Host.Outcome State Fault Refusal := onHw s Hw.resyncStart

/-- The first cycle of a task with a sampling instant at or after `x`. -/
def Hw.firstK (h : Hw) (t x : Nat) : Nat :=
  let d := h.dueOf t 0
  let per := h.periodNs t
  if x ≤ d ∨ per = 0 then 0 else (x - d + per - 1) / per

/-- Every CYCLIC task of `ts` goes on with its first cycle sampled at or after `x`. -/
def Hw.skipTo (h : Hw) (p : Nat → Bool) (x : Nat) : Hw :=
  ((List.range 32).filter (fun t => h.kind t == 1 && p t)).foldl (fun h t =>
    h.setCyc t { h.cyc t with nextK := max (h.cyc t).nextK (h.firstK t x), passed := 0 }) h

/-- A force entry from its words, SOURCE alike. -/
def Hw.putForce (h : Hw) (x : Nat × Nat × Nat × Nat) : Hw :=
  h.setForce x.1 { forceOf x.2.1 x.2.2.1 x.2.2.2 (bitsOf x.2.2.1 24 2) with active := x.2.1.testBit 3 }

/-- A STATE item is applied (R308, R309); the table of step 3 replaces the follower's own (R94, R123). -/
def Hw.stateItem (h : Hw) (x : StItem) : Hw :=
  match x with
  | .bytes a bs => (h.inval none a bs.length).setMbs (coreToSup a) bs
  | .bulk cells =>
    let keep := h.mem.filter (fun p => decide (p.1 < dataBase ∨ (dataBase + 0x800000 ≤ p.1 ∧ p.1 < retBase) ∨ retBase + 0x40000 ≤ p.1))
    cells.foldl (fun h c => h.setMb c.1 c.2) { h with mem := keep, exe := { h.exe with caches := [] } }
  | .timer i w0 w1 w2 w3 => h.setTimer i { w0 := w0, w1 := w1, w2 := w2, w3 := w3 }
  | .prime i b => h.setPrime i b
  | .force i w0 w1 v => (h.putForce (i, w0, w1, v)).forceStatus
  | .forceTable es => (es.foldl Hw.putForce { h with tsk := { h.tsk with forces := [], feffs := [] } }).forceStatus
  | .epoch e => { h with tsk := { h.tsk with epoch := some e } }
  | .cycle t k => h.setCyc t { h.cyc t with nextK := k }
  | .counters s pub pull => h.setSess s { h.sess s with seq := pub, pulls := pull }
  | .relDo c b => { h with fld := { h.fld with relDo := tset false h.fld.relDo c b } }
  | .relAo c na ctrl => { h with fld := { h.fld with relAo := tset (0, 0) h.fld.relAo c (na, ctrl) } }
  | .relPd s bs => h.setSess s { h.sess s with relBuf := bs, txBuf := h.pdForced 1 s bs }

/-- A bulk copy that starts again (R309): the third restart fails the resynchronisation. -/
def Hw.bulkAgain (h : Hw) : Hw :=
  let n := h.pair.restarts + 1
  let h1 := { h with pair := { h.pair with restarts := n } }
  -- The first bulk copy counts 1, so the third restart is the fourth.
  if 4 ≤ n then h1.resyncFail 4 else h1

/-- STATE_RECEIVE: items in order of arrival. -/
def Hw.stateIn (h : Hw) (is : List StItem) : Hw :=
  let bulk := is.any (fun x => match x with
    | .bulk _ => true
    | _ => false)
  let h1 := if bulk then h.bulkAgain else h
  if h1.pair.step = 0 ∧ h1.fget R.PAIR_STATUS_SYNC < 3 then h1 else is.foldl (fun h x => h.stateItem x) h1

/-- STATE_RECEIVE. -/
def execStateReceive (fseq : Nat) (is : List StItem) (s : State) : Host.Outcome State Fault Refusal :=
  onHw s (fun h => let r := h.pairRx fseq true
                   if r.2 && (r.1.mode == .follow || r.1.mode == .recovery) then r.1.stateIn is else r.1)

/-- The items of step 3 (Table 11-6). -/
def Hw.resyncItems (h : Hw) : List StItem :=
  StItem.forceTable (h.tsk.forces.map (fun p => (p.1, p.2.word0, p.2.word1 false, p.2.value))) ::
  (h.tsk.epoch.map StItem.epoch).toList ++
  ((List.range 32).filter (fun t => h.kind t == 1)).map (fun t => StItem.cycle t (h.cyc t).nextK) ++
  (h.net.sess.filter (fun p => p.2.kind == 1)).map (fun p => StItem.counters p.1 p.2.seq p.2.pulls) ++
  h.fld.relDo.map (fun p => StItem.relDo p.1 p.2) ++ h.fld.relAo.map (fun p => StItem.relAo p.1 p.2.1 p.2.2) ++
  (h.net.sess.filter (fun p => p.2.kind == 1)).map (fun p => StItem.relPd p.1 p.2.relBuf)

/-- The bulk copy of step 4. -/
def Hw.bulkItems (h : Hw) : List StItem :=
  .bulk (h.mem.filter (fun p => decide ((dataBase ≤ p.1 ∧ p.1 < dataBase + 0x800000) ∨ (retBase ≤ p.1 ∧ p.1 < retBase + 0x40000)))) ::
    (h.tsk.timers.map (fun p => StItem.timer p.1 p.2.w0 p.2.w1 p.2.w2 p.2.w3) ++ h.tsk.prime.map (fun p => StItem.prime p.1 p.2))

/-- The active module's part: what the follower's next step needs. -/
def Hw.resyncServe (h : Hw) : Hw :=
  if !h.pairFormed || h.partnerSync != 2 then h
  else match h.pair.step with
    | 0 =>
      let b := h.pair.partner.getD {}
      let img := h.cfgSlot (h.fget R.SUP_CFG_STATUS_APPLIED - 1)
      let p := if b.progHash = h.prog.hash % 2 ^ 32 then none else some h.prog
      let c := if b.cfgHash = h.sup.cfgHash % 2 ^ 32 then none else img
      let h1 := { h with pair := { h.pair with step := 2 } }
      if p.isNone && c.isNone then h1 else h1.pairSend (.program p c)
    | 2 => ({ h with pair := { h.pair with step := 3 } }).pairSend (.state h.resyncItems)
    | 3 => ({ h with pair := { h.pair with step := 4, ovfSeen := false } }).pairSend (.state h.bulkItems)
    | 4 =>
      if h.pair.ovfSeen then ({ h with pair := { h.pair with ovfSeen := false } }).pairSend (.state h.bulkItems)
      else
        let j := ceilTo 1000000 (h.clk.tb + 1000000)
        ({ h with pair := { h.pair with step := 5, joinAt := j } }).pairSend (.join j)
    | _ => h

/-- The next step begins. -/
def Hw.resyncNext (h : Hw) (n sync : Nat) : Hw := ({ h with pair := { h.pair with step := n } }).fset R.PAIR_STATUS_SYNC sync

/-- Whether the partner's heartbeats show it active in RUN (R52). -/
def Hw.partnerRuns (h : Hw) : Bool := h.fget R.PAIR_STATUS_PARTNER_MODE == Mode.run.code

/-- Step 1: identity, then the comparison of the hashes. It does not end while the partner is not in RUN (R52, log 114). -/
def Hw.resync1 (h : Hw) (x : ResyncIn) : Hw :=
  if !h.partnerRuns then h
  else if !x.familyEq || !h.fbit R.PAIR_STATUS_GUY_A then h.resyncFail 1
  else
    let h1 := { h with pair := { h.pair with calOk := x.calValid } }
    if x.cfgEq && x.progEq then h1.resyncNext 3 2 else h1.resyncNext 2 2

/-- Step 2: the active module's program and configuration are verified and loaded; NOR is not written. A task set or a table that R64, R273
or R389 refuses fails the resynchronisation like a signature (log 114). -/
def resync2 (h : Hw) (o : Otp) (x : ResyncIn) : Hw × Otp :=
  let bad := fun (r : Option Nat) => r.isSome
  let p := x.prog.map (fun p => verify o 2 p.hdr (p.layoutOk && p.layout != 0))
  let c := x.cfg.map (fun c => verify o 3 c.common.hdr c.common.recsOk)
  if bad (p.getD none) || bad (c.getD none) then (h.resyncFail 2, o)
  else if (x.prog.map (fun p => !p.hashesOk)).getD false then (h.resyncFail 3, o)
  else match x.prog.bind h.taskCheck, x.cfg.bind h.tableRefusal with
  | some (n, t), _ => ((h.raise 0x3004 n t).resyncFail 2, o)
  | none, some e => ((h.raise e.1 e.2.1 e.2.2).resyncFail 2, o)
  | none, none =>
    let h1 := match x.prog with
      | some p => h.install p
      | none => h
    let r := match x.cfg with
      | none => (h1, o)
      | some c =>
        let r := (c.common.recs.map (fun r => (false, r))).foldl (cfgRecord .free) (h1, o)
        let h2 := { r.1 with sup := { r.1.sup with cfgHash := c.common.hash } }
        (((h2.setReg R.SUP_CFG_SEQ (w32 c.seq)).latchProfiles).raise 0x0106 (h2.fget R.SUP_CFG_STATUS_APPLIED - 1) c.seq, r.2)
    (r.1.resyncNext 3 2, r.2)

/-- Step 5: J has come (R310): tasks join at their first cycle sampled at or after it; RECOVERY ends in FOLLOW, against a partner in RUN
(R52) and unless R55 refuses it. -/
def Hw.resync5 (h : Hw) : Hw :=
  if h.pair.joinAt = 0 ∨ h.partnerRuns = false then h
  else
    let join := fun (h : Hw) =>
      let j := h.pair.joinAt
      let ms := (h.clk.up - h.pair.stepAt) / 1000000
      let h0 : Hw := { h with pair := { h.pair with step := 0, copied := [] } }
      (h0.raise 0x6007 (j / 1000 % 2 ^ 32) ms).skipTo (fun _ => true) j
    if h.mode = Mode.recovery then h.unlessRefused .follow (fun h => (join h).setMode Mode.follow 0x21) else join h

/-- RESYNC_STEP_DONE: on the active module what the follower's step needs is sent; on the follower the step completes. -/
def resyncStep (h : Hw) (o : Otp) (x : ResyncIn) : Hw × Otp :=
  if h.fget R.PAIR_STATUS_ROLE = 1 then (h.resyncServe, o)
  else
    let h1 := h.pass (x.us * 1000)
    match h.pair.step with
    | 0 => (h, o)
    | 1 => (h1.resync1 x, o)
    | 2 => resync2 h1 o x
    | 3 => (h1.resyncNext 4 2, o)
    | 4 => (h1.resyncNext 5 3, o)
    | _ => (h1.resync5, o)

/-- RESYNC_STEP_DONE (R308). -/
def execResyncStepDone (x : ResyncIn) (s : State) : Host.Outcome State Fault Refusal :=
  let r := resyncStep s.hw s.otp x
  .next { s with hw := r.1, otp := r.2 }

/-! ## LIVE_IN (R291, R292, R304, R315, R316) -/

/-- The hold length N (R316). -/
def Hw.holdN (h : Hw) : Nat := h.fget R.PAIR_CFG_HOLD_CYCLES + 1

/-- A takeover (R315): RUN with cause 0x40, replay ends, cycles sampled before the drop whose snapshot is incomplete or not begun are skipped
with their numbers, released channels hold. -/
def Hw.takeover (h : Hw) (drop : Nat) : Hw :=
  let sync := h.fget R.PAIR_STATUS_SYNC
  let joined := h.fget R.PAIR_JOINED_JOINED
  let chans := (List.range 48).filter (fun c => tget false h.fld.driven c)
  let h1 := (h.setMode Mode.run 0x40).raise 0x6001 sync chans.length
  let h2 := (List.range 32).foldl (fun h t =>
    let x := if h.tstate t = 1 then h.setTstate t 0 else h
    x.setCyc t { x.cyc t with foll := false }) h1
  let h3 := h2.skipTo (fun t => !joined.testBit t || h2.tstate t == 0) drop
  { h3 with pair := { h3.pair with dropAt := some drop, snaps := [], readsIn := [], step := 0, retryAt := none, joinAt := 0,
                                   reverting := 0, revertS := none, revertConf := false },
            fld := { h3.fld with held := chans.map (fun c => (c, h3.holdN)) } }

/-- Whether a drop now is the revert step itself (R292). -/
def Hw.revertDropNow (h : Hw) : Bool :=
  h.pair.revertConf && ((h.pair.revertS.map (fun s => decide (s ≤ h.clk.tb ∧ h.clk.tb ≤ s + 2000))).getD false || h.pair.reverting != 0)

/-- A LIVE_IN drop (R291, R292). -/
def Hw.liveDrop (h : Hw) : Hw :=
  if !h.liveIn then h
  else
    let t := h.clk.tb
    let h1 := (h.pass 256).fset R.SUP_MODE_STATUS_LIVE_IN 0
    if !h1.pairOn then h1
    else if h1.mode = .follow then
      if h.revertDropNow then h1
      else if 3 ≤ h1.fget R.PAIR_STATUS_SYNC then h1.takeover t
      else h1.raise 0x6002 (h1.fget R.PAIR_STATUS_SYNC)
    else if h1.pair.reverting = 1 then
      ({ h1 with pair := { h1.pair with reverting := 0, swapped := 0, revertS := none, revertConf := false } }).fset R.PAIR_STATUS_REVERT_PENDING 0
    else if h1.mode = .recovery ∧ h1.pair.step ≠ 0 then
      (({ h1 with pair := { h1.pair with step := 0 } }).fset R.PAIR_STATUS_SYNC 0).toward Mode.startup 0x21 none
    else h1

/-- LIVE_IN_DROP. -/
def execLiveInDrop (s : State) : Host.Outcome State Fault Refusal := onHw s Hw.liveDrop

/-- A low pulse below 256 ns of an asserted LIVE_IN (R291). -/
def Hw.liveGlitch (h : Hw) : Hw :=
  if h.liveIn then
    let h1 := h.finc R.PAIR_LINK_CNT_GLITCHES
    h1.raise 0x6013 (h1.fget R.PAIR_LINK_CNT_GLITCHES)
  else h

/-- LIVE_IN_GLITCH. -/
def execLiveInGlitch (s : State) : Host.Outcome State Fault Refusal := onHw s Hw.liveGlitch

/-- LIVE_IN becomes asserted (R52, R287): in TEST 0x0033 with reason 4; a transition that waits takes its row with LIVE_IN asserted. -/
def Hw.liveAssert (h : Hw) (o : Otp) : Hw :=
  if h.liveIn then h
  else
    let h1 := h.fset R.SUP_MODE_STATUS_LIVE_IN 1
    if h1.mode = .test then h1.refuse Mode.test 4 0
    else if h1.sup.waitTo.isSome then h1.waitEnds o
    else h1

/-- LIVE_IN_ASSERT. -/
def execLiveInAssert (s : State) : Host.Outcome State Fault Refusal := onHwO s (fun o h => h.liveAssert o)

/-- N due instants of the owning task have passed since the drop without a release (R316): groundsheet until that release, 0x600F. -/
def Hw.holdExpiry (h : Hw) (c : Nat) : Hw :=
  let n := tget 0 h.fld.held c
  match h.pair.dropAt with
  | some d =>
    if n = 0 ∨ h.kind (h.chOwner c) ≠ 1 then h
    else
      let t := h.chOwner c
      let h1 := h.untilTb (h.dueOf t (h.firstK t (d + 1) + n - 1))
      ({ h1 with fld := { h1.fld with held := tset 0 h1.fld.held c 0, driven := tset false h1.fld.driven c false } }).raise 0x600F c
  | none => h

/-- TAKEOVER_HOLD_EXPIRY. -/
def execTakeoverHoldExpiry (c : Fin 48) (s : State) : Host.Outcome State Fault Refusal := onHw s (fun h => h.holdExpiry c.val)

/-! ## Revert (R317 to R320) -/

/-- REVERT_HOLD_S within its limits. -/
def Hw.revertHold (h : Hw) : Nat := min 3600 (max 1 (h.fget R.PAIR_REVERT_CFG_REVERT_HOLD_S))

/-- HOLD_LEFT_S. -/
def Hw.holdLeft (h : Hw) : Nat :=
  if h.fget R.PAIR_STATUS_ROLE = 2 ∧ h.preferred = true then
    match h.pair.okSince with
    | some a => h.revertHold - (h.clk.up - a) / 1000000000
    | none => h.revertHold
  else 0

/-- REVERT_HOLD_COMPLETE (R317). -/
def Hw.revertReady (h : Hw) : Hw :=
  match h.pair.okSince with
  | some a =>
    if h.revertBad = 0 then
      let h1 := h.untilUp (a + h.revertHold * 1000000000)
      { h1 with pair := { h1.pair with ready := true } }
    else h
  | none => h

/-- REVERT_HOLD_COMPLETE. -/
def execRevertHoldComplete (s : State) : Host.Outcome State Fault Refusal := onHw s Hw.revertReady

/-- REVERT_PROPOSE (R318): S, a multiple of 20 µs at least 10 ms ahead; 0x600A. -/
def Hw.revertPropose (h : Hw) : Hw :=
  if h.mode = .run ∧ h.fget R.PAIR_STATUS_ROLE = 1 ∧ h.revertBadActive = 0 ∧ (h.pair.partner.map (·.revertReady)).getD false = true ∧
      h.pair.revertS.isNone = true then
    let h1 := h.untilUp h.pair.proposeAt
    let s := ceilTo 20000 (h1.clk.tb + 10000000)
    (({ h1 with pair := { h1.pair with revertS := some s, revertConf := false } }).pairSend (.control { kind := 3, inst := s })).raise
      0x600A (s / 1000 % 2 ^ 32)
  else h

/-- REVERT_PROPOSE. -/
def execRevertPropose (s : State) : Host.Outcome State Fault Refusal := onHw s Hw.revertPropose

/-- REVERT_CONFIRM_TIMEOUT (R318): no confirmation 5 ms before S. -/
def Hw.revertTimeout (h : Hw) : Hw :=
  match h.pair.revertS with
  | some s =>
    if h.pair.revertConf then h else ((h.untilTb (s - 5000000)).revertDrop 0).pairSend (.control { kind := 3 })
  | none => h

/-- REVERT_CONFIRM_TIMEOUT. -/
def execRevertConfirmTimeout (s : State) : Host.Outcome State Fault Refusal := onHw s Hw.revertTimeout

/-- A handing-back module becomes a SYNCED follower (R319, R320); one that has left RUN since stays where it is (Table 2-3). -/
def Hw.handBack (h : Hw) : Hw :=
  if h.mode ≠ .run then h else
  let h1 := h.setMode Mode.follow 0x41
  (h1.fset R.PAIR_STATUS_SYNC 4).setReg R.PAIR_JOINED (w32 ((List.range 32).foldl (fun a t => if h1.kind t = 1 then a + 2 ^ t else a) 0))

/-- The preferred module enters RUN and drives again. -/
def Hw.takeBack (h : Hw) : Hw := h.setMode Mode.run 0x42

/-- Whether any group reverts make-before-break. -/
def Hw.overlap (h : Hw) : Bool := h.fget R.PAIR_CFG_OVERLAP != 0

/-- The revert instant S (R319, R320). -/
def Hw.revertInstant (h0 : Hw) : Hw :=
  let h := h0.revertTrack
  match h.pair.revertS with
  | some s =>
    if !h.pair.revertConf || h.pair.reverting != 0 then h
    else
      let h1 := h.untilTb s
      let act := h1.mode = .run ∧ h1.fget R.PAIR_STATUS_ROLE = 1
      let h2 := { h1 with pair := { h1.pair with reverting := if act then 1 else 2, swapped := if act then 1 else 2 } }
      if act then if h2.overlap then h2 else h2.handBack
      else if h2.overlap then h2.takeBack else h2
  | none => h

/-- REVERT_INSTANT. -/
def execRevertInstant (s : State) : Host.Outcome State Fault Refusal := onHw s Hw.revertInstant

/-- The revert is over. -/
def Hw.revertDone (h : Hw) : Hw :=
  ({ h with pair := { h.pair with reverting := 0, revertS := none, revertConf := false, okSince := none, ready := false } }).fset
    R.PAIR_STATUS_REVERT_PENDING 0

/-- S + 40 µs, or S + 41 µs for a module that has handed back without seeing LIVE_IN asserted, which takes over (R319). With
make-before-break the module that hands back stays in RUN where LIVE_IN is not asserted (R320). -/
def Hw.handover (h : Hw) : Hw :=
  match h.pair.revertS, h.pair.reverting with
  | some s, 2 =>
    let h1 := h.untilTb (s + 40000)
    (if h1.mode = .follow then h1.takeBack else h1).revertDone
  | some s, 1 =>
    if h.mode = .follow then
      let h1 := h.untilTb (s + 41000)
      if h1.liveIn then h1.revertDone else (h1.takeover s).revertDone
    else
      let h1 := h.untilTb (s + 40000)
      if h1.liveIn then h1.handBack.revertDone
      else ({ h1 with pair := { h1.pair with swapped := 0 } }).revertDone
  | _, _ => h

/-- REVERT_HANDOVER_EXPIRY. -/
def execRevertHandoverExpiry (s : State) : Host.Outcome State Fault Refusal := onHw s Hw.handover

/-! ## Coordinated changes (R99, R122, R318, R321) -/

/-- A force change that the active module has discarded goes from the follower too (R99, log 109): `a` and `b` the entry's words, `c` its E. -/
def Hw.ctlForceDrop (h : Hw) (c : Ctl) : Hw :=
  let f := forceOf c.a c.b 0 0
  ({ h with tsk := { h.tsk with feffs := h.tsk.feffs.filter (fun x => !(x.eff == c.c && x.new.same f)) } }).forceStatus

/-- A force change proposed to the follower is adopted and confirmed. -/
def Hw.ctlForceAdopt (h : Hw) (c : Ctl) : Hw :=
  let f := forceOf c.a c.b c.c (bitsOf c.b 24 2)
  match (match h.forceFind f with
    | some i => some i
    | none => h.forceFree) with
  | none => h
  | some i =>
    let h1 := ({ h with tsk := { h.tsk with feffs := h.tsk.feffs ++ [({ idx := i, set := c.a.testBit 3, new := f, eff := c.inst, d := {}, confirmed := true } : FEff)] } }).forceStatus
    h1.pairSend (.control { c with confirm := true })

/-- A force change proposed to the follower, or withdrawn. -/
def Hw.ctlForce (h : Hw) (c : Ctl) : Hw := if c.inst = 0 then h.ctlForceDrop c else h.ctlForceAdopt c

/-- A class P value proposed to the follower, or withdrawn. -/
def Hw.ctlPwrite (h : Hw) (c : Ctl) : Hw :=
  if c.inst = 0 then { h with pend := tdel h.pend c.a, pair := { h.pair with pwrites := h.pair.pwrites.filter (fun p => p.addr != c.a) } }
  else
    let h1 := h.pendPut c.a (w32 c.b)
    ({ h1 with pair := { h1.pair with pwrites := h1.pair.pwrites ++ [({ addr := c.a, val := w32 c.b, eff := c.inst, d := none, confirmed := true } : PWrite)] } }).pairSend
      (.control { c with confirm := true })

/-- A swap point proposed to the follower (R122): confirmed where it has staged the same flysheet. -/
def Hw.ctlSwap (h : Hw) (c : Ctl) : Hw :=
  if c.inst = 0 then
    -- a point that the active module has let lapse: a follower that has swapped there has parted from it
    if h.tsk.olc.point ≠ c.b then h
    else if h.fget R.TSK_OLC_STATUS_STATE = 3 then { h with tsk := { h.tsk with olc := { h.tsk.olc with point := 0, confirmed := false } } }
    else if h.fget R.TSK_OLC_STATUS_STATE = 5 then h.followFail else h
  else match h.tsk.olc.staged with
  | some p =>
    if p.hash = c.a ∧ (h.fget R.TSK_OLC_STATUS_STATE = 2 ∨ h.fget R.TSK_OLC_STATUS_STATE = 3) then
      let h1 := h.fset R.TSK_OLC_STATUS_STATE 3
      ({ h1 with tsk := { h1.tsk with olc := { h1.tsk.olc with point := c.inst, confirmed := true } } }).pairSend
        (.control { c with confirm := true })
    else h
  | none => h

/-- A revert instant proposed to the preferred module, confirmed at least 5 ms before it; or given up. -/
def Hw.ctlRevert (h : Hw) (c : Ctl) : Hw :=
  if c.inst = 0 then if h.pair.revertS.isSome && h.pair.reverting == 0 then h.revertDrop 0 else h
  else if h.revertBad = 0 ∧ h.pair.ready = true ∧ h.clk.tb + 5000000 ≤ c.inst then
    (({ h with pair := { h.pair with revertS := some c.inst, revertConf := true } }).fset R.PAIR_STATUS_REVERT_PENDING 1).pairSend
      (.control { c with confirm := true })
  else h

/-- The staging that the active module has done (R122, log 21), or its end. -/
def Hw.ctlStage (h : Hw) (o : Otp) (c : Ctl) : Hw :=
  if c.a = 0 then
    if h.fget R.TSK_OLC_STATUS_STATE = 2 ∨ h.fget R.TSK_OLC_STATUS_STATE = 3 then h.olcRollback c.b c.c else h
  else
    let r := h.stageTry o
    match r.2 with
    | some x => r.1.olcRollback x.1 x.2
    | none => if (r.1.tsk.olc.staged.map (fun p => p.hash == c.a)).getD false then r.1 else r.1.olcRollback 11 0

/-- A confirmation that the follower has sent. -/
def Hw.ctlConfirm (h : Hw) (c : Ctl) : Hw :=
  let intime := decide (h.clk.tb + 500000 ≤ c.inst)
  match c.kind with
  | 0 =>
    let id := (forceOf c.a c.b c.c 0).ident
    if intime then { h with tsk := { h.tsk with feffs := h.tsk.feffs.map (fun x =>
      if x.eff = c.inst ∧ x.new.ident = id then { x with confirmed := true } else x) } } else h
  | 1 =>
    if intime then { h with pair := { h.pair with pwrites := h.pair.pwrites.map (fun p =>
      if p.eff = c.inst ∧ p.addr = c.a then { p with confirmed := true } else p) } } else h
  | 2 =>
    if intime && h.tsk.olc.point == c.inst then { h with tsk := { h.tsk with olc := { h.tsk.olc with confirmed := true } } } else h
  | 3 =>
    if h.pair.revertS = some c.inst ∧ h.clk.tb + 5000000 ≤ c.inst then
      ({ h with pair := { h.pair with revertConf := true } }).fset R.PAIR_STATUS_REVERT_PENDING 1
    else h
  | _ => h

/-- A proposal of the active module. -/
def Hw.ctlPropose (h : Hw) (o : Otp) (c : Ctl) : Hw :=
  match c.kind with
  | 0 => h.ctlForce c
  | 1 => h.ctlPwrite c
  | 2 => h.ctlSwap c
  | 3 => h.ctlRevert c
  | _ => h.ctlStage o c

/-- A command that the follower relays enters the active module's queue (R337). -/
def Hw.relayIn (h : Hw) (d : Desc) : Hw :=
  if h.fget R.PAIR_STATUS_ROLE = 1 then
    let q := h.hif.queue ++ [{ d with relayed := true }]
    ({ h with hif := { h.hif with queue := q } }).fset R.HIF_STATUS_QUEUED (min 64 q.length)
  else h.pairSend (.outcome { src := d.src, op := d.op, status := stPair, tag := d.tag })

/-- The active module's outcome completes the relayed command. -/
def Hw.outcomeIn (h : Hw) (c : Compl) : Hw :=
  match h.pair.relayed.find? (fun d => d.src == c.src && d.tag == c.tag) with
  | some d => ({ h with pair := { h.pair with relayed := h.pair.relayed.erase d } }).finish d c
  | none => h

/-- The content of a CONTROL frame. -/
def Hw.controlIn (h : Hw) (o : Otp) (m : SyncMsg) : Hw :=
  match m with
  | .control c =>
    if c.confirm then if h.fget R.PAIR_STATUS_ROLE = 1 then h.ctlConfirm c else h
    else if h.fget R.PAIR_STATUS_ROLE = 2 then h.ctlPropose o c
    else h
  | .relay d => h.relayIn d
  | .outcome c => h.outcomeIn c
  | .join j => if h.pair.step ≠ 0 then { h with pair := { h.pair with joinAt := j } } else h
  | _ => h

/-- CONTROL_RECEIVE (R318). -/
def execControlReceive (fseq : Nat) (m : SyncMsg) (s : State) : Host.Outcome State Fault Refusal :=
  onHwO s (fun o h => let r := h.pairRx fseq true; if r.2 then r.1.controlIn o m else r.1)

/-- CLASS_P_INSTANT (R321): the earliest confirmed class P value latches at E. -/
def Hw.classPInstant (h : Hw) : Hw :=
  match (h.pair.pwrites.filter (·.confirmed)).foldl (fun b x => match b with
    | none => some x
    | some y => if x.eff < y.eff then some x else some y) none with
  | none => h
  | some p =>
    let h1 := h.untilTb p.eff
    ({ h1 with pair := { h1.pair with pwrites := h1.pair.pwrites.filter (fun x => x != p) } }).latchPend (fun a => a == p.addr)

/-- CLASS_P_INSTANT. -/
def execClassPInstant (s : State) : Host.Outcome State Fault Refusal := onHw s Hw.classPInstant

/-- The instants that still lack the follower's confirmation: forces, class P values, the swap point. -/
def Hw.unconfirmed (h : Hw) : List Nat :=
  (h.tsk.feffs.filter (fun x => !x.confirmed)).map (·.eff) ++ (h.pair.pwrites.filter (fun p => !p.confirmed)).map (·.eff) ++
    (if h.tsk.olc.point ≠ 0 ∧ h.tsk.olc.confirmed = false ∧ h.fbit R.TSK_OLC_STATUS_PAIRED = true ∧ h.fget R.TSK_OLC_STATUS_STATE = 3
      then [h.tsk.olc.point] else [])

/-- Every change of a command that has an unconfirmed one at E goes, in both modules; the command completes with PAIR, FRC ends (R99). -/
def Hw.dropForces (h : Hw) (e : Nat) : Hw :=
  let xs := h.tsk.feffs.filter (fun x => !x.confirmed && x.eff == e)
  if xs.isEmpty then h
  else
    let ds := (xs.map (·.d)).eraseDups
    let gone := h.tsk.feffs.filter (fun x => x.eff == e && ds.contains x.d)
    let h1 := { h with tsk := { h.tsk with feffs := h.tsk.feffs.filter (fun x => !(x.eff == e && ds.contains x.d)) } }
    let h2 := gone.foldl (fun h x => h.pairSend (.control { kind := 0, a := x.new.word0, b := x.new.word1 false, c := e })) h1
    ((ds.foldl (fun h d => if d.op = 0 then h else h.complete d stPair) h2).actSet .frc false).forceStatus

/-- Unconfirmed class P values of E go: REJECT with the offset, 0x6010, the command completes with PAIR (R321). -/
def Hw.dropPwrites (h : Hw) (e : Nat) : Hw :=
  (h.pair.pwrites.filter (fun p => !p.confirmed && p.eff == e)).foldl (fun h p =>
    let h1 := { h with pend := tdel h.pend p.addr, pair := { h.pair with pwrites := h.pair.pwrites.filter (fun x => x != p) },
                       hif := { h.hif with latching := h.hif.latching.filter (fun l => l.addr != some p.addr) } }
    let b := (p.addr - 0x40000000) / 65536
    let h2 := (((h1.pending b).reject p.addr).raise 0x6010 b (p.addr % 65536)).pairSend (.control { kind := 1, a := p.addr })
    match p.d with
    | some d => h2.complete d stPair (event := 0x6010)
    | none => h2) h

/-- An unconfirmed swap point rolls the online change back with reason 11 (R122). -/
def Hw.dropSwap (h : Hw) (e : Nat) : Hw :=
  if h.tsk.olc.point = e ∧ h.tsk.olc.confirmed = false then h.olcRollback 11 0 else h

/-- PARTNER_CONFIRM_TIMEOUT (R99, R122, R321): 500 µs before the earliest instant without a confirmation. -/
def Hw.confirmTimeout (h : Hw) : Hw :=
  match h.unconfirmed with
  | [] => h
  | e :: es =>
    let m := es.foldl min e
    (((h.untilTb (m - 500000)).dropForces m).dropPwrites m).dropSwap m

/-- PARTNER_CONFIRM_TIMEOUT. -/
def execPartnerConfirmTimeout (s : State) : Host.Outcome State Fault Refusal := onHw s Hw.confirmTimeout

end Sys2Proof.Machine
end

