-- ==== Sys2Proof/Machine/Rings.lean ====
section
/-! DEFINITION. The PCIe link, the doorbell page and the rings (R324 to R333): GO, polling, fetching, completions, link losses. -/

namespace Sys2Proof.Machine

def Hw.ring (h : Hw) (r : Nat) : Ring := tget {} h.hif.rings r
def Hw.setRing (h : Hw) (r : Nat) (x : Ring) : Hw := { h with hif := { h.hif with rings := tset {} h.hif.rings r x } }

/-- Posted writes to host memory. -/
def Hw.hostOut (h : Hw) (o : HostOut) : Hw := { h with hif := { h.hif with out := h.hif.out ++ [o] } }

/-- The entries of a ring, and the descriptors and completions that it holds (R328). -/
def Ring.size (x : Ring) : Nat := 2 ^ x.sizeLog2
def Ring.waiting (x : Ring) : Nat := (x.sqProd + 2 ^ 32 - x.sqCons) % 2 ^ 32
def Ring.unread (x : Ring) : Nat := (x.cqProd + 2 ^ 32 - x.cqCons) % 2 ^ 32

/-- RING_ON follows the rings. -/
def Hw.ringsOn (h : Hw) : Hw := h.fset R.HIF_STATUS_RING_ON (mask8 (fun r => (h.ring r).on))

/-- A ring enters error (R331). -/
def Hw.ringError (h : Hw) (r reason : Nat) : Hw :=
  let h1 := h.setRing r { h.ring r with on := false, err := true }
  ((h1.fset R.HIF_STATUS_RING_ERR (setBitsOf (h1.fget R.HIF_STATUS_RING_ERR) r 1 1)).ringsOn).raise 0x7003 r reason

/-! ## GO -/

/-- Whether a ring table entry is valid (R327). -/
def RingIn.ok (x : RingIn) : Bool :=
  decide (4 ≤ bitsOf x.w10 0 4 ∧ bitsOf x.w10 0 4 ≤ 12) && x.sqBase % 64 == 0 && x.cqBase % 64 == 0 && bitsOf x.w10 12 20 == 0 && !x.resv

/-- The ring that an enabled table entry makes. -/
def RingIn.ring (x : RingIn) : Ring :=
  { sqBase := x.sqBase, cqBase := x.cqBase, sizeLog2 := bitsOf x.w10 0 4, on := true, prio := bitsOf x.w10 5 3, vector := bitsOf x.w10 8 4,
    sqProd := x.sqProd, sqCons := x.sqProd, cqProd := x.cqCons, cqCons := x.cqCons, start := x.cqCons }

/-- Ring `r` at GO: SQ_CONS and CQ_PROD of an enabled ring start at SQ_PROD and CQ_CONS (R327, R328). -/
def Hw.ringGo (h : Hw) (r : Nat) (x : RingIn) : Hw :=
  let h0 := h.fset R.HIF_STATUS_RING_ERR (setBitsOf (h.fget R.HIF_STATUS_RING_ERR) r 1 0)
  if !x.w10.testBit 4 then h0.setRing r {}
  else
    let h1 := ((h0.setRing r x.ring).hostOut (.sqCons r x.sqProd)).hostOut (.cqProd r x.cqCons)
    if x.ok then h1 else h1.ringError r 1

/-- GO changes from 0 to 1: the ring table is read once (R327). -/
def Hw.goSet (h : Hw) : Hw :=
  let h1 := (List.range 8).foldl (fun h r => h.ringGo r (h.hif.tab.getD r {})) (h.fset R.HIF_CTRL_GO 1)
  ({ h1 with hif := { h1.hif with pollAt := h1.clk.up } }).ringsOn

/-- GO = 0: all fetching stops; commands already fetched run and complete as the rings are configured (R332). -/
def Hw.goClear (h : Hw) : Hw :=
  let h1 := h.fset R.HIF_CTRL_GO 0
  ((List.range 8).foldl (fun h r => h.setRing r { h.ring r with on := false }) h1).ringsOn

/-- A write of HIF_CTRL. -/
def Hw.ctrlWrite (h : Hw) (v mask : Word) : Hw :=
  let x := (mergeMask (h.reg R.HIF_CTRL) v mask).toNat
  let h1 := h.fset R.HIF_CTRL_POLL_US (bitsOf x 8 8)
  if !x.testBit 0 then h1.goClear else if h.fbit R.HIF_CTRL_GO then h1 else h1.goSet

/-- GO (R327): HIF_CTRL is written with GO = 1; `tab` is the ring table and the indices that the doorbell page holds. -/
def execGo (pollUs : BitVec 8) (tab : List RingIn) (s : State) : Host.Outcome State Fault Refusal :=
  onHw s (fun h => ({ h with hif := { h.hif with tab := tab } }).ctrlWrite (w32 (pollUs.toNat * 256 + 1)) 0xFFFFFFFF#32)

/-- GO_CLEAR (R332): HIF_CTRL is written with GO = 0. -/
def execGoClear (pollUs : BitVec 8) (s : State) : Host.Outcome State Fault Refusal :=
  onHw s (fun h => h.ctrlWrite (w32 (pollUs.toNat * 256)) 0xFFFFFFFF#32)

/-! ## Polling and fetching -/

/-- Whether rings are polled and descriptors fetched: GO, READY, the link (R325, R329). -/
def Hw.fetches (h : Hw) : Bool := h.fbit R.HIF_CTRL_GO && h.fbit R.HIF_STATUS_READY && h.fbit R.HIF_LINK_UP && h.serves

/-- Ring `r` takes the indices just read; injection 0x702 makes its SQ_PROD read out of range. -/
def Hw.ringPoll (h : Hw) (r : Nat) : Hw :=
  let x := h.ring r
  if !x.on then h
  else
    let i := h.hif.tab.getD r {}
    let sp := if h.hif.injPoll = some r then (x.sqCons + x.size + 1) % 2 ^ 32 else i.sqProd
    let y := { x with sqProd := sp, cqCons := i.cqCons }
    let h1 := if h.hif.injPoll = some r then { h with hif := { h.hif with injPoll := none } } else h
    if y.size < y.waiting then h1.asInj (h.hif.injPoll == some r) (fun h => h.ringError r 2) else h1.setRing r y

/-- A poll of the doorbell page (R329): one read of SQ_PROD and CQ_CONS of every ring, POLL_US after the last. -/
def Hw.poll (h : Hw) (is : List (Nat × Nat)) : Hw :=
  if h.fetches then
    let h1 := h.untilUp (h.hif.pollAt + max 1 (h.fget R.HIF_CTRL_POLL_US) * 1000)
    let tab := (List.range 8).map (fun r =>
      let x := h.hif.tab.getD r {}
      let i := is.getD r (x.sqProd, x.cqCons)
      { x with sqProd := i.1 % 2 ^ 32, cqCons := i.2 % 2 ^ 32 })
    (List.range 8).foldl Hw.ringPoll { h1 with hif := { h1.hif with tab := tab, pollAt := h1.clk.up } }
  else h

/-- DOORBELL_POLL. -/
def execDoorbellPoll (is : List (Nat × Nat)) (s : State) : Host.Outcome State Fault Refusal := onHw s (fun h => h.poll is)

/-- The completions of ring `r` that are not written yet. -/
def Hw.heldCompl (h : Hw) (r : Nat) : Nat :=
  (h.hif.done.filter (fun c => match c.src with
    | .ring r' _ => r' == r
    | _ => false)).length

/-- Those of them that the ring holds because it is full (R330). -/
def Hw.overCompl (h : Hw) (r : Nat) : Nat :=
  h.heldCompl r - (if (h.ring r).holdUntil ≤ h.clk.up then (h.ring r).size - (h.ring r).unread else 0)

/-- Whether a descriptor's opcode and its variant are ones of Tables 12-8 and 12-9. -/
def Desc.unknown (d : Desc) : Option Nat :=
  if !opcodes.contains d.op then some stNoSuch
  else if (d.op = 0x0101 ∧ (d.p0 = 0 ∨ 10 < d.p0)) ∨ ((d.op = 0x0201 ∨ d.op = 0x0605) ∧ 1 < d.p0) then some stValue else none

/-- A descriptor enters the SUP command queue (R340); one that names no command completes (R334, R335). -/
def Hw.enqueue (h : Hw) (d : Desc) : Hw :=
  match d.unknown with
  | some st => h.complete d st
  | none =>
    let q := h.hif.queue ++ [d]
    ({ h with hif := { h.hif with queue := q } }).fset R.HIF_STATUS_QUEUED (min 64 q.length)

/-- One fetched descriptor of ring `r` is taken unless the queue is full. -/
def Hw.take1 (h : Hw) (x : Nat × Desc) : Hw :=
  if h.hif.queue.length < 64 then
    let r := h.ring x.1
    let d := { x.2 with src := Src.ring x.1 (r.sqCons % r.size) }
    (h.setRing x.1 { r with sqCons := (r.sqCons + 1) % 2 ^ 32 }).enqueue d
  else h

/-- What a fetch brings of ring `r`: at most 8 descriptors, none while 16 completions are held. -/
def Hw.fetched (h : Hw) (fs : List (Option (List Desc))) (r : Nat) : List Desc :=
  let x := h.ring r
  if !x.on || decide (16 ≤ h.overCompl r) then []
  else match fs.getD r (some []) with
    | some ds => ds.take (min 8 x.waiting)
    | none => []

/-- The order in which descriptors are taken (R329): by PRIO, one in turn from each ring of equal PRIO. -/
def Hw.fetchOrder (h : Hw) (fs : List (Option (List Desc))) : List (Nat × Desc) :=
  (List.range 8).flatMap (fun p => (List.range 8).flatMap (fun k => (List.range 8).flatMap (fun r =>
    if (h.ring r).prio = p then (((h.fetched fs r).drop k).take 1).map (fun d => (r, d)) else [])))

/-- Descriptor reads end (R329): `fs` gives, by ring, the descriptors from SQ_CONS on, or none where the read completed with an error
(R331). SQ_CONS is written once they are queued. -/
def Hw.fetchDone (h : Hw) (fs : List (Option (List Desc))) : Hw :=
  if h.fetches then
    let h1 := (List.range 8).foldl (fun h r =>
      if (h.ring r).on && (h.ring r).waiting != 0 && (fs.getD r (some [])).isNone then h.ringError r 3 else h) h
    let h2 := (h1.fetchOrder fs).foldl Hw.take1 h1
    (List.range 8).foldl (fun h r => if (h2.ring r).sqCons = (h1.ring r).sqCons then h else h.hostOut (.sqCons r (h2.ring r).sqCons)) h2
  else h

/-- DESCRIPTOR_FETCH_DONE. -/
def execDescriptorFetchDone (fs : List (Option (List Desc))) (s : State) : Host.Outcome State Fault Refusal := onHw s (fun h => h.fetchDone fs)

/-! ## Completions -/

/-- The eight words of a completion (Table 12-6). -/
def Compl.ringWords (c : Compl) (phase : Bool) : List Nat :=
  let slot := match c.src with
    | .ring _ s => s
    | _ => 0
  [c.op % 2 ^ 16 + c.status % 2 ^ 8 * 2 ^ 16 + b2n phase * 2 ^ 24, c.tag, slot, c.out.length, c.res0, c.res1, c.res2,
    c.detail % 2 ^ 16 + c.event % 2 ^ 16 * 2 ^ 16]

/-- Word `i` of the MSI-X table; every vector is masked after reset, as PCI Express defines. -/
def msixDefault (i : Nat) : Word := if i % 4 = 3 then 1#32 else 0#32
def Hw.msix (h : Hw) (i : Nat) : Word := tget (msixDefault i) h.hif.msix i

/-- The MSI-X message of vector `v`: sent, or pending while it is masked (R330). -/
def Hw.msi (h : Hw) (v : Nat) : Hw :=
  if (h.msix (4 * v + 3)).getLsbD 0 then { h with hif := { h.hif with msixPend := tset false h.hif.msixPend v true } }
  else h.hostOut (.msi ((h.msix (4 * v)).toNat + (h.msix (4 * v + 1)).toNat * 2 ^ 32) (h.msix (4 * v + 2)).toNat)

/-- A write of word `i` of the MSI-X table: a vector that is unmasked sends the message that is pending. -/
def Hw.msixWrite (h : Hw) (i : Nat) (v : Word) : Hw :=
  let h1 := { h with hif := { h.hif with msix := tset (msixDefault i) h.hif.msix i v } }
  if i % 4 = 3 && !v.getLsbD 0 && tget false h.hif.msixPend (i / 4) then
    ({ h1 with hif := { h1.hif with msixPend := tset false h1.hif.msixPend (i / 4) false } }).msi (i / 4)
  else h1

/-- RESET and PROV_COMMIT: the reset follows 1 ms after the completion has been written (R336). -/
def Hw.resetAfter (h : Hw) (c : Compl) : Hw :=
  if (c.op = 0x0101 ∨ c.op = 0x0606) ∧ h.sup.resetDue.isSome = true then { h with sup := { h.sup with resetDue := some (h.clk.up + 1000000) } } else h

/-- Writes a completion into its ring: the buffer, the entry, CQ_PROD, the message (R330). -/
def Hw.writeCompl (h : Hw) (c : Compl) (r : Nat) : Hw :=
  let x := h.ring r
  let phase := (x.cqProd / x.size + x.start / x.size) % 2 == 0
  let h0 := { h with hif := { h.hif with done := h.hif.done.erase c } }
  let h1 := if c.out.isEmpty then h0 else h0.hostOut (.buffer c.addr c.out)
  let p := (x.cqProd + 1) % 2 ^ 32
  let h2 := ((h1.hostOut (.compl r (x.cqProd % x.size) (c.ringWords phase))).hostOut (.cqProd r p)).setRing r { x with cqProd := p }
  (if c.noirq then h2 else h2.msi x.vector).resetAfter c

/-- The ring of a completion. -/
def Compl.ringNo (c : Compl) : Nat :=
  match c.src with
  | .ring r _ => r
  | _ => 0

/-- Whether ring `r` takes a completion now: it is configured, not held by injection 0x703, below its size. -/
def Hw.ringRoom (h : Hw) (r : Nat) : Bool :=
  let x := h.ring r
  x.sizeLog2 != 0 && x.holdUntil ≤ h.clk.up && x.unread < x.size

/-- A completion that its ring cannot take: held, 0x7005 once per episode (R330). -/
def Hw.complFull (h : Hw) (r : Nat) : Hw :=
  if (h.ring r).fullSeen || (h.ring r).sizeLog2 = 0 then h else
    (h.setRing r { h.ring r with fullSeen := true }).asInj (decide (h.clk.up < (h.ring r).holdUntil)) (fun h => h.raise 0x7005 r)

/-- Injection 0x703 holds the next completion of its ring for 100 µs. -/
def Hw.complHold (h : Hw) : Hw :=
  match h.hif.injHold with
  | some r =>
    if h.heldCompl r = 0 then h
    else ({ h with hif := { h.hif with injHold := none } }).setRing r { h.ring r with holdUntil := h.clk.up + 100000 }
  | none => h

/-- The next completion whose ring takes it is written. -/
def Hw.complNext (h0 : Hw) : Hw :=
  let h := h0.complHold
  let h1 := (h.hif.done.filter (fun c => !h.ringRoom c.ringNo)).foldl (fun h c => h.complFull c.ringNo) h
  match h.hif.done.find? (fun c => h.ringRoom c.ringNo) with
  | some c => h1.writeCompl c c.ringNo
  | none => h1

/-- COMPLETION_WRITE. -/
def execCompletionWrite (s : State) : Host.Outcome State Fault Refusal := onHw s Hw.complNext

/-- The held completions of ring `r` are written while there is room. -/
def Hw.complDrain (h : Hw) (r : Nat) : Hw :=
  (h.hif.done.filter (fun c => c.ringNo == r)).foldl (fun h c => if h.ringRoom r then h.writeCompl c r else h) h

/-- A full completion ring gains room (R330), or the end of injection 0x703 comes: the held completions follow. -/
def Hw.complRoom (h0 : Hw) (r : Nat) : Hw :=
  let h := h0.untilUp (h0.ring r).holdUntil
  if h.ringRoom r then (h.setRing r { h.ring r with fullSeen := false }).complDrain r else h

/-- COMPLETION_ROOM. -/
def execCompletionRoom (r : Fin 8) (s : State) : Host.Outcome State Fault Refusal := onHw s (fun h => h.complRoom r.val)

/-! ## The link -/

/-- Ring commands that have not completed. -/
def Hw.outstanding (h : Hw) : List Desc :=
  ((h.hif.queue ++ h.started).filter (fun d => !d.src.isEng && !d.relayed)).eraseDups

/-- HIF_STATUS.IDLE: no command of a ring is outstanding (R332). -/
def Hw.ringIdle (h : Hw) : Bool := h.outstanding.isEmpty && h.hif.done.isEmpty

/-- The link is lost or the function reset (R333): GO, the doorbell address and POLL_US at their reset values, the completions of
fetched commands discarded, 0x7002. -/
def Hw.pcieReset (h : Hw) (cause : Nat) : Hw :=
  let o := h.outstanding
  let new := o.filter (fun d => !h.hif.lost.any (fun x => x.src == d.src && x.tag == d.tag))
  let n := new.length + h.hif.done.length
  let h1 := { h with hif := { h.hif with done := [], lost := h.hif.lost ++ new, rings := [], msix := [], msixPend := [] } }
  let h2 := ((h1.setReg R.HIF_CTRL (resetWord R.HIF_CTRL)).setReg R.HIF_DB_LO 0#32).setReg R.HIF_DB_HI 0#32
  (h2.ringsOn).raise 0x7002 cause n

/-- The end of the link: 1 link down, 2 hot reset or PERST_N, 3 function-level reset, 4 the PCIE clock (Table 1-11). -/
def Hw.pcieLoss (h : Hw) (cause : Nat) : Hw :=
  if cause = 3 then (h.finc R.HIF_LINK_FLRS).pcieReset 3
  else if cause = 2 then h.pcieReset 2
  else if cause = 1 && !h.fbit R.HIF_LINK_UP then h
  else
    let h1 := if h.fbit R.HIF_LINK_UP then h.finc R.HIF_LINK_DOWNS else h
    (((h1.fset R.HIF_LINK_UP 0).fset R.HIF_LINK_SPEED 0).fset R.HIF_LINK_WIDTH 0).pcieReset cause

/-- PCIE_LINK_LOSS: cause 1 + `c` of Table 12-12's 0x7002. -/
def execPcieLinkLoss (c : Fin 3) (s : State) : Host.Outcome State Fault Refusal := onHw s (fun h => h.pcieLoss (c.val + 1))

/-- PCIE_LINK_UP (R324, R325): the speed and the width. -/
def execPcieLinkUp (gen2 two : Bool) (s : State) : Host.Outcome State Fault Refusal :=
  onHw s (fun h =>
    if h.powered then
      (((h.fset R.HIF_LINK_UP 1).fset R.HIF_LINK_SPEED (1 + b2n gen2)).fset R.HIF_LINK_WIDTH (1 + b2n two)).raise 0x7001 (1 + b2n gen2) (1 + b2n two)
    else h)

end Sys2Proof.Machine
end

