-- ==== Sys2Proof/Machine/Clock.lean ====
section
/-! DEFINITION. The droop detector and clock stretcher (R27 to R32), the clock monitor (R33 to R37). -/

namespace Sys2Proof.Machine

/-! ## Stretches -/

/-- The execution pairs that have a task running. -/
def Hw.runningPairs (h : Hw) : Nat :=
  (List.range 4).foldl (fun m n => m + b2n ((List.range 32).any (fun t => h.tstate t == 3 && h.ep t == n)) * 2 ^ n) 0

/-- The core rail falls below the threshold: within 2 ns the CORE clock is halved (R27). A clock that is stretched stays so. -/
def Hw.droop (h : Hw) : Hw :=
  if h.powered && !h.fbit R.SUP_DROOP_STATUS_STRETCH then
    let h1 := (h.pass 2).fset R.SUP_DROOP_STATUS_STRETCH 1
    { h1 with sup := { h1.sup with stretchAt := h1.clk.up, stretchMask := h1.runningPairs, stretchLim := false } }
  else h

/-- DROOP_DETECT. -/
def execDroopDetect (s : State) : Host.Outcome State Fault Refusal := onHw s Hw.droop

/-- LIMIT_MS, a 0 acting as 1. -/
def Hw.limitMs (h : Hw) : Nat := max 1 (h.fget R.SUP_DROOP_CFG_LIMIT_MS)

/-- The stretch has lasted LIMIT_MS (R32): LIMIT, 0x0022 once, SAFE where ACTION is 1. Where the field holds 0, the event's LIMIT_MS is the
1 that it acts as (log 98). -/
def Hw.droopOver (h : Hw) : Hw :=
  if h.fbit R.SUP_DROOP_STATUS_STRETCH && !h.sup.stretchLim then
    let h1 := (h.untilUp (h.sup.stretchAt + h.limitMs * 1000000)).fset R.SUP_DROOP_STATUS_LIMIT 1
    let a := h1.fget R.SUP_DROOP_CFG_ACTION
    let h2 := ({ h1 with sup := { h1.sup with stretchLim := true } }).raise 0x0022 h1.limitMs a
    if a = 1 then h2.safe 0x33 0 else h2
  else h

/-- Whether injection 0x001 or 0x002 holds the stretch. -/
def Hw.droopInj (h : Hw) : Bool := h.sup.injDroop || h.sup.railLow != 0

/-- The same, with INJECTED where an injection holds the stretch (R446). -/
def Hw.droopLimit (h : Hw) : Hw := h.asInj h.droopInj Hw.droopOver

/-- DROOP_LIMIT_EXPIRY. -/
def execDroopLimitExpiry (s : State) : Host.Outcome State Fault Refusal := onHw s Hw.droopLimit

/-- When the stretch ends: HOLD_US after the rail's last rise above the threshold plus 20 mV, `ns` from now; injection 0x001 holds the
rail low for its 5 µs, 0x002 the stretch for LIMIT_MS + 1 ms. -/
def Hw.stretchEnd (h : Hw) (ns : Nat) : Nat :=
  let t := max (h.clk.up + ns) h.sup.railLow + max 1 (h.fget R.SUP_DROOP_CFG_HOLD_US) * 1000
  if h.sup.injDroop then max t (h.sup.stretchAt + (h.limitMs + 1) * 1000000) else t

/-- The hold time ends: 800 MHz returns, LAST_US, COUNT, 0x0021 with the duration rounded to the nearest µs (R27, R32). -/
def Hw.droopEnd (h : Hw) (ns : Nat) : Hw :=
  if h.fbit R.SUP_DROOP_STATUS_STRETCH then
    let e := h.stretchEnd ns
    let h1 := if h.sup.stretchAt + h.limitMs * 1000000 < e then h.droopLimit else h
    let h2 := (h1.untilUp e).fset R.SUP_DROOP_STATUS_STRETCH 0
    let us := (h2.clk.up - h2.sup.stretchAt + 500) / 1000
    let h3 := ((h2.fset R.SUP_DROOP_STATUS_LAST_US (min 4095 us)).finc R.SUP_DROOP_STATUS_COUNT).asInj h.droopInj
      (fun h => h.raise 0x0021 us h2.sup.stretchMask)
    { h3 with sup := { h3.sup with injDroop := false, railLow := 0 } }
  else h

/-- DROOP_HOLD_EXPIRY: `ns` until the rail's last rise above the threshold plus 20 mV. -/
def execDroopHoldExpiry (ns : Nat) (s : State) : Host.Outcome State Fault Refusal := onHw s (fun h => h.droopEnd ns)

/-! ## The clock monitor -/

/-- The accepted counts of a 100 µs window by bit index of SUP_CLKMON_STATUS (Table 1-11). -/
def clkBand (dom : Nat) : Nat × Nat :=
  match dom with
  | 0 => (34000, 92000)
  | 1 | 3 => (10600, 14400)
  | 2 => (21200, 28800)
  | 10 => (8500, 11500)
  | 11 => (3, 3)
  | _ => (12700, 17300)

/-- Whether the monitor checks a domain (R34); during a housekeeping wake only those that run then (R35). -/
def Hw.monitors (h : Hw) (dom : Nat) : Bool :=
  h.powered && (decide (h.mode ≠ .parked) || decide (dom < 2 ∨ 10 ≤ dom)) &&
    (if dom = 2 then h.fbit R.HIF_LINK_UP
     else if dom = 3 then h.pairOn
     else if 4 ≤ dom && dom < 10 then h.groupUsed (dom - 4) else true)

/-- A CORE fault (Table 1-11): FAULT, LIVE_OUT low, every barrier to groundsheet, the reset-cause record, and a reset 1 ms later. -/
def Hw.coreFault (h : Hw) : Hw :=
  let h1 := (((h.fset R.SUP_CLKMON_STATUS_CORE_F 1).fset R.CAL_BKREC0_SAFE_COPY 1).fset R.CAL_BKREC0_RESET_CAUSE 4).fset R.SUP_MODE_STATUS_LIVE_OUT 0
  let h2 := { h1 with sup := { h1.sup with coreResetDue := some (h1.clk.up + 1000000), fault := true }, fld := { h1.fld with driven := [] } }
  h2.fset R.PAIR_STATUS_ROLE h2.role

/-- The field of a domain. -/
def clkBit (dom : Nat) : Fld := ⟨R.SUP_CLKMON_STATUS, dom, 1⟩

/-- A domain is declared faulty: its bit and the reaction of Table 1-11. -/
def Hw.clkFault (h : Hw) (dom count : Nat) : Hw :=
  let h1 := h.fset (clkBit dom) 1
  if dom = 0 then (if h.sup.coreResetDue.isSome then h1 else h1.coreFault)
  else if dom = 1 ∨ dom = 10 then h1.safe 0x32 dom
  else
    let h2 := h1.raise 0x0023 dom count
    if dom = 2 then h2.pcieLoss 4
    else if dom = 3 then h2.guyFail false
    else if dom = 11 then h2.fset R.CAL_STATUS_VALID 0
    else if h2.fbit (R.FLD_GRPg_STATUS_CARRIER (dom - 4)) || h2.fbit (R.FLD_GRPg_STATUS_BARRIER_OK (dom - 4)) then h2.barrierDown (dom - 4) 4 else h2

/-- Whether the `run`-th consecutive window out of band declares a fault (R33): the second does; a clock that stays out of band is declared
again where its reaction no longer stands (log 97). -/
def Hw.clkDue (h : Hw) (dom run : Nat) : Bool :=
  run == 2 || (decide (2 < run) && (dom == 1 || dom == 10 || !h.fbit (clkBit dom) ||
    (decide (4 ≤ dom ∧ dom < 10) && h.fbit (R.FLD_GRPg_STATUS_BARRIER_OK (dom - 4)))))

/-- Whether a parked module's wake timer runs with VIN valid: MON's windows are then those of the check that precedes a wake (R35). -/
def Hw.waking (h : Hw) : Bool := h.mode == .parked && !h.nvs.vinLost && !h.fbit R.SUP_MODE_STATUS_HOUSEKEEP && h.fbit R.CAL_WAKE_EN

/-- A window of domain `dom` ends with a count of edges (R33): two consecutive ones out of band declare it. Injections 0x003 and 0x004
make a count lie out of band; which count it then shows is open (log 3). Before a wake it is one of the two windows of R35's check. -/
def Hw.clkWindow (h : Hw) (dom n : Nat) : Hw :=
  if h.waking && decide (dom < 2) then
    { h with sup := { h.sup with oob := tset 0 h.sup.oob dom (if n < (clkBand dom).1 ∨ (clkBand dom).2 < n then min 3 (tget 0 h.sup.oob dom + 1) else 0) } }
  else if !h.monitors dom then { h with sup := { h.sup with oob := tdel h.sup.oob dom } }
  else
    let inj := h.sup.injClk.1 == dom && h.sup.injClk.2 != 0
    let h1 := if inj then ({ h with sup := { h.sup with injClk := (dom, h.sup.injClk.2 - 1) } }).bump else h
    let count := if inj then (Config.freeValue h.free).toNat % 2 ^ 32 else n
    let out := inj || decide (n < (clkBand dom).1 ∨ (clkBand dom).2 < n)
    let run := if out then min 3 (tget 0 h.sup.oob dom + 1) else 0
    let h2 := { h1 with sup := { h1.sup with oob := tset 0 h1.sup.oob dom run } }
    if h2.clkDue dom run then h2.asInj inj (fun h => h.clkFault dom count) else h2

/-- CLKMON_WINDOW. -/
def execClkmonWindow (dom : Fin 12) (count : Nat) (s : State) : Host.Outcome State Fault Refusal := onHw s (fun h => h.clkWindow dom.val count)

/-- CLOCK_STOP_DETECT (R33): CORE or NET shows no edge for 400 ns. -/
def execClockStopDetect (core : Bool) (s : State) : Host.Outcome State Fault Refusal :=
  onHw s (fun h => let d := if core then 0 else 1
                   if h.monitors d then (h.pass 400).clkFault d 0 else h)

/-- The check of MON (R36): `dev` in 0.1 %, positive where MON runs fast; injection 0x006 makes it 12 %. A deviation that stays is
found again once SAFE has been left or MON_SUSPECT cleared (log 97). -/
def Hw.monCheck (h : Hw) (dev : Int) : Hw :=
  if !h.powered then h
  else
    let h1 := h.untilUp (h.sup.monAt + 1000000000)
    let d : Int := if h.sup.injMon = 0 then dev else 120
    let bad := decide (100 < d ∨ d < -100)
    let h2 := { h1 with sup := { h1.sup with monAt := h1.clk.up, injMon := h1.sup.injMon - 1, monBad := if bad then min 2 (h1.sup.monBad + 1) else 0 } }
    if bad && decide (1 ≤ h.sup.monBad) && (h.sup.monBad == 1 || decide (h.mode ≠ .safe) || !h.fbit R.SUP_CLKMON_STATUS_MON_SUSPECT) then
      h2.asInj (h.sup.injMon != 0) (fun h => ((h.fset R.SUP_CLKMON_STATUS_MON_SUSPECT 1).raise 0x0025 (wInt d).toNat).safe 0x34 0)
    else h2

/-- MON_CHECK. -/
def execMonCheck (dev : Int) (s : State) : Host.Outcome State Fault Refusal := onHw s (fun h => h.monCheck dev)

end Sys2Proof.Machine
end

