-- ==== Sys2Proof/Machine/RegMap.lean ====
section
/-! DEFINITION. Register reads and writes with their side effects, and the supervisor view (Table 1-5, R20, R21). -/

namespace Sys2Proof.Machine

/-! ## Reads -/

/-- NET_SES_STAT of the session that NET_SES_INDEX names. -/
def Hw.sesStat (h : Hw) : Word :=
  let s := h.sess (h.fget R.NET_SES_INDEX_INDEX)
  w32 (b2n s.valid + b2n s.never * 2 + b2n s.publishing * 4 + b2n (s.kind == 1 && h.mode.publishes && !s.publishing) * 8 + s.restartRun % 16 * 16)

/-- NET_SES_CNT of that session. -/
def Hw.sesCnt (h : Hw) : Word :=
  let s := h.sess (h.fget R.NET_SES_INDEX_INDEX)
  w32 (min 255 s.dup + min 255 s.old * 2 ^ 8 + min 255 s.timeouts * 2 ^ 16 + min 255 s.restarts * 2 ^ 24)

/-- EVR_RL_STAT of the entry that EVR_RL_INDEX names. -/
def Hw.rlStat (h : Hw) : Word :=
  let r := h.rate (h.fget R.EVR_RL_INDEX_INDEX)
  w32 (r.tokens % 256 + min 65535 r.supp * 65536)

/-- EVR_FREEZE: while a freeze runs, its ms so far. -/
def Hw.freezeWord (h : Hw) : Word :=
  match h.evr.frozen with
  | some (_, since) => w32 (setBitsOf (h.reg R.EVR_FREEZE).toNat 0 14 (min 16383 ((h.clk.up - since) / 1000000)))
  | none => h.reg R.EVR_FREEZE

/-- Word `w` of a timer entry as TSK_TMR_DATAw shows it. -/
def Hw.tmrData (h : Hw) (w : Nat) : Word :=
  let e := h.timer (h.fget R.TSK_TMR_INDEX_INDEX)
  w32 (match w with
    | 0 => e.w0
    | 1 => e.w1
    | 2 => e.w2
    | _ => e.w3)

/-- A field of a register as a read shows it, over what the register holds. -/
def Hw.overlay (h : Hw) (f : Fld) (v : Nat) : Word := w32 (setBitsOf (h.shown f.a).toNat f.lo f.w v)

/-- The value of a read: what the register shows, or what the unit behind it holds now. -/
def Hw.readVal (h : Hw) (a : Nat) : Word :=
  if a = R.NET_SES_STAT then h.sesStat
  else if a = R.NET_SES_SEQ then w32 (h.sess (h.fget R.NET_SES_INDEX_INDEX)).seq
  else if a = R.NET_SES_CNT then h.sesCnt
  else if inArr (R.TSK_FORCE_DATAw 0) 4 4 a then h.forceData ((a - R.TSK_FORCE_DATAw 0) / 4)
  else if inArr (R.TSK_TMR_DATAw 0) 4 4 a then h.tmrData ((a - R.TSK_TMR_DATAw 0) / 4)
  else if a = R.EVR_OLDEST then w32 h.oldest
  else if a = R.EVR_RL_STAT then h.rlStat
  else if a = R.EVR_FREEZE then h.freezeWord
  else if a = R.EVR_STATUS then w32 (setBitsOf (h.overlay R.EVR_STATUS_QUEUED h.evr.inq.length).toNat 4 9 (min 256 h.evr.heldq.length))
  else if a = R.PAIR_STATUS then h.overlay R.PAIR_STATUS_HOLD_LEFT_S h.holdLeft
  else if a = R.HIF_STATUS then h.overlay R.HIF_STATUS_IDLE (b2n h.ringIdle)
  else if a = R.WDG_CTRL then h.overlay R.WDG_CTRL_HARD_LEFT_MS (if h.fbit R.WDG_CTRL_TRAPPED then min 63 h.hardLeft else 0)
  else if a = R.NVS_SCRUB_STATUS then h.overlay R.NVS_SCRUB_STATUS_ACTIVE (b2n h.nvs.scrubCmd.isSome)
  else h.shown a

/-- A read of a register with the side effects its table gives: NET_TB_LO, TSK_EPOCH_LO and TSK_OLC_POINT_LO latch their upper halves,
CAL_DATE captures the calendar. -/
def Hw.regRead (h : Hw) (a : Nat) : Hw × Word :=
  if a = R.NET_TB_LO then h.tbLoRead
  else
    let h1 := if a = R.CAL_DATE then h.capture else if a = R.TSK_EPOCH_LO then h.epochRead else if a = R.TSK_OLC_POINT_LO then h.pointRead else h
    (h1, h1.readVal a)

/-! ## Writes -/

/-- A write of the word `v` under `mask` by `src` (R347's source code) with the effects of the register's own row; the others take effect
by access code and field class (R11). -/
def Hw.regWriteM (h : Hw) (src a : Nat) (v mask : Word) : Hw :=
  let x := mergeMask (h.shown a) v mask
  if a = R.WDG_KEY then h.wdgKey src (v &&& mask)
  else if a = R.WDG_SUP_CHECK then h.supCheck (v &&& mask)
  else if a = R.WDG_CTRL then (if (v &&& mask).getLsbD 1 then h.wdgLock else h)
  else if a = R.NET_SES_DATAw 7 then h.sesCommit x
  else if a = R.NET_DIR_DATAw 3 then h.dirCommit x
  else if a = R.EVR_RL_DATA1 then h.rlCommit x
  else if a = R.EVR_LOOKUP then h.lookup (bitsOf x.toNat 0 16)
  else if a = R.TSK_TMR_DATAw 3 then h.tmrCommit x
  else if a = R.FLD_LATCH_CLR_LO then h.latchClr false (v &&& mask)
  else if a = R.FLD_LATCH_CLR_HI then h.latchClr true (v &&& mask)
  else if a = R.FLD_AN_TEST then h.anTestWrite false x
  else if a = R.FLD_AN_TEST_NA then h.anTestWrite true x
  else if a = R.HIF_CTRL then h.ctrlWrite v mask
  else h.writeReg a v mask

/-- A whole word. -/
def Hw.regWrite (h : Hw) (src a : Nat) (v : Word) : Hw := h.regWriteM src a v 0xFFFFFFFF#32

/-- REGISTER_WRITE (R11): the word `v` to the register at `a` of the supervisor view, from the SUP firmware; or from the host to offset
`a` of BAR0 (Table 12-2), where the first 256 bytes are the HIF block's and the MSI-X table follows. -/
def execRegisterWrite (bar0 : Bool) (a v : Word) (s : State) : Host.Outcome State Fault Refusal :=
  let o := a.toNat
  onHw s (fun h =>
    if !h.powered || o % 4 != 0 then h
    else if !bar0 then (if 0x40000000 ≤ o && o < 0x400C0000 then h.regWrite 0 o v else h)
    else if !h.fbit R.HIF_LINK_UP then h
    else if o < 0x100 then h.regWrite 0 (0x40070000 + o) v
    else if 0x8000 ≤ o && o < 0x8100 then h.msixWrite ((o - 0x8000) / 4) v else h)

/-! ## The supervisor view -/

/-- A refused supervisor access (R20). -/
def Hw.supRefused (h : Hw) (a : Nat) (wr : Bool) : Hw := h.raise 0x0026 a (b2n wr)

/-- Whether `n` bytes at `a` lie in a memory region of the supervisor view that grants reading. -/
def supReadable (a n : Nat) : Bool :=
  [(0, 0x40000), (0x01000000, 0x20000), (0x50000000, 0x800000), (0x60000000, 0x10000000), (0x80000000, 0x1000000),
   (0x90000000, 0x800000), (0xA0000000, 0x10000), (0xA1000000, 0x40000)].any (fun r => within r a n)

/-- Whether a supervisor write of `n` bytes at `a` reaches memory (Table 1-5, R21): code SRAM in a mode that runs tasks only
inside the flysheet area, the bytes outside the running program's code ranges (R103), or in the resynchronising follower's exception, once no task has a cycle. -/
def Hw.supWritable (h : Hw) (a n : Nat) : Bool :=
  if within (0x80000000, 0x1000000) a n then
    !h.mode.runsTasks ||
      h.prog.code.all (fun r => decide (a + n ≤ codeBase + r.start ∨ codeBase + r.start + r.len ≤ a)) ||
      (h.mode == .follow && (h.fget R.PAIR_STATUS_SYNC == 1 || h.fget R.PAIR_STATUS_SYNC == 2) &&
        (List.range 32).all (fun t => h.tstate t == 0 || h.tstate t == 7))
  else [(0x01000000, 0x20000), (0x90000000, 0x800000), (0xA0000000, 0x10000), (0xA1000000, 0x40000)].any (fun r => within r a n)

/-- What a supervisor-view load of `n` bytes at `a` that meets an uncorrectable error makes (R169, R352): the machine check's detail (Table
6-7), none where it meets none. Table 6-7 names no detail for MRAM: it is free (log 122). -/
def Hw.supPoison (h : Hw) (a n : Nat) : Option Nat :=
  if h.exe.poison.any (fun g => decide (a / 8 ≤ g ∧ g ≤ (a + n - 1) / 8)) then
    some (if within (codeBase, 0x1000000) a n then 1 else if within (dataBase, 0x800000) a n then 2 else if within (retBase, 0x40000) a n then 3
      else (Config.freeValue h.free).toNat % 256)
  else if within (0x50000000, 0x800000) a n && (h.uncorrIn a n).isSome then some ((Config.freeValue h.free).toNat % 256)
  else none

/-- A load by the SUP core of `n` bytes at `a`. -/
def supLoad (s : State) (a n : Nat) : State × Nat :=
  if 0x40000000 ≤ a && a < 0x400C0000 then
    if n = 4 then let r := s.hw.regRead a; ({ s with hw := r.1 }, r.2.toNat)
    else ({ s with hw := s.hw.supRefused a false }, 0)
  else if within (0x02000000, 0x4000) a n then (s, s.otp.n (a - 0x02000000) n)
  else if supReadable a n then (s, s.hw.ml a n)
  else ({ s with hw := s.hw.supRefused a false }, 0)

/-- A store by the SUP core. -/
def supStore (s : State) (a n v : Nat) : State :=
  if 0x40000000 ≤ a && a < 0x400C0000 then
    if n = 4 then { s with hw := s.hw.regWrite 0 a (w32 v) } else { s with hw := s.hw.supRefused a true }
  else if s.hw.supWritable a n then { s with hw := (s.hw.invalSup a n).setMl a n v }
  else { s with hw := s.hw.supRefused a true }

end Sys2Proof.Machine
end

