-- ==== Sys2Proof/Machine/RegCmd.lean ====
section
/-! DEFINITION. The commands of every host that belong to no block: NOP, IDENTIFY, REG_READ, REG_WRITE, EVENT_WAIT (Table 12-8). -/

namespace Sys2Proof.Machine

/-- NOP completes with OK. -/
def Hw.cmdNop (h : Hw) (d : Desc) : Hw := h.complete d stOk

/-- NOP. -/
def execNop (d : Desc) (s : State) : Host.Outcome State Fault Refusal := onHw s (fun h => h.hostCmd d 0x0001 Hw.cmdNop)

/-- What IDENTIFY writes into its buffer: 64 bytes. -/
def Hw.identity (h : Hw) : List Byte :=
  let w := fun a => leBytes 4 (h.readVal a).toNat
  let top := w 0x40000004 ++ w 0x40000010 ++ w R.SUP_ADMIT_STATUS ++ w R.HIF_STATUS ++ w R.PAIR_STATUS ++ w R.TSK_OLC_STATUS
  top ++ leBytes 8 (if h.fbit R.SUP_MODE_STATUS_PROG_VALID then h.prog.layout else 0) ++ w R.SUP_CFG_SEQ ++ w R.CAL_DATE ++ w R.CAL_TIME ++
    List.replicate 20 0#8

/-- IDENTIFY: the calendar words are captured as a read of CAL_DATE captures them. The command itself is outstanding while it reads
HIF_STATUS.IDLE (R332). -/
def Hw.cmdIdentify (h : Hw) (d : Desc) : Hw :=
  if d.room 64 then let h1 := (h.runCmd d).capture; h1.complete d stOk (out := h1.identity) else h.complete d stValue

/-- IDENTIFY. -/
def execIdentify (d : Desc) (s : State) : Host.Outcome State Fault Refusal := onHw s (fun h => h.hostCmd d 0x0002 Hw.cmdIdentify)

/-! ## Registers -/

/-- A word of the supervisor view as the SUP firmware reads it; outside the view 0 and event 0x0026 (R20). -/
def Hw.viewWord (h : Hw) (a : Nat) : Hw × Nat :=
  if 0x40000000 ≤ a && a < 0x400C0000 then let r := h.regRead a; (r.1, r.2.toNat)
  else if supReadable a 4 then (h, h.ml a 4) else (h.supRefused a false, 0)

/-- `n` words from `a`, in order. -/
def Hw.viewWords (h : Hw) (a : Nat) : Nat → Hw × List Nat
  | 0 => (h, [])
  | n + 1 => let r := h.viewWord a; let q := r.1.viewWords (a + 4) n; (q.1, r.2 :: q.2)

/-- Whether a range touches MRAM, NOR or the OTP key store (R372). -/
def barredRange (a n : Nat) : Bool :=
  [(0x50000000, 0x800000), (0x60000000, 0x10000000), (0x02000000, 0x4000)].any (fun r => decide (a < r.1 + r.2 ∧ r.1 < a + n))

/-- REG_READ; outstanding itself while it reads (R332). -/
def Hw.cmdRegRead (h : Hw) (d : Desc) : Hw :=
  if d.p0 % 4 != 0 || d.p1 = 0 || 256 < d.p1 || !d.room (4 * d.p1) || barredRange d.p0 (4 * d.p1) then h.complete d stValue
  else let r := (h.runCmd d).viewWords d.p0 d.p1; r.1.complete d stOk (out := r.2.flatMap (leBytes 4))

/-- REG_READ (R372). -/
def execRegRead (d : Desc) (s : State) : Host.Outcome State Fault Refusal := onHw s (fun h => h.hostCmd d 0x0003 Hw.cmdRegRead)

/-- A write as the firmware makes it, and whether the block rejected it (R23). -/
def Hw.tryWrite (h : Hw) (src a : Nat) (v mask : Word) : Hw × Bool :=
  let b := (a - 0x40000000) / 65536
  if a = R.BLOCK_STATUS b then (h.regWriteM src a v mask, false)
  else
    let h1 := (h.fset (R.BLOCK_STATUS_REJECT b) 0).regWriteM src a v mask
    let old := h.fget (R.BLOCK_STATUS_REJ_OFFSET b)
    if h.fbit (R.BLOCK_STATUS_REJECT b) then ((h1.fset (R.BLOCK_STATUS_REJECT b) 1).fset (R.BLOCK_STATUS_REJ_OFFSET b) old, h1.fbit (R.BLOCK_STATUS_REJECT b))
    else (h1, h1.fbit (R.BLOCK_STATUS_REJECT b))

/-- Whether a REG_WRITE names fields of class C, S or P, which the CFG activity admits. -/
def Desc.classed (d : Desc) : Bool :=
  let x := regAccess d.p0
  x.cls != .none && x.cls != .imm && ((x.rw ||| x.rws ||| x.rwl) &&& w32 d.p2) != 0#32

/-- A class P value in a pair: latched on both modules at an instant at least 1 ms away (R321). -/
def Hw.pWrite (h : Hw) (d : Desc) : Hw :=
  let v := mergeMask (h.shown d.p0) (w32 d.p1) (w32 d.p2 &&& h.openBits d.p0)
  let h1 := h.pendPut d.p0 v
  let e := h1.forceE
  let h2 := { h1 with pair := { h1.pair with pwrites := h1.pair.pwrites ++
                                  [({ addr := d.p0, val := v, eff := e, d := some d, confirmed := false } : PWrite)] } }
  (h2.pairSend (.control { kind := 1, inst := e, a := d.p0, b := v.toNat })).latchWait d (some d.p0) v.toNat 0 0

/-- CFG ends with a command whose value has no latch to wait for. -/
def Hw.regEnd (h : Hw) (d : Desc) : Hw := if d.classed then h.actSet .cfg false else h

/-- REG_WRITE once admitted: MODE for a write that the mode rejects, VALUE for a value that the register refuses; else it completes once
the value is latched, RES0 the value read back. -/
def Hw.startRegWrite (h : Hw) (d : Desc) : Hw :=
  let stop := h.stopReject d.p0 (w32 d.p2)
  if (regAccess d.p0).cls == .pair && d.classed && h.partnerSynced then h.pWrite d
  else
    let r := h.tryWrite d.src.code d.p0 (w32 d.p1) (w32 d.p2)
    let v := (r.1.readVal d.p0).toNat
    if r.2 then (if stop then r.1.complete d stMode true (detail := h.mode.code) else r.1.complete d stValue true).regEnd d
    else if r.1.pend.any (fun p => p.1 == d.p0) && d.classed then r.1.latchWait d (some d.p0) v 0 0
    else (r.1.complete d stOk true v).regEnd d

/-- REG_WRITE: a class P field on a follower goes to the active module (R321). -/
def Hw.cmdRegWrite (h : Hw) (d : Desc) : Hw :=
  if d.p0 % 4 != 0 || d.p0 < 0x40000000 || 0x400C0000 ≤ d.p0 then h.complete d stValue
  else
    let go := fun (h : Hw) => if d.classed then let r := h.request d .cfg; if r.2 then r.1.startRegWrite d else r.1 else h.startRegWrite d
    if d.classed && (regAccess d.p0).cls == .pair then h.relay d go else go h

/-- REG_WRITE (R441). -/
def execRegWrite (d : Desc) (s : State) : Host.Outcome State Fault Refusal := onHw s (fun h => h.hostCmd d 0x0004 Hw.cmdRegWrite)

/-! ## Waits for events -/

/-- EVENT_WAIT: at most 16 may be pending (R342). -/
def Hw.cmdEventWait (h : Hw) (d : Desc) : Hw :=
  if d.p2 = 0 || 65535 < d.p2 || !d.room 32 then h.complete d stValue
  else if 16 ≤ h.hif.waits.length then h.complete d stBusy
  else { h with hif := { h.hif with waits := h.hif.waits ++ [({ d := d, limit := h.clk.up + d.p2 * 1000000 } : EWait)] } }

/-- EVENT_WAIT. -/
def execEventWait (d : Desc) (s : State) : Host.Outcome State Fault Refusal := onHw s (fun h => h.hostCmd d 0x0005 Hw.cmdEventWait)

/-- The pending EVENT_WAIT with the earliest limit completes with TIMEOUT. -/
def Hw.waitTimeout (h : Hw) : Hw :=
  match h.hif.waits.foldl (fun (b : Option EWait) x => match b with
    | some y => if x.limit < y.limit then some x else some y
    | none => some x) none with
  | none => h
  | some w =>
    let h1 := h.untilUp w.limit
    ({ h1 with hif := { h1.hif with waits := h1.hif.waits.erase w } }).complete w.d stTimeout

/-- EVENT_WAIT_TIMEOUT (R342). -/
def execEventWaitTimeout (s : State) : Host.Outcome State Fault Refusal := onHw s Hw.waitTimeout

end Sys2Proof.Machine
end

