-- ==== Sys2Proof/Machine/Run.lean ====
section
/-! DEFINITION. How an instruction runs: traps (R159 to R167), the lead's requests (R125, R161), retirement and window closes
(R124, R131, R134). -/

namespace Sys2Proof.Machine

/-! ## Traps -/

/-- Trap entry on one core (R160): EPC, EPSR, ECAUSE, EADDR, EINSN, PSR, the fetch from VBASE + CAUSE × 16, one branch
commit with link register 0. EINSN is 0 for FETCH; for MCHECK on the fetch it takes the word of the command (DESIGN CHOICE, log 123). -/
def Cpu.trapIn (c : Cpu) (t : Trap) (w : Word) (slot1 : Bool) : Cpu :=
  let npc := c.vbase + w32 (t.cause * 16)
  let c1 := { c with epc := if t.next then c.pc + 4#32 else c.pc, epsr := c.psr, ecause := w32 (t.cause + t.detail * 256 + b2n slot1 * 65536),
                     eaddr := t.eaddr, einsn := if t.cause = 3 then 0#32 else w,
                     psr := psrOf (if c.isSup then 2 else 1) false true c.nmiact c.psr, pc := npc }
  c1.commitBr c.pc npc 0

/-- ERET on one core (R155, R160, R166), after the level check. -/
def Cpu.eret (c : Cpu) : Cpu :=
  let c1 :=
    if c.isSup && c.nmiact then
      { c with pc := c.nepc, psr := psrOf 2 (c.nepsr.getLsbD 2) (c.nepsr.getLsbD 3) false c.psr }
    else
      { c with pc := c.epc, psr := psrOf (if c.isSup then 2 else if c.epsr.getLsbD 1 then 0 else bitsOf c.epsr.toNat 0 2)
                              (c.isSup && c.epsr.getLsbD 2) (c.epsr.getLsbD 3) c.nmiact c.psr }
  c1.commitBr c.pc c1.pc 0

/-- The SUP core at slot 0 (R167); IPEND goes on showing the blocks' requests. -/
def Cpu.supRestart (c : Cpu) : Cpu := { mg := c.mg, commits := c.commits, psr := 0x82#32, ipend := c.ipend }

/-! ## Operations -/

/-- An instruction as one core runs it: its word; the causes that the core decides from its own state; the request that leaves
the core; what the core becomes with the answer; the window close it brings; for an instruction of two commits that are counted one by
one (SD), the words of each. -/
structure Op where
  word : Word
  chk : Cpu → Option Trap := fun _ => none
  req : Cpu → Req := fun _ => .none
  fin : Cpu → Nat → Nat → Cpu
  close : Cpu → Option CloseWhy := fun _ => none
  two : Option (Cpu → List (BitVec 64) × List (BitVec 64)) := none

/-- A fetch from outside code SRAM, or from an address that is not a multiple of 4 (SUP: outside ROM and the patch area of SUP SRAM,
Table 1-5; where in SUP SRAM that area lies is left open, log 96). -/
def Cpu.fetchBad (c : Cpu) : Bool :=
  let a := c.pc.toNat
  a % 4 != 0 ||
    (if c.isSup then !(a < 0x40000 || (0x01000000 ≤ a && a < 0x01020000 && Config.patchArea a)) else decide (0x01000000 ≤ a))

/-- A data read of task `t` on target `i` at address `a` (R126, R169): the uncorrectable memory error that it meets, or the caches' part.
EADDR is `ea`. -/
def Hw.dataRead (h : Hw) (i t a : Nat) (ea : Word) : Hw × Option Trap :=
  match h.poisoned a with
  | some d => (h, some { cause := 12, detail := d, eaddr := ea })
  | none => let r := h.cacheRead i t a; (r.1, r.2.map (fun x => { x with eaddr := ea }))

/-- The lead's request is performed (R125, R161). -/
def Hw.lead (h : Hw) (i t : Nat) (r : Req) : Hw × Resp :=
  let p := i / 2
  match r with
  | .none => (h, .val 0 0)
  | .load a n =>
    let ad := a.toNat
    match h.loadFault t ad n with
    | some d => (h, .trap { cause := 4, detail := d, eaddr := a })
    | none =>
      if (h.cyc t).foll && h.foreign t ad n then h.foreignVal t ad n 0
      else if 0x40000000 ≤ ad then
        let q := h.regRead ad
        q.1.foreignVal t ad n q.2.toNat
      else match h.dataRead i t ad a with
        | (h1, some x) => (h1, .trap x)
        | (h1, none) =>
          let v := h1.viewNat p t ad n
          if h1.foreign t ad n then h1.foreignVal t ad n v else (h1, .val (v % 2 ^ 32) (v / 2 ^ 32))
  | .store a n v => h.storeReq i t a.toNat n v a
  | .bitLoad ba =>
    match bitPlace ba.toNat with
    | none => (h, .trap { cause := 4, detail := 1, eaddr := ba })
    | some (a, b) =>
      match h.loadFault t a 1 with
      | some d => (h, .trap { cause := 4, detail := d, eaddr := w32 a })
      | none =>
        if (h.cyc t).foll && h.foreign t a 1 then
          match h.foreignVal t a 1 0 with
          | (h1, .val x _) => (h1, .val (b2n (x.testBit b)) 0)
          | r => r
        else match h.dataRead i t a (w32 a) with
          | (h1, some x) => (h1, .trap x)
          | (h1, none) =>
            let v := h1.viewNat p t a 1
            ((if h1.foreign t a 1 then (h1.foreignVal t a 1 v).1 else h1), .val (b2n (v.testBit b)) 0)
  | .bitStore ba op =>
    match bitPlace ba.toNat with
    | none => (h, .trap { cause := 5, detail := 1, eaddr := ba })
    | some (a, b) =>
      let v := h.viewNat p t a 1
      let w := setBitsOf v b 1 (b2n (op.apply (v.testBit b)))
      match h.storeReq i t a 1 w (w32 a) with
      | (h1, .val _ _) =>
        (match h1.dataRead i t a (w32 a) with
          | (_, some x) => (h, .trap x)
          | (h2, none) => (h2, .val v 0))
      | r => r
  | .edge ba cur =>
    match edgeInst ba.toNat with
    | none => (h, .trap { cause := 5, detail := 1, eaddr := ba })
    | some x =>
      let a := 0x107FFC00 + x / 8
      let v := h.viewNat p t a 1
      let pr := h.primeOf x
      match h.storeReq i t a 1 (setBitsOf v (x % 8) 1 (b2n cur)) (w32 a) with
      | (h1, .val _ _) =>
        (match h1.dataRead i t a (w32 a) with
          | (_, some y) => (h, .trap y)
          | (h2, none) => ((if pr then (h2.journal i t 3 x).setPrime x false else h2), .val v (b2n pr)))
      | r => r
  | .timer x op => h.timerReq i t x.toNat op
  | .fstat => (h, .val (h.reg R.TSK_FORCE_STATUS).toNat 0)
  | .fqry x => (h, .val (h.fqry x.toNat) 0)
  | .irec x => (h, .val (if h.ownsItem t x.toNat then h.recAddr t x.toNat else 0) 0)
  | .ibit x n =>
    (h, .val (if h.ownsItem t x.toNat && n.toNat < 8 * (h.item x.toNat).size then
        0x20000000 + (h.recAddr t x.toNat - 0x20000000) * 8 + n.toNat else 0) 0)
  | .post slot opc a b =>
    -- R159: HELD comes before COP
    if h.heldNoRoom p then ((h.bump).heldFull p t (Config.freeValue h.free).toNat, .trap { cause := 8 })
    else if !((h.fget R.EXE_EXT_CFG_SLOT_EN).testBit (slot - 12)) then (h, .trap { cause := 9, detail := 2 })
    else (h.setHeld p (h.heldOf p ++ [.post t slot opc a b]), .val 0 0)
  | .query slot opc rd a b w =>
    if !((h.fget R.EXE_EXT_CFG_SLOT_EN).testBit (slot - 12)) then (h, .trap { cause := 9, detail := 2 })
    else if (h.cyc t).foll then h.foreignVal t slot 0 0
    else
      let q : Query := { slot := slot, opc := opc, rd := rd, a := a, b := b, word := w,
                         started := !h.exe.extBusy && h.exe.extWait.isEmpty,
                         limit := h.extLimit }
      ((h.setTgt i { h.tgt i with query := some q }).extSend i true
        (extFrame slot false (2 * p + (if h.split p then i % 2 else 0)) opc a b), .stall)
  | .checkin => (h.setHeld p (h.heldOf p ++ [.check t]), .val 0 0)

/-! ## Retirement -/

/-- What the retirement on target `i` brings: a window close that awaits its comparison (R131), or on a SPLIT core the end
itself (R134). `n` is the commits retired. -/
def Hw.retire (h : Hw) (i t n : Nat) (why : Option CloseWhy) : Hw :=
  let g := h.tgt i
  let stop := h.dbgStop (i / 2) (h.cpu i).pc && i % 2 == 0
  if h.split (i / 2) then
    match why with
    | some .taskEnd => h.agree i t
    | some (.taskFault r) => h.taskFault t (faultWord (h.cpu i) r) (h.cpu i).epc
    | some .halt => h.dbgHalted (i / 2)
    | _ => if stop then h.dbgHalted (i / 2) else h
  else
    let m := g.commits + n
    let w := match why with
      | some x => some x
      | none => if stop then some .halt else if windowLen (h.profile (i / 2)) ≤ m then some .length else none
    let h1 := h.setTgt i { g with commits := m, closing := w }
    match w with
    | some .taskEnd => h1.setTstate t 5
    | some (.taskFault _) => h1.setTstate t 5
    | _ => h1

/-- Event 0x1002 for a machine check taken. -/
def Hw.mcheckEv (h : Hw) (p t : Nat) (c : Cpu) (tr : Trap) : Hw :=
  if tr.cause = 12 then h.raise 0x1002 (epTask p t) c.ecause.toNat tr.eaddr.toNat else h

/-- Whether the instruction's group of code SRAM holds an uncorrectable error (R159 cause 2). -/
def Hw.fetchPoison (h : Hw) (c : Cpu) : Bool := h.exe.poison.contains (coreToSup c.pc.toNat / 8)

/-- Whether a trap on an execution pair is a double fault (R163). -/
def Cpu.double (c : Cpu) (t : Option Trap) : Bool :=
  match t with
  | some x => c.inexc && x.cause != 12
  | none => false

/-- One core's outcome: a trap or the operation's end. A double fault makes no trap entry, so event 0x1001 shows the ECAUSE and EPC of the
first trap (DESIGN CHOICE, log 124). -/
def Cpu.outcome (c : Cpu) (o : Op) (t : Option Trap) (slot1 : Bool) (a b : Nat) : Cpu :=
  match t with
  | some x => if c.double t then c else c.trapIn x o.word slot1
  | none => o.fin c a b

/-- BRK in DEBUG halts as a breakpoint does, on every pair (R162): no commit, no trap, the pc past the instruction. -/
def Hw.brkHalts (h : Hw) (t : Option Trap) : Bool :=
  match t with
  | some x => x.cause == 14 && h.mode == .debug
  | none => false

/-- ECAUSE.SLOT1: 0 for a COP0 instruction, which never issues in slot 1 (R180); else issue timing decides (log 3), for a word that could
not be fetched too. -/
def Op.slot1 (o : Op) (t : Option Trap) (free : Bool) : Bool :=
  match t with
  | some x => if x.cause = 3 ∨ x.fetch = true then free else free && bitsOf o.word.toNat 25 7 != 0x70
  | none => free

/-- The free value that fills an answer no request gave: reached only where the two cores already differ, or for SLOT1, which
issue timing decides (log 3). -/
def Hw.freeBits (h : Hw) : Nat := (Config.freeValue h.free).toNat

/-- The cause that core `x` finds from its own state (R159, R161): the fetch, an uncorrectable error in the word it takes (one fetch fills
both instruction caches), then the instruction's own. On a SPLIT core an uncorrectable cache error is a machine check (R134). -/
def Hw.ownCause (h : Hw) (x : Nat) (o : Op) : Option Trap :=
  let c := h.cpu x
  if c.fetchBad then some { cause := 3 }
  else if h.fetchPoison c then some { cause := 12, detail := 1, fetch := true }
  else if h.split (x / 2) && (h.cache x).two.contains (lineOf c.pc.toNat) then some { cause := 12, detail := 4, fetch := true }
  else o.chk c

/-- An SD whose first store commit completes the window (R131): both cores stand after that commit, and the words of the second wait for the
next window. `l`, `s` are the cores before the instruction; `both` that the shadow has retired it too. -/
def Hw.cutWindow (h : Hw) (i : Nat) (f : Cpu → List (BitVec 64) × List (BitVec 64)) (l s : Cpu) (both : Bool) : Hw :=
  let put := fun (h : Hw) (x : Nat) (c : Cpu) => h.setCpu x { h.cpu x with mg := (f c).1.foldl fold c.mg, commits := c.commits + 1 }
  let h1 := if both then put (put h i l) (i + 1) s else put h i l
  h1.setTgt i { h1.tgt i with rest := ((f l).2, if both then (f s).2 else []) }

/-- What the two cores of target `i` (one on a SPLIT pair) become with an answer `q` to the lead's request; `own` the cause the lead
found itself. A stalled request leaves everything but what the request itself changed. -/
def Hw.retireWith (h : Hw) (i t : Nat) (o : Op) (own : Option Trap) (q : Hw × Resp) : Hw :=
  let lead := h.cpu i
  let sh := h.cpu (i + 1)
  let sp := h.split (i / 2)
  match q.2 with
  | .stall => q.1
  | r =>
    let h0 := q.1.bump
    let free := h.freeBits % 2 == 1
    let tr : Option Trap := match r with
      | .trap x => some x
      | _ => none
    let ab : Nat × Nat := match r with
      | .val a b => (a, b)
      | _ => (h.freeBits % 2 ^ 32, h.freeBits / 2 ^ 32)
    let l1 := lead.outcome o tr (o.slot1 tr free) ab.1 ab.2
    let h1 := h0.setCpu i l1
    -- R161: the lead's request decides for both; every other cause is the shadow's own.
    let shTr : Option Trap := match own with
      | some _ => h.ownCause (i + 1) o
      | none => match h.ownCause (i + 1) o with
        | some x => some x
        | none => tr
    let ans := q.1.shadowAns i (o.req sh) ab
    let h2 := if sp then h1
      else h.shadowStore (h1.setCpu (i + 1) (sh.outcome o shTr (o.slot1 shTr free) ans.1 ans.2)) i
        (if tr.isSome then [] else storeBytes ((o.req lead).stores ab.1)) (if shTr.isSome then [] else storeBytes ((o.req sh).stores ans.1))
    if lead.double tr then h2.retire i t 0 (some (.taskFault 255))
    else
      let h3 := match tr with
        | some x => h2.mcheckEv (i / 2) t l1 x
        | none => h2
      match o.two with
      | some f =>
        if !sp && tr.isNone && (h.tgt i).commits + 1 == windowLen (h.profile (i / 2)) then
          (h3.cutWindow i f lead sh shTr.isNone).retire i t 1 (some .length)
        else h3.retire i t (l1.commits - lead.commits) none
      | none => h3.retire i t (l1.commits - lead.commits) (if tr.isSome then none else o.close lead)

/-- Runs an operation on target `i`, task `t`: the fetch through the instruction caches, the causes, the request, the retirement. -/
def Hw.runOn (h0 : Hw) (i t : Nat) (o : Op) : Hw :=
  let own := h0.ownCause i o
  let pc := (h0.cpu i).pc.toNat
  let h := if (h0.cpu i).fetchBad then h0 else ((h0.eccLine i pc).1).fetchLine i pc
  if h.brkHalts own then
    ((h.coresOf i).foldl (fun h x => h.setCpu x (h.cpu x).next) h).retire i t 0 (some .halt)
  else h.retireWith i t o own (match own with
    | some x => (h, .trap x)
    | none => h.lead i t (o.req (h.cpu i)))

/-- Whether target `i` can run an instruction now: its profile matches the command, a task runs, no close awaits its
comparison, no query is waited for, the pair is not halted, the mode runs tasks (R21, R48). -/
def Hw.canRun (h : Hw) (i : Nat) (ls : Bool) : Option Nat :=
  let g := h.tgt i
  if h.mode.runsTasks && h.split (i / 2) != ls && g.closing.isNone && g.query.isNone && !h.fbit (R.CMP_EPn_STATUS_HALTED (i / 2)) then g.task
  else none

/-- An exception on the SUP core: trap entry, or the restart of R167. -/
def Hw.supTrap (h : Hw) (t : Trap) (w : Word) (slot1 : Bool) : Hw :=
  let c := h.exe.sup
  if c.inexc && !c.nmiact then
    let e := c.trapIn t w slot1
    ({ h with exe := { h.exe with sup := c.supRestart } }).raise 0x0027 e.ecause.toNat e.epc.toNat
  else { h with exe := { h.exe with sup := c.trapIn t w slot1 } }

/-- What the SUP core's request gives (Table 1-5): only loads and stores reach it; bit and edge accesses have no space there and
end without effect by R20. -/
def supReq (s : State) (r : Req) : State × Nat × Nat :=
  match r with
  | .load a n => let q := supLoad s a.toNat n; (q.1, q.2 % 2 ^ 32, q.2 / 2 ^ 32)
  | .store a n v => (supStore s a.toNat n (v % 2 ^ (8 * n)), 0, 0)
  | .bitLoad ba => ({ s with hw := s.hw.supRefused ba.toNat false }, 0, 0)
  | .bitStore ba _ => ({ s with hw := s.hw.supRefused ba.toNat true }, 0, 0)
  | .edge ba _ => ({ s with hw := s.hw.supRefused ba.toNat true }, 0, 0)
  | _ => (s, 0, 0)

/-- The machine check of an access by the SUP core (R169, R352). -/
def Hw.supCheckMem (h : Hw) (r : Req) : Option Trap :=
  match r with
  | .load a n => (h.supPoison a.toNat n).map (fun d => { cause := 12, detail := d, eaddr := a })
  | _ => none

/-- What an uncorrectable MRAM group that a load meets brings beside the machine check: UNCORR, 0x8001 (R352, log 122). -/
def Hw.supUncorr (h : Hw) (r : Req) : Hw :=
  match r with
  | .load a n =>
    if within (0x50000000, 0x800000) a.toNat n then
      match h.uncorrIn a.toNat n with
      | some g => h.uncorrRead g 0
      | none => h
    else h
  | _ => h

/-- Runs an operation on the SUP core. -/
def runSup (s : State) (o : Op) : State :=
  let c := s.hw.exe.sup
  let free := s.hw.freeBits % 2 == 1
  let own : Option Trap :=
    if c.fetchBad then some { cause := 3 }
    else match s.hw.supPoison c.pc.toNat 4 with
      | some d => some { cause := 12, detail := d, fetch := true }
      | none => o.chk c
  match own with
  | some t => { s with hw := (s.hw.bump).supTrap t o.word (o.slot1 (some t) free) }
  | none =>
    match s.hw.supCheckMem (o.req c) with
    | some t => { s with hw := ((s.hw.supUncorr (o.req c)).bump).supTrap t o.word (o.slot1 (some t) free) }
    | none =>
      let q := supReq s (o.req c)
      { q.1 with hw := { q.1.hw with exe := { q.1.hw.exe with sup := o.fin q.1.hw.exe.sup q.2.1 q.2.2 } } }

/-- An instruction command: on the selected core or cores where they can run it, else nothing (log 8). -/
def runOp (s : State) (sel : CoreSel) (o : Op) : Host.Outcome State Fault Refusal :=
  match sel with
  | .pair n =>
    (match s.hw.canRun (2 * n.val) true with
      | some t => onHw s (fun h => h.runOn (2 * n.val) t o)
      | none => .next s)
  | .side n b =>
    (match s.hw.canRun (2 * n.val + b2n b) false with
      | some t => onHw s (fun h => h.runOn (2 * n.val + b2n b) t o)
      | none => .next s)
  | .sup => if s.hw.exe.supRunning then .next (runSup s o) else .next s

end Sys2Proof.Machine
end

