-- ==== Sys2Proof/Machine/Alu.lean ====
section
/-! DEFINITION. The integer instructions (Tables 7-5 and 7-6, R183 and R184). -/

namespace Sys2Proof.Machine

/-- An instruction whose result is a function of the core: k[rd] := f (R183). -/
def opR (w : Word) (rd : Reg) (f : Cpu → Word) : Op := { word := w, fin := fun c _ _ => c.result rd (f c) }

/-- A division (R184): DIVZ on a zero divisor where TRAPCFG.DZ is 1. -/
def opDiv (w : Word) (rd rs2 : Reg) (f : Cpu → Word) : Op :=
  { word := w, chk := fun c => if c.rd rs2 = 0#32 && c.trapcfg.getLsbD 0 then some { cause := 10 } else none,
    fin := fun c _ _ => c.result rd (f c) }

/-- The signed quotient, truncated toward zero; 0 by zero (R184). -/
def quoS (a b : Word) : Word := if b = 0#32 then 0#32 else wInt (a.toInt.tdiv b.toInt)
/-- The signed remainder, with the sign of the dividend; the dividend by zero. -/
def remS (a b : Word) : Word := if b = 0#32 then a else wInt (a.toInt.tmod b.toInt)
/-- The unsigned quotient; 0 by zero. -/
def quoU (a b : Word) : Word := w32 (a.toNat / b.toNat)
/-- The unsigned remainder; the dividend by zero. -/
def remU (a b : Word) : Word := w32 (a.toNat % b.toNat)

/-- A 20-bit immediate shifted left by 12. -/
def upper (i : BitVec 20) : Word := (i.setWidth 32) <<< 12

/-- ADD (R183): Adds two registers. -/
def execAdd (sel : CoreSel) (rd : Reg) (rs1 : Reg) (rs2 : Reg) (s : State) : Host.Outcome State Fault Refusal :=
  runOp s sel (opR (kyEncode (.add rd rs1 rs2)) rd (fun c => c.rd rs1 + c.rd rs2))

/-- SUB (R183): Subtracts two registers. -/
def execSub (sel : CoreSel) (rd : Reg) (rs1 : Reg) (rs2 : Reg) (s : State) : Host.Outcome State Fault Refusal :=
  runOp s sel (opR (kyEncode (.sub rd rs1 rs2)) rd (fun c => c.rd rs1 - c.rd rs2))

/-- AND (R183): Bitwise AND of two registers. -/
def execAnd (sel : CoreSel) (rd : Reg) (rs1 : Reg) (rs2 : Reg) (s : State) : Host.Outcome State Fault Refusal :=
  runOp s sel (opR (kyEncode (.and rd rs1 rs2)) rd (fun c => c.rd rs1 &&& c.rd rs2))

/-- OR (R183): Bitwise OR of two registers. -/
def execOr (sel : CoreSel) (rd : Reg) (rs1 : Reg) (rs2 : Reg) (s : State) : Host.Outcome State Fault Refusal :=
  runOp s sel (opR (kyEncode (.or rd rs1 rs2)) rd (fun c => c.rd rs1 ||| c.rd rs2))

/-- XOR (R183): Bitwise XOR of two registers. -/
def execXor (sel : CoreSel) (rd : Reg) (rs1 : Reg) (rs2 : Reg) (s : State) : Host.Outcome State Fault Refusal :=
  runOp s sel (opR (kyEncode (.xor rd rs1 rs2)) rd (fun c => c.rd rs1 ^^^ c.rd rs2))

/-- ANDN (R183): AND with the inverted second register. -/
def execAndn (sel : CoreSel) (rd : Reg) (rs1 : Reg) (rs2 : Reg) (s : State) : Host.Outcome State Fault Refusal :=
  runOp s sel (opR (kyEncode (.andn rd rs1 rs2)) rd (fun c => c.rd rs1 &&& ~~~(c.rd rs2)))

/-- ORN (R183): OR with the inverted second register. -/
def execOrn (sel : CoreSel) (rd : Reg) (rs1 : Reg) (rs2 : Reg) (s : State) : Host.Outcome State Fault Refusal :=
  runOp s sel (opR (kyEncode (.orn rd rs1 rs2)) rd (fun c => c.rd rs1 ||| ~~~(c.rd rs2)))

/-- XNOR (R183): Inverted XOR of two registers. -/
def execXnor (sel : CoreSel) (rd : Reg) (rs1 : Reg) (rs2 : Reg) (s : State) : Host.Outcome State Fault Refusal :=
  runOp s sel (opR (kyEncode (.xnor rd rs1 rs2)) rd (fun c => ~~~(c.rd rs1 ^^^ c.rd rs2)))

/-- SLL (R183): Shift left logical by register. -/
def execSll (sel : CoreSel) (rd : Reg) (rs1 : Reg) (rs2 : Reg) (s : State) : Host.Outcome State Fault Refusal :=
  runOp s sel (opR (kyEncode (.sll rd rs1 rs2)) rd (fun c => (c.rd rs1) <<< ((c.rd rs2).toNat % 32)))

/-- SRL (R183): Shift right logical by register. -/
def execSrl (sel : CoreSel) (rd : Reg) (rs1 : Reg) (rs2 : Reg) (s : State) : Host.Outcome State Fault Refusal :=
  runOp s sel (opR (kyEncode (.srl rd rs1 rs2)) rd (fun c => (c.rd rs1) >>> ((c.rd rs2).toNat % 32)))

/-- SRA (R183): Shift right arithmetic by register. -/
def execSra (sel : CoreSel) (rd : Reg) (rs1 : Reg) (rs2 : Reg) (s : State) : Host.Outcome State Fault Refusal :=
  runOp s sel (opR (kyEncode (.sra rd rs1 rs2)) rd (fun c => (c.rd rs1).sshiftRight ((c.rd rs2).toNat % 32)))

/-- ROL (R183): Rotate left by register. -/
def execRol (sel : CoreSel) (rd : Reg) (rs1 : Reg) (rs2 : Reg) (s : State) : Host.Outcome State Fault Refusal :=
  runOp s sel (opR (kyEncode (.rol rd rs1 rs2)) rd (fun c => (c.rd rs1).rotateLeft ((c.rd rs2).toNat % 32)))

/-- ROR (R183): Rotate right by register. -/
def execRor (sel : CoreSel) (rd : Reg) (rs1 : Reg) (rs2 : Reg) (s : State) : Host.Outcome State Fault Refusal :=
  runOp s sel (opR (kyEncode (.ror rd rs1 rs2)) rd (fun c => (c.rd rs1).rotateRight ((c.rd rs2).toNat % 32)))

/-- MIN (R183): Signed minimum. -/
def execMin (sel : CoreSel) (rd : Reg) (rs1 : Reg) (rs2 : Reg) (s : State) : Host.Outcome State Fault Refusal :=
  runOp s sel (opR (kyEncode (.min rd rs1 rs2)) rd (fun c => if (c.rd rs1).slt (c.rd rs2) then c.rd rs1 else c.rd rs2))

/-- MAX (R183): Signed maximum. -/
def execMax (sel : CoreSel) (rd : Reg) (rs1 : Reg) (rs2 : Reg) (s : State) : Host.Outcome State Fault Refusal :=
  runOp s sel (opR (kyEncode (.max rd rs1 rs2)) rd (fun c => if (c.rd rs1).slt (c.rd rs2) then c.rd rs2 else c.rd rs1))

/-- MINU (R183): Unsigned minimum. -/
def execMinu (sel : CoreSel) (rd : Reg) (rs1 : Reg) (rs2 : Reg) (s : State) : Host.Outcome State Fault Refusal :=
  runOp s sel (opR (kyEncode (.minu rd rs1 rs2)) rd (fun c => if (c.rd rs1).ult (c.rd rs2) then c.rd rs1 else c.rd rs2))

/-- MAXU (R183): Unsigned maximum. -/
def execMaxu (sel : CoreSel) (rd : Reg) (rs1 : Reg) (rs2 : Reg) (s : State) : Host.Outcome State Fault Refusal :=
  runOp s sel (opR (kyEncode (.maxu rd rs1 rs2)) rd (fun c => if (c.rd rs1).ult (c.rd rs2) then c.rd rs2 else c.rd rs1))

/-- ADDS (R183): Saturating signed add. -/
def execAdds (sel : CoreSel) (rd : Reg) (rs1 : Reg) (rs2 : Reg) (s : State) : Host.Outcome State Fault Refusal :=
  runOp s sel (opR (kyEncode (.adds rd rs1 rs2)) rd (fun c => wInt (satS 32 ((c.rd rs1).toInt + (c.rd rs2).toInt))))

/-- SUBS (R183): Saturating signed subtract. -/
def execSubs (sel : CoreSel) (rd : Reg) (rs1 : Reg) (rs2 : Reg) (s : State) : Host.Outcome State Fault Refusal :=
  runOp s sel (opR (kyEncode (.subs rd rs1 rs2)) rd (fun c => wInt (satS 32 ((c.rd rs1).toInt - (c.rd rs2).toInt))))

/-- MUL (R183): Low 32 bits of the product. -/
def execMul (sel : CoreSel) (rd : Reg) (rs1 : Reg) (rs2 : Reg) (s : State) : Host.Outcome State Fault Refusal :=
  runOp s sel (opR (kyEncode (.mul rd rs1 rs2)) rd (fun c => c.rd rs1 * c.rd rs2))

/-- MULH (R183): High 32 bits of the signed product. -/
def execMulh (sel : CoreSel) (rd : Reg) (rs1 : Reg) (rs2 : Reg) (s : State) : Host.Outcome State Fault Refusal :=
  runOp s sel (opR (kyEncode (.mulh rd rs1 rs2)) rd (fun c => wInt ((c.rd rs1).toInt * (c.rd rs2).toInt / 2 ^ 32)))

/-- MULHU (R183): High 32 bits of the unsigned product. -/
def execMulhu (sel : CoreSel) (rd : Reg) (rs1 : Reg) (rs2 : Reg) (s : State) : Host.Outcome State Fault Refusal :=
  runOp s sel (opR (kyEncode (.mulhu rd rs1 rs2)) rd (fun c => w32 ((c.rd rs1).toNat * (c.rd rs2).toNat / 2 ^ 32)))

/-- DIV (R184): Signed division, with DIVZ or defined result on zero. -/
def execDiv (sel : CoreSel) (rd : Reg) (rs1 : Reg) (rs2 : Reg) (s : State) : Host.Outcome State Fault Refusal :=
  runOp s sel (opDiv (kyEncode (.div rd rs1 rs2)) rd rs2 (fun c => quoS (c.rd rs1) (c.rd rs2)))

/-- DIVU (R184): Unsigned division. -/
def execDivu (sel : CoreSel) (rd : Reg) (rs1 : Reg) (rs2 : Reg) (s : State) : Host.Outcome State Fault Refusal :=
  runOp s sel (opDiv (kyEncode (.divu rd rs1 rs2)) rd rs2 (fun c => quoU (c.rd rs1) (c.rd rs2)))

/-- REM (R184): Signed remainder. -/
def execRem (sel : CoreSel) (rd : Reg) (rs1 : Reg) (rs2 : Reg) (s : State) : Host.Outcome State Fault Refusal :=
  runOp s sel (opDiv (kyEncode (.rem rd rs1 rs2)) rd rs2 (fun c => remS (c.rd rs1) (c.rd rs2)))

/-- REMU (R184): Unsigned remainder. -/
def execRemu (sel : CoreSel) (rd : Reg) (rs1 : Reg) (rs2 : Reg) (s : State) : Host.Outcome State Fault Refusal :=
  runOp s sel (opDiv (kyEncode (.remu rd rs1 rs2)) rd rs2 (fun c => remU (c.rd rs1) (c.rd rs2)))

/-- ADDI (R183): Adds a sign-extended immediate. -/
def execAddi (sel : CoreSel) (rd : Reg) (rs1 : Reg) (imm : BitVec 15) (s : State) : Host.Outcome State Fault Refusal :=
  runOp s sel (opR (kyEncode (.addi rd rs1 imm)) rd (fun c => c.rd rs1 + sxImm imm))

/-- ANDI (R183): ANDs a zero-extended immediate. -/
def execAndi (sel : CoreSel) (rd : Reg) (rs1 : Reg) (imm : BitVec 15) (s : State) : Host.Outcome State Fault Refusal :=
  runOp s sel (opR (kyEncode (.andi rd rs1 imm)) rd (fun c => c.rd rs1 &&& zxImm imm))

/-- ORI (R183): ORs a zero-extended immediate. -/
def execOri (sel : CoreSel) (rd : Reg) (rs1 : Reg) (imm : BitVec 15) (s : State) : Host.Outcome State Fault Refusal :=
  runOp s sel (opR (kyEncode (.ori rd rs1 imm)) rd (fun c => c.rd rs1 ||| zxImm imm))

/-- XORI (R183): XORs a zero-extended immediate. -/
def execXori (sel : CoreSel) (rd : Reg) (rs1 : Reg) (imm : BitVec 15) (s : State) : Host.Outcome State Fault Refusal :=
  runOp s sel (opR (kyEncode (.xori rd rs1 imm)) rd (fun c => c.rd rs1 ^^^ zxImm imm))

/-- SLLI (R183): Shift left by immediate. -/
def execSlli (sel : CoreSel) (rd : Reg) (rs1 : Reg) (sh : BitVec 5) (s : State) : Host.Outcome State Fault Refusal :=
  runOp s sel (opR (kyEncode (.slli rd rs1 sh)) rd (fun c => (c.rd rs1) <<< sh.toNat))

/-- SRLI (R183): Shift right logical by immediate. -/
def execSrli (sel : CoreSel) (rd : Reg) (rs1 : Reg) (sh : BitVec 5) (s : State) : Host.Outcome State Fault Refusal :=
  runOp s sel (opR (kyEncode (.srli rd rs1 sh)) rd (fun c => (c.rd rs1) >>> sh.toNat))

/-- SRAI (R183): Shift right arithmetic by immediate. -/
def execSrai (sel : CoreSel) (rd : Reg) (rs1 : Reg) (sh : BitVec 5) (s : State) : Host.Outcome State Fault Refusal :=
  runOp s sel (opR (kyEncode (.srai rd rs1 sh)) rd (fun c => (c.rd rs1).sshiftRight sh.toNat))

/-- RORI (R183): Rotate right by immediate. -/
def execRori (sel : CoreSel) (rd : Reg) (rs1 : Reg) (sh : BitVec 5) (s : State) : Host.Outcome State Fault Refusal :=
  runOp s sel (opR (kyEncode (.rori rd rs1 sh)) rd (fun c => (c.rd rs1).rotateRight sh.toNat))

/-- LUI (R183): Loads an upper immediate. -/
def execLui (sel : CoreSel) (rd : Reg) (imm20 : BitVec 20) (s : State) : Host.Outcome State Fault Refusal :=
  runOp s sel (opR (kyEncode (.lui rd imm20)) rd (fun _ => upper imm20))

/-- AUIPC (R183): Adds an upper immediate to pc. -/
def execAuipc (sel : CoreSel) (rd : Reg) (imm20 : BitVec 20) (s : State) : Host.Outcome State Fault Refusal :=
  runOp s sel (opR (kyEncode (.auipc rd imm20)) rd (fun c => c.pc + upper imm20))

/-- LI (R183): Loads a sign-extended 20-bit immediate. -/
def execLi (sel : CoreSel) (rd : Reg) (imm20 : BitVec 20) (s : State) : Host.Outcome State Fault Refusal :=
  runOp s sel (opR (kyEncode (.li rd imm20)) rd (fun _ => imm20.signExtend 32))


end Sys2Proof.Machine
end

