-- ==== Sys2Proof/Machine/Cond.lean ====
section
/-! DEFINITION. Compares, condition bits and selects (Table 7-7, R185). -/

namespace Sys2Proof.Machine

/-- An instruction that writes one condition bit: c[cd] := f. -/
def opC (w : Word) (cd : CBit) (f : Cpu → Bool) : Op :=
  { word := w, fin := fun c _ _ => ((c.setC cd (f c)).commitReg c.pc 0#5 0#32).next }

/-- CEQ (R185): Compares registers for equality into a condition bit. -/
def execCeq (sel : CoreSel) (cd : CBit) (rs1 : Reg) (rs2 : Reg) (s : State) : Host.Outcome State Fault Refusal :=
  runOp s sel (opC (kyEncode (.ceq cd rs1 rs2)) cd (fun c => Rel.holds .eq (c.rd rs1) (c.rd rs2)))

/-- CNE (R185): Compares registers for inequality. -/
def execCne (sel : CoreSel) (cd : CBit) (rs1 : Reg) (rs2 : Reg) (s : State) : Host.Outcome State Fault Refusal :=
  runOp s sel (opC (kyEncode (.cne cd rs1 rs2)) cd (fun c => Rel.holds .ne (c.rd rs1) (c.rd rs2)))

/-- CLT (R185): Signed less-than compare. -/
def execClt (sel : CoreSel) (cd : CBit) (rs1 : Reg) (rs2 : Reg) (s : State) : Host.Outcome State Fault Refusal :=
  runOp s sel (opC (kyEncode (.clt cd rs1 rs2)) cd (fun c => Rel.holds .lt (c.rd rs1) (c.rd rs2)))

/-- CGE (R185): Signed greater-or-equal compare. -/
def execCge (sel : CoreSel) (cd : CBit) (rs1 : Reg) (rs2 : Reg) (s : State) : Host.Outcome State Fault Refusal :=
  runOp s sel (opC (kyEncode (.cge cd rs1 rs2)) cd (fun c => Rel.holds .ge (c.rd rs1) (c.rd rs2)))

/-- CLTU (R185): Unsigned less-than compare. -/
def execCltu (sel : CoreSel) (cd : CBit) (rs1 : Reg) (rs2 : Reg) (s : State) : Host.Outcome State Fault Refusal :=
  runOp s sel (opC (kyEncode (.cltu cd rs1 rs2)) cd (fun c => Rel.holds .ltu (c.rd rs1) (c.rd rs2)))

/-- CGEU (R185): Unsigned greater-or-equal compare. -/
def execCgeu (sel : CoreSel) (cd : CBit) (rs1 : Reg) (rs2 : Reg) (s : State) : Host.Outcome State Fault Refusal :=
  runOp s sel (opC (kyEncode (.cgeu cd rs1 rs2)) cd (fun c => Rel.holds .geu (c.rd rs1) (c.rd rs2)))

/-- CEQI (R185): Equality compare with immediate. -/
def execCeqi (sel : CoreSel) (cd : CBit) (rs1 : Reg) (imm : BitVec 15) (s : State) : Host.Outcome State Fault Refusal :=
  runOp s sel (opC (kyEncode (.ceqi cd rs1 imm)) cd (fun c => Rel.holds .eq (c.rd rs1) (sxImm imm)))

/-- CNEI (R185): Inequality compare with immediate. -/
def execCnei (sel : CoreSel) (cd : CBit) (rs1 : Reg) (imm : BitVec 15) (s : State) : Host.Outcome State Fault Refusal :=
  runOp s sel (opC (kyEncode (.cnei cd rs1 imm)) cd (fun c => Rel.holds .ne (c.rd rs1) (sxImm imm)))

/-- CLTI (R185): Signed less-than compare with immediate. -/
def execClti (sel : CoreSel) (cd : CBit) (rs1 : Reg) (imm : BitVec 15) (s : State) : Host.Outcome State Fault Refusal :=
  runOp s sel (opC (kyEncode (.clti cd rs1 imm)) cd (fun c => Rel.holds .lt (c.rd rs1) (sxImm imm)))

/-- CGEI (R185): Signed greater-or-equal compare with immediate. -/
def execCgei (sel : CoreSel) (cd : CBit) (rs1 : Reg) (imm : BitVec 15) (s : State) : Host.Outcome State Fault Refusal :=
  runOp s sel (opC (kyEncode (.cgei cd rs1 imm)) cd (fun c => Rel.holds .ge (c.rd rs1) (sxImm imm)))

/-- CLTUI (R185): Unsigned less-than compare with immediate. -/
def execCltui (sel : CoreSel) (cd : CBit) (rs1 : Reg) (imm : BitVec 15) (s : State) : Host.Outcome State Fault Refusal :=
  runOp s sel (opC (kyEncode (.cltui cd rs1 imm)) cd (fun c => Rel.holds .ltu (c.rd rs1) (sxImm imm)))

/-- CGEUI (R185): Unsigned greater-or-equal compare with immediate. -/
def execCgeui (sel : CoreSel) (cd : CBit) (rs1 : Reg) (imm : BitVec 15) (s : State) : Host.Outcome State Fault Refusal :=
  runOp s sel (opC (kyEncode (.cgeui cd rs1 imm)) cd (fun c => Rel.holds .geu (c.rd rs1) (sxImm imm)))

/-- CAND (R185): ANDs two condition bits. -/
def execCand (sel : CoreSel) (cd : CBit) (ca : CBit) (cb : CBit) (s : State) : Host.Outcome State Fault Refusal :=
  runOp s sel (opC (kyEncode (.cand cd ca cb)) cd (fun c => c.cb ca && c.cb cb))

/-- COR (R185): ORs two condition bits. -/
def execCor (sel : CoreSel) (cd : CBit) (ca : CBit) (cb : CBit) (s : State) : Host.Outcome State Fault Refusal :=
  runOp s sel (opC (kyEncode (.cor cd ca cb)) cd (fun c => c.cb ca || c.cb cb))

/-- CXOR (R185): XORs two condition bits. -/
def execCxor (sel : CoreSel) (cd : CBit) (ca : CBit) (cb : CBit) (s : State) : Host.Outcome State Fault Refusal :=
  runOp s sel (opC (kyEncode (.cxor cd ca cb)) cd (fun c => c.cb ca != c.cb cb))

/-- CANDN (R185): ANDs with an inverted condition bit. -/
def execCandn (sel : CoreSel) (cd : CBit) (ca : CBit) (cb : CBit) (s : State) : Host.Outcome State Fault Refusal :=
  runOp s sel (opC (kyEncode (.candn cd ca cb)) cd (fun c => c.cb ca && !c.cb cb))

/-- CMOV (R185): Copies a condition bit. -/
def execCmov (sel : CoreSel) (cd : CBit) (ca : CBit) (s : State) : Host.Outcome State Fault Refusal :=
  runOp s sel (opC (kyEncode (.cmov cd ca)) cd (fun c => c.cb ca))

/-- CNOT (R185): Inverts a condition bit. -/
def execCnot (sel : CoreSel) (cd : CBit) (ca : CBit) (s : State) : Host.Outcome State Fault Refusal :=
  runOp s sel (opC (kyEncode (.cnot cd ca)) cd (fun c => !c.cb ca))

/-- CSET (R185): Sets a condition bit. -/
def execCset (sel : CoreSel) (cd : CBit) (s : State) : Host.Outcome State Fault Refusal :=
  runOp s sel (opC (kyEncode (.cset cd)) cd (fun _ => true))

/-- CCLR (R185): Clears a condition bit. -/
def execCclr (sel : CoreSel) (cd : CBit) (s : State) : Host.Outcome State Fault Refusal :=
  runOp s sel (opC (kyEncode (.cclr cd)) cd (fun _ => false))

/-- SETC (R185): Copies a condition bit into a register. -/
def execSetc (sel : CoreSel) (rd : Reg) (ca : CBit) (s : State) : Host.Outcome State Fault Refusal :=
  runOp s sel (opR (kyEncode (.setc rd ca)) rd (fun c => w32 (b2n (c.cb ca))))

/-- SEL (R185): Selects one of two registers by a condition bit. -/
def execSel (sel : CoreSel) (rd : Reg) (rs1 : Reg) (rs2 : Reg) (c : CBit) (s : State) : Host.Outcome State Fault Refusal :=
  runOp s sel (opR (kyEncode (.sel rd rs1 rs2 c)) rd (fun k => if k.cb c then k.rd rs1 else k.rd rs2))

/-- SELN (R185): Selects by an inverted condition bit. -/
def execSeln (sel : CoreSel) (rd : Reg) (rs1 : Reg) (rs2 : Reg) (c : CBit) (s : State) : Host.Outcome State Fault Refusal :=
  runOp s sel (opR (kyEncode (.seln rd rs1 rs2 c)) rd (fun k => if k.cb c then k.rd rs2 else k.rd rs1))


end Sys2Proof.Machine
end

