-- ==== Sys2Proof/Machine/Branch.lean ====
section
/-! DEFINITION. The control transfers (R186). -/

namespace Sys2Proof.Machine

/-- A control transfer: the address of the next instruction and the link register written (k0 for none). -/
def opJ (w : Word) (link : Reg) (f : Cpu → Word) : Op :=
  { word := w, fin := fun c _ _ =>
      { (c.wr link (c.pc + 4#32)).commitBr c.pc (f c) link.toNat with pc := f c } }

/-- BC (R186): Conditional branch on a condition bit. -/
def execBc (sel : CoreSel) (c : CBit) (v : Bool) (disp21 : BitVec 21) (s : State) : Host.Outcome State Fault Refusal :=
  runOp s sel (opJ (kyEncode (.bc c v disp21)) 0#5 (fun k => if k.cb c = v then k.pc + disp21.signExtend 32 * 4#32 else k.pc + 4#32))

/-- J (R186): Unconditional pc-relative jump. -/
def execJ (sel : CoreSel) (disp25 : BitVec 25) (s : State) : Host.Outcome State Fault Refusal :=
  runOp s sel (opJ (kyEncode (.j disp25)) 0#5 (fun c => c.pc + disp25.signExtend 32 * 4#32))

/-- CALL (R186): Jump writing the return address to k1. -/
def execCall (sel : CoreSel) (disp25 : BitVec 25) (s : State) : Host.Outcome State Fault Refusal :=
  runOp s sel (opJ (kyEncode (.call disp25)) 1#5 (fun c => c.pc + disp25.signExtend 32 * 4#32))

/-- JALR (R186): Register-indirect jump with link. -/
def execJalr (sel : CoreSel) (rd : Reg) (rs1 : Reg) (imm : BitVec 15) (s : State) : Host.Outcome State Fault Refusal :=
  runOp s sel (opJ (kyEncode (.jalr rd rs1 imm)) rd (fun c => c.rd rs1 + sxImm imm))


end Sys2Proof.Machine
end

