-- ==== Sys2Proof/Machine/Mem.lean ====
section
/-! DEFINITION. Loads and stores (Table 7-8, R187, R188). -/

namespace Sys2Proof.Machine

/-- MISALIGN and STACK of an access of `n` bytes at `a` through base register `r` (R164, R168). The SUP core has no stack check
(Table 6-5). -/
def Cpu.memChk (c : Cpu) (r : Reg) (a : Word) (n : Nat) : Option Trap :=
  if a.toNat % n ≠ 0 then some { cause := 6, eaddr := a }
  else if r = 2#5 && !c.isSup &&
      (decide (c.stkHi.toNat ≤ a.toNat) || decide (a.toNat + (if c.pl = 0 then 0 else 256) < c.stkLo.toNat)) then
    some { cause := 7, eaddr := a }
  else none

/-- The address of a register block (Table 1-4). -/
def isBlock (a : Nat) : Bool := 0x40000000 ≤ a && a < 0x400C0000

/-- A load of `n` bytes (R187): `f` extends what memory gave. A register-block read commits as Table 5-1 says. -/
def opLd (w : Word) (rt rs1 : Reg) (d : BitVec 15) (n : Nat) (f : Nat → Word) : Op :=
  { word := w, chk := fun c => c.memChk rs1 (c.ea rs1 d) n, req := fun c => .load (c.ea rs1 d) n,
    fin := fun c a _ =>
      let ad := c.ea rs1 d
      if isBlock ad.toNat then
        (((c.wr rt (f a)).commitCop c.pc 0 0x1FF (f a) ad rt.toNat)).next
      else c.result rt (f a) }

/-- A store of `n` bytes (R187). -/
def opSt (w : Word) (rt rs1 : Reg) (d : BitVec 15) (n : Nat) : Op :=
  { word := w, chk := fun c => c.memChk rs1 (c.ea rs1 d) n,
    req := fun c => .store (c.ea rs1 d) n ((c.rd rt).toNat % 2 ^ (8 * n)),
    fin := fun c _ _ => (c.commitSt c.pc (c.ea rs1 d) n ((c.rd rt).toNat % 2 ^ (8 * n))).next }

/-- LD (R188): an odd rt and rt = 0 raise ILLEGAL. -/
def opLd64 (w : Word) (rt rs1 : Reg) (d : BitVec 15) : Op :=
  { word := w,
    chk := fun c => if rt.getLsbD 0 || rt = 0#5 then some { cause := 1 } else c.memChk rs1 (c.ea rs1 d) 8,
    req := fun c => .load (c.ea rs1 d) 8,
    fin := fun c a b =>
      let c1 := (c.wr rt (w32 a)).wr (regSucc rt) (w32 b)
      (c1.commit [cword a c.flags rt.toNat 0 c.pc, cword b c.flags (regSucc rt).toNat 0 c.pc] 1).next }

/-- The doubleword an SD stores: k[rt + 1] over k[rt], 0 for rt = 0 (R188). -/
def Cpu.dword (c : Cpu) (rt : Reg) : Nat := if rt = 0#5 then 0 else (c.rd rt).toNat + (c.rd (regSucc rt)).toNat * 2 ^ 32

/-- The commit words of an SD's two stores, the low word first (Table 5-1). -/
def Cpu.sdWords (c : Cpu) (rt rs1 : Reg) (d : BitVec 15) : List (BitVec 64) × List (BitVec 64) :=
  let a := c.ea rs1 d
  let v := c.dword rt
  ([cword (v % 2 ^ 32) c.flags 0 1 c.pc, cword a.toNat 0xF 0 1 c.pc],
   [cword (v / 2 ^ 32) c.flags 0 1 c.pc, cword (a + 4#32).toNat 0xF 0 1 c.pc])

/-- SD (R188): two store commits, the low word first. -/
def opSt64 (w : Word) (rt rs1 : Reg) (d : BitVec 15) : Op :=
  { word := w, two := some (fun c => c.sdWords rt rs1 d),
    chk := fun c => if rt.getLsbD 0 then some { cause := 1 } else c.memChk rs1 (c.ea rs1 d) 8,
    req := fun c => .store (c.ea rs1 d) 8 (c.dword rt),
    fin := fun c _ _ =>
      let v := c.dword rt
      ((c.commitSt c.pc (c.ea rs1 d) 4 (v % 2 ^ 32)).commitSt c.pc (c.ea rs1 d + 4#32) 4 (v / 2 ^ 32)).next }

/-- LB (R187): Loads a sign-extended byte. -/
def execLb (sel : CoreSel) (rt : Reg) (rs1 : Reg) (disp : BitVec 15) (s : State) : Host.Outcome State Fault Refusal :=
  runOp s sel (opLd (kyEncode (.lb rt rs1 disp)) rt rs1 disp 1 (fun v => (BitVec.ofNat 8 v).signExtend 32))

/-- LBU (R187): Loads a zero-extended byte. -/
def execLbu (sel : CoreSel) (rt : Reg) (rs1 : Reg) (disp : BitVec 15) (s : State) : Host.Outcome State Fault Refusal :=
  runOp s sel (opLd (kyEncode (.lbu rt rs1 disp)) rt rs1 disp 1 (fun v => w32 (v % 256)))

/-- LH (R187): Loads a sign-extended halfword. -/
def execLh (sel : CoreSel) (rt : Reg) (rs1 : Reg) (disp : BitVec 15) (s : State) : Host.Outcome State Fault Refusal :=
  runOp s sel (opLd (kyEncode (.lh rt rs1 disp)) rt rs1 disp 2 (fun v => (BitVec.ofNat 16 v).signExtend 32))

/-- LHU (R187): Loads a zero-extended halfword. -/
def execLhu (sel : CoreSel) (rt : Reg) (rs1 : Reg) (disp : BitVec 15) (s : State) : Host.Outcome State Fault Refusal :=
  runOp s sel (opLd (kyEncode (.lhu rt rs1 disp)) rt rs1 disp 2 (fun v => w32 (v % 65536)))

/-- LW (R187): Loads a word. -/
def execLw (sel : CoreSel) (rt : Reg) (rs1 : Reg) (disp : BitVec 15) (s : State) : Host.Outcome State Fault Refusal :=
  runOp s sel (opLd (kyEncode (.lw rt rs1 disp)) rt rs1 disp 4 (w32))

/-- LD (R188): Loads a doubleword into an even register pair. -/
def execLd (sel : CoreSel) (rt : Reg) (rs1 : Reg) (disp : BitVec 15) (s : State) : Host.Outcome State Fault Refusal :=
  runOp s sel (opLd64 (kyEncode (.ld rt rs1 disp)) rt rs1 disp)

/-- SB (R187): Stores a byte. -/
def execSb (sel : CoreSel) (rt : Reg) (rs1 : Reg) (disp : BitVec 15) (s : State) : Host.Outcome State Fault Refusal :=
  runOp s sel (opSt (kyEncode (.sb rt rs1 disp)) rt rs1 disp 1)

/-- SH (R187): Stores a halfword. -/
def execSh (sel : CoreSel) (rt : Reg) (rs1 : Reg) (disp : BitVec 15) (s : State) : Host.Outcome State Fault Refusal :=
  runOp s sel (opSt (kyEncode (.sh rt rs1 disp)) rt rs1 disp 2)

/-- SW (R187): Stores a word. -/
def execSw (sel : CoreSel) (rt : Reg) (rs1 : Reg) (disp : BitVec 15) (s : State) : Host.Outcome State Fault Refusal :=
  runOp s sel (opSt (kyEncode (.sw rt rs1 disp)) rt rs1 disp 4)

/-- SD (R188): Stores a doubleword from an even register pair. -/
def execSd (sel : CoreSel) (rt : Reg) (rs1 : Reg) (disp : BitVec 15) (s : State) : Host.Outcome State Fault Refusal :=
  runOp s sel (opSt64 (kyEncode (.sd rt rs1 disp)) rt rs1 disp)


end Sys2Proof.Machine
end

