-- ==== Sys2Proof/Machine/Chr.lean ====
section
/-! DEFINITION. The character instructions (Table 7-10, R189, R190). -/

namespace Sys2Proof.Machine

/-- CRCCTL.POLY. -/
def Cpu.poly (c : Cpu) : Nat := bitsOf c.crcctl.toNat 0 2

/-- A CRC register advanced over `n` bytes; under POLY 2 and 3 the unused upper bits read as 0 (R189). -/
def Cpu.crcN (c : Cpu) (crc v : Word) (n : Nat) : Word := overBytes (crcByte c.poly) crc v n

/-- A byte-wise map of a word. -/
def mapBytes (f : Nat → Nat) (v : Word) : Word :=
  w32 ((List.range 4).foldl (fun a i => a + f (bitsOf v.toNat (8 * i) 8) % 256 * 2 ^ (8 * i)) 0)

/-- The byte order reversed. -/
def bswap (v : Word) : Word := w32 ((List.range 4).foldl (fun a i => a + bitsOf v.toNat (8 * i) 8 * 2 ^ (24 - 8 * i)) 0)

/-- The parity of each byte in bits 3:0. -/
def parb (v : Word) : Word := w32 ((List.range 4).foldl (fun a i => a + popc 8 (bitsOf v.toNat (8 * i) 8) % 2 * 2 ^ i) 0)

/-- CRCB (R189): Advances a CRC over one byte. -/
def execCrcb (sel : CoreSel) (rd : Reg) (rs1 : Reg) (rs2 : Reg) (s : State) : Host.Outcome State Fault Refusal :=
  runOp s sel (opR (kyEncode (.crcb rd rs1 rs2)) rd (fun c => c.crcN (c.rd rs1) (c.rd rs2) 1))

/-- CRCH (R189): Advances a CRC over two bytes. -/
def execCrch (sel : CoreSel) (rd : Reg) (rs1 : Reg) (rs2 : Reg) (s : State) : Host.Outcome State Fault Refusal :=
  runOp s sel (opR (kyEncode (.crch rd rs1 rs2)) rd (fun c => c.crcN (c.rd rs1) (c.rd rs2) 2))

/-- CRCW (R189): Advances a CRC over four bytes. -/
def execCrcw (sel : CoreSel) (rd : Reg) (rs1 : Reg) (rs2 : Reg) (s : State) : Host.Outcome State Fault Refusal :=
  runOp s sel (opR (kyEncode (.crcw rd rs1 rs2)) rd (fun c => c.crcN (c.rd rs1) (c.rd rs2) 4))

/-- PAR (R190): Parity of a word. -/
def execPar (sel : CoreSel) (rd : Reg) (rs1 : Reg) (s : State) : Host.Outcome State Fault Refusal :=
  runOp s sel (opR (kyEncode (.par rd rs1)) rd (fun c => w32 (popc 32 (c.rd rs1).toNat % 2)))

/-- PARB (R190): Parity of each byte. -/
def execParb (sel : CoreSel) (rd : Reg) (rs1 : Reg) (s : State) : Host.Outcome State Fault Refusal :=
  runOp s sel (opR (kyEncode (.parb rd rs1)) rd (fun c => parb (c.rd rs1)))

/-- BREV (R190): Reverses the bit order of a word. -/
def execBrev (sel : CoreSel) (rd : Reg) (rs1 : Reg) (s : State) : Host.Outcome State Fault Refusal :=
  runOp s sel (opR (kyEncode (.brev rd rs1)) rd (fun c => w32 (revBits 32 (c.rd rs1).toNat)))

/-- BREVB (R190): Reverses the bit order within each byte. -/
def execBrevb (sel : CoreSel) (rd : Reg) (rs1 : Reg) (s : State) : Host.Outcome State Fault Refusal :=
  runOp s sel (opR (kyEncode (.brevb rd rs1)) rd (fun c => mapBytes (revBits 8) (c.rd rs1)))

/-- BSWAP (R190): Reverses the byte order. -/
def execBswap (sel : CoreSel) (rd : Reg) (rs1 : Reg) (s : State) : Host.Outcome State Fault Refusal :=
  runOp s sel (opR (kyEncode (.bswap rd rs1)) rd (fun c => bswap (c.rd rs1)))

/-- CLZ (R190): Counts leading zeros. -/
def execClz (sel : CoreSel) (rd : Reg) (rs1 : Reg) (s : State) : Host.Outcome State Fault Refusal :=
  runOp s sel (opR (kyEncode (.clz rd rs1)) rd (fun c => w32 (clz 32 (c.rd rs1).toNat)))

/-- CTZ (R190): Counts trailing zeros. -/
def execCtz (sel : CoreSel) (rd : Reg) (rs1 : Reg) (s : State) : Host.Outcome State Fault Refusal :=
  runOp s sel (opR (kyEncode (.ctz rd rs1)) rd (fun c => w32 (ctz 32 (c.rd rs1).toNat)))

/-- POPC (R190): Counts 1 bits. -/
def execPopc (sel : CoreSel) (rd : Reg) (rs1 : Reg) (s : State) : Host.Outcome State Fault Refusal :=
  runOp s sel (opR (kyEncode (.popc rd rs1)) rd (fun c => w32 (popc 32 (c.rd rs1).toNat)))

/-- SEXTB (R190): Sign-extends a byte. -/
def execSextb (sel : CoreSel) (rd : Reg) (rs1 : Reg) (s : State) : Host.Outcome State Fault Refusal :=
  runOp s sel (opR (kyEncode (.sextb rd rs1)) rd (fun c => ((c.rd rs1).setWidth 8).signExtend 32))

/-- SEXTH (R190): Sign-extends a halfword. -/
def execSexth (sel : CoreSel) (rd : Reg) (rs1 : Reg) (s : State) : Host.Outcome State Fault Refusal :=
  runOp s sel (opR (kyEncode (.sexth rd rs1)) rd (fun c => ((c.rd rs1).setWidth 16).signExtend 32))

/-- ZEXTH (R190): Zero-extends a halfword. -/
def execZexth (sel : CoreSel) (rd : Reg) (rs1 : Reg) (s : State) : Host.Outcome State Fault Refusal :=
  runOp s sel (opR (kyEncode (.zexth rd rs1)) rd (fun c => ((c.rd rs1).setWidth 16).setWidth 32))


end Sys2Proof.Machine
end

