-- ==== Sys2Proof/Machine/Bit.lean ====
section
/-! DEFINITION. Bit, edge and accumulator instructions (Tables 7-11 and 7-12, R191 to R194). -/

namespace Sys2Proof.Machine

/-- An instruction that writes the accumulator only. -/
def opAcc (w : Word) (f : Cpu → Bool) : Op :=
  { word := w, fin := fun c _ _ => (({ c with acc := f c }).commitReg c.pc 0#5 0#32).next }

/-- A reading BIT instruction (Table 7-11): acc := f acc (bit xor n). -/
def opBitR (w : Word) (n : Bool) (rs1 : Reg) (b : BitVec 15) (f : Bool → Bool → Bool) : Op :=
  { word := w, req := fun c => .bitLoad (c.ea rs1 b),
    fin := fun c v _ => (({ c with acc := f c.acc ((v % 2 == 1) != n) }).commitReg c.pc 0#5 0#32).next }

/-- The byte address and bit of a bit address, as a core commits it. -/
def bitByte (ba : Word) : Nat × Nat := (bitPlace ba.toNat).getD (ba.toNat / 8, ba.toNat % 8)

/-- A writing BIT instruction (R170, R192): always a 1-byte store, committed as one; `f` what the accumulator makes of it. -/
def opBitW (w : Word) (rs1 : Reg) (b : BitVec 15) (f : Bool → BitOp) : Op :=
  { word := w, req := fun c => .bitStore (c.ea rs1 b) (f c.acc),
    fin := fun c v _ =>
      let p := bitByte (c.ea rs1 b)
      (c.commitSt c.pc (w32 p.1) 1 (setBitsOf (v % 256) p.2 1 (b2n ((f c.acc).apply (v.testBit p.2))))).next }

/-- EDGR and EDGF (R193): `v` the edge byte, `pr` the prime bit as memory held them. -/
def opEdge (w : Word) (rs1 : Reg) (b : BitVec 15) (rise : Bool) : Op :=
  { word := w, req := fun c => .edge (c.ea rs1 b) c.acc,
    fin := fun c v pr =>
      let x := (c.ea rs1 b).toNat % 8192
      let old := v.testBit (x % 8)
      let acc := if pr % 2 = 1 then false else if rise then c.acc && !old else !c.acc && old
      (({ c with acc := acc }).commitSt c.pc (w32 (0x107FFC00 + x / 8)) 1 (setBitsOf (v % 256) (x % 8) 1 (b2n c.acc))).next }

/-- BLD (R192): Loads a bit into the accumulator. -/
def execBld (sel : CoreSel) (n : Bool) (rs1 : Reg) (boff : BitVec 15) (s : State) : Host.Outcome State Fault Refusal :=
  runOp s sel (opBitR (kyEncode (.bld n rs1 boff)) n rs1 boff (fun _ b => b))

/-- BAND (R192): ANDs a bit into the accumulator. -/
def execBand (sel : CoreSel) (n : Bool) (rs1 : Reg) (boff : BitVec 15) (s : State) : Host.Outcome State Fault Refusal :=
  runOp s sel (opBitR (kyEncode (.band n rs1 boff)) n rs1 boff (fun a b => a && b))

/-- BOR (R192): ORs a bit into the accumulator. -/
def execBor (sel : CoreSel) (n : Bool) (rs1 : Reg) (boff : BitVec 15) (s : State) : Host.Outcome State Fault Refusal :=
  runOp s sel (opBitR (kyEncode (.bor n rs1 boff)) n rs1 boff (fun a b => a || b))

/-- BXOR (R192): XORs a bit into the accumulator. -/
def execBxor (sel : CoreSel) (n : Bool) (rs1 : Reg) (boff : BitVec 15) (s : State) : Host.Outcome State Fault Refusal :=
  runOp s sel (opBitR (kyEncode (.bxor n rs1 boff)) n rs1 boff (fun a b => a != b))

/-- BST (R192): Stores the accumulator into a bit. -/
def execBst (sel : CoreSel) (n : Bool) (rs1 : Reg) (boff : BitVec 15) (s : State) : Host.Outcome State Fault Refusal :=
  runOp s sel (opBitW (kyEncode (.bst n rs1 boff)) rs1 boff (fun a => .put (a != n)))

/-- BSET (R192): Sets a bit. -/
def execBset (sel : CoreSel) (rs1 : Reg) (boff : BitVec 15) (s : State) : Host.Outcome State Fault Refusal :=
  runOp s sel (opBitW (kyEncode (.bset rs1 boff)) rs1 boff (fun _ => .put true))

/-- BCLR (R192): Clears a bit. -/
def execBclr (sel : CoreSel) (rs1 : Reg) (boff : BitVec 15) (s : State) : Host.Outcome State Fault Refusal :=
  runOp s sel (opBitW (kyEncode (.bclr rs1 boff)) rs1 boff (fun _ => .put false))

/-- BTGL (R192): Toggles a bit. -/
def execBtgl (sel : CoreSel) (rs1 : Reg) (boff : BitVec 15) (s : State) : Host.Outcome State Fault Refusal :=
  runOp s sel (opBitW (kyEncode (.btgl rs1 boff)) rs1 boff (fun _ => .toggle))

/-- BSETA (R192): Sets a bit when the accumulator condition holds. -/
def execBseta (sel : CoreSel) (n : Bool) (rs1 : Reg) (boff : BitVec 15) (s : State) : Host.Outcome State Fault Refusal :=
  runOp s sel (opBitW (kyEncode (.bseta n rs1 boff)) rs1 boff (fun a => if a != n then .put true else .keep))

/-- BRSTA (R192): Clears a bit when the accumulator condition holds. -/
def execBrsta (sel : CoreSel) (n : Bool) (rs1 : Reg) (boff : BitVec 15) (s : State) : Host.Outcome State Fault Refusal :=
  runOp s sel (opBitW (kyEncode (.brsta n rs1 boff)) rs1 boff (fun a => if a != n then .put false else .keep))

/-- EDGR (R193): Detects a rising edge of the accumulator on an edge instance. -/
def execEdgr (sel : CoreSel) (rs1 : Reg) (boff : BitVec 15) (s : State) : Host.Outcome State Fault Refusal :=
  runOp s sel (opEdge (kyEncode (.edgr rs1 boff)) rs1 boff true)

/-- EDGF (R193): Detects a falling edge of the accumulator on an edge instance. -/
def execEdgf (sel : CoreSel) (rs1 : Reg) (boff : BitVec 15) (s : State) : Host.Outcome State Fault Refusal :=
  runOp s sel (opEdge (kyEncode (.edgf rs1 boff)) rs1 boff false)

/-- ACLD (R194): Loads a condition bit into the accumulator. -/
def execAcld (sel : CoreSel) (cb : CBit) (s : State) : Host.Outcome State Fault Refusal :=
  runOp s sel (opAcc (kyEncode (.acld cb)) (fun c => c.cb cb))

/-- ACAND (R194): ANDs a condition bit into the accumulator. -/
def execAcand (sel : CoreSel) (cb : CBit) (s : State) : Host.Outcome State Fault Refusal :=
  runOp s sel (opAcc (kyEncode (.acand cb)) (fun c => c.acc && c.cb cb))

/-- ACOR (R194): ORs a condition bit into the accumulator. -/
def execAcor (sel : CoreSel) (cb : CBit) (s : State) : Host.Outcome State Fault Refusal :=
  runOp s sel (opAcc (kyEncode (.acor cb)) (fun c => c.acc || c.cb cb))

/-- ALDR (R194): Loads register non-zero into the accumulator. -/
def execAldr (sel : CoreSel) (rs1 : Reg) (s : State) : Host.Outcome State Fault Refusal :=
  runOp s sel (opAcc (kyEncode (.aldr rs1)) (fun c => c.rd rs1 != 0#32))

/-- ANOT (R194): Inverts the accumulator. -/
def execAnot (sel : CoreSel) (s : State) : Host.Outcome State Fault Refusal :=
  runOp s sel (opAcc (kyEncode (.anot)) (fun c => !c.acc))

/-- ASET (R194): Sets the accumulator. -/
def execAset (sel : CoreSel) (s : State) : Host.Outcome State Fault Refusal :=
  runOp s sel (opAcc (kyEncode (.aset)) (fun _ => true))

/-- ACLR (R194): Clears the accumulator. -/
def execAclr (sel : CoreSel) (s : State) : Host.Outcome State Fault Refusal :=
  runOp s sel (opAcc (kyEncode (.aclr)) (fun _ => false))

/-- ACXOR (R194): XORs a condition bit into the accumulator. -/
def execAcxor (sel : CoreSel) (cb : CBit) (s : State) : Host.Outcome State Fault Refusal :=
  runOp s sel (opAcc (kyEncode (.acxor cb)) (fun c => c.acc != c.cb cb))

/-- ACST (R194): Stores the accumulator into a condition bit. -/
def execAcst (sel : CoreSel) (cd : CBit) (s : State) : Host.Outcome State Fault Refusal :=
  runOp s sel (opC (kyEncode (.acst cd)) cd (fun c => c.acc))

/-- ASTR (R194): Stores the accumulator into a register. -/
def execAstr (sel : CoreSel) (rd : Reg) (s : State) : Host.Outcome State Fault Refusal :=
  runOp s sel (opR (kyEncode (.astr rd)) rd (fun c => w32 (b2n c.acc)))


end Sys2Proof.Machine
end

