-- ==== Sys2Proof/Machine/Sys.lean ====
section
/-! DEFINITION. COP0, the system instructions (Table 7-13, R195 to R197). -/

namespace Sys2Proof.Machine

/-- TEND, TFAULT and WDCHK raise ILLEGAL on the SUP core (R195). -/
def Cpu.notSup (c : Cpu) : Option Trap := if c.isSup then some { cause := 1 } else none

/-- TEND and TFAULT: a branch commit with next address 0, then the close. -/
def opEnd (w : Word) (f : Cpu → CloseWhy) : Op :=
  { word := w, chk := Cpu.notSup, fin := fun c _ _ => (c.commitBr c.pc 0#32 0).next, close := fun c => some (f c) }

/-- An instruction that is its trap only. -/
def opTrap (w : Word) (cause : Nat) : Op :=
  { word := w, chk := fun _ => some { cause := cause, next := true }, fin := fun c _ _ => c }

/-- The reason byte of TFAULT: 0xFF is recorded as 0xFE (R196). -/
def tfReason (v : Word) : Nat := if v.toNat % 256 = 255 then 254 else v.toNat % 256

/-- The access check of a control register (R156, R158): ILLEGAL where it is reserved, PRIV where the level does not permit. On the SUP core an
MTCR to a register that it cannot write is PRIV too, though Table 6-5 names no PRIV for it (DESIGN CHOICE, log 127). -/
def Cpu.crChk (c : Cpu) (n : Nat) (ok : Bool) : Option Trap :=
  if (c.cr n).isNone then some { cause := 1 } else if ok then none else some { cause := 2 }

/-- TEND (R196): Ends the task and closes the window. -/
def execTend (sel : CoreSel) (s : State) : Host.Outcome State Fault Refusal :=
  runOp s sel (opEnd (kyEncode (.tend)) (fun _ => .taskEnd))

/-- TFAULT (R163): Raises a task fault with a reason byte. -/
def execTfault (sel : CoreSel) (rs1 : Reg) (s : State) : Host.Outcome State Fault Refusal :=
  runOp s sel (opEnd (kyEncode (.tfault rs1)) (fun c => .taskFault (tfReason (c.rd rs1))))

/-- SYSCALL (R196): Enters slot 13. -/
def execSyscall (sel : CoreSel) (s : State) : Host.Outcome State Fault Refusal :=
  runOp s sel (opTrap (kyEncode (.syscall)) 13)

/-- BRK (R196): Enters slot 14, or halts as a breakpoint in DEBUG. -/
def execBrk (sel : CoreSel) (s : State) : Host.Outcome State Fault Refusal :=
  runOp s sel (opTrap (kyEncode (.brk)) 14)

/-- ERET (R160): Returns from a trap, restoring PC and PSR fields. -/
def execEret (sel : CoreSel) (s : State) : Host.Outcome State Fault Refusal :=
  runOp s sel (
    { word := (kyEncode (.eret)), chk := fun c => if c.isSup || 1 ≤ c.pl then none else some { cause := 2 }, fin := fun c _ _ => c.eret } : Op)

/-- WDCHK (R136): Issues a held watchdog check-in. -/
def execWdchk (sel : CoreSel) (s : State) : Host.Outcome State Fault Refusal :=
  runOp s sel (
    { word := (kyEncode (.wdchk)), chk := Cpu.notSup, req := fun _ => .checkin,
      fin := fun c _ _ => (c.commitCop c.pc 0 8 0#32 0#32 0).next } : Op)

/-- MFCR (R158): Reads a control register. -/
def execMfcr (sel : CoreSel) (rd : Reg) (cr : BitVec 5) (s : State) : Host.Outcome State Fault Refusal :=
  runOp s sel (
    { word := (kyEncode (.mfcr rd cr)), chk := fun c => c.crChk cr.toNat (c.crReadable cr.toNat),
      fin := fun c _ _ => c.result rd ((c.cr cr.toNat).getD 0#32) } : Op)

/-- MTCR (R197): Writes a control register, effective for the next instruction. -/
def execMtcr (sel : CoreSel) (cr : BitVec 5) (rs1 : Reg) (s : State) : Host.Outcome State Fault Refusal :=
  runOp s sel (
    { word := (kyEncode (.mtcr cr rs1)), chk := fun c => c.crChk cr.toNat (c.crWritable cr.toNat),
      fin := fun c _ _ =>
        let c1 := c.setCr cr.toNat (c.rd rs1)
        (c1.commit [cword ((c1.cr cr.toNat).getD 0#32).toNat c1.flags 0 0 c.pc] 1).next } : Op)

/-- MFC (R196): Moves condition bits and accumulator into a register. -/
def execMfc (sel : CoreSel) (rd : Reg) (s : State) : Host.Outcome State Fault Refusal :=
  runOp s sel (opR (kyEncode (.mfc rd)) rd (fun c => w32 c.flags))

/-- MTC (R196): Moves a register into condition bits and accumulator. -/
def execMtc (sel : CoreSel) (rs1 : Reg) (s : State) : Host.Outcome State Fault Refusal :=
  runOp s sel (
    { word := (kyEncode (.mtc rs1)), fin := fun c _ _ =>
        let v := c.rd rs1
        (({ c with c := v.setWidth 8, acc := v.getLsbD 8 }).commitReg c.pc 0#5 0#32).next } : Op)


end Sys2Proof.Machine
end

