-- ==== Sys2Proof/Machine/Fpu.lean ====
section
/-! DEFINITION. COP1, IEEE 754 single precision (Table 7-14, R198). -/

namespace Sys2Proof.Machine

/-- FPE where an enabled flag arises (R198). -/
def Cpu.fpChk (c : Cpu) (f : FpFlags) : Option Trap := (f.trapBit c.fpEn).map (fun b => { cause := 11, detail := b })

/-- A COP1 function with a register result. -/
def opF (w : Word) (rd : Reg) (f : Cpu → Word × FpFlags) : Op :=
  { word := w, chk := fun c => c.fpChk (f c).2, fin := fun c _ _ => (c.setFp (f c).2).result rd (f c).1 }

/-- A COP1 compare. -/
def opFc (w : Word) (cd : CBit) (f : Fp → Fp → Bool × FpFlags) (rs1 rs2 : Reg) : Op :=
  { word := w, chk := fun c => c.fpChk (f (Fp.of (c.rd rs1)) (Fp.of (c.rd rs2))).2,
    fin := fun c _ _ =>
      let r := f (Fp.of (c.rd rs1)) (Fp.of (c.rd rs2))
      (((c.setFp r.2).setC cd r.1).commitReg c.pc 0#5 0#32).next }

/-- NV for a signalling operand only (FEQ, FUN). -/
def fpSig (x y : Fp) : FpFlags := { nv := x.isSnan || y.isSnan }
/-- NV for any NaN (FLT, FLE). -/
def fpAny (x y : Fp) : FpFlags := { nv := x.isNan || y.isNan }
/-- Neither operand is a NaN. -/
def fpOrd (x y : Fp) : Bool := !x.isNan && !y.isNan

/-- FADD (R198): Single-precision add. -/
def execFadd (sel : CoreSel) (rd : Reg) (rs1 : Reg) (rs2 : Reg) (s : State) : Host.Outcome State Fault Refusal :=
  runOp s sel (opF (kyEncode (.fadd rd rs1 rs2)) rd (fun c => fpAdd c.rm (Fp.of (c.rd rs1)) (Fp.of (c.rd rs2))))

/-- FSUB (R198): Single-precision subtract. -/
def execFsub (sel : CoreSel) (rd : Reg) (rs1 : Reg) (rs2 : Reg) (s : State) : Host.Outcome State Fault Refusal :=
  runOp s sel (opF (kyEncode (.fsub rd rs1 rs2)) rd (fun c => fpAdd c.rm (Fp.of (c.rd rs1)) (Fp.of (c.rd rs2)).neg))

/-- FMUL (R198): Single-precision multiply. -/
def execFmul (sel : CoreSel) (rd : Reg) (rs1 : Reg) (rs2 : Reg) (s : State) : Host.Outcome State Fault Refusal :=
  runOp s sel (opF (kyEncode (.fmul rd rs1 rs2)) rd (fun c => fpMul c.rm (Fp.of (c.rd rs1)) (Fp.of (c.rd rs2))))

/-- FDIV (R198): Single-precision divide. -/
def execFdiv (sel : CoreSel) (rd : Reg) (rs1 : Reg) (rs2 : Reg) (s : State) : Host.Outcome State Fault Refusal :=
  runOp s sel (opF (kyEncode (.fdiv rd rs1 rs2)) rd (fun c => fpDiv c.rm (Fp.of (c.rd rs1)) (Fp.of (c.rd rs2))))

/-- FSQRT (R198): Single-precision square root. -/
def execFsqrt (sel : CoreSel) (rd : Reg) (rs1 : Reg) (s : State) : Host.Outcome State Fault Refusal :=
  runOp s sel (opF (kyEncode (.fsqrt rd rs1)) rd (fun c => fpSqrt c.rm (Fp.of (c.rd rs1))))

/-- FMIN (R198): Single-precision minimum. -/
def execFmin (sel : CoreSel) (rd : Reg) (rs1 : Reg) (rs2 : Reg) (s : State) : Host.Outcome State Fault Refusal :=
  runOp s sel (opF (kyEncode (.fmin rd rs1 rs2)) rd (fun c => fpMinMax false (c.rd rs1) (c.rd rs2)))

/-- FMAX (R198): Single-precision maximum. -/
def execFmax (sel : CoreSel) (rd : Reg) (rs1 : Reg) (rs2 : Reg) (s : State) : Host.Outcome State Fault Refusal :=
  runOp s sel (opF (kyEncode (.fmax rd rs1 rs2)) rd (fun c => fpMinMax true (c.rd rs1) (c.rd rs2)))

/-- FCVTSW (R198): Signed integer to single. -/
def execFcvtsw (sel : CoreSel) (rd : Reg) (rs1 : Reg) (s : State) : Host.Outcome State Fault Refusal :=
  runOp s sel (opF (kyEncode (.fcvtsw rd rs1)) rd (fun c => fpOfInt c.rm (c.rd rs1).toInt))

/-- FCVTSWU (R198): Unsigned integer to single. -/
def execFcvtswu (sel : CoreSel) (rd : Reg) (rs1 : Reg) (s : State) : Host.Outcome State Fault Refusal :=
  runOp s sel (opF (kyEncode (.fcvtswu rd rs1)) rd (fun c => fpOfInt c.rm (c.rd rs1).toNat))

/-- FCVTWS (R198): Single to signed integer, saturating. -/
def execFcvtws (sel : CoreSel) (rd : Reg) (rs1 : Reg) (s : State) : Host.Outcome State Fault Refusal :=
  runOp s sel (opF (kyEncode (.fcvtws rd rs1)) rd (fun c => fpToRange c.rm (-(2 ^ 31)) (2 ^ 31 - 1) (Fp.of (c.rd rs1))))

/-- FCVTWUS (R198): Single to unsigned integer, saturating. -/
def execFcvtwus (sel : CoreSel) (rd : Reg) (rs1 : Reg) (s : State) : Host.Outcome State Fault Refusal :=
  runOp s sel (opF (kyEncode (.fcvtwus rd rs1)) rd (fun c => fpToRange c.rm 0 (2 ^ 32 - 1) (Fp.of (c.rd rs1))))

/-- FABS (R198): Clears the sign bit. -/
def execFabs (sel : CoreSel) (rd : Reg) (rs1 : Reg) (s : State) : Host.Outcome State Fault Refusal :=
  runOp s sel (opR (kyEncode (.fabs rd rs1)) rd (fun c => c.rd rs1 &&& 0x7FFFFFFF#32))

/-- FNEG (R198): Inverts the sign bit. -/
def execFneg (sel : CoreSel) (rd : Reg) (rs1 : Reg) (s : State) : Host.Outcome State Fault Refusal :=
  runOp s sel (opR (kyEncode (.fneg rd rs1)) rd (fun c => c.rd rs1 ^^^ 0x80000000#32))

/-- FCLASS (R198): Classifies a single-precision value. -/
def execFclass (sel : CoreSel) (rd : Reg) (rs1 : Reg) (s : State) : Host.Outcome State Fault Refusal :=
  runOp s sel (opR (kyEncode (.fclass rd rs1)) rd (fun c => fpClass (c.rd rs1)))

/-- FEQ (R198): Single-precision equality into a condition bit. -/
def execFeq (sel : CoreSel) (cd : CBit) (rs1 : Reg) (rs2 : Reg) (s : State) : Host.Outcome State Fault Refusal :=
  runOp s sel (opFc (kyEncode (.feq cd rs1 rs2)) cd (fun x y => (fpOrd x y && x.eqv y, fpSig x y)) rs1 rs2)

/-- FLT (R198): Single-precision less-than into a condition bit. -/
def execFlt (sel : CoreSel) (cd : CBit) (rs1 : Reg) (rs2 : Reg) (s : State) : Host.Outcome State Fault Refusal :=
  runOp s sel (opFc (kyEncode (.flt cd rs1 rs2)) cd (fun x y => (fpOrd x y && x.lt y, fpAny x y)) rs1 rs2)

/-- FLE (R198): Single-precision less-or-equal into a condition bit. -/
def execFle (sel : CoreSel) (cd : CBit) (rs1 : Reg) (rs2 : Reg) (s : State) : Host.Outcome State Fault Refusal :=
  runOp s sel (opFc (kyEncode (.fle cd rs1 rs2)) cd (fun x y => (fpOrd x y && !y.lt x, fpAny x y)) rs1 rs2)

/-- FUN (R198): Unordered test into a condition bit. -/
def execFun (sel : CoreSel) (cd : CBit) (rs1 : Reg) (rs2 : Reg) (s : State) : Host.Outcome State Fault Refusal :=
  runOp s sel (opFc (kyEncode (.fun cd rs1 rs2)) cd (fun x y => (!fpOrd x y, fpSig x y)) rs1 rs2)


end Sys2Proof.Machine
end

