-- ==== Sys2Proof/Machine/Cop.lean ====
section
/-! DEFINITION. COP2, COP3, COP4, the extension port and undefined words (Tables 7-15 to 7-17, R199 to R202). -/

namespace Sys2Proof.Machine

/-- COP2, COP3 and COP12 to COP15 raise COP with detail 1 on the SUP core (R195). -/
def Cpu.copChk (c : Cpu) : Option Trap := if c.isSup then some { cause := 9, detail := 1 } else none

/-- A coprocessor request that writes k[rd] with its first answer (R199, R200). -/
def opCop (w : Word) (slot func : Nat) (rd rs1 rs2 : Reg) (q : Cpu → Req) : Op :=
  { word := w, chk := Cpu.copChk, req := q,
    fin := fun c a _ => ((c.wr rd (w32 a)).commitCop c.pc slot func (c.rd rs1) (c.rd rs2) rd.toNat).next }

/-- A timer evaluation: acc := q and k[rd] := et (R199). -/
def opTev (w : Word) (func : Nat) (rd rs1 rs2 : Reg) (bad : Bool) (pt : Cpu → Nat) : Op :=
  { word := w, chk := fun c => if bad then some { cause := 1 } else c.copChk,
    req := fun c => .timer (c.rd rs1) (.eval c.acc (pt c)),
    fin := fun c a b => ((({ c with acc := b % 2 == 1 }).wr rd (w32 a)).commitCop c.pc 2 func (c.rd rs1) (c.rd rs2) rd.toNat).next }

/-- COP4 raises COP with detail 4 on a SPLIT core (R135, R201). -/
def opSc (w : Word) (rd : Reg) (f : Cpu → Word) : Op :=
  { word := w, chk := fun c => if c.isSplit then some { cause := 9, detail := 4 } else none, fin := fun c _ _ => c.result rd (f c) }

/-- XQ (R145, R202): the query waits for its response, which EXT_RESPONSE_RECEIVE brings. -/
def opXq (w : Word) (slot : Nat) (rd rs1 rs2 : Reg) (opc : Nat) : Op :=
  { word := w, chk := Cpu.copChk, req := fun c => .query slot opc rd (c.rd rs1) (c.rd rs2) w,
    fin := fun c a _ => ((c.wr rd (w32 a)).commitCop c.pc slot opc (c.rd rs1) (c.rd rs2) rd.toNat).next }

/-- The operation of a waiting query, from its word. -/
def Query.op (q : Query) : Op := opXq q.word q.slot q.rd (fld q.word 15 5) (fld q.word 10 5) q.opc

/-- The cause of a word that is no instruction (R175, R179): ILLEGAL where a field that must be 0 is not or the major opcode is
undefined; COP for a reserved slot or an undefined function. -/
def undefTrap (sup : Bool) (w : Word) : Trap :=
  let op := fnat w 25 7
  if op < 0x70 || fnat w 9 1 ≠ 0 then { cause := 1 }
  else
    let slot := op - 0x70
    if 5 ≤ slot ∧ slot ≤ 11 then { cause := 9, detail := 1 }
    else if (kyDecode (wR op 0 0 0 (fnat w 0 9))).isSome then { cause := 1 }
    else if sup && (slot = 2 || slot = 3) then { cause := 9, detail := 1 }
    else { cause := 9, detail := 3 }

/-- TEV (R199): Evaluates a timer entry with a 32-bit preset. -/
def execTev (sel : CoreSel) (rd : Reg) (rs1 : Reg) (rs2 : Reg) (s : State) : Host.Outcome State Fault Refusal :=
  runOp s sel (opTev (kyEncode (.tev rd rs1 rs2)) 0 rd rs1 rs2 false (fun c => (c.rd rs2).toNat))

/-- TEVX (R199): Evaluates a timer entry with a 40-bit preset. -/
def execTevx (sel : CoreSel) (rd : Reg) (rs1 : Reg) (rs2 : Reg) (s : State) : Host.Outcome State Fault Refusal :=
  runOp s sel (opTev (kyEncode (.tevx rd rs1 rs2)) 1 rd rs1 rs2 (rs2.getLsbD 0) (fun c => c.pt40 rs2))

/-- TETH (R199): Returns the high bits of a timer's elapsed time. -/
def execTeth (sel : CoreSel) (rd : Reg) (rs1 : Reg) (s : State) : Host.Outcome State Fault Refusal :=
  runOp s sel (opCop (kyEncode (.teth rd rs1)) 2 2 rd rs1 0#5 (fun c => .timer (c.rd rs1) .high))

/-- TRST (R199): Resets a timer entry's IN, Q, RUN and SAT. -/
def execTrst (sel : CoreSel) (rs1 : Reg) (s : State) : Host.Outcome State Fault Refusal :=
  runOp s sel (opCop (kyEncode (.trst rs1)) 2 3 0#5 rs1 0#5 (fun c => .timer (c.rd rs1) .reset))

/-- TRDS (R199): Reads word 0 of a timer entry. -/
def execTrds (sel : CoreSel) (rd : Reg) (rs1 : Reg) (s : State) : Host.Outcome State Fault Refusal :=
  runOp s sel (opCop (kyEncode (.trds rd rs1)) 2 4 rd rs1 0#5 (fun c => .timer (c.rd rs1) .word0))

/-- FSTAT (R200): Reads TSK_FORCE_STATUS. -/
def execFstat (sel : CoreSel) (rd : Reg) (s : State) : Host.Outcome State Fault Refusal :=
  runOp s sel (opCop (kyEncode (.fstat rd)) 3 0 rd 0#5 0#5 (fun _ => .fstat))

/-- FQRY (R200): Queries force state of an item. -/
def execFqry (sel : CoreSel) (rd : Reg) (rs1 : Reg) (s : State) : Host.Outcome State Fault Refusal :=
  runOp s sel (opCop (kyEncode (.fqry rd rs1)) 3 1 rd rs1 0#5 (fun c => .fqry (c.rd rs1)))

/-- IREC (R200): Returns the record address of an item. -/
def execIrec (sel : CoreSel) (rd : Reg) (rs1 : Reg) (s : State) : Host.Outcome State Fault Refusal :=
  runOp s sel (opCop (kyEncode (.irec rd rs1)) 3 2 rd rs1 0#5 (fun c => .irec (c.rd rs1)))

/-- IBIT (R200): Returns the bit address of a bit of an item's record. -/
def execIbit (sel : CoreSel) (rd : Reg) (rs1 : Reg) (rs2 : Reg) (s : State) : Host.Outcome State Fault Refusal :=
  runOp s sel (opCop (kyEncode (.ibit rd rs1 rs2)) 3 3 rd rs1 rs2 (fun c => .ibit (c.rd rs1) (c.rd rs2)))

/-- SCB (R201): Advances the safety code over one byte. -/
def execScb (sel : CoreSel) (rd : Reg) (rs1 : Reg) (rs2 : Reg) (s : State) : Host.Outcome State Fault Refusal :=
  runOp s sel (opSc (kyEncode (.scb rd rs1 rs2)) rd (fun c => overBytes scByte (c.rd rs1) (c.rd rs2) 1))

/-- SCH (R201): Advances the safety code over two bytes. -/
def execSch (sel : CoreSel) (rd : Reg) (rs1 : Reg) (rs2 : Reg) (s : State) : Host.Outcome State Fault Refusal :=
  runOp s sel (opSc (kyEncode (.sch rd rs1 rs2)) rd (fun c => overBytes scByte (c.rd rs1) (c.rd rs2) 2))

/-- SCW (R201): Advances the safety code over four bytes. -/
def execScw (sel : CoreSel) (rd : Reg) (rs1 : Reg) (rs2 : Reg) (s : State) : Host.Outcome State Fault Refusal :=
  runOp s sel (opSc (kyEncode (.scw rd rs1 rs2)) rd (fun c => overBytes scByte (c.rd rs1) (c.rd rs2) 4))

/-- XQ (R202): Sends an extension-port query and writes the response. -/
def execXq (sel : CoreSel) (slot : BitVec 2) (rd : Reg) (rs1 : Reg) (rs2 : Reg) (opc : BitVec 8) (s : State) : Host.Outcome State Fault Refusal :=
  runOp s sel (opXq (kyEncode (.xq slot rd rs1 rs2 opc)) (12 + slot.toNat) rd rs1 rs2 opc.toNat)

/-- XP (R202): Issues a held posted extension-port operation. -/
def execXp (sel : CoreSel) (slot : BitVec 2) (rs1 : Reg) (rs2 : Reg) (opc : BitVec 8) (s : State) : Host.Outcome State Fault Refusal :=
  runOp s sel (
    { word := (kyEncode (.xp slot rs1 rs2 opc)), chk := Cpu.copChk, req := fun c => .post (12 + slot.toNat) opc.toNat (c.rd rs1) (c.rd rs2),
      fin := fun c _ _ => (c.commitCop c.pc (12 + slot.toNat) (256 + opc.toNat) (c.rd rs1) (c.rd rs2) 0).next } : Op)

/-- UNDEFINED_WORD (R179): a word that no table of spec/07 defines raises ILLEGAL, or COP in a coprocessor slot (R175). A defined word
is another row's: nothing happens here. -/
def execUndefinedWord (sel : CoreSel) (w : Word) (s : State) : Host.Outcome State Fault Refusal :=
  if (kyDecode w).isSome then .next s
  else runOp s sel ({ word := w, chk := fun c => some (undefTrap c.isSup w), fin := fun c _ _ => c } : Op)

end Sys2Proof.Machine
end

