-- ==== Sys2Proof/Machine/Ext.lean ====
section
/-! DEFINITION. The extension port's events (R176, R465). -/

namespace Sys2Proof.Machine

/-- The answer to target `i`'s query ends its XQ. -/
def Hw.endQuery (h : Hw) (i : Nat) (q : Query) (r : Hw → Hw × Resp) : Hw :=
  let h1 := h.setTgt i { h.tgt i with query := none }
  match (h1.tgt i).task with
  | some t => h1.retireWith i t q.op none (r h1)
  | none => h1

/-- EXT_QUERY_TIMEOUT (R176): target `i`'s query has had no response within TIMEOUT, which counts from the first byte of its request (R465):
COP with detail 7 on both cores. -/
def Hw.queryTimeout (h : Hw) (i : Nat) : Hw :=
  match (h.tgt i).query with
  | none => h
  | some q => if q.started then (h.untilUp q.limit).endQuery i q (fun h => (h, .trap { cause := 9, detail := 7 })) else h

/-- EXT_QUERY_TIMEOUT. -/
def execExtQueryTimeout (i : Fin 8) (s : State) : Host.Outcome State Fault Refusal := onHw s (fun h => h.queryTimeout i.val)

/-- A response frame (Table 17-11): matched by its source, else discarded; a response after the timeout is discarded. The pair
unit passes it on as a foreign read (R300). -/
def Hw.extResponse (h : Hw) (src : Nat) (v : Word) : Hw :=
  match (h.tgt src).query with
  | some q =>
    if q.started && decide (h.clk.up ≤ q.limit) then
      h.endQuery src q (fun h => h.foreignVal (((h.tgt src).task).getD 0) q.slot 0 v.toNat)
    else h
  | none => h

/-- EXT_RESPONSE_RECEIVE. -/
def execExtResponseReceive (src : Fin 8) (v : Word) (s : State) : Host.Outcome State Fault Refusal :=
  onHw s (fun h => h.extResponse src.val v)

/-- A waiting request starts; a query is then outstanding, and its TIMEOUT counts (R465). -/
def Hw.extStart (h : Hw) (x : Nat × Bool × List Byte) : Hw :=
  let h1 := { h with exe := { h.exe with extOut := h.exe.extOut ++ [x.2.2] } }
  if x.2.1 then
    match (h1.tgt x.1).query with
    | some q => h1.setTgt x.1 { h1.tgt x.1 with query := some { q with started := true, limit := h1.extLimit } }
    | none => h1
  else h1

/-- EXT_BUSY falls (R465): the waiting requests start in order of arrival; with `again` EXT_BUSY is high once more after the
first (log 9). -/
def Hw.extBusyLow (h : Hw) (again : Bool) : Hw :=
  let w := h.exe.extWait
  let h1 := { h with exe := { h.exe with extBusy := again, extWait := if again then w.drop 1 else [] } }
  (if again then w.take 1 else w).foldl (fun h x => h.extStart x) h1

/-- EXT_BUSY_LOW. -/
def execExtBusyLow (again : Bool) (s : State) : Host.Outcome State Fault Refusal := onHw s (fun h => h.extBusyLow again)

/-- EXT_RST_N goes high 1 µs after SLOT_EN first became non-zero, outside BOOT and PARKED (R465). -/
def Hw.extRelease (h : Hw) : Hw :=
  if h.fget R.EXE_EXT_CFG_SLOT_EN = 0 ∨ h.mode = .boot ∨ h.mode = .parked then h
  else
    let h1 := h.untilUp (h.exe.extAt + 1000)
    { h1 with exe := { h1.exe with extRst := true } }

/-- EXT_RST_N_RELEASE. -/
def execExtRstNRelease (s : State) : Host.Outcome State Fault Refusal := onHw s Hw.extRelease

end Sys2Proof.Machine
end

