-- ==== Sys2Proof/Machine/Dbg.lean ====
section
/-! DEFINITION. The debugger (R148, R149, R339): attach and detach, halts, steps, breakpoints, reads and writes of the lead, and JTAG. -/

namespace Sys2Proof.Machine

/-- The pair under the debugger, and its lead. -/
def Hw.dbgPair (h : Hw) : Nat := h.fget R.CMP_REPLAY_STATUS_EP
def Hw.dbgLead (h : Hw) : Cpu := h.cpu (2 * h.dbgPair)
def Hw.halted (h : Hw) : Bool := h.fbit (R.CMP_EPn_STATUS_HALTED h.dbgPair)

/-! ## Sessions -/

/-- DBG ends with a refusal of its mode change. -/
def Hw.attachRefused (h : Hw) (d : Desc) : Hw := (h.modeRefused d Mode.debug 2).actSet .dbg false

/-- DBG_ATTACH once admitted: DEBUG is entered, from RUN with the epoch in force, from STOP with a new one (R65, R62). -/
def Hw.startAttach (h : Hw) (d : Desc) : Hw :=
  if !h.startable then h.attachRefused d
  else match (h.notIn Mode.debug).filter (fun a => a != .dbg) with
    | a :: _ => (h.modeBusy d Mode.debug a).actSet .dbg false
    | [] =>
      match h.startRefusal .debug with
      | some (c, p0, p1) => ((h.raise c p0 p1).complete d stMode true (detail := h.mode.code) (event := c)).actSet .dbg false
      | none =>
        let h1 := if h.mode = Mode.stop then h.enterWithEpoch Mode.debug 0x24 else h.setMode Mode.debug 0x24
        let h2 := ({ h1 with exe := { h1.exe with dbgSrc := some d.src, replay := [], breaks := [], stepping := false } }).fset R.CMP_REPLAY_STATUS_EP d.p0
        h2.complete d stOk true (event := 0x0030)

def Hw.cmdAttach (h : Hw) (d : Desc) : Hw :=
  if 3 < d.p0 then h.complete d stValue
  else let r := h.request d .dbg; if r.2 then r.1.startAttach d else r.1

/-- DBG_ATTACH. -/
def execDbgAttach (d : Desc) (s : State) : Host.Outcome State Fault Refusal := onHw s (fun h => h.hostCmd d 0x0901 Hw.cmdAttach)

/-- A debug command of an attached debugger: in DEBUG, from the source that attached (R339). -/
def Hw.attached (h : Hw) (d : Desc) (f : Hw → Hw) : Hw :=
  if h.mode = Mode.debug ∧ (h.exe.dbgSrc.map Src.code) = some d.src.code then f h else h.complete d stMode (detail := h.mode.code)

/-- The same, for what the debugger may do only while the lead is halted (R148). -/
def Hw.whileHalted (h : Hw) (d : Desc) (f : Hw → Hw) : Hw :=
  h.attached d (fun h => if h.halted then f h else h.complete d stMode (detail := h.mode.code))

/-- DBG_DETACH returns to STOP (Table 2-3). -/
def Hw.cmdDetach (h : Hw) (d : Desc) : Hw := h.attached d (fun h => (h.enterStop 0x24).complete d stOk true (event := 0x0030))

/-- DBG_DETACH. -/
def execDbgDetach (d : Desc) (s : State) : Host.Outcome State Fault Refusal := onHw s (fun h => h.hostCmd d 0x0902 Hw.cmdDetach)

/-! ## Halts -/

/-- A halt request on pair `p` (R148): the boundary closes the window; an idle pair is halted at once; where an instruction waits for a
query or a task's end is compared, the next boundary halts. -/
def Hw.haltNow (h : Hw) (p : Nat) : Hw :=
  let i := 2 * p
  let g := h.tgt i
  match g.task with
  | none => h.dbgHalted p
  | some t =>
    if g.query.isSome then { h with exe := { h.exe with stepping := true } }
    else match g.closing with
      | none => h.retire i t 0 (some .halt)
      | some .length => if g.rest = ([], []) then h.setTgt i { g with closing := some .halt } else { h with exe := { h.exe with stepping := true } }
      | some _ => { h with exe := { h.exe with stepping := true } }

/-- DBG_HALT completes when the lead is seen as halted, with its pc and commit count. -/
def Hw.cmdHalt (h : Hw) (d : Desc) : Hw :=
  h.attached d (fun h =>
    if h.halted then h.complete d stOk true h.dbgLead.pc.toNat h.dbgLead.commits else (h.runCmd d).haltNow h.dbgPair)

/-- DBG_HALT. -/
def execDbgHalt (d : Desc) (s : State) : Host.Outcome State Fault Refusal := onHw s (fun h => h.hostCmd d 0x0903 Hw.cmdHalt)

/-! ## The replay queue -/

/-- DEPTH and FULL. -/
def Hw.replayDepth (h : Hw) : Hw :=
  (h.fset R.CMP_REPLAY_STATUS_DEPTH h.exe.replay.length).fset R.CMP_REPLAY_STATUS_FULL (b2n (h.exe.replay.length == 64))

/-- An action's effect on a core (Table 5-6); memory writes are performed once, on the memory. -/
def Cpu.dbgAct (c : Cpu) (x : Replay) : Cpu :=
  match x.action with
  | 0 => c.wr (BitVec.ofNat 5 x.reg) (w32 x.value)
  | 1 => { c with c := BitVec.ofNat 8 x.value, acc := x.value.testBit 8 }
  | 2 => c.setCr x.reg (w32 x.value)
  | 3 => { c with pc := w32 x.value }
  | _ => c

/-- The bytes that a data memory write enables, in data SRAM and both data caches, journalled as R139 has it: where a task runs, outside
the exchange areas (R148). -/
def Hw.dbgStore (h : Hw) (x : Replay) : Hw :=
  let i := 2 * h.dbgPair
  let a := x.addr - dataBase + 0x10000000
  let h0 := match (h.tgt i).task with
    | some t => if (exchOf h.prog.exch a).isSome then h else h.journal i t 0 ((x.addr - dataBase) / 8)
    | none => h
  let c := h0.cache (i + 1)
  let h1 := (h0.inval (some h.dbgPair) a 4).setCache (i + 1)
    { c with own := c.own.filter (fun p => !(decide (a ≤ p.1) && decide (p.1 < a + 4) && x.be.testBit (p.1 - a))) }
  (List.range 4).foldl (fun h j => if x.be.testBit j then h.setMb (x.addr + j) (byteOf (w32 x.value) j) else h) h1

/-- An action's entry enters the queue with the pair and the commit count of the halt. -/
def Hw.replayPush (h : Hw) (x : Replay) : Hw :=
  ({ h with exe := { h.exe with replay := h.exe.replay ++ [{ x with ep := h.dbgPair, commit := h.dbgLead.commits % 2 ^ 32 }] } }).replayDepth

/-- An action takes effect on the lead at once and enters the queue. -/
def Hw.dbgDo (h : Hw) (x : Replay) : Hw :=
  (if x.action = 4 then h.dbgStore x else h.setCpu (2 * h.dbgPair) (h.dbgLead.dbgAct x)).replayPush x

/-- The step (`5`) or the resume (`6`) enters the queue as its last entry, the shadow applies the queued actions in order, and both cores go
on (log 121); ACTIONS counts what has been replayed. -/
def Hw.replayAll (h0 : Hw) (action : Nat) : Hw :=
  let h := h0.replayPush { action := action, ep := 0, commit := 0 }
  let p := h.dbgPair
  let q := h.exe.replay
  let h1 := if h.split p then h else h.setCpu (2 * p + 1) (q.foldl Cpu.dbgAct (h.cpu (2 * p + 1)))
  let h2 := ({ h1 with exe := { h1.exe with replay := [] } }).replayDepth
  (h2.fset R.CMP_REPLAY_STATUS_ACTIONS (min 65535 (h2.fget R.CMP_REPLAY_STATUS_ACTIONS + q.length))).fset (R.CMP_EPn_STATUS_HALTED p) 0

/-- A resume also lets the other pairs go on that a BRK has halted (R162, log 121). -/
def Hw.resumeOthers (h : Hw) : Hw := (List.range 4).foldl (fun h p => h.fset (R.CMP_EPn_STATUS_HALTED p) 0) h

/-- DBG_RESUME. -/
def Hw.cmdResume (h : Hw) (d : Desc) : Hw := h.whileHalted d (fun h => (h.replayAll 6).resumeOthers.complete d stOk true)

/-- DBG_RESUME (R148). -/
def execDbgResume (d : Desc) (s : State) : Host.Outcome State Fault Refusal := onHw s (fun h => h.hostCmd d 0x0904 Hw.cmdResume)

/-- DBG_STEP: the queued actions and one instruction on both cores, then a halt; an action beyond the 64th is refused (R149). -/
def Hw.cmdStep (h : Hw) (d : Desc) : Hw :=
  h.whileHalted d (fun h =>
    if 64 ≤ h.exe.replay.length then h.complete d stBusy
    else let h1 := (h.runCmd d).replayAll 5; { h1 with exe := { h1.exe with stepping := true } })

/-- DBG_STEP (R148). -/
def execDbgStep (d : Desc) (s : State) : Host.Outcome State Fault Refusal := onHw s (fun h => h.hostCmd d 0x0905 Hw.cmdStep)

/-! ## Breakpoints -/

/-- DBG_BREAK: FULL beyond 16 breakpoints. -/
def Hw.cmdBreak (h : Hw) (d : Desc) : Hw :=
  h.attached d (fun h =>
    if 1 < d.p1 || d.p0 % 4 != 0 || 0x01000000 ≤ d.p0 then h.complete d stValue
    else if d.p1 = 0 then ({ h with exe := { h.exe with breaks := h.exe.breaks.filter (fun a => a != d.p0) } }).complete d stOk true
    else if h.exe.breaks.contains d.p0 then h.complete d stOk true
    else if 16 ≤ h.exe.breaks.length then h.complete d stFull
    else ({ h with exe := { h.exe with breaks := h.exe.breaks ++ [d.p0] } }).complete d stOk true)

/-- DBG_BREAK (R339). -/
def execDbgBreak (d : Desc) (s : State) : Host.Outcome State Fault Refusal := onHw s (fun h => h.hostCmd d 0x0906 Hw.cmdBreak)

/-! ## Reads and writes -/

/-- `n` bytes of the supervisor view without the effects of a firmware read (registers as they show). -/
def Hw.peek (h : Hw) (a n : Nat) : List Byte :=
  (List.range n).map (fun i =>
    let b := a + i
    if 0x40000000 ≤ b && b < 0x400C0000 then byteOf (h.readVal (b / 4 * 4)) (b % 4) else if supReadable b 1 then h.mb b else 0#8)

/-- What DBG_READ returns, or none for a number or an address that it may not read (R149, R372). -/
def Hw.dbgValue (h : Hw) (d : Desc) : Option (List Byte) :=
  let c := h.dbgLead
  match d.p0 with
  | 0 => if d.p1 < 32 then some (leBytes d.p2 (c.rd (BitVec.ofNat 5 d.p1)).toNat) else none
  | 1 => (c.cr d.p1).map (fun v => leBytes d.p2 v.toNat)
  | 2 => some (leBytes d.p2 c.flags)
  | 3 => if barredRange d.p1 d.p2 then none else some (h.peek d.p1 d.p2)
  | _ => none

/-- DBG_READ: P2 bytes of the halted lead's register, control register, condition word, or of memory. -/
def Hw.cmdDbgRead (h : Hw) (d : Desc) : Hw :=
  h.whileHalted d (fun h =>
    if !d.room d.p2 then h.complete d stValue
    else match h.dbgValue d with
      | some bs => h.complete d stOk (out := bs)
      | none => h.complete d stValue)

/-- DBG_READ. -/
def execDbgRead (d : Desc) (s : State) : Host.Outcome State Fault Refusal := onHw s (fun h => h.hostCmd d 0x0907 Hw.cmdDbgRead)

/-- The action of a debug write, or none where it names no register or no word of data SRAM (R149). -/
def Hw.dbgAction (h : Hw) (kind num v be : Nat) : Option Replay :=
  match kind with
  | 0 => if num < 32 then some { action := 0, reg := num, ep := 0, commit := 0, value := v % 2 ^ 32 } else none
  | 1 => if decide (num ∈ [1, 5, 7, 10, 12, 13, 16]) && (h.dbgLead.cr num).isSome then
      some { action := 2, reg := num, ep := 0, commit := 0, value := v % 2 ^ 32 } else none
  | 2 => some { action := 1, ep := 0, commit := 0, value := v % 2 ^ 32 }
  | 3 => if within (dataBase, 0x800000) num 4 && num % 4 == 0 then
      some { action := 4, be := be % 16, ep := 0, commit := 0, value := v % 2 ^ 32, addr := num } else none
  | 4 => some { action := 3, ep := 0, commit := 0, value := v % 2 ^ 32 }
  | _ => none

/-- DBG_WRITE: BUSY for the 65th action, VALUE for the shadow or code SRAM (R149). -/
def Hw.cmdDbgWrite (h : Hw) (d : Desc) : Hw :=
  h.whileHalted d (fun h =>
    match h.dbgAction d.p0 d.p1 d.addr d.p2 with
    | none => h.complete d stValue
    | some x => if 64 ≤ h.exe.replay.length then h.complete d stBusy else (h.dbgDo x).complete d stOk true)

/-- DBG_WRITE (R149). -/
def execDbgWrite (d : Desc) (s : State) : Host.Outcome State Fault Refusal := onHw s (fun h => h.hostCmd d 0x0908 Hw.cmdDbgWrite)

/-- Whether the TAP is open (Table 2-2, R428). -/
def Hw.tapOpen (h : Hw) (o : Otp) : Bool := decide (h.mode ∈ [Mode.provision, Mode.debug, Mode.service]) && !o.jtagOff

/-- JTAG_ACCESS (R148, R428): a JTAG write to the halted lead in DEBUG goes through the same queue. In PROVISION and SERVICE the port is
open too, but no pair is halted under a debugger and the spec gives an access no effect on the block (log 101). -/
def execJtagAccess (kind num : Nat) (v : Word) (be : BitVec 4) (s : State) : Host.Outcome State Fault Refusal :=
  onHwO s (fun o h =>
    if h.tapOpen o = true ∧ h.mode = Mode.debug ∧ h.halted = true ∧ h.exe.replay.length < 64 then
      match h.dbgAction kind num v.toNat be.toNat with
      | some x => h.dbgDo x
      | none => h
    else h)

end Sys2Proof.Machine
end

