-- ==== Sys2Proof/Machine/SupIrq.lean ====
section
/-! DEFINITION. The SUP core's interrupt (R167). -/

namespace Sys2Proof.Machine

/-- Whether the SUP core takes a block interrupt: it runs, IE is 1, an enabled block requests one. -/
def Hw.irqTaken (h : Hw) : Bool :=
  let c := h.exe.sup
  h.exe.supRunning && c.psr.getLsbD 2 && ((c.ipend &&& c.imask) != 0#32)

/-- SUP_IRQ: the blocks in `req` request an interrupt (IPEND), and at this instruction boundary the SUP core enters slot 16 where one is
enabled and IE is 1, in a handler too: only an exception restarts the core (R167). No instruction excepts, so the word that EINSN takes is open (log 3). -/
def Hw.supIrq (h : Hw) (req : BitVec 12) : Hw :=
  let h1 := { h with exe := { h.exe with sup := { h.exe.sup with ipend := req.setWidth 32 } } }
  if h1.irqTaken then
    { (h1.bump) with exe := { h1.exe with sup := h1.exe.sup.trapIn { cause := 16 } ((Config.freeValue h.free).setWidth 32) false } }
  else h1

/-- SUP_IRQ. -/
def execSupIrq (req : BitVec 12) (s : State) : Host.Outcome State Fault Refusal := onHw s (fun h => h.supIrq req)

end Sys2Proof.Machine
end

