-- ==== Sys2Proof/Machine/Inj.lean ====
section
/-! DEFINITION. Fault injection (R444 to R446, R472 and each block's table of points): arming and acting. -/

namespace Sys2Proof.Machine

/-- The injection event of block `n`. -/
def injEvent (n : Nat) : Nat :=
  match n with
  | 0 => 0x0110
  | 2 => 0x2020
  | 4 => 0x4020
  | 5 => 0x5040
  | 10 => 0xA010
  | 11 => 0xB010
  | n => n * 0x1000 + 0x20

/-- The local argument of a point: its place in INJ_CTRL and how many values it has; none for a point without one. The argument of a
CMP point is the pair, with the marigold bit × 4 for points 0x201 and 0x202. -/
def injArg (p : Nat) : Option (Nat × Nat) :=
  if p ∈ [0x003, 0x004] then some (4, 12)
  else if p ∈ [0x201, 0x202] then some (4, 256)
  else if p / 256 = 2 then some (4, 4)
  else if p ∈ [0x405, 0x406, 0x407, 0x409, 0x40A, 0x40B, 0x40C] then some (4, 48)
  else if p / 256 = 4 then some (10, 6)
  else if p ∈ [0x501, 0x502] then some (4, 512)
  else if p = 0x503 then some (13, 2)
  else if p / 256 = 7 then some (4, 8)
  else if p ∈ [0xB01, 0xB02] then some (4, 32)
  else none

/-- The word that INJ_ARM puts into INJ_CTRL: POINT, the argument, ARM; DONE 0. -/
def injWord (p arg : Nat) : Nat := p % 16 + arg * 2 ^ ((injArg p).getD (0, 0)).1 + 65536

/-! ## INJ_ARM -/

/-- Whether P1 holds an argument that the point takes. -/
def injArgOk (p arg : Nat) : Bool :=
  match injArg p with
  | some (_, n) => decide (arg < n)
  | none => true

/-- INJ_ARM (R339, R444): VALUE for a point not in Table 16-11 or an argument out of range, MODE outside the point's modes, BUSY
while a point of the block is armed. -/
def Hw.cmdInjArm (h : Hw) (d : Desc) : Hw :=
  if (injModes d.p0).isEmpty || !injArgOk d.p0 d.p1 then h.complete d stValue
  else if h.mode ∉ injModes d.p0 then h.complete d stMode (detail := h.mode.code)
  else if (h.armed (d.p0 / 256)).isSome then h.complete d stBusy
  else match injReg (d.p0 / 256) with
    | some a => (h.runCmd d).setReg a (w32 (injWord d.p0 (if (injArg d.p0).isSome then d.p1 else 0)))
    | none => h.complete d stValue

/-- INJ_ARM. -/
def execInjArm (d : Desc) (s : State) : Host.Outcome State Fault Refusal := onHw s (fun h => h.hostCmd d 0x0A03 Hw.cmdInjArm)

/-! ## What each point does -/

/-- The SUP points (Table 16-10). -/
def Hw.injSupDo (h : Hw) (l dom : Nat) : Option Hw :=
  match l with
  | 1 => let h1 := h.droop; some { h1 with sup := { h1.sup with railLow := h.clk.up + 5000 } }
  | 2 => some { h with sup := { h.sup with injDroop := true } }
  | 3 => some { h with sup := { h.sup with injClk := (dom, 1) } }
  | 4 => some { h with sup := { h.sup with injClk := (dom, 2) } }
  | 5 => some { h with sup := { h.sup with injSig := true } }
  | 6 => some { h with sup := { h.sup with injMon := 2 } }
  | _ => none

/-- The CMP points (Table 5-7). Point 0x207 feeds the comparator and the gap checker two cases each, outside any task: the first that is
answered wrongly raises 0x2006 and, outside SERVICE, SAFE with cause 0x30. Points 0x201 to 0x206 act by themselves at the occasion that they
name (Hw.cmpAct), never here. -/
def Hw.injCmpDo (h : Hw) (l p : Nat) : Option Hw :=
  if l ≠ 7 then none
  else match h.exe.cmpBad.find? (fun x => x.1 == p) with
    | none => some h
    | some (_, k) => let h1 := h.raise 0x2006 p k; some (if h1.mode = .service then h1 else h1.safe 0x30 0)

/-- A reading of kind `k` on channel `c` for `ms`. -/
def Hw.injCh (h : Hw) (c k ms : Nat) : Hw := h.setFch c { h.fch c with inj := some (k, h.clk.up + ms * 1000000) }

/-- Point 0x406: a DO channel that is on reports limiting for LIM_MS. -/
def Hw.injLimit (h : Hw) (c : Nat) : Option Hw :=
  let x := h.fch c
  if x.mode = 2 ∧ x.on = true then
    some (h.setFch c { x with limiting := true, limAt := h.clk.up, inj := some (7, h.clk.up + max 1 (bitsOf (x.cfg 3) 8 8) * 1000000 + 1) })
  else none

/-- The FLD points of a group (Table 8-15). -/
def Hw.injGrpDo (h : Hw) (l g : Nat) : Option Hw :=
  match l with
  | 1 => some (h.setLnk g { h.lnk g with injCrc := 1 })
  | 2 => some (h.setLnk g { h.lnk g with injSupp := 3, injDown := true })
  | 3 => some (h.setFs g { h.fs g with inj := some (0, h.clk.up + 1000000) })
  | 4 => some (h.setFs g { h.fs g with inj := some (1, h.clk.up + 1000000) })
  | 8 => some (h.setLnk g { h.lnk g with injEcho := true })
  | _ => none

/-- The FLD points of a channel (Tables 8-15 and 9-7); 0x40C waits until C is at least 1.1 mA. -/
def Hw.injChDo (h : Hw) (l c : Nat) : Option Hw :=
  match l with
  | 5 => some (h.injCh c 4 20)
  | 6 => h.injLimit c
  | 7 => some (h.thermal c 150)
  | 9 => some (h.injCh c 2 50)
  | 10 => some (h.injCh c 3 50)
  | 11 => some ((h.limEngage c (h.fch c).conv).injCh c 6 150)
  | 12 => if 1100000 ≤ (h.fch c).cNow then some (h.injCh c 5 5) else none
  | _ => none

/-- The NET points (Table 10-5). -/
def Hw.injNetDo (h : Hw) (l s : Nat) (port : Bool) : Option Hw :=
  match l with
  | 1 => some (h.setSess s { h.sess s with dropUntil := h.clk.up + ((h.sess s).timeoutMs + 1) * 1000000 })
  | 2 => some (h.setSess s { h.sess s with badCrc := true })
  | 3 => let h1 := h.portDown port; some { h1 with net := { h1.net with injPort := some (port, h.clk.up + 100000000) } }
  | 4 => some ((h.servo 200000).ptpState 200000)
  | _ => none

/-- The PAIR points (Table 11-10). -/
def Hw.injPairDo (h : Hw) (l : Nat) : Option Hw :=
  match l with
  | 1 => some { h with pair := { h.pair with injA := 4 } }
  | 2 => some { h with pair := { h.pair with injB := 4 } }
  | 3 => some { h with pair := { h.pair with injCrc := true } }
  | 4 => some (h.liveGlitch)
  | _ => none

/-- The HIF points (Table 12-11). -/
def Hw.injHifDo (h : Hw) (l r : Nat) : Option Hw :=
  match l with
  | 1 => some { h with hif := { h.hif with injBuf := some r } }
  | 2 => some { h with hif := { h.hif with injPoll := some r } }
  | 3 => some { h with hif := { h.hif with injHold := some r } }
  | _ => none

/-- The NVS points (Table 13-9); 0x803 cuts the write of the scratch page, which is then not committed (R363). -/
def Hw.injNvsDo (h : Hw) (l : Nat) : Option Hw :=
  match l with
  | 1 => some { h with nvs := { h.nvs with scrubRef := true } }
  | 2 => some { h with nvs := { h.nvs with injRead := true } }
  | 3 => some (h.tornPage (pageOf 0x50640000))
  | 4 => let h1 := (h.supply h.nvs.vin 190).holdWatch; some { h1 with nvs := { h1.nvs with holdInj := some (h.clk.up + 100000000) } }
  | 5 => some { h with nvs := { h.nvs with norFail := true } }
  | _ => none

/-- The EVR points (Table 14-7); 0x903 acts on a running freeze. -/
def Hw.injEvrDo (h : Hw) (l : Nat) : Option Hw :=
  match l with
  | 1 => some { h with evr := { h.evr with injFull := true } }
  | 2 => some { h with evr := { h.evr with injCrc := true } }
  | 3 => if h.evr.frozen.isSome then some { h with evr := { h.evr with injHeld := true } } else none
  | _ => none

/-- The CAL points (Table 15-6). -/
def Hw.injCalDo (h : Hw) (l : Nat) : Option Hw :=
  match l with
  | 1 => some h.bkTrip
  | 2 => some { h with cal := { h.cal with injTemp := true } }
  | _ => none

/-- The WDG points (Table 15-6); 0xB01 needs an entry that counts. -/
def Hw.injWdgDo (h : Hw) (l t : Nat) : Option Hw :=
  match l with
  | 1 => if h.wdgOn && h.wdgEn t && (h.wdg.opens.any (fun p => p.1 == t)) then some (h.wdTrapNow 1 t (h.fget (R.WDG_Tn_MAX_MAX t)) false) else none
  | 2 => some { h with wdg := { h.wdg with injTwice := some t } }
  | 3 => some { h with wdg := { h.wdg with injSup := true } }
  | _ => none

/-- Point `p` with the argument that INJ_CTRL word `w` holds; none where its occasion has not come. -/
def Hw.injDo (h : Hw) (p w : Nat) : Option Hw :=
  let l := p % 256
  match p / 256 with
  | 0 => h.injSupDo l (bitsOf w 4 6)
  | 2 => h.injCmpDo l (bitsOf w 4 2)
  | 4 => if l ∈ [5, 6, 7, 9, 10, 11, 12] then h.injChDo l (bitsOf w 4 6) else h.injGrpDo l (bitsOf w 10 3)
  | 5 => h.injNetDo l (bitsOf w 4 9) (w.testBit 13)
  | 6 => h.injPairDo l
  | 7 => h.injHifDo l (bitsOf w 4 3)
  | 8 => h.injNvsDo l
  | 9 => h.injEvrDo l
  | 10 => h.injCalDo l
  | 11 => h.injWdgDo l (bitsOf w 4 5)
  | _ => none

/-- The second parameter of the injection event: DOMAIN, pair, channel or group, session or port, ring, task; 0 where the event has
none. -/
def injP1 (p w : Nat) : Nat :=
  match p / 256 with
  | 0 => bitsOf w 4 6
  | 2 => bitsOf w 4 2
  | 4 => if p % 256 ∈ [5, 6, 7, 9, 10, 11, 12] then bitsOf w 4 6 else bitsOf w 10 3
  | 5 => if p = 0x503 then bitsOf w 13 1 else bitsOf w 4 9
  | 7 => bitsOf w 4 3
  | 11 => bitsOf w 4 5
  | _ => 0

/-- The record of an injection that acts: the block's injection event, with INJECTED itself. Point 0x207 acts outside any task, so the task
that 0x2020 names is open (log 40). -/
def Hw.injRecord (h : Hw) (p w : Nat) : Hw :=
  if p / 256 = 2 then (h.bump).asInj true (fun h' => h'.raise 0x2020 p (injP1 p w) ((Config.freeValue h.free).toNat % 32))
  else h.asInj true (fun h' => h'.raise (injEvent (p / 256)) p (injP1 p w))

/-! ## INJECTION_ACT -/

/-- The armed point of block `n` acts: its event, ARM 0 and DONE 1, the INJ_ARM command done with the event code, its effect. -/
def Hw.injAct (h : Hw) (n : Nat) : Hw :=
  match h.armed n, injReg n with
  | some p, some a =>
    let w := (h.reg a).toNat
    let h1 := ((h.injRecord p w).fset ⟨a, 16, 1⟩ 0).fset ⟨a, 17, 1⟩ 1
    let h2 := h1.injDone p stOk 0 (injEvent n)
    (match ({ h2 with evr := { h2.evr with injecting := true } }).injDo p w with
    | some h3 => { h3 with evr := { h3.evr with injecting := h.evr.injecting } }
    | none => h)
  | _, _ => h

/-- INJECTION_ACT: the armed point of a block acts at its occasion (R446); a CMP point whose occasion is a step of a task has acted there. -/
def execInjectionAct (n : Fin 12) (s : State) : Host.Outcome State Fault Refusal := onHw s (fun h => h.injAct n.val)

end Sys2Proof.Machine
end

