-- ==== Sys2Proof/Machine/Attest.lean ====
section
/-! DEFINITION. The attestation report (R442, Table 16-8) and key provisioning (R425). -/

namespace Sys2Proof.Machine

/-! ## ATTEST -/

/-- `n` bytes given by their index. -/
def bytesOf (n : Nat) (f : Nat → Byte) : List Byte := (List.range n).map f

/-- h (R429) of the running firmware image; zeros without one (R423). -/
def Hw.fwH (h : Hw) : Nat := match h.bootedFw with
  | some f => if h.sup.romOnly then 0 else f.hdr.h
  | none => 0

/-- Bytes 0 to 127 of the report. -/
def Hw.reportHead (h : Hw) (o : Otp) (nonce : List Byte) : List Byte :=
  leBytes 4 0x00010480 ++ leBytes 4 9026 ++ nonce ++ leBytes 8 o.serial ++ leBytes 4 (h.reg R.SUP_FAMILY_ID).toNat ++ o.bs 0x14 4 ++
    leBytes 4 (o.keyRevoke + h.fget R.SUP_BOOT_STATUS_FW_SLOT * 2 ^ 16 + h.fget R.SUP_BOOT_STATUS_PROG_SLOT * 2 ^ 17) ++
    leBytes 4 (h.reg R.SUP_MODE_STATUS).toNat ++ bytesOf 64 (Config.shake256 (o.bs 0x100 1024))

/-- Bytes 128 to 455: hashes, layout, configuration, usage, time. -/
def Hw.reportBody (h : Hw) : List Byte :=
  let p := h.fbit R.SUP_MODE_STATUS_PROG_VALID
  leBytes 64 h.fwH ++ leBytes 64 (if p then h.prog.hdr.h else 0) ++ leBytes 8 (if p then h.prog.layout else 0) ++
    leBytes 4 (h.reg R.SUP_CFG_SEQ).toNat ++ leBytes 4 (h.sup.usage.getD 0 0) ++ leBytes 64 h.sup.cfgH.1 ++ leBytes 64 h.sup.cfgH.2 ++
    leBytes 8 h.clk.tb ++ leBytes 4 (h.reg R.CAL_DATE).toNat ++ leBytes 4 (h.reg R.CAL_TIME).toNat ++ leBytes 4 (h.reg R.CAL_STATUS).toNat ++
    bytesOf 32 (Config.shake256 (bytesOf 1952 Config.devicePub)) ++ leBytes 4 0

/-- The ASCII bytes "AEATTEST". -/
def tagAttest : List Byte := [0x41#8, 0x45#8, 0x41#8, 0x54#8, 0x54#8, 0x45#8, 0x53#8, 0x54#8]

/-- The whole report, signed with the device key over the tag and 64 bytes of SHAKE256 of bytes 0 to 455. -/
def Hw.report (h : Hw) (o : Otp) (nonce : List Byte) : List Byte :=
  let b := h.reportHead o nonce ++ h.reportBody
  b ++ bytesOf 3309 (Config.deviceSign (tagAttest ++ bytesOf 64 (Config.shake256 b)) h.free) ++ bytesOf 1952 Config.devicePub ++
    bytesOf 3309 (Config.endorsement o.serial)

/-- ATTEST: VALUE for a buffer below 9,026 bytes; 0x010D with bytes 8 to 11 of the nonce. -/
def Hw.cmdAttest (h : Hw) (o : Otp) (d : Desc) : Hw :=
  if !d.room 9026 then h.complete d stValue
  else
    let nonce := sliceZ d.data 0 32
    let h1 := (h.capture.bump).raise 0x010D (leNat (sliceZ nonce 8 4))
    h1.complete d stOk false 9026 (event := 0x010D) (out := { h1 with free := h.free }.report o nonce)

/-- ATTEST (R442). -/
def execAttest (d : Desc) (s : State) : Host.Outcome State Fault Refusal := onHwO s (fun o h => h.hostCmd d 0x0B01 (fun h d => h.cmdAttest o d))

/-! ## PROV_KEY -/

/-- PERM and the signer's slot as the buffer holds them: key, PERM, signer slot (4 bytes each), signature. -/
def Desc.provPerm (d : Desc) : Nat := leNat (sliceZ d.data 1952 4)
def Desc.provSigner (d : Desc) : Nat := leNat (sliceZ d.data 1956 4)

/-- Whether this PROV_KEY needs no signature: slot 0 while no slot is written (R425). -/
def Otp.firstKey (o : Otp) (s : Nat) : Bool := s == 0 && !(List.range 16).any o.written

/-- Whether the buffer is one that the command takes: its length, PERM's reserved bits, KEYADMIN in the first key. -/
def provBufOk (o : Otp) (d : Desc) : Bool :=
  decide (d.provPerm < 16) && (if o.firstKey d.p0 then decide (1956 ≤ d.len) && d.provPerm.testBit 3 else decide (5269 ≤ d.len))

/-- The checks of PROV_KEY in order; none where the key is programmed. `aux` carries bit 0 whether the signature verifies, above it the
key's digest (log 10). -/
def Hw.provRefusal (h : Hw) (o : Otp) (d : Desc) : Option Nat :=
  if 15 < d.p0 then some stValue
  else if h.mode ≠ .provision then some stMode
  else if o.written d.p0 || !provBufOk o d then some stValue
  else if !o.firstKey d.p0 && !(o.usable d.provSigner 3 && (h.msgCheck (d.aux % 2 == 1)).2) then some stAuth
  else if h.fbit R.NVS_STATUS_ARMED = false then some stBusy
  else none

/-- PROV_KEY: the slot is programmed, WRITTEN last; 0x010A. -/
def provKey (h : Hw) (o : Otp) (d : Desc) : Hw × Otp :=
  match h.provRefusal o d with
  | some st =>
    let h1 := if o.usable d.provSigner 3 && (st == stAuth) then (h.msgCheck true).1 else h
    (h1.complete d st (detail := if st = stMode then h.mode.code else 0), o)
  | none =>
    let r := keyAddTo h o d.p0 d.provPerm (d.aux / 2)
    (r.1.complete d stOk true (event := 0x010A), r.2)

/-- A host command that may program the OTP store: `hostCmd` with the command's own effect on both. -/
def hostCmdO (s : State) (d : Desc) (op : Nat) (f : Hw → Otp → Desc → Hw × Otp) : Host.Outcome State Fault Refusal :=
  .next { s with hw := s.hw.hostCmd d op (fun h d => (f h s.otp d).1),
                 otp := if s.hw.admitted d op then (f (s.hw.dequeue d) s.otp { d with op := op }).2 else s.otp }

/-- PROV_KEY (R425). -/
def execProvKey (d : Desc) (s : State) : Host.Outcome State Fault Refusal := hostCmdO s d 0x0B02 provKey

end Sys2Proof.Machine
end

