-- ==== Sys2Proof/Machine/Deferred.lean ====
section
/-! DEFINITION. Deferred requests: their start when nothing running blocks them any more, and their expiry (R61). -/

namespace Sys2Proof.Machine

/-- What an admitted request does, by its opcode: the same meaning that follows an admission at once. -/
def Hw.startAdmitted (h : Hw) (o : Otp) (d : Desc) : Hw :=
  match d.op with
  | 0x0004 => h.startRegWrite d
  | 0x0201 => (h.progStart d).pieceIn d (fun h d => h.progLast o d)
  | 0x0202 => h.startStrike d
  | 0x0301 => h.startForceSet d
  | 0x0302 => h.startForceClear d
  | 0x0303 => h.startClearAll d
  | 0x0401 => h.startStage o d
  | 0x0501 => h.startFreeze d
  | 0x0504 => h.startRecClear o d
  | 0x0604 => h.startScrub d
  | 0x0605 => if d.p0 = 0 then h.startEraseArchive d else h.startEraseSlot d
  | 0x0606 => if d.src = .own then h.fwuGo (h.fwuOk o) else (h.fwStart).pieceIn d (fun h d => h.fwLast o d)
  | 0x0701 => if d.src = .own then h.calFromTb d.p2 else h.startCalSet d
  | 0x0801 => h.pieceIn d (fun h d => h.cfgLast o d)
  | 0x0803 => h.startCfgChoose d
  | 0x0901 => h.startAttach d
  | 0x0A01 => h.startCht d
  | _ => h

/-- Whether the activities that run now give a deferred request neither D nor B. -/
def Hw.freeNow (h : Hw) (x : Deferred) : Bool := (h.admLookup x.act x.d).1.weight == 0

/-- The first deferred request that is free, in the order they were made, starts. -/
def Hw.deferredStart (h : Hw) (o : Otp) : Hw :=
  match h.hif.deferred.find? h.freeNow with
  | none => h
  | some x =>
    let h1 := ({ h with hif := { h.hif with deferred := h.hif.deferred.erase x } }).admCount
    (h1.actSet x.act true).startAdmitted o x.d

/-- DEFERRED_REQUEST_START. -/
def execDeferredRequestStart (s : State) : Host.Outcome State Fault Refusal := onHwO s (fun o h => h.deferredStart o)

/-- The oldest deferred request has waited 30 s: BUSY, 0x0042. -/
def Hw.deferredExpiry (h : Hw) : Hw :=
  match h.hif.deferred with
  | [] => h
  | x :: r =>
    let h1 := h.untilUp (x.since + 30000000000)
    let h2 := ({ h1 with hif := { h1.hif with deferred := r } }).admCount
    (h2.raise 0x0042 x.act.code x.blocker).complete x.d stBusy true (detail := x.blocker) (event := 0x0042)

/-- DEFERRED_REQUEST_EXPIRY. -/
def execDeferredRequestExpiry (s : State) : Host.Outcome State Fault Refusal := onHw s Hw.deferredExpiry

end Sys2Proof.Machine
end

