-- ==== Sys2Proof/Machine/Eng.lean ====
section
/-! DEFINITION. Engineering requests over TRDP message data (R343 to R346, R279). -/

namespace Sys2Proof.Machine

/-- The meaning of every host command of Table 12-8 but PROV_KEY, by opcode. -/
def Hw.hostMeaning (h : Hw) (o : Otp) (d : Desc) : Hw :=
  match d.op with
  | 0x0001 => h.cmdNop d
  | 0x0002 => h.cmdIdentify d
  | 0x0003 => h.cmdRegRead d
  | 0x0004 => h.cmdRegWrite d
  | 0x0005 => h.cmdEventWait d
  | 0x0101 => h.modeReq o d.p0 d
  | 0x0201 => h.cmdProgLoad o d
  | 0x0202 => h.cmdStrike d
  | 0x0203 => h.cmdProgInfo d
  | 0x0301 => h.cmdForceSet d
  | 0x0302 => h.cmdForceClear d
  | 0x0303 => h.cmdClearAll d
  | 0x0304 => h.cmdForceList d
  | 0x0401 => h.cmdStage o d
  | 0x0402 => h.cmdArm d
  | 0x0403 => h.cmdCancel d
  | 0x0501 => h.cmdRecRead d
  | 0x0502 => h.cmdRecRelease d
  | 0x0503 => h.cmdChallenge o d
  | 0x0504 => h.cmdRecClear o d
  | 0x0601 => h.cmdNvRead d
  | 0x0602 => h.cmdNvWrite d
  | 0x0603 => h.cmdNvUnlock d
  | 0x0604 => h.cmdScrub d
  | 0x0605 => h.cmdNorErase d
  | 0x0606 => h.cmdFwUpdate o d
  | 0x0701 => h.cmdCalSet d
  | 0x0702 => h.cmdCalGet d
  | 0x0801 => h.cmdCfgWrite o d
  | 0x0802 => h.cmdCfgRead d
  | 0x0803 => h.cmdCfgChoose d
  | 0x0901 => h.cmdAttach d
  | 0x0902 => h.cmdDetach d
  | 0x0903 => h.cmdHalt d
  | 0x0904 => h.cmdResume d
  | 0x0905 => h.cmdStep d
  | 0x0906 => h.cmdBreak d
  | 0x0907 => h.cmdDbgRead d
  | 0x0908 => h.cmdDbgWrite d
  | 0x0A01 => h.cmdChtStart d
  | 0x0A02 => h.cmdChtEnd d
  | 0x0A03 => h.cmdInjArm d
  | 0x0B01 => h.cmdAttest o d
  | _ => h

/-- A queued descriptor is executed. -/
def runDesc (s : State) (d : Desc) : Host.Outcome State Fault Refusal :=
  if d.op = 0x0B02 then hostCmdO s d 0x0B02 provKey else onHw s (fun h => h.hostCmd d d.op (fun h d => h.hostMeaning s.otp d))

/-- The descriptor of a message (Table 12-5): a length, a reserved field and the input data as they stand; `obj` and `aux` what the
buffer brings (log 10). -/
def Msg.desc (m : Msg) (obj : Payload) (aux : Nat) : Desc :=
  let f := fun (a n : Nat) => leNat (sliceZ m.bytes a n)
  { src := .eng m.dir m.sid, op := f 0 2, flags := f 2 1, tag := f 4 4, addr := f 8 8, len := f 16 4, p0 := f 20 4, p1 := f 24 4, p2 := f 28 4,
    data := m.bytes.drop 32, obj := obj, aux := aux, resv := f 3 1 != 0 }

/-- A request is accepted: it enters the SUP queue, and its sessionId the last 32. -/
def Hw.engTake (h : Hw) (d : Desc) (dir sid : Nat) : Hw :=
  ({ h with net := { h.net with replies := (h.net.replies ++ [(dir, sid, none)]).drop (h.net.replies.length - 31) } }).enqueue d

/-- A repeat (R345): the stored reply once more, or nothing while the first request runs. -/
def Hw.engRepeat (h : Hw) (dir sid : Nat) (c : Option Compl) : Hw :=
  match c with
  | some x => h.netSend (.mp dir sid x)
  | none => h

/-- The hardware's part: the front message is answered with Me, is a repeat, or enters the queue. -/
def Hw.engFront (h : Hw) (m : Msg) (obj : Payload) (aux : Nat) : Hw :=
  if m.bytes.length < 32 then h.netSend (.me m.dir m.sid)
  else match h.net.replies.find? (fun r => r.2.1 == m.sid) with
    | some r => h.engRepeat m.dir m.sid r.2.2
    | none => h.engTake (m.desc obj aux) m.dir m.sid

/-- ENG_REQUEST: the SUP firmware takes the front message while the command queue has room (R340); a request that finds no other
command before it is executed at once. -/
def execEngRequest (obj : Payload) (aux : Nat) (s : State) : Host.Outcome State Fault Refusal :=
  match s.hw.net.msgs with
  | [] => .next s
  | m :: r =>
    if !s.hw.serves || decide (64 ≤ s.hw.hif.queue.length) then .next s
    else
      let h1 := ({ s.hw with net := { s.hw.net with msgs := r } }).engFront m obj aux
      let d := m.desc obj aux
      if s.hw.hif.queue.isEmpty && h1.hif.queue.contains d then runDesc { s with hw := h1 } d else .next { s with hw := h1 }

end Sys2Proof.Machine
end

