-- ==== Sys2Proof/Machine/Dispatch.lean ====
section
/-! DEFINITION. The dispatch: one arm for each command. -/

namespace Sys2Proof.Machine

def exec (i : Instr) (s : State) : Host.Outcome State Fault Refusal :=
  match i with
  | .powerOn vin hold liveIn crc => Sys2Proof.Machine.execPowerOn vin hold liveIn crc s
  | .bootModeDecision us => Sys2Proof.Machine.execBootModeDecision us s
  | .preferredWaitExpiry => Sys2Proof.Machine.execPreferredWaitExpiry s
  | .backupRetentionTrip => Sys2Proof.Machine.execBackupRetentionTrip s
  | .reserveLatch vin => Sys2Proof.Machine.execReserveLatch vin s
  | .vinRestored vin => Sys2Proof.Machine.execVinRestored vin s
  | .holdCharged hold => Sys2Proof.Machine.execHoldCharged hold s
  | .reserveFault => Sys2Proof.Machine.execReserveFault s
  | .vinLoss us hold cut => Sys2Proof.Machine.execVinLoss us hold cut s
  | .coreRailBrownOut => Sys2Proof.Machine.execCoreRailBrownOut s
  | .droopDetect => Sys2Proof.Machine.execDroopDetect s
  | .droopHoldExpiry ns => Sys2Proof.Machine.execDroopHoldExpiry ns s
  | .droopLimitExpiry => Sys2Proof.Machine.execDroopLimitExpiry s
  | .clkmonWindow dom count => Sys2Proof.Machine.execClkmonWindow dom count s
  | .clockStopDetect core => Sys2Proof.Machine.execClockStopDetect core s
  | .coreFaultReset => Sys2Proof.Machine.execCoreFaultReset s
  | .monCheck dev => Sys2Proof.Machine.execMonCheck dev s
  | .safeRetainFlush => Sys2Proof.Machine.execSafeRetainFlush s
  | .automaticRecovery => Sys2Proof.Machine.execAutomaticRecovery s
  | .startupLimitExpiry => Sys2Proof.Machine.execStartupLimitExpiry s
  | .recoveryBoundExpiry => Sys2Proof.Machine.execRecoveryBoundExpiry s
  | .selfTestComplete cmp bad fails => Sys2Proof.Machine.execSelfTestComplete cmp bad fails s
  | .start d => Sys2Proof.Machine.execStart d s
  | .stop d => Sys2Proof.Machine.execStop d s
  | .test d => Sys2Proof.Machine.execTest d s
  | .service d => Sys2Proof.Machine.execService d s
  | .serviceExit d => Sys2Proof.Machine.execServiceExit d s
  | .park d => Sys2Proof.Machine.execPark d s
  | .safe d => Sys2Proof.Machine.execSafe d s
  | .recover d => Sys2Proof.Machine.execRecover d s
  | .reset d => Sys2Proof.Machine.execReset d s
  | .provCommit d => Sys2Proof.Machine.execProvCommit d s
  | .commandedResetExpiry => Sys2Proof.Machine.execCommandedResetExpiry s
  | .parkedWake => Sys2Proof.Machine.execParkedWake s
  | .housekeepingEnd ms => Sys2Proof.Machine.execHousekeepingEnd ms s
  | .wakeNLow => Sys2Proof.Machine.execWakeNLow s
  | .deferredRequestStart => Sys2Proof.Machine.execDeferredRequestStart s
  | .deferredRequestExpiry => Sys2Proof.Machine.execDeferredRequestExpiry s
  | .releaseDue t => Sys2Proof.Machine.execReleaseDue t s
  | .dispatch i1 gap cache ecc => Sys2Proof.Machine.execDispatch i1 gap cache ecc s
  | .windowCompare p gap cache ecc => Sys2Proof.Machine.execWindowCompare p gap cache ecc s
  | .deadlineRelease t => Sys2Proof.Machine.execDeadlineRelease t s
  | .deadlineExpiry t => Sys2Proof.Machine.execDeadlineExpiry t s
  | .timerSweep => Sys2Proof.Machine.execTimerSweep s
  | .retainPassStart => Sys2Proof.Machine.execRetainPassStart s
  | .retainStretchCopy t => Sys2Proof.Machine.execRetainStretchCopy t s
  | .classCMsLatch => Sys2Proof.Machine.execClassCMsLatch s
  | .classPInstant => Sys2Proof.Machine.execClassPInstant s
  | .forceEffective => Sys2Proof.Machine.execForceEffective s
  | .swapPointFound => Sys2Proof.Machine.execSwapPointFound s
  | .swapSearchTimeout => Sys2Proof.Machine.execSwapSearchTimeout s
  | .injectionAct n => Sys2Proof.Machine.execInjectionAct n s
  | .wdgExpiry t => Sys2Proof.Machine.execWdgExpiry t s
  | .supWdgExpiry => Sys2Proof.Machine.execSupWdgExpiry s
  | .wdgSupCheck v => Sys2Proof.Machine.execWdgSupCheck v s
  | .wdgKey src v => Sys2Proof.Machine.execWdgKey src v s
  | .wdgKeyTimeout => Sys2Proof.Machine.execWdgKeyTimeout s
  | .wdgLock => Sys2Proof.Machine.execWdgLock s
  | .hardResetExpiry => Sys2Proof.Machine.execHardResetExpiry s
  | .supIrq req => Sys2Proof.Machine.execSupIrq req s
  | .calSecond => Sys2Proof.Machine.execCalSecond s
  | .tempReading t => Sys2Proof.Machine.execTempReading t s
  | .calDateRead => Sys2Proof.Machine.execCalDateRead s
  | .calendarSetAck => Sys2Proof.Machine.execCalendarSetAck s
  | .calSetFromTimebase => Sys2Proof.Machine.execCalSetFromTimebase s
  | .pageWriteDone => Sys2Proof.Machine.execPageWriteDone s
  | .recordWriteDone => Sys2Proof.Machine.execRecordWriteDone s
  | .norOpDone ok => Sys2Proof.Machine.execNorOpDone ok s
  | .scrubSlice => Sys2Proof.Machine.execScrubSlice s
  | .unlockExpiry => Sys2Proof.Machine.execUnlockExpiry s
  | .eventRequest code p0 p1 p2 => Sys2Proof.Machine.execEventRequest code p0 p1 p2 s
  | .recordWrite => Sys2Proof.Machine.execRecordWrite s
  | .tokenRefill i1 => Sys2Proof.Machine.execTokenRefill i1 s
  | .freezeLimit => Sys2Proof.Machine.execFreezeLimit s
  | .challengeExpiry => Sys2Proof.Machine.execChallengeExpiry s
  | .archivePage => Sys2Proof.Machine.execArchivePage s
  | .rateCounterSave => Sys2Proof.Machine.execRateCounterSave s
  | .usageCounterSave => Sys2Proof.Machine.execUsageCounterSave s
  | .ethLinkChange b up fast => Sys2Proof.Machine.execEthLinkChange b up fast s
  | .pdTelegramReceive f t => Sys2Proof.Machine.execPdTelegramReceive f t s
  | .pullRequestReceive f t replyIp => Sys2Proof.Machine.execPullRequestReceive f t replyIp s
  | .messageReceive f comId sid bs => Sys2Proof.Machine.execMessageReceive f comId sid bs s
  | .engRequest obj aux => Sys2Proof.Machine.execEngRequest obj aux s
  | .ptpMeasurement b o aSync => Sys2Proof.Machine.execPtpMeasurement b o aSync s
  | .ptpAnnounceTimeout => Sys2Proof.Machine.execPtpAnnounceTimeout s
  | .arpRequest f ip => Sys2Proof.Machine.execArpRequest f ip s
  | .icmpEcho f ip bs => Sys2Proof.Machine.execIcmpEcho f ip bs s
  | .igmpQuery f => Sys2Proof.Machine.execIgmpQuery f s
  | .prpSupervisionSend => Sys2Proof.Machine.execPrpSupervisionSend s
  | .prpEntryForget => Sys2Proof.Machine.execPrpEntryForget s
  | .publicationInstant i1 late => Sys2Proof.Machine.execPublicationInstant i1 late s
  | .pullSubscribeInstant i1 => Sys2Proof.Machine.execPullSubscribeInstant i1 s
  | .sessionTimeout i1 => Sys2Proof.Machine.execSessionTimeout i1 s
  | .heartbeatInstant => Sys2Proof.Machine.execHeartbeatInstant s
  | .heartbeatReceive fseq f b => Sys2Proof.Machine.execHeartbeatReceive fseq f b s
  | .guyLineMiss b => Sys2Proof.Machine.execGuyLineMiss b s
  | .syncLinkUp => Sys2Proof.Machine.execSyncLinkUp s
  | .syncLinkDown => Sys2Proof.Machine.execSyncLinkDown s
  | .syncFrameError => Sys2Proof.Machine.execSyncFrameError s
  | .timeReceive fseq own seen sent => Sys2Proof.Machine.execTimeReceive fseq own seen sent s
  | .controlReceive fseq m => Sys2Proof.Machine.execControlReceive fseq m s
  | .ackReceive fseq lo hi => Sys2Proof.Machine.execAckReceive fseq lo hi s
  | .ackTimeout => Sys2Proof.Machine.execAckTimeout s
  | .snapshotReceive fseq t frag k due bs last => Sys2Proof.Machine.execSnapshotReceive fseq t frag k due bs last s
  | .readsReceive fseq es ovr => Sys2Proof.Machine.execReadsReceive fseq es ovr s
  | .releaseReceive fseq t k d => Sys2Proof.Machine.execReleaseReceive fseq t k d s
  | .reexecMarker fseq t k exec => Sys2Proof.Machine.execReexecMarker fseq t k exec s
  | .stateReceive fseq is => Sys2Proof.Machine.execStateReceive fseq is s
  | .countersReceive fseq cs age => Sys2Proof.Machine.execCountersReceive fseq cs age s
  | .countersSend => Sys2Proof.Machine.execCountersSend s
  | .resyncStart => Sys2Proof.Machine.execResyncStart s
  | .resyncStepDone x => Sys2Proof.Machine.execResyncStepDone x s
  | .liveInDrop => Sys2Proof.Machine.execLiveInDrop s
  | .liveInGlitch => Sys2Proof.Machine.execLiveInGlitch s
  | .liveInAssert => Sys2Proof.Machine.execLiveInAssert s
  | .takeoverHoldExpiry c => Sys2Proof.Machine.execTakeoverHoldExpiry c s
  | .revertHoldComplete => Sys2Proof.Machine.execRevertHoldComplete s
  | .revertPropose => Sys2Proof.Machine.execRevertPropose s
  | .revertConfirmTimeout => Sys2Proof.Machine.execRevertConfirmTimeout s
  | .revertInstant => Sys2Proof.Machine.execRevertInstant s
  | .revertHandoverExpiry => Sys2Proof.Machine.execRevertHandoverExpiry s
  | .outboundBoundary g => Sys2Proof.Machine.execOutboundBoundary g s
  | .returnFrameCheck g l => Sys2Proof.Machine.execReturnFrameCheck g l s
  | .fieldFrameReceive g l x => Sys2Proof.Machine.execFieldFrameReceive g l x s
  | .autonomyTimeout g => Sys2Proof.Machine.execAutonomyTimeout g s
  | .carrierFault g => Sys2Proof.Machine.execCarrierFault g s
  | .carrierRestart g => Sys2Proof.Machine.execCarrierRestart g s
  | .zirekBoundary g => Sys2Proof.Machine.execZirekBoundary g s
  | .zirekReturn g w => Sys2Proof.Machine.execZirekReturn g w s
  | .diFilterExpiry c v => Sys2Proof.Machine.execDiFilterExpiry c v s
  | .pulseCount c v => Sys2Proof.Machine.execPulseCount c v s
  | .wirebreakSet c i1 => Sys2Proof.Machine.execWirebreakSet c i1 s
  | .wirebreakClear c i1 => Sys2Proof.Machine.execWirebreakClear c i1 s
  | .overloadSwitchOff c ma => Sys2Proof.Machine.execOverloadSwitchOff c ma s
  | .thermalSwitchOff c temp => Sys2Proof.Machine.execThermalSwitchOff c temp s
  | .retryExpiry c => Sys2Proof.Machine.execRetryExpiry c s
  | .inrushExpiry c => Sys2Proof.Machine.execInrushExpiry c s
  | .supplyMeasurement g v => Sys2Proof.Machine.execSupplyMeasurement g v s
  | .supplyFlagChange g => Sys2Proof.Machine.execSupplyFlagChange g s
  | .conversionEnd c v fault => Sys2Proof.Machine.execConversionEnd c v fault s
  | .limiterEngage c na => Sys2Proof.Machine.execLimiterEngage c na s
  | .limiterDisconnect c => Sys2Proof.Machine.execLimiterDisconnect c s
  | .limiterReconnect c => Sys2Proof.Machine.execLimiterReconnect c s
  | .limiterClear c => Sys2Proof.Machine.execLimiterClear c s
  | .aoThermal c off => Sys2Proof.Machine.execAoThermal c off s
  | .channelTestEnd c pass v => Sys2Proof.Machine.execChannelTestEnd c pass v s
  | .tableWrite t i1 v => Sys2Proof.Machine.execTableWrite t i1 v s
  | .fldAnTestWrite na v => Sys2Proof.Machine.execFldAnTestWrite na v s
  | .fldLatchClr hi v => Sys2Proof.Machine.execFldLatchClr hi v s
  | .doorbellPoll is => Sys2Proof.Machine.execDoorbellPoll is s
  | .descriptorFetchDone fs => Sys2Proof.Machine.execDescriptorFetchDone fs s
  | .completionWrite => Sys2Proof.Machine.execCompletionWrite s
  | .completionRoom r => Sys2Proof.Machine.execCompletionRoom r s
  | .go pollUs tab => Sys2Proof.Machine.execGo pollUs tab s
  | .goClear pollUs => Sys2Proof.Machine.execGoClear pollUs s
  | .pcieLinkLoss c => Sys2Proof.Machine.execPcieLinkLoss c s
  | .pcieLinkUp gen2 two => Sys2Proof.Machine.execPcieLinkUp gen2 two s
  | .pieceGapTimeout => Sys2Proof.Machine.execPieceGapTimeout s
  | .eventWaitTimeout => Sys2Proof.Machine.execEventWaitTimeout s
  | .nop d => Sys2Proof.Machine.execNop d s
  | .identify d => Sys2Proof.Machine.execIdentify d s
  | .regRead d => Sys2Proof.Machine.execRegRead d s
  | .regWrite d => Sys2Proof.Machine.execRegWrite d s
  | .eventWait d => Sys2Proof.Machine.execEventWait d s
  | .progLoadSram d => Sys2Proof.Machine.execProgLoadSram d s
  | .progLoadNor d => Sys2Proof.Machine.execProgLoadNor d s
  | .progStrike d => Sys2Proof.Machine.execProgStrike d s
  | .progInfo d => Sys2Proof.Machine.execProgInfo d s
  | .forceSet d => Sys2Proof.Machine.execForceSet d s
  | .forceClear d => Sys2Proof.Machine.execForceClear d s
  | .forceClearAll d => Sys2Proof.Machine.execForceClearAll d s
  | .forceList d => Sys2Proof.Machine.execForceList d s
  | .olcStage d => Sys2Proof.Machine.execOlcStage d s
  | .olcArm d => Sys2Proof.Machine.execOlcArm d s
  | .olcCancel d => Sys2Proof.Machine.execOlcCancel d s
  | .recRead d => Sys2Proof.Machine.execRecRead d s
  | .recRelease d => Sys2Proof.Machine.execRecRelease d s
  | .recChallenge d => Sys2Proof.Machine.execRecChallenge d s
  | .recClear d => Sys2Proof.Machine.execRecClear d s
  | .nvRead d => Sys2Proof.Machine.execNvRead d s
  | .nvWrite d => Sys2Proof.Machine.execNvWrite d s
  | .nvUnlock d => Sys2Proof.Machine.execNvUnlock d s
  | .nvScrub d => Sys2Proof.Machine.execNvScrub d s
  | .norEraseArchive d => Sys2Proof.Machine.execNorEraseArchive d s
  | .norEraseProgramSlot d => Sys2Proof.Machine.execNorEraseProgramSlot d s
  | .fwUpdate d => Sys2Proof.Machine.execFwUpdate d s
  | .calSet d => Sys2Proof.Machine.execCalSet d s
  | .calGet d => Sys2Proof.Machine.execCalGet d s
  | .cfgWrite d => Sys2Proof.Machine.execCfgWrite d s
  | .cfgRead d => Sys2Proof.Machine.execCfgRead d s
  | .cfgChoose d => Sys2Proof.Machine.execCfgChoose d s
  | .dbgAttach d => Sys2Proof.Machine.execDbgAttach d s
  | .dbgDetach d => Sys2Proof.Machine.execDbgDetach d s
  | .dbgHalt d => Sys2Proof.Machine.execDbgHalt d s
  | .dbgResume d => Sys2Proof.Machine.execDbgResume d s
  | .dbgStep d => Sys2Proof.Machine.execDbgStep d s
  | .dbgBreak d => Sys2Proof.Machine.execDbgBreak d s
  | .dbgRead d => Sys2Proof.Machine.execDbgRead d s
  | .dbgWrite d => Sys2Proof.Machine.execDbgWrite d s
  | .chtStart d => Sys2Proof.Machine.execChtStart d s
  | .chtEnd d => Sys2Proof.Machine.execChtEnd d s
  | .injArm d => Sys2Proof.Machine.execInjArm d s
  | .attest d => Sys2Proof.Machine.execAttest d s
  | .provKey d => Sys2Proof.Machine.execProvKey d s
  | .epochLoRead => Sys2Proof.Machine.execEpochLoRead s
  | .tbLoRead => Sys2Proof.Machine.execTbLoRead s
  | .pointLoRead => Sys2Proof.Machine.execPointLoRead s
  | .tmrDataCommit v => Sys2Proof.Machine.execTmrDataCommit v s
  | .sesDataCommit v => Sys2Proof.Machine.execSesDataCommit v s
  | .dirDataCommit v => Sys2Proof.Machine.execDirDataCommit v s
  | .rlDataCommit v => Sys2Proof.Machine.execRlDataCommit v s
  | .evrLookup c => Sys2Proof.Machine.execEvrLookup c s
  | .registerWrite bar0 a v => Sys2Proof.Machine.execRegisterWrite bar0 a v s
  | .undefinedWord sel w => Sys2Proof.Machine.execUndefinedWord sel w s
  | .add sel rd rs1 rs2 => Sys2Proof.Machine.execAdd sel rd rs1 rs2 s
  | .sub sel rd rs1 rs2 => Sys2Proof.Machine.execSub sel rd rs1 rs2 s
  | .and sel rd rs1 rs2 => Sys2Proof.Machine.execAnd sel rd rs1 rs2 s
  | .or sel rd rs1 rs2 => Sys2Proof.Machine.execOr sel rd rs1 rs2 s
  | .xor sel rd rs1 rs2 => Sys2Proof.Machine.execXor sel rd rs1 rs2 s
  | .andn sel rd rs1 rs2 => Sys2Proof.Machine.execAndn sel rd rs1 rs2 s
  | .orn sel rd rs1 rs2 => Sys2Proof.Machine.execOrn sel rd rs1 rs2 s
  | .xnor sel rd rs1 rs2 => Sys2Proof.Machine.execXnor sel rd rs1 rs2 s
  | .sll sel rd rs1 rs2 => Sys2Proof.Machine.execSll sel rd rs1 rs2 s
  | .srl sel rd rs1 rs2 => Sys2Proof.Machine.execSrl sel rd rs1 rs2 s
  | .sra sel rd rs1 rs2 => Sys2Proof.Machine.execSra sel rd rs1 rs2 s
  | .rol sel rd rs1 rs2 => Sys2Proof.Machine.execRol sel rd rs1 rs2 s
  | .ror sel rd rs1 rs2 => Sys2Proof.Machine.execRor sel rd rs1 rs2 s
  | .min sel rd rs1 rs2 => Sys2Proof.Machine.execMin sel rd rs1 rs2 s
  | .max sel rd rs1 rs2 => Sys2Proof.Machine.execMax sel rd rs1 rs2 s
  | .minu sel rd rs1 rs2 => Sys2Proof.Machine.execMinu sel rd rs1 rs2 s
  | .maxu sel rd rs1 rs2 => Sys2Proof.Machine.execMaxu sel rd rs1 rs2 s
  | .adds sel rd rs1 rs2 => Sys2Proof.Machine.execAdds sel rd rs1 rs2 s
  | .subs sel rd rs1 rs2 => Sys2Proof.Machine.execSubs sel rd rs1 rs2 s
  | .mul sel rd rs1 rs2 => Sys2Proof.Machine.execMul sel rd rs1 rs2 s
  | .mulh sel rd rs1 rs2 => Sys2Proof.Machine.execMulh sel rd rs1 rs2 s
  | .mulhu sel rd rs1 rs2 => Sys2Proof.Machine.execMulhu sel rd rs1 rs2 s
  | .div sel rd rs1 rs2 => Sys2Proof.Machine.execDiv sel rd rs1 rs2 s
  | .divu sel rd rs1 rs2 => Sys2Proof.Machine.execDivu sel rd rs1 rs2 s
  | .rem sel rd rs1 rs2 => Sys2Proof.Machine.execRem sel rd rs1 rs2 s
  | .remu sel rd rs1 rs2 => Sys2Proof.Machine.execRemu sel rd rs1 rs2 s
  | .addi sel rd rs1 imm => Sys2Proof.Machine.execAddi sel rd rs1 imm s
  | .andi sel rd rs1 imm => Sys2Proof.Machine.execAndi sel rd rs1 imm s
  | .ori sel rd rs1 imm => Sys2Proof.Machine.execOri sel rd rs1 imm s
  | .xori sel rd rs1 imm => Sys2Proof.Machine.execXori sel rd rs1 imm s
  | .slli sel rd rs1 sh => Sys2Proof.Machine.execSlli sel rd rs1 sh s
  | .srli sel rd rs1 sh => Sys2Proof.Machine.execSrli sel rd rs1 sh s
  | .srai sel rd rs1 sh => Sys2Proof.Machine.execSrai sel rd rs1 sh s
  | .rori sel rd rs1 sh => Sys2Proof.Machine.execRori sel rd rs1 sh s
  | .lui sel rd imm20 => Sys2Proof.Machine.execLui sel rd imm20 s
  | .auipc sel rd imm20 => Sys2Proof.Machine.execAuipc sel rd imm20 s
  | .li sel rd imm20 => Sys2Proof.Machine.execLi sel rd imm20 s
  | .ceq sel cd rs1 rs2 => Sys2Proof.Machine.execCeq sel cd rs1 rs2 s
  | .cne sel cd rs1 rs2 => Sys2Proof.Machine.execCne sel cd rs1 rs2 s
  | .clt sel cd rs1 rs2 => Sys2Proof.Machine.execClt sel cd rs1 rs2 s
  | .cge sel cd rs1 rs2 => Sys2Proof.Machine.execCge sel cd rs1 rs2 s
  | .cltu sel cd rs1 rs2 => Sys2Proof.Machine.execCltu sel cd rs1 rs2 s
  | .cgeu sel cd rs1 rs2 => Sys2Proof.Machine.execCgeu sel cd rs1 rs2 s
  | .ceqi sel cd rs1 imm => Sys2Proof.Machine.execCeqi sel cd rs1 imm s
  | .cnei sel cd rs1 imm => Sys2Proof.Machine.execCnei sel cd rs1 imm s
  | .clti sel cd rs1 imm => Sys2Proof.Machine.execClti sel cd rs1 imm s
  | .cgei sel cd rs1 imm => Sys2Proof.Machine.execCgei sel cd rs1 imm s
  | .cltui sel cd rs1 imm => Sys2Proof.Machine.execCltui sel cd rs1 imm s
  | .cgeui sel cd rs1 imm => Sys2Proof.Machine.execCgeui sel cd rs1 imm s
  | .cand sel cd ca cb => Sys2Proof.Machine.execCand sel cd ca cb s
  | .cor sel cd ca cb => Sys2Proof.Machine.execCor sel cd ca cb s
  | .cxor sel cd ca cb => Sys2Proof.Machine.execCxor sel cd ca cb s
  | .candn sel cd ca cb => Sys2Proof.Machine.execCandn sel cd ca cb s
  | .cmov sel cd ca => Sys2Proof.Machine.execCmov sel cd ca s
  | .cnot sel cd ca => Sys2Proof.Machine.execCnot sel cd ca s
  | .cset sel cd => Sys2Proof.Machine.execCset sel cd s
  | .cclr sel cd => Sys2Proof.Machine.execCclr sel cd s
  | .setc sel rd ca => Sys2Proof.Machine.execSetc sel rd ca s
  | .sel sel rd rs1 rs2 c => Sys2Proof.Machine.execSel sel rd rs1 rs2 c s
  | .seln sel rd rs1 rs2 c => Sys2Proof.Machine.execSeln sel rd rs1 rs2 c s
  | .bc sel c v disp21 => Sys2Proof.Machine.execBc sel c v disp21 s
  | .j sel disp25 => Sys2Proof.Machine.execJ sel disp25 s
  | .call sel disp25 => Sys2Proof.Machine.execCall sel disp25 s
  | .jalr sel rd rs1 imm => Sys2Proof.Machine.execJalr sel rd rs1 imm s
  | .lb sel rt rs1 disp => Sys2Proof.Machine.execLb sel rt rs1 disp s
  | .lbu sel rt rs1 disp => Sys2Proof.Machine.execLbu sel rt rs1 disp s
  | .lh sel rt rs1 disp => Sys2Proof.Machine.execLh sel rt rs1 disp s
  | .lhu sel rt rs1 disp => Sys2Proof.Machine.execLhu sel rt rs1 disp s
  | .lw sel rt rs1 disp => Sys2Proof.Machine.execLw sel rt rs1 disp s
  | .ld sel rt rs1 disp => Sys2Proof.Machine.execLd sel rt rs1 disp s
  | .sb sel rt rs1 disp => Sys2Proof.Machine.execSb sel rt rs1 disp s
  | .sh sel rt rs1 disp => Sys2Proof.Machine.execSh sel rt rs1 disp s
  | .sw sel rt rs1 disp => Sys2Proof.Machine.execSw sel rt rs1 disp s
  | .sd sel rt rs1 disp => Sys2Proof.Machine.execSd sel rt rs1 disp s
  | .crcb sel rd rs1 rs2 => Sys2Proof.Machine.execCrcb sel rd rs1 rs2 s
  | .crch sel rd rs1 rs2 => Sys2Proof.Machine.execCrch sel rd rs1 rs2 s
  | .crcw sel rd rs1 rs2 => Sys2Proof.Machine.execCrcw sel rd rs1 rs2 s
  | .par sel rd rs1 => Sys2Proof.Machine.execPar sel rd rs1 s
  | .parb sel rd rs1 => Sys2Proof.Machine.execParb sel rd rs1 s
  | .brev sel rd rs1 => Sys2Proof.Machine.execBrev sel rd rs1 s
  | .brevb sel rd rs1 => Sys2Proof.Machine.execBrevb sel rd rs1 s
  | .bswap sel rd rs1 => Sys2Proof.Machine.execBswap sel rd rs1 s
  | .clz sel rd rs1 => Sys2Proof.Machine.execClz sel rd rs1 s
  | .ctz sel rd rs1 => Sys2Proof.Machine.execCtz sel rd rs1 s
  | .popc sel rd rs1 => Sys2Proof.Machine.execPopc sel rd rs1 s
  | .sextb sel rd rs1 => Sys2Proof.Machine.execSextb sel rd rs1 s
  | .sexth sel rd rs1 => Sys2Proof.Machine.execSexth sel rd rs1 s
  | .zexth sel rd rs1 => Sys2Proof.Machine.execZexth sel rd rs1 s
  | .bld sel n rs1 boff => Sys2Proof.Machine.execBld sel n rs1 boff s
  | .band sel n rs1 boff => Sys2Proof.Machine.execBand sel n rs1 boff s
  | .bor sel n rs1 boff => Sys2Proof.Machine.execBor sel n rs1 boff s
  | .bxor sel n rs1 boff => Sys2Proof.Machine.execBxor sel n rs1 boff s
  | .bst sel n rs1 boff => Sys2Proof.Machine.execBst sel n rs1 boff s
  | .bset sel rs1 boff => Sys2Proof.Machine.execBset sel rs1 boff s
  | .bclr sel rs1 boff => Sys2Proof.Machine.execBclr sel rs1 boff s
  | .btgl sel rs1 boff => Sys2Proof.Machine.execBtgl sel rs1 boff s
  | .bseta sel n rs1 boff => Sys2Proof.Machine.execBseta sel n rs1 boff s
  | .brsta sel n rs1 boff => Sys2Proof.Machine.execBrsta sel n rs1 boff s
  | .edgr sel rs1 boff => Sys2Proof.Machine.execEdgr sel rs1 boff s
  | .edgf sel rs1 boff => Sys2Proof.Machine.execEdgf sel rs1 boff s
  | .acld sel cb => Sys2Proof.Machine.execAcld sel cb s
  | .acst sel cd => Sys2Proof.Machine.execAcst sel cd s
  | .acand sel cb => Sys2Proof.Machine.execAcand sel cb s
  | .acor sel cb => Sys2Proof.Machine.execAcor sel cb s
  | .aldr sel rs1 => Sys2Proof.Machine.execAldr sel rs1 s
  | .astr sel rd => Sys2Proof.Machine.execAstr sel rd s
  | .anot sel => Sys2Proof.Machine.execAnot sel s
  | .aset sel => Sys2Proof.Machine.execAset sel s
  | .aclr sel => Sys2Proof.Machine.execAclr sel s
  | .acxor sel cb => Sys2Proof.Machine.execAcxor sel cb s
  | .tend sel => Sys2Proof.Machine.execTend sel s
  | .tfault sel rs1 => Sys2Proof.Machine.execTfault sel rs1 s
  | .syscall sel => Sys2Proof.Machine.execSyscall sel s
  | .brk sel => Sys2Proof.Machine.execBrk sel s
  | .eret sel => Sys2Proof.Machine.execEret sel s
  | .wdchk sel => Sys2Proof.Machine.execWdchk sel s
  | .mfcr sel rd cr => Sys2Proof.Machine.execMfcr sel rd cr s
  | .mtcr sel cr rs1 => Sys2Proof.Machine.execMtcr sel cr rs1 s
  | .mfc sel rd => Sys2Proof.Machine.execMfc sel rd s
  | .mtc sel rs1 => Sys2Proof.Machine.execMtc sel rs1 s
  | .fadd sel rd rs1 rs2 => Sys2Proof.Machine.execFadd sel rd rs1 rs2 s
  | .fsub sel rd rs1 rs2 => Sys2Proof.Machine.execFsub sel rd rs1 rs2 s
  | .fmul sel rd rs1 rs2 => Sys2Proof.Machine.execFmul sel rd rs1 rs2 s
  | .fdiv sel rd rs1 rs2 => Sys2Proof.Machine.execFdiv sel rd rs1 rs2 s
  | .fsqrt sel rd rs1 => Sys2Proof.Machine.execFsqrt sel rd rs1 s
  | .fmin sel rd rs1 rs2 => Sys2Proof.Machine.execFmin sel rd rs1 rs2 s
  | .fmax sel rd rs1 rs2 => Sys2Proof.Machine.execFmax sel rd rs1 rs2 s
  | .fabs sel rd rs1 => Sys2Proof.Machine.execFabs sel rd rs1 s
  | .fneg sel rd rs1 => Sys2Proof.Machine.execFneg sel rd rs1 s
  | .fcvtsw sel rd rs1 => Sys2Proof.Machine.execFcvtsw sel rd rs1 s
  | .fcvtswu sel rd rs1 => Sys2Proof.Machine.execFcvtswu sel rd rs1 s
  | .fcvtws sel rd rs1 => Sys2Proof.Machine.execFcvtws sel rd rs1 s
  | .fcvtwus sel rd rs1 => Sys2Proof.Machine.execFcvtwus sel rd rs1 s
  | .feq sel cd rs1 rs2 => Sys2Proof.Machine.execFeq sel cd rs1 rs2 s
  | .flt sel cd rs1 rs2 => Sys2Proof.Machine.execFlt sel cd rs1 rs2 s
  | .fle sel cd rs1 rs2 => Sys2Proof.Machine.execFle sel cd rs1 rs2 s
  | .fun sel cd rs1 rs2 => Sys2Proof.Machine.execFun sel cd rs1 rs2 s
  | .fclass sel rd rs1 => Sys2Proof.Machine.execFclass sel rd rs1 s
  | .tev sel rd rs1 rs2 => Sys2Proof.Machine.execTev sel rd rs1 rs2 s
  | .tevx sel rd rs1 rs2 => Sys2Proof.Machine.execTevx sel rd rs1 rs2 s
  | .teth sel rd rs1 => Sys2Proof.Machine.execTeth sel rd rs1 s
  | .trst sel rs1 => Sys2Proof.Machine.execTrst sel rs1 s
  | .trds sel rd rs1 => Sys2Proof.Machine.execTrds sel rd rs1 s
  | .fstat sel rd => Sys2Proof.Machine.execFstat sel rd s
  | .fqry sel rd rs1 => Sys2Proof.Machine.execFqry sel rd rs1 s
  | .irec sel rd rs1 => Sys2Proof.Machine.execIrec sel rd rs1 s
  | .ibit sel rd rs1 rs2 => Sys2Proof.Machine.execIbit sel rd rs1 rs2 s
  | .scb sel rd rs1 rs2 => Sys2Proof.Machine.execScb sel rd rs1 rs2 s
  | .sch sel rd rs1 rs2 => Sys2Proof.Machine.execSch sel rd rs1 rs2 s
  | .scw sel rd rs1 rs2 => Sys2Proof.Machine.execScw sel rd rs1 rs2 s
  | .xq sel slot rd rs1 rs2 opc => Sys2Proof.Machine.execXq sel slot rd rs1 rs2 opc s
  | .xp sel slot rs1 rs2 opc => Sys2Proof.Machine.execXp sel slot rs1 rs2 opc s
  | .extQueryTimeout i1 => Sys2Proof.Machine.execExtQueryTimeout i1 s
  | .extResponseReceive src v => Sys2Proof.Machine.execExtResponseReceive src v s
  | .partnerConfirmTimeout => Sys2Proof.Machine.execPartnerConfirmTimeout s
  | .pairDeadlineCopy t => Sys2Proof.Machine.execPairDeadlineCopy t s
  | .lanternFlashToggle => Sys2Proof.Machine.execLanternFlashToggle s
  | .autonomyReturnFrame g x => Sys2Proof.Machine.execAutonomyReturnFrame g x s
  | .doSwitchCooled c => Sys2Proof.Machine.execDoSwitchCooled c s
  | .extRstNRelease => Sys2Proof.Machine.execExtRstNRelease s
  | .extBusyLow again => Sys2Proof.Machine.execExtBusyLow again s
  | .jtagAccess kind num v be => Sys2Proof.Machine.execJtagAccess kind num v be s
  | .ptpAnnounceReceive a => Sys2Proof.Machine.execPtpAnnounceReceive a s
  | .holdCollapse step n g => Sys2Proof.Machine.execHoldCollapse step n g s

end Sys2Proof.Machine
end

