-- ==== Sys2Proof/Safety.lean ====
section
/-! DEFINITION. The terms that claims are stated in: that a command runs, what a command leaves as it was, when an instruction can run
on a core, what an instruction's result is. -/

namespace Sys2Proof.Machine

/-! ## Commands -/

/-- The command answers a next state, of which `P` holds. -/
def Runs (c : Instr) (s : State) (P : State → Prop) : Prop := ∃ t, exec c s = .next t ∧ P t

/-- The parts of the hardware that a frame names, its registers apart. -/
inductive Part where
  | clk | pend | mem | sup | exe | tsk | hif | nvs | net | fld | pair | evr | wdg | cal | prog | free
  deriving DecidableEq, Repr

/-- A part is the same in both machines. -/
def Part.same (g h : Hw) : Part → Prop
  | .clk => h.clk = g.clk | .pend => h.pend = g.pend | .mem => h.mem = g.mem | .sup => h.sup = g.sup | .exe => h.exe = g.exe
  | .tsk => h.tsk = g.tsk | .hif => h.hif = g.hif | .nvs => h.nvs = g.nvs | .net => h.net = g.net | .fld => h.fld = g.fld
  | .pair => h.pair = g.pair | .evr => h.evr = g.evr | .wdg => h.wdg = g.wdg | .cal => h.cal = g.cal | .prog => h.prog = g.prog
  | .free => h.free = g.free

/-- What a command leaves: every part outside `ps` (memory whole, unless `.mem` is among them), every register at an address outside
`rs`, the OTP store, the queue. -/
def Frame (ps : List Part) (rs : List Nat) (s t : State) : Prop :=
  (∀ p, p ∉ ps → p.same s.hw t.hw) ∧ (∀ a, a ∉ rs → t.hw.reg a = s.hw.reg a) ∧ t.otp = s.otp ∧ t.pending = s.pending

/-- As `Frame`, without saying which registers keep their words. -/
def Kept (ps : List Part) (s t : State) : Prop := (∀ p, p ∉ ps → p.same s.hw t.hw) ∧ t.otp = s.otp ∧ t.pending = s.pending

/-- The timebase, of 64 bits, runs (R35) and reaches `n` ns without wrapping (in the year 2554). -/
def State.tbRoom (s : State) (n : Nat) : Prop := s.hw.dark = false ∧ max s.hw.clk.tb n + 2 < 2 ^ 64

/-- The recorder's input queue has room for `n` event requests (R388). -/
def State.evRoom (s : State) (n : Nat) : Prop := s.hw.evr.inq.length + n ≤ 512 ∧ s.hw.evr.injFull = false

/-- An event request's code and parameters. -/
def Ev.brief (e : Ev) : Nat × Nat × Nat × Nat := (e.code, e.p0, e.p1, e.p2)

/-- Exactly these event requests, in this order, have entered the recorder's input queue. -/
def Raises (s t : State) (l : List (Nat × Nat × Nat × Nat)) : Prop := t.hw.evr.inq.map Ev.brief = s.hw.evr.inq.map Ev.brief ++ l

/-- This event request is among those that have entered the recorder's input queue. -/
def Records (s t : State) (e : Nat × Nat × Nat × Nat) : Prop := ∃ l, Raises s t l ∧ e ∈ l

/-- The module is in mode `m`, entered from the mode of `s` with this cause (R39). -/
def Entered (s t : State) (m : Mode) (cause : Nat) : Prop :=
  t.hw.mode = m ∧ t.hw.fget R.SUP_MODE_STATUS_PREV_MODE = s.hw.mode.code ∧ t.hw.fget R.SUP_MODE_STATUS_CAUSE = cause

/-- The module has been reset to BOOT with a reset cause and a cause of the transition (Tables 2-3 and 2-5, R403), and has done the boot
steps before the mode decision. -/
def Booted (s t : State) (cause trans : Nat) : Prop :=
  t.hw.mode = .boot ∧ t.hw.fget R.CAL_BKREC0_RESET_CAUSE = (if s.hw.cal.tripped then 1 else cause) ∧
  t.hw.fget R.SUP_MODE_STATUS_CAUSE = (if trans = 0x23 then 0x23 else if s.hw.cal.tripped then 1 else cause) ∧
  t.hw.fget R.SUP_MODE_STATUS_PREV_MODE = (if cause = 1 ∧ trans = 1 then 0 else s.hw.mode.code) ∧
  t.hw.sup.booting = true ∧ t.hw.exe.supRunning = true ∧ t.hw.fbit R.HIF_STATUS_READY = true ∧ t.hw.hif.queue = [] ∧ t.pending = s.pending

/-- What an OTP store keeps of an earlier one: every bit that was 1, and all 64 bytes of every key slot that was written (Tables 16-2
and 16-3). -/
def Otp.keeps (o p : Otp) : Prop :=
  (∀ a i, (o.b a).getLsbD i = true → (p.b a).getLsbD i = true) ∧
  (∀ k, o.written k = true → ∀ j, j < 64 → p.b (Otp.slotAt k + j) = o.b (Otp.slotAt k + j))

/-! ## Host commands -/

/-- A host command from a ring that the interface serves, that no earlier command or FENCE holds back and that no check of R335 and R346 turns away. -/
def State.served (s : State) (d : Desc) (op : Nat) : Prop :=
  s.hw.admitted d op = true ∧ d.src.isEng = false ∧ d.relayed = false ∧ s.hw.hif.lost = []

/-- The completion of a host command (Table 12-6). -/
def Desc.answer (d : Desc) (op st : Nat) (res0 res1 res2 detail event : Nat := 0) (out : List Byte := []) : Compl :=
  { src := d.src, op := op, status := st, tag := d.tag, addr := d.addr, res0 := res0 % 2 ^ 32, res1 := res1 % 2 ^ 32, res2 := res2 % 2 ^ 32,
    detail := detail, event := event, noirq := d.flags.testBit 1, out := out }

/-- The command's completion is the next one to be written to its ring. -/
def Answers (s t : State) (c : Compl) : Prop := t.hw.hif.done = s.hw.hif.done ++ [c]

/-- This completion is among those that wait to be written. -/
def AnswersIn (s t : State) (c : Compl) : Prop := ∃ l, t.hw.hif.done = s.hw.hif.done ++ l ∧ c ∈ l

/-- A maintenance activity may start at once for this command (R58, R59). -/
def State.allows (s : State) (a : Act) (d : Desc) : Prop :=
  a.permits s.hw.mode d.nvOnly (s.hw.fbit R.SUP_MODE_CFG_DEBUG_FROM_RUN) = true ∧ (s.hw.admLookup a d).1 = .a

/-! ## Cores -/

/-- The core of a selector on the lead's or the shadow's side (one core where the selector names one). -/
def State.core (s : State) : CoreSel → Bool → Cpu
  | .pair n, b => s.hw.cpu (2 * n.val + b2n b)
  | .side n b, _ => s.hw.cpu (2 * n.val + b2n b)
  | .sup, _ => s.hw.exe.sup

/-- The numbers of a selector's cores on the execution pairs. -/
def CoreSel.cores : CoreSel → List Nat
  | .pair n => [2 * n.val, 2 * n.val + 1]
  | .side n b => [2 * n.val + b2n b]
  | .sup => []

/-- The dispatch target of a selector. -/
def CoreSel.target : CoreSel → Nat
  | .pair n => 2 * n.val
  | .side n b => 2 * n.val + b2n b
  | .sup => 0

/-- The task in which a selector's core can run an instruction now (none for the SUP core). -/
def State.taskOf (s : State) : CoreSel → Option Nat
  | .pair n => s.hw.canRun (2 * n.val) true
  | .side n b => s.hw.canRun (2 * n.val + b2n b) false
  | .sup => none

/-- An instruction can run on the selector: a task runs there and no close, query or halt holds it (the SUP core: it is out of reset),
and its word is fetched without exception on either core (R124, R131, R134, R159). -/
def State.ready (s : State) : CoreSel → Prop
  | .sup => s.hw.exe.supRunning = true ∧ s.hw.exe.sup.fetchBad = false ∧ s.hw.supPoison s.hw.exe.sup.pc.toNat 4 = none
  | sel => (s.taskOf sel).isSome = true ∧ (∀ b, (s.core sel b).fetchBad = false ∧ s.hw.fetchPoison (s.core sel b) = false) ∧
      ∀ n b, sel = .side n b → (s.hw.cache sel.target).two.contains (lineOf (s.core sel b).pc.toNat) = false

/-- The shadow's data cache holds nothing of its own beside memory, so that both cores take the lead's answer to a load as it is (R125). -/
def State.cachesAgree (s : State) (sel : CoreSel) : Prop := (s.hw.cache (sel.target + 1)).own = []

/-- SEC-DED finds nothing in the line of `a` that a machine check would answer: a SPLIT core's cache holds no uncorrectable error in it
(R134). In lockstep an error there counts at the window's close only (R127). -/
def State.lineGood (s : State) (sel : CoreSel) (a : Nat) : Prop :=
  ∀ n b, sel = .side n b → (s.hw.cache sel.target).two.contains (lineOf a) = false

/-- No CMP injection point waits for its occasion (R150). -/
def State.noCmpInj (s : State) : Prop := s.hw.armed 2 = none

/-- No injection point is armed in any block (R446). -/
def State.noInj (s : State) : Prop := (List.range 12).all (fun b => (s.hw.armed b).isNone) = true

/-- Every undo log can be read (R143). -/
def State.logsGood (s : State) : Prop := (List.range 8).all (fun i => !(s.hw.tgt i).undoBad) = true

/-- No core of the selector is inside an exception, so that a trap is no double fault (R163, R167). -/
def State.calm (s : State) (sel : CoreSel) : Prop := ∀ b, (s.core sel b).inexc = false

/-- What every core's registers other than k0 to k31, c, acc, pc and FPCSR hold. -/
def Cpu.sameStatus (c d : Cpu) : Prop :=
  d.psr = c.psr ∧ d.epc = c.epc ∧ d.ecause = c.ecause ∧ d.eaddr = c.eaddr ∧ d.einsn = c.einsn ∧ d.epsr = c.epsr ∧ d.vbase = c.vbase ∧
  d.trapcfg = c.trapcfg ∧ d.stkLo = c.stkLo ∧ d.stkHi = c.stkHi ∧ d.crcctl = c.crcctl ∧ d.taskid = c.taskid ∧ d.scratch0 = c.scratch0 ∧
  d.scratch1 = c.scratch1 ∧ d.nepc = c.nepc ∧ d.nepsr = c.nepsr ∧ d.ipend = c.ipend ∧ d.imask = c.imask

/-- Every general register but `rd` keeps its value, and `rd` reads `v`, or 0 where it is k0 (R152). -/
def Cpu.puts (c d : Cpu) (rd : Reg) (v : Word) : Prop :=
  d.rd rd = (if rd = 0#5 then 0#32 else v) ∧ ∀ r, r ≠ rd → d.rd r = c.rd r

/-- Every general register keeps its value. -/
def Cpu.sameK (c d : Cpu) : Prop := ∀ r, d.rd r = c.rd r

/-- One commit more, and the next instruction. -/
def Cpu.steps (c d : Cpu) : Prop := d.pc = c.pc + 4#32 ∧ d.commits = c.commits + 1

/-- One commit more and the next instruction, and the condition bits, accumulator, FPCSR and status as they were. -/
def Cpu.quiet (c d : Cpu) : Prop := c.steps d ∧ d.c = c.c ∧ d.acc = c.acc ∧ d.fpcsr = c.fpcsr ∧ c.sameStatus d

/-- A register result (R182, R183): k[rd] and nothing else but the pc, the marigold and the commit count. -/
def Cpu.gives (c : Cpu) (rd : Reg) (v : Word) (d : Cpu) : Prop :=
  c.puts d rd v ∧ c.quiet d ∧ d.mg = fold c.mg (cword (if rd = 0#5 then 0 else v.toNat) c.flags rd.toNat 0 c.pc)

/-- A COP1 result: k[rd], the sticky flags raised, and nothing else (R198). -/
def Cpu.givesF (c : Cpu) (rd : Reg) (r : Word × FpFlags) (d : Cpu) : Prop :=
  c.puts d rd r.1 ∧ c.steps d ∧ d.c = c.c ∧ d.acc = c.acc ∧ d.fpcsr = c.fpcsr ||| BitVec.ofNat 32 (r.2.bits * 256) ∧ c.sameStatus d

/-- A COP1 compare: one condition bit, the sticky flags raised, and nothing else (R198). -/
def Cpu.givesFC (c : Cpu) (cd : CBit) (r : Bool × FpFlags) (d : Cpu) : Prop :=
  c.sameK d ∧ c.steps d ∧ d.cb cd = r.1 ∧ (∀ i, i ≠ cd → d.cb i = c.cb i) ∧ d.acc = c.acc ∧
  d.fpcsr = c.fpcsr ||| BitVec.ofNat 32 (r.2.bits * 256) ∧ c.sameStatus d

/-- A condition bit result (R185). -/
def Cpu.givesC (c : Cpu) (cd : CBit) (v : Bool) (d : Cpu) : Prop :=
  c.sameK d ∧ c.steps d ∧ d.cb cd = v ∧ (∀ i, i ≠ cd → d.cb i = c.cb i) ∧ d.acc = c.acc ∧ d.fpcsr = c.fpcsr ∧ c.sameStatus d

/-- An accumulator result (R191, R194). -/
def Cpu.givesAcc (c : Cpu) (v : Bool) (d : Cpu) : Prop :=
  c.sameK d ∧ c.steps d ∧ d.c = c.c ∧ d.acc = v ∧ d.fpcsr = c.fpcsr ∧ c.sameStatus d

/-- A control transfer to `a` with a link register (R186): the link register reads the return address, no other register changes. -/
def Cpu.goes (c : Cpu) (link : Reg) (a : Word) (d : Cpu) : Prop :=
  c.puts d link (c.pc + 4#32) ∧ d.pc = a ∧ d.commits = c.commits + 1 ∧ d.c = c.c ∧ d.acc = c.acc ∧ d.fpcsr = c.fpcsr ∧ c.sameStatus d

/-- A trap entry (R160): the saved registers, the status and the next pc, in the terms of Table 6-6. -/
def Cpu.traps (c : Cpu) (cause detail : Nat) (eaddr : Word) (next : Bool) (word : Word) (d : Cpu) : Prop :=
  d.pc = c.vbase + w32 (16 * cause) ∧ d.epc = (if next then c.pc + 4#32 else c.pc) ∧ d.epsr = c.psr ∧
  bitsOf d.ecause.toNat 0 8 = cause ∧ bitsOf d.ecause.toNat 8 8 = detail ∧ d.eaddr = eaddr ∧ d.einsn = word ∧
  d.pl = (if c.isSup then 2 else 1) ∧ d.ie = false ∧ d.inexc = true ∧ d.nmiact = c.nmiact ∧ d.isSplit = c.isSplit ∧ d.isSup = c.isSup ∧
  c.sameK d ∧ d.c = c.c ∧ d.acc = c.acc ∧ d.fpcsr = c.fpcsr ∧ d.vbase = c.vbase ∧ d.trapcfg = c.trapcfg ∧ d.crcctl = c.crcctl ∧
  d.scratch0 = c.scratch0 ∧ d.scratch1 = c.scratch1

/-- What an instruction leaves outside the selected cores: every other core, the OTP store and the queue; and, where no debugger can halt
the pair, every other dispatch target, every register outside `rs` and every part of the hardware but the cores' own and `ps`. -/
def AroundBut (ps : List Part) (rs : List Nat) (sel : CoreSel) (s t : State) : Prop :=
  (∀ j, j ∉ sel.cores → t.hw.cpu j = s.hw.cpu j) ∧ (sel ≠ .sup → t.hw.exe.sup = s.hw.exe.sup) ∧ t.otp = s.otp ∧ t.pending = s.pending ∧
  (sel = .sup ∨ s.hw.mode ≠ .debug → Frame (.exe :: .free :: ps) rs s t ∧ ∀ j, j ≠ sel.target → t.hw.tgt j = s.hw.tgt j)

/-- What an instruction that asks nothing of memory leaves: as `AroundBut` with nothing excepted, and all of memory, and the held items. -/
def Around (sel : CoreSel) (s t : State) : Prop :=
  AroundBut [] [] sel s t ∧ (∀ a, t.hw.mb a = s.hw.mb a) ∧ (sel = .sup ∨ s.hw.mode ≠ .debug → t.hw.exe.held = s.hw.exe.held)

/-- The instruction completes on the selector: each of its cores goes from `c` to a `d` with `P c d`, and nothing else changes. -/
def Completes (i : Instr) (sel : CoreSel) (s : State) (P : Cpu → Cpu → Prop) : Prop :=
  Runs i s (fun t => (∀ b, P (s.core sel b) (t.core sel b)) ∧ Around sel s t)

/-- The instruction completes on the selector with an effect `Q` outside its cores, within `ps` and `rs`. -/
def CompletesBut (ps : List Part) (rs : List Nat) (i : Instr) (sel : CoreSel) (s : State) (P : Cpu → Cpu → Prop) (Q : State → Prop) : Prop :=
  Runs i s (fun t => (∀ b, P (s.core sel b) (t.core sel b)) ∧ AroundBut ps rs sel s t ∧ Q t)

/-- Bytes `a` to `a + n − 1` hold the little-endian number `v`, and every other byte is as it was. -/
def Stored (s t : State) (a n v : Nat) : Prop :=
  (∀ i, i < n → t.hw.mb (a + i) = BitVec.ofNat 8 (v / 2 ^ (8 * i))) ∧ ∀ x, (x < a ∨ a + n ≤ x) → t.hw.mb x = s.hw.mb x

end Sys2Proof.Machine
end

