-- ==== Sys2Proof/WellFormed.lean ====
section
/-! DEFINITION. Which commands are well formed: every operand in the range that the spec gives its field. -/

namespace Sys2Proof.Machine

/-- A descriptor (Table 12-5): every field in its width. -/
def Desc.wf (d : Desc) : Bool :=
  decide (d.op < 2 ^ 16 ∧ d.flags < 2 ^ 8 ∧ d.tag < 2 ^ 32 ∧ d.addr < 2 ^ 64 ∧ d.len < 2 ^ 32 ∧ d.p0 < 2 ^ 32 ∧ d.p1 < 2 ^ 32 ∧ d.p2 < 2 ^ 32) &&
  (match d.src with
   | .ring r slot => decide (r < 8 ∧ slot < 2 ^ 16)
   | .eng dir sid => decide (dir < 16384 ∧ sid < 2 ^ 128)
   | .own => false)

/-- A received frame: addresses and PRP trailer in their widths. -/
def RxFrame.wf (f : RxFrame) : Bool :=
  decide (f.mac < 2 ^ 48 ∧ f.ip < 2 ^ 32) && f.trailer.all (fun x => decide (x.1 < 2 ^ 16 ∧ x.2 < 2 ^ 4))

/-- A telegram: its header fields in their widths. -/
def PdTelegram.wf (t : PdTelegram) : Bool :=
  decide (t.ver < 2 ^ 16 ∧ t.msg < 2 ^ 16 ∧ t.comId < 2 ^ 32 ∧ t.etb < 2 ^ 32 ∧ t.opt < 2 ^ 32 ∧ t.seq < 2 ^ 32 ∧ t.len < 2 ^ 32)

/-- An announce message. -/
def Announce.wf (a : Announce) : Bool := decide (a.domain < 256 ∧ a.prio1 < 256 ∧ a.clockClass < 256 ∧ a.utc < 2 ^ 16)

/-- A heartbeat (Table 11-4). -/
def Beat.wf (b : Beat) : Bool := decide (b.count < 2 ^ 32 ∧ b.mode < 16 ∧ b.sync < 8 ∧ b.tb < 2 ^ 64 ∧ b.mac < 2 ^ 48)

/-- A foreign-read entry (R300). -/
def ReadEntry.wf (e : ReadEntry) : Bool := decide (e.addr < 2 ^ 32 ∧ e.size ≤ 8 ∧ e.value < 2 ^ 64 ∧ e.task < 32 ∧ e.exec < 256)

/-- What a group's front-ends show. -/
def FsSeen.wf (x : FsSeen) : Bool := decide (x.high < 256 ∧ x.limiting < 256 ∧ x.meas < 2 ^ 26 ∧ x.temp < 256)

/-- The bits of a frame that a line inverts: a field frame has at most 256 bits. -/
def Line.wf : Line → Bool
  | .frame err => decide (err < 2 ^ 256)
  | .lost => true

/-- A ring of the doorbell page (Tables 12-3 and 12-4). -/
def RingIn.wf (r : RingIn) : Bool := decide (r.sqBase < 2 ^ 64 ∧ r.cqBase < 2 ^ 64 ∧ r.w10 < 2 ^ 32 ∧ r.sqProd < 2 ^ 32 ∧ r.cqCons < 2 ^ 32)

end Sys2Proof.Machine

namespace Sys2Proof

open Sys2Proof.Machine

/-- Whether every operand of a command is in its range. -/
def Instr.wf : Instr → Bool
  | .powerOn vin hold _ _ => decide (vin < 512 ∧ hold < 512)
  | .bootModeDecision us => decide (us < 2 ^ 32)
  | .preferredWaitExpiry => true
  | .backupRetentionTrip => true
  | .reserveLatch vin => decide (vin < 512)
  | .vinRestored vin => decide (vin < 512)
  | .holdCharged hold => decide (hold < 512)
  | .reserveFault => true
  | .vinLoss us hold _ => decide (us < 65536 ∧ hold < 512)
  | .coreRailBrownOut => true
  | .droopDetect => true
  | .droopHoldExpiry _ => true
  | .droopLimitExpiry => true
  | .clkmonWindow _ count => decide (count < 2 ^ 32)
  | .clockStopDetect _ => true
  | .coreFaultReset => true
  | .monCheck _ => true
  | .safeRetainFlush => true
  | .automaticRecovery => true
  | .startupLimitExpiry => true
  | .recoveryBoundExpiry => true
  | .selfTestComplete cmp _ fails => cmp.all (fun x => decide (1 ≤ x.2 ∧ x.2 ≤ 4)) && fails.all (fun x => decide (1 ≤ x.2 ∧ x.2 ≤ 11))
  | .start d => d.wf
  | .stop d => d.wf
  | .test d => d.wf
  | .service d => d.wf
  | .serviceExit d => d.wf
  | .park d => d.wf
  | .safe d => d.wf
  | .recover d => d.wf
  | .reset d => d.wf
  | .provCommit d => d.wf
  | .commandedResetExpiry => true
  | .parkedWake => true
  | .housekeepingEnd ms => decide (ms < 2 ^ 32)
  | .wakeNLow => true
  | .deferredRequestStart => true
  | .deferredRequestExpiry => true
  | .releaseDue _ => true
  | .dispatch _ _ _ _ => true
  | .windowCompare _ _ _ _ => true
  | .deadlineRelease _ => true
  | .deadlineExpiry _ => true
  | .timerSweep => true
  | .retainPassStart => true
  | .retainStretchCopy _ => true
  | .classCMsLatch => true
  | .classPInstant => true
  | .forceEffective => true
  | .swapPointFound => true
  | .swapSearchTimeout => true
  | .injectionAct _ => true
  | .wdgExpiry _ => true
  | .supWdgExpiry => true
  | .wdgSupCheck _ => true
  | .wdgKey src _ => decide (src < 65536)
  | .wdgKeyTimeout => true
  | .wdgLock => true
  | .hardResetExpiry => true
  | .supIrq _ => true
  | .calSecond => true
  | .tempReading _ => true
  | .calDateRead => true
  | .calendarSetAck => true
  | .calSetFromTimebase => true
  | .pageWriteDone => true
  | .recordWriteDone => true
  | .norOpDone _ => true
  | .scrubSlice => true
  | .unlockExpiry => true
  | .eventRequest code _ _ _ => decide (code.toNat < 0xC000)
  | .recordWrite => true
  | .tokenRefill _ => true
  | .freezeLimit => true
  | .challengeExpiry => true
  | .archivePage => true
  | .rateCounterSave => true
  | .usageCounterSave => true
  | .ethLinkChange _ _ _ => true
  | .pdTelegramReceive f t => f.wf && t.wf
  | .pullRequestReceive f t _ => f.wf && t.wf
  | .messageReceive f _ sid _ => f.wf && decide (sid < 2 ^ 128)
  | .engRequest _ _ => true
  | .ptpMeasurement _ _ _ => true
  | .ptpAnnounceTimeout => true
  | .arpRequest f _ => f.wf
  | .icmpEcho f _ _ => f.wf
  | .igmpQuery f => f.wf
  | .prpSupervisionSend => true
  | .prpEntryForget => true
  | .publicationInstant _ _ => true
  | .pullSubscribeInstant _ => true
  | .sessionTimeout _ => true
  | .heartbeatInstant => true
  | .heartbeatReceive fseq f b => decide (fseq < 2 ^ 32) && f.all RxFrame.wf && b.wf
  | .guyLineMiss _ => true
  | .syncLinkUp => true
  | .syncLinkDown => true
  | .syncFrameError => true
  | .timeReceive fseq own seen sent => decide (fseq < 2 ^ 32 ∧ own < 2 ^ 64 ∧ seen < 2 ^ 64 ∧ sent < 2 ^ 64)
  | .controlReceive fseq _ => decide (fseq < 2 ^ 32)
  | .ackReceive fseq lo hi => decide (fseq < 2 ^ 32 ∧ lo < 2 ^ 32) && hi.all (fun x => decide (lo ≤ x ∧ x < 2 ^ 32))
  | .ackTimeout => true
  | .snapshotReceive fseq _ _ k due _ _ => decide (fseq < 2 ^ 32 ∧ k < 2 ^ 64 ∧ due < 2 ^ 64)
  | .readsReceive fseq es _ => decide (fseq < 2 ^ 32) && es.all ReadEntry.wf
  | .releaseReceive fseq _ k _ => decide (fseq < 2 ^ 32 ∧ k < 2 ^ 64)
  | .reexecMarker fseq _ k _ => decide (fseq < 2 ^ 32 ∧ k < 2 ^ 64)
  | .stateReceive fseq _ => decide (fseq < 2 ^ 32)
  | .countersReceive fseq cs _ => decide (fseq < 2 ^ 32) && cs.all (fun x => decide (x.1 < 512 ∧ x.2.1 < 2 ^ 32 ∧ x.2.2 < 2 ^ 32))
  | .countersSend => true
  | .resyncStart => true
  | .resyncStepDone _ => true
  | .liveInDrop => true
  | .liveInGlitch => true
  | .liveInAssert => true
  | .takeoverHoldExpiry _ => true
  | .revertHoldComplete => true
  | .revertPropose => true
  | .revertConfirmTimeout => true
  | .revertInstant => true
  | .revertHandoverExpiry => true
  | .outboundBoundary _ => true
  | .returnFrameCheck _ l => l.wf
  | .fieldFrameReceive _ l x => l.wf && x.wf
  | .autonomyTimeout _ => true
  | .carrierFault _ => true
  | .carrierRestart _ => true
  | .zirekBoundary _ => true
  | .zirekReturn _ w => decide (w < 2 ^ 64)
  | .diFilterExpiry _ _ => true
  | .pulseCount _ _ => true
  | .wirebreakSet _ i1 => decide (i1 < 2 ^ 16)
  | .wirebreakClear _ i1 => decide (i1 < 2 ^ 16)
  | .overloadSwitchOff _ ma => decide (ma < 2 ^ 16)
  | .thermalSwitchOff _ temp => decide (temp < 2 ^ 16)
  | .retryExpiry _ => true
  | .inrushExpiry _ => true
  | .supplyMeasurement _ v => decide (v < 2 ^ 16)
  | .supplyFlagChange _ => true
  | .conversionEnd _ _ _ => true
  | .limiterEngage _ _ => true
  | .limiterDisconnect _ => true
  | .limiterReconnect _ => true
  | .limiterClear _ => true
  | .aoThermal _ _ => true
  | .channelTestEnd _ _ v => decide (v < 2 ^ 16)
  | .tableWrite _ _ _ => true
  | .fldAnTestWrite _ _ => true
  | .fldLatchClr _ _ => true
  | .doorbellPoll is => decide (is.length ≤ 8) && is.all (fun x => decide (x.1 < 2 ^ 32 ∧ x.2 < 2 ^ 32))
  | .descriptorFetchDone fs => decide (fs.length ≤ 8) && fs.all (fun x => x.all (fun ds => ds.all Desc.wf))
  | .completionWrite => true
  | .completionRoom _ => true
  | .go _ tab => decide (tab.length ≤ 8) && tab.all RingIn.wf
  | .goClear _ => true
  | .pcieLinkLoss _ => true
  | .pcieLinkUp _ _ => true
  | .pieceGapTimeout => true
  | .eventWaitTimeout => true
  | .nop d => d.wf
  | .identify d => d.wf
  | .regRead d => d.wf
  | .regWrite d => d.wf
  | .eventWait d => d.wf
  | .progLoadSram d => d.wf
  | .progLoadNor d => d.wf
  | .progStrike d => d.wf
  | .progInfo d => d.wf
  | .forceSet d => d.wf
  | .forceClear d => d.wf
  | .forceClearAll d => d.wf
  | .forceList d => d.wf
  | .olcStage d => d.wf
  | .olcArm d => d.wf
  | .olcCancel d => d.wf
  | .recRead d => d.wf
  | .recRelease d => d.wf
  | .recChallenge d => d.wf
  | .recClear d => d.wf
  | .nvRead d => d.wf
  | .nvWrite d => d.wf
  | .nvUnlock d => d.wf
  | .nvScrub d => d.wf
  | .norEraseArchive d => d.wf
  | .norEraseProgramSlot d => d.wf
  | .fwUpdate d => d.wf
  | .calSet d => d.wf
  | .calGet d => d.wf
  | .cfgWrite d => d.wf
  | .cfgRead d => d.wf
  | .cfgChoose d => d.wf
  | .dbgAttach d => d.wf
  | .dbgDetach d => d.wf
  | .dbgHalt d => d.wf
  | .dbgResume d => d.wf
  | .dbgStep d => d.wf
  | .dbgBreak d => d.wf
  | .dbgRead d => d.wf
  | .dbgWrite d => d.wf
  | .chtStart d => d.wf
  | .chtEnd d => d.wf
  | .injArm d => d.wf
  | .attest d => d.wf
  | .provKey d => d.wf
  | .epochLoRead => true
  | .tbLoRead => true
  | .pointLoRead => true
  | .tmrDataCommit _ => true
  | .sesDataCommit _ => true
  | .dirDataCommit _ => true
  | .rlDataCommit _ => true
  | .evrLookup _ => true
  | .registerWrite _ _ _ => true
  | .undefinedWord _ _ => true
  | .add _ _ _ _ => true
  | .sub _ _ _ _ => true
  | .and _ _ _ _ => true
  | .or _ _ _ _ => true
  | .xor _ _ _ _ => true
  | .andn _ _ _ _ => true
  | .orn _ _ _ _ => true
  | .xnor _ _ _ _ => true
  | .sll _ _ _ _ => true
  | .srl _ _ _ _ => true
  | .sra _ _ _ _ => true
  | .rol _ _ _ _ => true
  | .ror _ _ _ _ => true
  | .min _ _ _ _ => true
  | .max _ _ _ _ => true
  | .minu _ _ _ _ => true
  | .maxu _ _ _ _ => true
  | .adds _ _ _ _ => true
  | .subs _ _ _ _ => true
  | .mul _ _ _ _ => true
  | .mulh _ _ _ _ => true
  | .mulhu _ _ _ _ => true
  | .div _ _ _ _ => true
  | .divu _ _ _ _ => true
  | .rem _ _ _ _ => true
  | .remu _ _ _ _ => true
  | .addi _ _ _ _ => true
  | .andi _ _ _ _ => true
  | .ori _ _ _ _ => true
  | .xori _ _ _ _ => true
  | .slli _ _ _ _ => true
  | .srli _ _ _ _ => true
  | .srai _ _ _ _ => true
  | .rori _ _ _ _ => true
  | .lui _ _ _ => true
  | .auipc _ _ _ => true
  | .li _ _ _ => true
  | .ceq _ _ _ _ => true
  | .cne _ _ _ _ => true
  | .clt _ _ _ _ => true
  | .cge _ _ _ _ => true
  | .cltu _ _ _ _ => true
  | .cgeu _ _ _ _ => true
  | .ceqi _ _ _ _ => true
  | .cnei _ _ _ _ => true
  | .clti _ _ _ _ => true
  | .cgei _ _ _ _ => true
  | .cltui _ _ _ _ => true
  | .cgeui _ _ _ _ => true
  | .cand _ _ _ _ => true
  | .cor _ _ _ _ => true
  | .cxor _ _ _ _ => true
  | .candn _ _ _ _ => true
  | .cmov _ _ _ => true
  | .cnot _ _ _ => true
  | .cset _ _ => true
  | .cclr _ _ => true
  | .setc _ _ _ => true
  | .sel _ _ _ _ _ => true
  | .seln _ _ _ _ _ => true
  | .bc _ _ _ _ => true
  | .j _ _ => true
  | .call _ _ => true
  | .jalr _ _ _ _ => true
  | .lb _ _ _ _ => true
  | .lbu _ _ _ _ => true
  | .lh _ _ _ _ => true
  | .lhu _ _ _ _ => true
  | .lw _ _ _ _ => true
  | .ld _ _ _ _ => true
  | .sb _ _ _ _ => true
  | .sh _ _ _ _ => true
  | .sw _ _ _ _ => true
  | .sd _ _ _ _ => true
  | .crcb _ _ _ _ => true
  | .crch _ _ _ _ => true
  | .crcw _ _ _ _ => true
  | .par _ _ _ => true
  | .parb _ _ _ => true
  | .brev _ _ _ => true
  | .brevb _ _ _ => true
  | .bswap _ _ _ => true
  | .clz _ _ _ => true
  | .ctz _ _ _ => true
  | .popc _ _ _ => true
  | .sextb _ _ _ => true
  | .sexth _ _ _ => true
  | .zexth _ _ _ => true
  | .bld _ _ _ _ => true
  | .band _ _ _ _ => true
  | .bor _ _ _ _ => true
  | .bxor _ _ _ _ => true
  | .bst _ _ _ _ => true
  | .bset _ _ _ => true
  | .bclr _ _ _ => true
  | .btgl _ _ _ => true
  | .bseta _ _ _ _ => true
  | .brsta _ _ _ _ => true
  | .edgr _ _ _ => true
  | .edgf _ _ _ => true
  | .acld _ _ => true
  | .acst _ _ => true
  | .acand _ _ => true
  | .acor _ _ => true
  | .aldr _ _ => true
  | .astr _ _ => true
  | .anot _ => true
  | .aset _ => true
  | .aclr _ => true
  | .acxor _ _ => true
  | .tend _ => true
  | .tfault _ _ => true
  | .syscall _ => true
  | .brk _ => true
  | .eret _ => true
  | .wdchk _ => true
  | .mfcr _ _ _ => true
  | .mtcr _ _ _ => true
  | .mfc _ _ => true
  | .mtc _ _ => true
  | .fadd _ _ _ _ => true
  | .fsub _ _ _ _ => true
  | .fmul _ _ _ _ => true
  | .fdiv _ _ _ _ => true
  | .fsqrt _ _ _ => true
  | .fmin _ _ _ _ => true
  | .fmax _ _ _ _ => true
  | .fabs _ _ _ => true
  | .fneg _ _ _ => true
  | .fcvtsw _ _ _ => true
  | .fcvtswu _ _ _ => true
  | .fcvtws _ _ _ => true
  | .fcvtwus _ _ _ => true
  | .feq _ _ _ _ => true
  | .flt _ _ _ _ => true
  | .fle _ _ _ _ => true
  | .fun _ _ _ _ => true
  | .fclass _ _ _ => true
  | .tev _ _ _ _ => true
  | .tevx _ _ _ _ => true
  | .teth _ _ _ => true
  | .trst _ _ => true
  | .trds _ _ _ => true
  | .fstat _ _ => true
  | .fqry _ _ _ => true
  | .irec _ _ _ => true
  | .ibit _ _ _ _ => true
  | .scb _ _ _ _ => true
  | .sch _ _ _ _ => true
  | .scw _ _ _ _ => true
  | .xq _ _ _ _ _ _ => true
  | .xp _ _ _ _ _ => true
  | .extQueryTimeout _ => true
  | .extResponseReceive _ _ => true
  | .partnerConfirmTimeout => true
  | .pairDeadlineCopy _ => true
  | .lanternFlashToggle => true
  | .autonomyReturnFrame _ x => x.wf
  | .doSwitchCooled _ => true
  | .extRstNRelease => true
  | .extBusyLow _ => true
  | .jtagAccess kind num _ _ => decide (kind < 5 ∧ num < 2 ^ 32)
  | .ptpAnnounceReceive a => a.wf
  | .holdCollapse _ _ _ => true

end Sys2Proof
end

