-- ==== Sys2Proof/Certificates/Slice0/Obligations.lean ====
section
/-! DEFINITION. The statements for the provers. Each docstring names the rules of spec/ that the statement formalises. -/

open Sys2Proof Sys2Proof.Machine

/-- ADD to MULHU of Table 7-5, on every selector where an instruction can run: each core writes k[rd] with the value of the table
from its own registers, steps to the next instruction with one commit, and nothing else changes: no other register, condition bit,
accumulator, status or control register, byte of memory, other core. Where the spec leaves a point open the clauses follow the
model's own reading (assumption log 8). (spec/07_kyoquel_instructions.md R183, spec/06_kyoquel_model.md R152) -/
def Obligations.RegisterIntegerResults : Prop :=
  ∀ (s : State) (sel : CoreSel) (rd rs1 rs2 : Reg), s.ready sel →
    Completes (.add sel rd rs1 rs2) sel s (fun c => c.gives rd (c.rd rs1 + c.rd rs2)) ∧
    Completes (.sub sel rd rs1 rs2) sel s (fun c => c.gives rd (c.rd rs1 - c.rd rs2)) ∧
    Completes (.and sel rd rs1 rs2) sel s (fun c => c.gives rd (c.rd rs1 &&& c.rd rs2)) ∧
    Completes (.or sel rd rs1 rs2) sel s (fun c => c.gives rd (c.rd rs1 ||| c.rd rs2)) ∧
    Completes (.xor sel rd rs1 rs2) sel s (fun c => c.gives rd (c.rd rs1 ^^^ c.rd rs2)) ∧
    Completes (.andn sel rd rs1 rs2) sel s (fun c => c.gives rd (c.rd rs1 &&& ~~~(c.rd rs2))) ∧
    Completes (.orn sel rd rs1 rs2) sel s (fun c => c.gives rd (c.rd rs1 ||| ~~~(c.rd rs2))) ∧
    Completes (.xnor sel rd rs1 rs2) sel s (fun c => c.gives rd (~~~(c.rd rs1 ^^^ c.rd rs2))) ∧
    Completes (.sll sel rd rs1 rs2) sel s (fun c => c.gives rd ((c.rd rs1) <<< ((c.rd rs2).toNat % 32))) ∧
    Completes (.srl sel rd rs1 rs2) sel s (fun c => c.gives rd ((c.rd rs1) >>> ((c.rd rs2).toNat % 32))) ∧
    Completes (.sra sel rd rs1 rs2) sel s (fun c => c.gives rd ((c.rd rs1).sshiftRight ((c.rd rs2).toNat % 32))) ∧
    Completes (.rol sel rd rs1 rs2) sel s (fun c => c.gives rd ((c.rd rs1).rotateLeft ((c.rd rs2).toNat % 32))) ∧
    Completes (.ror sel rd rs1 rs2) sel s (fun c => c.gives rd ((c.rd rs1).rotateRight ((c.rd rs2).toNat % 32))) ∧
    Completes (.min sel rd rs1 rs2) sel s (fun c => c.gives rd (if (c.rd rs1).toInt < (c.rd rs2).toInt then c.rd rs1 else c.rd rs2)) ∧
    Completes (.max sel rd rs1 rs2) sel s (fun c => c.gives rd (if (c.rd rs1).toInt < (c.rd rs2).toInt then c.rd rs2 else c.rd rs1)) ∧
    Completes (.minu sel rd rs1 rs2) sel s (fun c => c.gives rd (if (c.rd rs1).toNat < (c.rd rs2).toNat then c.rd rs1 else c.rd rs2)) ∧
    Completes (.maxu sel rd rs1 rs2) sel s (fun c => c.gives rd (if (c.rd rs1).toNat < (c.rd rs2).toNat then c.rd rs2 else c.rd rs1)) ∧
    Completes (.adds sel rd rs1 rs2) sel s (fun c => c.gives rd (BitVec.ofInt 32 (max (-2 ^ 31) (min (2 ^ 31 - 1) ((c.rd rs1).toInt + (c.rd rs2).toInt))))) ∧
    Completes (.subs sel rd rs1 rs2) sel s (fun c => c.gives rd (BitVec.ofInt 32 (max (-2 ^ 31) (min (2 ^ 31 - 1) ((c.rd rs1).toInt - (c.rd rs2).toInt))))) ∧
    Completes (.mul sel rd rs1 rs2) sel s (fun c => c.gives rd (BitVec.ofNat 32 ((c.rd rs1).toNat * (c.rd rs2).toNat))) ∧
    Completes (.mulh sel rd rs1 rs2) sel s (fun c => c.gives rd (BitVec.ofInt 32 (((c.rd rs1).toInt * (c.rd rs2).toInt) / 2 ^ 32))) ∧
    Completes (.mulhu sel rd rs1 rs2) sel s (fun c => c.gives rd (BitVec.ofNat 32 (((c.rd rs1).toNat * (c.rd rs2).toNat) / 2 ^ 32)))

/-- ADDI to LI of Table 7-6, on every selector where an instruction can run, for every immediate: k[rd] and nothing else, one
commit, next instruction. Where the spec leaves a point open the clauses follow the model's own reading (assumption log 8).
(spec/07_kyoquel_instructions.md R183) -/
def Obligations.ImmediateIntegerResults : Prop :=
  ∀ (s : State) (sel : CoreSel) (rd rs1 : Reg), s.ready sel →
    (∀ i : BitVec 15, Completes (.addi sel rd rs1 i) sel s (fun c => c.gives rd (c.rd rs1 + i.signExtend 32))) ∧
    (∀ i : BitVec 15, Completes (.andi sel rd rs1 i) sel s (fun c => c.gives rd (c.rd rs1 &&& i.setWidth 32))) ∧
    (∀ i : BitVec 15, Completes (.ori sel rd rs1 i) sel s (fun c => c.gives rd (c.rd rs1 ||| i.setWidth 32))) ∧
    (∀ i : BitVec 15, Completes (.xori sel rd rs1 i) sel s (fun c => c.gives rd (c.rd rs1 ^^^ i.setWidth 32))) ∧
    (∀ i : BitVec 5, Completes (.slli sel rd rs1 i) sel s (fun c => c.gives rd ((c.rd rs1) <<< i.toNat))) ∧
    (∀ i : BitVec 5, Completes (.srli sel rd rs1 i) sel s (fun c => c.gives rd ((c.rd rs1) >>> i.toNat))) ∧
    (∀ i : BitVec 5, Completes (.srai sel rd rs1 i) sel s (fun c => c.gives rd ((c.rd rs1).sshiftRight i.toNat))) ∧
    (∀ i : BitVec 5, Completes (.rori sel rd rs1 i) sel s (fun c => c.gives rd ((c.rd rs1).rotateRight i.toNat))) ∧
    (∀ i : BitVec 20, Completes (.lui sel rd i) sel s (fun c => c.gives rd ((i.setWidth 32) <<< 12))) ∧
    (∀ i : BitVec 20, Completes (.auipc sel rd i) sel s (fun c => c.gives rd (c.pc + (i.setWidth 32) <<< 12))) ∧
    (∀ i : BitVec 20, Completes (.li sel rd i) sel s (fun c => c.gives rd (i.signExtend 32)))

/-- DIV, DIVU, REM and REMU: with a divisor other than 0, or with TRAPCFG.DZ = 0, they write k[rd]: the quotient truncated toward
zero or the remainder with the sign of the dividend, a quotient by zero 0 and a remainder by zero k[rs1]; with a divisor of 0 and DZ
= 1 they enter DIVZ and write no register. DIV and REM of 0x80000000 by 0xFFFFFFFF give 0x80000000 and 0 by the same formulas.
(spec/07_kyoquel_instructions.md R184) -/
def Obligations.DivisionResults : Prop :=
    (∀ (s : State) (sel : CoreSel) (rd rs1 rs2 : Reg), s.ready sel →
      (∀ b, (s.core sel b).rd rs2 ≠ 0#32 ∨ (s.core sel b).trapcfg.getLsbD 0 = false) →
        Completes (.div sel rd rs1 rs2) sel s (fun c => c.gives rd (if c.rd rs2 = 0#32 then 0#32 else BitVec.ofInt 32 ((c.rd rs1).toInt.tdiv (c.rd rs2).toInt))) ∧
        Completes (.divu sel rd rs1 rs2) sel s (fun c => c.gives rd (if c.rd rs2 = 0#32 then 0#32 else BitVec.ofNat 32 ((c.rd rs1).toNat / (c.rd rs2).toNat))) ∧
        Completes (.rem sel rd rs1 rs2) sel s (fun c => c.gives rd (if c.rd rs2 = 0#32 then c.rd rs1 else BitVec.ofInt 32 ((c.rd rs1).toInt.tmod (c.rd rs2).toInt))) ∧
        Completes (.remu sel rd rs1 rs2) sel s (fun c => c.gives rd (if c.rd rs2 = 0#32 then c.rd rs1 else BitVec.ofNat 32 ((c.rd rs1).toNat % (c.rd rs2).toNat)))) ∧
    (∀ (s : State) (sel : CoreSel) (rd rs1 rs2 : Reg), s.ready sel → s.calm sel →
      (∀ b, (s.core sel b).rd rs2 = 0#32 ∧ (s.core sel b).trapcfg.getLsbD 0 = true) →
        Completes (.div sel rd rs1 rs2) sel s (fun c => c.traps 10 0 0#32 false (kyEncode (.div rd rs1 rs2))) ∧
        Completes (.divu sel rd rs1 rs2) sel s (fun c => c.traps 10 0 0#32 false (kyEncode (.divu rd rs1 rs2))) ∧
        Completes (.rem sel rd rs1 rs2) sel s (fun c => c.traps 10 0 0#32 false (kyEncode (.rem rd rs1 rs2))) ∧
        Completes (.remu sel rd rs1 rs2) sel s (fun c => c.traps 10 0 0#32 false (kyEncode (.remu rd rs1 rs2)))) ∧
    (BitVec.ofInt 32 ((0x80000000#32).toInt.tdiv (0xFFFFFFFF#32).toInt) = 0x80000000#32 ∧
      BitVec.ofInt 32 ((0x80000000#32).toInt.tmod (0xFFFFFFFF#32).toInt) = 0#32)

/-- The instructions of Table 7-7 on every selector where an instruction can run: a compare or condition instruction writes the
condition bit cd with its relation or combination and nothing else but pc, marigold and commit count; SETC, SEL and SELN write k[rd]
only. None raises an exception: each completes in every state that is ready. (spec/07_kyoquel_instructions.md R185) -/
def Obligations.CompareConditionSelectResults : Prop :=
  ∀ (s : State) (sel : CoreSel) (cd ca cb : CBit) (rd rs1 rs2 : Reg), s.ready sel →
    Completes (.ceq sel cd rs1 rs2) sel s (fun c => c.givesC cd (decide (c.rd rs1 = c.rd rs2))) ∧
    Completes (.cne sel cd rs1 rs2) sel s (fun c => c.givesC cd (decide (c.rd rs1 ≠ c.rd rs2))) ∧
    Completes (.clt sel cd rs1 rs2) sel s (fun c => c.givesC cd (decide ((c.rd rs1).toInt < (c.rd rs2).toInt))) ∧
    Completes (.cge sel cd rs1 rs2) sel s (fun c => c.givesC cd (decide ((c.rd rs2).toInt ≤ (c.rd rs1).toInt))) ∧
    Completes (.cltu sel cd rs1 rs2) sel s (fun c => c.givesC cd (decide ((c.rd rs1).toNat < (c.rd rs2).toNat))) ∧
    Completes (.cgeu sel cd rs1 rs2) sel s (fun c => c.givesC cd (decide ((c.rd rs2).toNat ≤ (c.rd rs1).toNat))) ∧
    (∀ i : BitVec 15, Completes (.ceqi sel cd rs1 i) sel s (fun c => c.givesC cd (decide (c.rd rs1 = i.signExtend 32)))) ∧
    (∀ i : BitVec 15, Completes (.cnei sel cd rs1 i) sel s (fun c => c.givesC cd (decide (c.rd rs1 ≠ i.signExtend 32)))) ∧
    (∀ i : BitVec 15, Completes (.clti sel cd rs1 i) sel s (fun c => c.givesC cd (decide ((c.rd rs1).toInt < (i.signExtend 32).toInt)))) ∧
    (∀ i : BitVec 15, Completes (.cgei sel cd rs1 i) sel s (fun c => c.givesC cd (decide ((i.signExtend 32).toInt ≤ (c.rd rs1).toInt)))) ∧
    (∀ i : BitVec 15, Completes (.cltui sel cd rs1 i) sel s (fun c => c.givesC cd (decide ((c.rd rs1).toNat < (i.signExtend 32).toNat)))) ∧
    (∀ i : BitVec 15, Completes (.cgeui sel cd rs1 i) sel s (fun c => c.givesC cd (decide ((i.signExtend 32).toNat ≤ (c.rd rs1).toNat)))) ∧
    Completes (.cand sel cd ca cb) sel s (fun c => c.givesC cd (c.cb ca && c.cb cb)) ∧
    Completes (.cor sel cd ca cb) sel s (fun c => c.givesC cd (c.cb ca || c.cb cb)) ∧
    Completes (.cxor sel cd ca cb) sel s (fun c => c.givesC cd (c.cb ca != c.cb cb)) ∧
    Completes (.candn sel cd ca cb) sel s (fun c => c.givesC cd (c.cb ca && !c.cb cb)) ∧
    Completes (.cmov sel cd ca) sel s (fun c => c.givesC cd (c.cb ca)) ∧
    Completes (.cnot sel cd ca) sel s (fun c => c.givesC cd (!c.cb ca)) ∧
    Completes (.cset sel cd) sel s (fun c => c.givesC cd (true)) ∧
    Completes (.cclr sel cd) sel s (fun c => c.givesC cd (false)) ∧
    Completes (.setc sel rd ca) sel s (fun c => c.gives rd (if c.cb ca then 1#32 else 0#32)) ∧
    Completes (.sel sel rd rs1 rs2 ca) sel s (fun c => c.gives rd (if c.cb ca then c.rd rs1 else c.rd rs2)) ∧
    Completes (.seln sel rd rs1 rs2 ca) sel s (fun c => c.gives rd (if c.cb ca then c.rd rs2 else c.rd rs1))

/-- BC, J, CALL and JALR on every selector where an instruction can run: the next instruction address by the formulas of R186, the
link register (none, k1 or rd) reads pc + 4, the register of JALR is read before rd is written, no condition bit or accumulator
changes. An instruction fetched on an execution pair outside code SRAM or from an address that is not a multiple of 4 enters FETCH
with EPC equal to that address. (spec/07_kyoquel_instructions.md R186) -/
def Obligations.ControlTransfers : Prop :=
  (∀ (s : State) (sel : CoreSel), s.ready sel →
    (∀ (cc : CBit) (v : Bool) (d : BitVec 21), Completes (.bc sel cc v d) sel s (fun c => c.goes 0#5 (if c.cb cc = v then c.pc + d.signExtend 32 * 4#32 else c.pc + 4#32))) ∧
    (∀ d : BitVec 25, Completes (.j sel d) sel s (fun c => c.goes 0#5 (c.pc + d.signExtend 32 * 4#32))) ∧
    (∀ d : BitVec 25, Completes (.call sel d) sel s (fun c => c.goes 1#5 (c.pc + d.signExtend 32 * 4#32))) ∧
    (∀ (rd rs1 : Reg) (i : BitVec 15), Completes (.jalr sel rd rs1 i) sel s (fun c => c.goes rd (c.rd rs1 + i.signExtend 32)))) ∧
  (∀ (s : State) (sel : CoreSel) (rd rs1 rs2 : Reg), (s.taskOf sel).isSome = true → s.calm sel →
    (∀ b, (s.core sel b).isSup = false ∧ ((s.core sel b).pc.toNat % 4 ≠ 0 ∨ 0x01000000 ≤ (s.core sel b).pc.toNat)) →
    Completes (.add sel rd rs1 rs2) sel s (fun c d => c.traps 3 0 0#32 false 0#32 d ∧ d.epc = c.pc))

/-- PAR, PARB, BREV, BREVB, BSWAP, CLZ, CTZ, POPC, SEXTB, SEXTH and ZEXTH of Table 7-10, bit by bit in the terms of the table: k[rd]
and nothing else, one commit, next instruction, on every selector where an instruction can run. (spec/07_kyoquel_instructions.md
R190) -/
def Obligations.CharacterResults : Prop :=
  ∀ (s : State) (sel : CoreSel) (rd rs1 : Reg), s.ready sel →
    Completes (.par sel rd rs1) sel s (fun c d => ∃ v : Word, c.gives rd v d ∧ (v = 0#32 ∨ v = 1#32) ∧ (v = 1#32 ↔ ((List.range 32).countP (fun i => (c.rd rs1).getLsbD i)) % 2 = 1)) ∧
    Completes (.parb sel rd rs1) sel s (fun c d => ∃ v : Word, c.gives rd v d ∧ ∀ i < 32, v.getLsbD i = (decide (i < 4) && decide (((List.range 8).countP (fun j => (c.rd rs1).getLsbD (8 * i + j))) % 2 = 1))) ∧
    Completes (.brev sel rd rs1) sel s (fun c d => ∃ v : Word, c.gives rd v d ∧ ∀ i < 32, v.getLsbD i = (c.rd rs1).getLsbD (31 - i)) ∧
    Completes (.brevb sel rd rs1) sel s (fun c d => ∃ v : Word, c.gives rd v d ∧ ∀ i < 32, v.getLsbD i = (c.rd rs1).getLsbD (i / 8 * 8 + (7 - i % 8))) ∧
    Completes (.bswap sel rd rs1) sel s (fun c d => ∃ v : Word, c.gives rd v d ∧ ∀ i < 32, v.getLsbD i = (c.rd rs1).getLsbD ((3 - i / 8) * 8 + i % 8)) ∧
    Completes (.clz sel rd rs1) sel s (fun c d => ∃ v : Word, c.gives rd v d ∧ v.toNat ≤ 32 ∧ (∀ i, 32 - v.toNat ≤ i → i < 32 → (c.rd rs1).getLsbD i = false) ∧ (v.toNat < 32 → (c.rd rs1).getLsbD (31 - v.toNat) = true)) ∧
    Completes (.ctz sel rd rs1) sel s (fun c d => ∃ v : Word, c.gives rd v d ∧ v.toNat ≤ 32 ∧ (∀ i, i < v.toNat → (c.rd rs1).getLsbD i = false) ∧ (v.toNat < 32 → (c.rd rs1).getLsbD v.toNat = true)) ∧
    Completes (.popc sel rd rs1) sel s (fun c d => ∃ v : Word, c.gives rd v d ∧ v.toNat = (List.range 32).countP (fun i => (c.rd rs1).getLsbD i)) ∧
    Completes (.sextb sel rd rs1) sel s (fun c => c.gives rd (((c.rd rs1).setWidth 8).signExtend 32)) ∧
    Completes (.sexth sel rd rs1) sel s (fun c => c.gives rd (((c.rd rs1).setWidth 16).signExtend 32)) ∧
    Completes (.zexth sel rd rs1) sel s (fun c => c.gives rd ((c.rd rs1) &&& 0xFFFF#32))

/-- CRCB, CRCH and CRCW advance k[rs1] over 1, 2 or 4 bytes of k[rs2] with the polynomial that CRCCTL selects; SCB, SCH and SCW with
the safety-code polynomial, on a core that is not SPLIT; the result goes to k[rd] and nothing else changes. On a SPLIT core SCB, SCH
and SCW enter COP with detail 4. Over the nine bytes 0x31 to 0x39 the byte steps give the check values of Table 7-9 and of R201.
(spec/07_kyoquel_instructions.md R189, spec/07_kyoquel_instructions.md R201, spec/05_comparison.md R135) -/
def Obligations.CrcAndSafetyCodeSteps : Prop :=
  (∀ (s : State) (sel : CoreSel) (rd rs1 rs2 : Reg), s.ready sel →
    Completes (.crcb sel rd rs1 rs2) sel s (fun c => c.gives rd (c.crcN (c.rd rs1) (c.rd rs2) 1)) ∧
    Completes (.crch sel rd rs1 rs2) sel s (fun c => c.gives rd (c.crcN (c.rd rs1) (c.rd rs2) 2)) ∧
    Completes (.crcw sel rd rs1 rs2) sel s (fun c => c.gives rd (c.crcN (c.rd rs1) (c.rd rs2) 4)) ∧
    ((∀ b, (s.core sel b).isSplit = false) →
      Completes (.scb sel rd rs1 rs2) sel s (fun c => c.gives rd (overBytes scByte (c.rd rs1) (c.rd rs2) 1)) ∧
      Completes (.sch sel rd rs1 rs2) sel s (fun c => c.gives rd (overBytes scByte (c.rd rs1) (c.rd rs2) 2)) ∧
      Completes (.scw sel rd rs1 rs2) sel s (fun c => c.gives rd (overBytes scByte (c.rd rs1) (c.rd rs2) 4))) ∧
    ((∀ b, (s.core sel b).isSplit = true) → s.calm sel →
      Completes (.scb sel rd rs1 rs2) sel s (fun c => c.traps 9 4 0#32 false (kyEncode (.scb rd rs1 rs2))) ∧
      Completes (.sch sel rd rs1 rs2) sel s (fun c => c.traps 9 4 0#32 false (kyEncode (.sch rd rs1 rs2))) ∧
      Completes (.scw sel rd rs1 rs2) sel s (fun c => c.traps 9 4 0#32 false (kyEncode (.scw rd rs1 rs2))))) ∧
  ([0x31#32, 0x32#32, 0x33#32, 0x34#32, 0x35#32, 0x36#32, 0x37#32, 0x38#32, 0x39#32].foldl (fun x b => overBytes (crcByte 0) x b 1) 0xFFFFFFFF#32
      ^^^ 0xFFFFFFFF#32 = 0xE3069283#32 ∧
    [0x31#32, 0x32#32, 0x33#32, 0x34#32, 0x35#32, 0x36#32, 0x37#32, 0x38#32, 0x39#32].foldl (fun x b => overBytes (crcByte 1) x b 1) 0xFFFFFFFF#32
      ^^^ 0xFFFFFFFF#32 = 0xCBF43926#32 ∧
    [0x31#32, 0x32#32, 0x33#32, 0x34#32, 0x35#32, 0x36#32, 0x37#32, 0x38#32, 0x39#32].foldl (fun x b => overBytes (crcByte 2) x b 1) 0xFFFF#32 = 0x29B1#32 ∧
    [0x31#32, 0x32#32, 0x33#32, 0x34#32, 0x35#32, 0x36#32, 0x37#32, 0x38#32, 0x39#32].foldl (fun x b => overBytes (crcByte 3) x b 1) 0#32 = 0xF4#32 ∧
    [0x31#32, 0x32#32, 0x33#32, 0x34#32, 0x35#32, 0x36#32, 0x37#32, 0x38#32, 0x39#32].foldl (fun x b => overBytes scByte x b 1) 0xFFFFFFFF#32
      ^^^ 0xFFFFFFFF#32 = 0x1697D06A#32)

/-- The ACC group of Table 7-12 on every selector where an instruction can run: the accumulator, the condition bit or the register
that the row names takes the row's value and nothing else changes; none raises an exception. (spec/07_kyoquel_instructions.md R194,
spec/06_kyoquel_model.md R154) -/
def Obligations.AccumulatorResults : Prop :=
  ∀ (s : State) (sel : CoreSel) (cb cd : CBit) (rd rs1 : Reg), s.ready sel →
    Completes (.acld sel cb) sel s (fun c => c.givesAcc (c.cb cb)) ∧
    Completes (.acand sel cb) sel s (fun c => c.givesAcc (c.acc && c.cb cb)) ∧
    Completes (.acor sel cb) sel s (fun c => c.givesAcc (c.acc || c.cb cb)) ∧
    Completes (.aldr sel rs1) sel s (fun c => c.givesAcc (decide (c.rd rs1 ≠ 0#32))) ∧
    Completes (.anot sel) sel s (fun c => c.givesAcc (!c.acc)) ∧
    Completes (.aset sel) sel s (fun c => c.givesAcc (true)) ∧
    Completes (.aclr sel) sel s (fun c => c.givesAcc (false)) ∧
    Completes (.acxor sel cb) sel s (fun c => c.givesAcc (c.acc != c.cb cb)) ∧
    Completes (.acst sel cd) sel s (fun c => c.givesC cd c.acc) ∧
    Completes (.astr sel rd) sel s (fun c => c.gives rd (if c.acc then 1#32 else 0#32))

/-- LB, LBU, LH, LHU, LW and LD on a pair or a SPLIT core, from memory that the view grants, aligned, inside the stack limits where
the base is k2, with no uncorrectable error, no CMP injection armed and nothing of the shadow's own in its data cache, in a task
that takes no reads from a partner: the register, or the even pair of LD, takes the little-endian bytes at k[rs1] + sext(disp) of
the lead, extended as Table 7-8 says, on both cores; no byte of memory and no other register changes; only a foreign read that is
sent to the partner touches the task's read count and the sync link. Where the spec leaves a point open the clauses follow the
model's own reading (assumption log 31, 32). (spec/07_kyoquel_instructions.md R187, spec/07_kyoquel_instructions.md R188,
spec/05_comparison.md R125, spec/05_comparison.md R137) -/
def Obligations.LoadResults : Prop :=
  ∀ (s : State) (sel : CoreSel) (t : Nat) (rt rs1 : Reg) (d : BitVec 15), s.ready sel → s.taskOf sel = some t →
    ((s.core sel false).ea rs1 d).toNat < 0x40000000 → (∀ b, isBlock ((s.core sel b).ea rs1 d).toNat = false) → (s.hw.cyc t).foll = false →
    s.hw.poisoned ((s.core sel false).ea rs1 d).toNat = none → s.noCmpInj → s.cachesAgree sel → s.lineGood sel ((s.core sel false).ea rs1 d).toNat →
    (∀ v, (∀ b, (s.core sel b).memChk rs1 ((s.core sel b).ea rs1 d) 1 = none) → s.hw.loadFault t ((s.core sel false).ea rs1 d).toNat 1 = none →
      v = s.hw.viewNat (sel.target / 2) t ((s.core sel false).ea rs1 d).toNat 1 →
      CompletesBut (if s.hw.foreign t ((s.core sel false).ea rs1 d).toNat 1 && s.hw.leads t then [.tsk, .pair] else []) [] (.lb sel rt rs1 d) sel s
        (fun c => c.gives rt ((BitVec.ofNat 8 v).signExtend 32)) (fun u => ∀ x, u.hw.mb x = s.hw.mb x)) ∧
    (∀ v, (∀ b, (s.core sel b).memChk rs1 ((s.core sel b).ea rs1 d) 1 = none) → s.hw.loadFault t ((s.core sel false).ea rs1 d).toNat 1 = none →
      v = s.hw.viewNat (sel.target / 2) t ((s.core sel false).ea rs1 d).toNat 1 →
      CompletesBut (if s.hw.foreign t ((s.core sel false).ea rs1 d).toNat 1 && s.hw.leads t then [.tsk, .pair] else []) [] (.lbu sel rt rs1 d) sel s
        (fun c => c.gives rt (BitVec.ofNat 32 (v % 2 ^ 8))) (fun u => ∀ x, u.hw.mb x = s.hw.mb x)) ∧
    (∀ v, (∀ b, (s.core sel b).memChk rs1 ((s.core sel b).ea rs1 d) 2 = none) → s.hw.loadFault t ((s.core sel false).ea rs1 d).toNat 2 = none →
      v = s.hw.viewNat (sel.target / 2) t ((s.core sel false).ea rs1 d).toNat 2 →
      CompletesBut (if s.hw.foreign t ((s.core sel false).ea rs1 d).toNat 2 && s.hw.leads t then [.tsk, .pair] else []) [] (.lh sel rt rs1 d) sel s
        (fun c => c.gives rt ((BitVec.ofNat 16 v).signExtend 32)) (fun u => ∀ x, u.hw.mb x = s.hw.mb x)) ∧
    (∀ v, (∀ b, (s.core sel b).memChk rs1 ((s.core sel b).ea rs1 d) 2 = none) → s.hw.loadFault t ((s.core sel false).ea rs1 d).toNat 2 = none →
      v = s.hw.viewNat (sel.target / 2) t ((s.core sel false).ea rs1 d).toNat 2 →
      CompletesBut (if s.hw.foreign t ((s.core sel false).ea rs1 d).toNat 2 && s.hw.leads t then [.tsk, .pair] else []) [] (.lhu sel rt rs1 d) sel s
        (fun c => c.gives rt (BitVec.ofNat 32 (v % 2 ^ 16))) (fun u => ∀ x, u.hw.mb x = s.hw.mb x)) ∧
    (∀ v, (∀ b, (s.core sel b).memChk rs1 ((s.core sel b).ea rs1 d) 4 = none) → s.hw.loadFault t ((s.core sel false).ea rs1 d).toNat 4 = none →
      v = s.hw.viewNat (sel.target / 2) t ((s.core sel false).ea rs1 d).toNat 4 →
      CompletesBut (if s.hw.foreign t ((s.core sel false).ea rs1 d).toNat 4 && s.hw.leads t then [.tsk, .pair] else []) [] (.lw sel rt rs1 d) sel s
        (fun c => c.gives rt (BitVec.ofNat 32 v)) (fun u => ∀ x, u.hw.mb x = s.hw.mb x)) ∧
    (∀ v, rt.getLsbD 0 = false → rt ≠ 0#5 → (∀ b, (s.core sel b).memChk rs1 ((s.core sel b).ea rs1 d) 8 = none) →
      s.hw.loadFault t ((s.core sel false).ea rs1 d).toNat 8 = none → v = s.hw.viewNat (sel.target / 2) t ((s.core sel false).ea rs1 d).toNat 8 →
      CompletesBut (if s.hw.foreign t ((s.core sel false).ea rs1 d).toNat 8 && s.hw.leads t then [.tsk, .pair] else []) [] (.ld sel rt rs1 d) sel s
        (fun c e => e.rd rt = BitVec.ofNat 32 (v % 2 ^ 32) ∧ e.rd (rt + 1#5) = BitVec.ofNat 32 (v / 2 ^ 32) ∧
          (∀ r, r ≠ rt → r ≠ rt + 1#5 → e.rd r = c.rd r) ∧ c.quiet e) (fun u => ∀ x, u.hw.mb x = s.hw.mb x))

/-- On the SUP core an aligned load from a memory region of the supervisor view takes the bytes there, and an aligned store to a
region that grants writing puts the bytes of the register there; nothing else changes. Where the spec leaves a point open the
clauses follow the model's own reading (assumption log 30). (spec/01_architecture.md Table 1-5, spec/07_kyoquel_instructions.md
R187) -/
def Obligations.SupervisorLoadsAndStores : Prop :=
  (∀ (s : State) (rt rs1 : Reg) (d : BitVec 15), s.ready .sup → isBlock ((s.core .sup false).ea rs1 d).toNat = false →
    (∀ v, (s.core .sup false).memChk rs1 ((s.core .sup false).ea rs1 d) 1 = none → supReadable ((s.core .sup false).ea rs1 d).toNat 1 = true → s.hw.supPoison ((s.core .sup false).ea rs1 d).toNat 1 = none →
      v = s.hw.ml ((s.core .sup false).ea rs1 d).toNat 1 → Completes (.lb .sup rt rs1 d) .sup s (fun c => c.gives rt ((BitVec.ofNat 8 v).signExtend 32))) ∧
    (∀ v, (s.core .sup false).memChk rs1 ((s.core .sup false).ea rs1 d) 1 = none → supReadable ((s.core .sup false).ea rs1 d).toNat 1 = true → s.hw.supPoison ((s.core .sup false).ea rs1 d).toNat 1 = none →
      v = s.hw.ml ((s.core .sup false).ea rs1 d).toNat 1 → Completes (.lbu .sup rt rs1 d) .sup s (fun c => c.gives rt (BitVec.ofNat 32 (v % 2 ^ 8)))) ∧
    (∀ v, (s.core .sup false).memChk rs1 ((s.core .sup false).ea rs1 d) 2 = none → supReadable ((s.core .sup false).ea rs1 d).toNat 2 = true → s.hw.supPoison ((s.core .sup false).ea rs1 d).toNat 2 = none →
      v = s.hw.ml ((s.core .sup false).ea rs1 d).toNat 2 → Completes (.lh .sup rt rs1 d) .sup s (fun c => c.gives rt ((BitVec.ofNat 16 v).signExtend 32))) ∧
    (∀ v, (s.core .sup false).memChk rs1 ((s.core .sup false).ea rs1 d) 2 = none → supReadable ((s.core .sup false).ea rs1 d).toNat 2 = true → s.hw.supPoison ((s.core .sup false).ea rs1 d).toNat 2 = none →
      v = s.hw.ml ((s.core .sup false).ea rs1 d).toNat 2 → Completes (.lhu .sup rt rs1 d) .sup s (fun c => c.gives rt (BitVec.ofNat 32 (v % 2 ^ 16)))) ∧
    (∀ v, (s.core .sup false).memChk rs1 ((s.core .sup false).ea rs1 d) 4 = none → supReadable ((s.core .sup false).ea rs1 d).toNat 4 = true → s.hw.supPoison ((s.core .sup false).ea rs1 d).toNat 4 = none →
      v = s.hw.ml ((s.core .sup false).ea rs1 d).toNat 4 → Completes (.lw .sup rt rs1 d) .sup s (fun c => c.gives rt (BitVec.ofNat 32 v)))) ∧
  (∀ (s : State) (rt rs1 : Reg) (d : BitVec 15), s.ready .sup → isBlock ((s.core .sup false).ea rs1 d).toNat = false →
    ((s.core .sup false).memChk rs1 ((s.core .sup false).ea rs1 d) 1 = none → s.hw.supWritable ((s.core .sup false).ea rs1 d).toNat 1 = true →
      CompletesBut [.mem] [] (.sb .sup rt rs1 d) .sup s (fun c e => c.sameK e ∧ c.quiet e)
        (fun u => Stored s u ((s.core .sup false).ea rs1 d).toNat 1 ((s.core .sup false).rd rt).toNat)) ∧
    ((s.core .sup false).memChk rs1 ((s.core .sup false).ea rs1 d) 2 = none → s.hw.supWritable ((s.core .sup false).ea rs1 d).toNat 2 = true →
      CompletesBut [.mem] [] (.sh .sup rt rs1 d) .sup s (fun c e => c.sameK e ∧ c.quiet e)
        (fun u => Stored s u ((s.core .sup false).ea rs1 d).toNat 2 ((s.core .sup false).rd rt).toNat)) ∧
    ((s.core .sup false).memChk rs1 ((s.core .sup false).ea rs1 d) 4 = none → s.hw.supWritable ((s.core .sup false).ea rs1 d).toNat 4 = true →
      CompletesBut [.mem] [] (.sw .sup rt rs1 d) .sup s (fun c e => c.sameK e ∧ c.quiet e)
        (fun u => Stored s u ((s.core .sup false).ea rs1 d).toNat 4 ((s.core .sup false).rd rt).toNat)))

/-- SB, SH, SW and SD on a pair or a SPLIT core, to memory outside the exchange areas that the view and the rights grant, aligned,
inside the stack limits where the base is k2, with no CMP injection armed (SD: whose first store commit does not complete the
window): the bytes of the lead's register, or of the even pair of SD with 0 for k0, stand at k[rs1] + sext(disp), little-endian, and
every other byte of memory is as it was; no general register, condition bit or accumulator changes; of the registers only the undo
log's count, its overflow and the lost-record count may. Where the spec leaves a point open the clauses follow the model's own
reading (assumption log 31, 32). (spec/07_kyoquel_instructions.md R187, spec/07_kyoquel_instructions.md R188, spec/05_comparison.md
R139, spec/05_comparison.md R141) -/
def Obligations.StoreResults : Prop :=
  ∀ (s : State) (sel : CoreSel) (t : Nat) (rt rs1 : Reg) (d : BitVec 15), s.ready sel → s.taskOf sel = some t →
    exchOf s.hw.prog.exch ((s.core sel false).ea rs1 d).toNat = none → s.noCmpInj →
    ((∀ b, (s.core sel b).memChk rs1 ((s.core sel b).ea rs1 d) 1 = none) → s.hw.storeFault (s.hw.split (sel.target / 2)) t ((s.core sel false).ea rs1 d).toNat 1 = none →
      CompletesBut [.mem, .tsk, .pair, .evr] [R.CMP_EPn_STATUS (sel.target / 2), R.CMP_EPn_UNDO (sel.target / 2), R.EVR_LOST] (.sb sel rt rs1 d) sel s
        (fun c e => c.sameK e ∧ c.quiet e) (fun u => Stored s u (coreToSup ((s.core sel false).ea rs1 d).toNat) 1 (((s.core sel false).rd rt).toNat))) ∧
    ((∀ b, (s.core sel b).memChk rs1 ((s.core sel b).ea rs1 d) 2 = none) → s.hw.storeFault (s.hw.split (sel.target / 2)) t ((s.core sel false).ea rs1 d).toNat 2 = none →
      CompletesBut [.mem, .tsk, .pair, .evr] [R.CMP_EPn_STATUS (sel.target / 2), R.CMP_EPn_UNDO (sel.target / 2), R.EVR_LOST] (.sh sel rt rs1 d) sel s
        (fun c e => c.sameK e ∧ c.quiet e) (fun u => Stored s u (coreToSup ((s.core sel false).ea rs1 d).toNat) 2 (((s.core sel false).rd rt).toNat))) ∧
    ((∀ b, (s.core sel b).memChk rs1 ((s.core sel b).ea rs1 d) 4 = none) → s.hw.storeFault (s.hw.split (sel.target / 2)) t ((s.core sel false).ea rs1 d).toNat 4 = none →
      CompletesBut [.mem, .tsk, .pair, .evr] [R.CMP_EPn_STATUS (sel.target / 2), R.CMP_EPn_UNDO (sel.target / 2), R.EVR_LOST] (.sw sel rt rs1 d) sel s
        (fun c e => c.sameK e ∧ c.quiet e) (fun u => Stored s u (coreToSup ((s.core sel false).ea rs1 d).toNat) 4 (((s.core sel false).rd rt).toNat))) ∧
    (rt.getLsbD 0 = false → (s.hw.split (sel.target / 2) = true ∨ (s.hw.tgt sel.target).commits + 1 ≠ windowLen (s.hw.profile (sel.target / 2))) → (∀ b, (s.core sel b).memChk rs1 ((s.core sel b).ea rs1 d) 8 = none) → s.hw.storeFault (s.hw.split (sel.target / 2)) t ((s.core sel false).ea rs1 d).toNat 8 = none →
      CompletesBut [.mem, .tsk, .pair, .evr] [R.CMP_EPn_STATUS (sel.target / 2), R.CMP_EPn_UNDO (sel.target / 2), R.EVR_LOST] (.sd sel rt rs1 d) sel s
        (fun c e => c.sameK e ∧ e.pc = c.pc + 4#32 ∧ e.commits = c.commits + 2 ∧ e.c = c.c ∧ e.acc = c.acc ∧ e.fpcsr = c.fpcsr ∧ c.sameStatus e) (fun u => Stored s u (coreToSup ((s.core sel false).ea rs1 d).toNat) 8 (if rt = 0#5 then 0 else ((s.core sel false).rd rt).toNat + ((s.core sel false).rd (rt + 1#5)).toNat * 2 ^ 32)))

/-- SB, SH and SW by a task into an exchange area that it may write, with an entry free in the held-store queue and no CMP injection
armed: no byte of memory changes, the bytes are held, and a load of the task reads them. Where the spec leaves a point open the
clauses follow the model's own reading (assumption log 32). (spec/05_comparison.md R136, spec/05_comparison.md R137) -/
def Obligations.ExchangeAreaStores : Prop :=
  ∀ (s : State) (sel : CoreSel) (t : Nat) (rt rs1 : Reg) (d : BitVec 15), s.ready sel → s.taskOf sel = some t →
    within (0x10000000, 0x800000) ((s.core sel false).ea rs1 d).toNat 1 = true → (exchOf s.hw.prog.exch ((s.core sel false).ea rs1 d).toNat).isSome = true →
    ((s.hw.heldOf (sel.target / 2)).filter Held.takes).length < 1024 → s.noCmpInj →
    (s.hw.heldOf (sel.target / 2)).countP (fun x => heldHas t (((s.core sel false).ea rs1 d).toNat / 8) [x]) ≤ 1 →
    ((∀ b, (s.core sel b).memChk rs1 ((s.core sel b).ea rs1 d) 1 = none) → s.hw.storeFault (s.hw.split (sel.target / 2)) t ((s.core sel false).ea rs1 d).toNat 1 = none →
      CompletesBut [] [R.CMP_EPn_HELD (sel.target / 2)] (.sb sel rt rs1 d) sel s (fun c e => c.sameK e ∧ c.quiet e)
        (fun u => (∀ x, u.hw.mb x = s.hw.mb x) ∧
          ∀ i, i < 1 → u.hw.viewByte (sel.target / 2) t (((s.core sel false).ea rs1 d).toNat + i) = byteOf ((s.core sel false).rd rt) i)) ∧
    ((∀ b, (s.core sel b).memChk rs1 ((s.core sel b).ea rs1 d) 2 = none) → s.hw.storeFault (s.hw.split (sel.target / 2)) t ((s.core sel false).ea rs1 d).toNat 2 = none →
      CompletesBut [] [R.CMP_EPn_HELD (sel.target / 2)] (.sh sel rt rs1 d) sel s (fun c e => c.sameK e ∧ c.quiet e)
        (fun u => (∀ x, u.hw.mb x = s.hw.mb x) ∧
          ∀ i, i < 2 → u.hw.viewByte (sel.target / 2) t (((s.core sel false).ea rs1 d).toNat + i) = byteOf ((s.core sel false).rd rt) i)) ∧
    ((∀ b, (s.core sel b).memChk rs1 ((s.core sel b).ea rs1 d) 4 = none) → s.hw.storeFault (s.hw.split (sel.target / 2)) t ((s.core sel false).ea rs1 d).toNat 4 = none →
      CompletesBut [] [R.CMP_EPn_HELD (sel.target / 2)] (.sw sel rt rs1 d) sel s (fun c e => c.sameK e ∧ c.quiet e)
        (fun u => (∀ x, u.hw.mb x = s.hw.mb x) ∧
          ∀ i, i < 4 → u.hw.viewByte (sel.target / 2) t (((s.core sel false).ea rs1 d).toNat + i) = byteOf ((s.core sel false).rd rt) i))

/-- Outside an exception: a misaligned access enters MISALIGN, an access through k2 outside the stack limits STACK, LD and SD with
an odd rt and LD with rt = 0 ILLEGAL, on every core of a selector; a load or store that the view or the rights refuse enters
LOAD_ACCESS or STORE_ACCESS with the detail of Table 6-7 and the lead's address on both cores of a pair; no part of the access is
performed and no byte of memory changes. Where the spec leaves a point open the clauses follow the model's own reading (assumption
log 3, 31). (spec/06_kyoquel_model.md R160, spec/06_kyoquel_model.md R161, spec/06_kyoquel_model.md R164, spec/06_kyoquel_model.md
R168, spec/07_kyoquel_instructions.md R187, spec/07_kyoquel_instructions.md R188) -/
def Obligations.MemoryAccessTraps : Prop :=
  (∀ (s : State) (sel : CoreSel) (rt rs1 : Reg) (d : BitVec 15), s.ready sel → s.calm sel →
    ((∀ b, ((s.core sel b).ea rs1 d).toNat % 2 ≠ 0) →
      Completes (.lh sel rt rs1 d) sel s (fun c => c.traps 6 0 (c.ea rs1 d) false (kyEncode (.lh rt rs1 d)))) ∧
    ((∀ b, ((s.core sel b).ea rs1 d).toNat % 2 ≠ 0) →
      Completes (.lhu sel rt rs1 d) sel s (fun c => c.traps 6 0 (c.ea rs1 d) false (kyEncode (.lhu rt rs1 d)))) ∧
    ((∀ b, ((s.core sel b).ea rs1 d).toNat % 4 ≠ 0) →
      Completes (.lw sel rt rs1 d) sel s (fun c => c.traps 6 0 (c.ea rs1 d) false (kyEncode (.lw rt rs1 d)))) ∧
    ((∀ b, ((s.core sel b).ea rs1 d).toNat % 2 ≠ 0) →
      Completes (.sh sel rt rs1 d) sel s (fun c => c.traps 6 0 (c.ea rs1 d) false (kyEncode (.sh rt rs1 d)))) ∧
    ((∀ b, ((s.core sel b).ea rs1 d).toNat % 4 ≠ 0) →
      Completes (.sw sel rt rs1 d) sel s (fun c => c.traps 6 0 (c.ea rs1 d) false (kyEncode (.sw rt rs1 d)))) ∧
    ((∀ b, ((s.core sel b).ea 2#5 d).toNat % 4 = 0 ∧ (s.core sel b).isSup = false ∧
        ((s.core sel b).stkHi.toNat ≤ ((s.core sel b).ea 2#5 d).toNat ∨ ((s.core sel b).ea 2#5 d).toNat + (if (s.core sel b).pl = 0 then 0 else 256) < (s.core sel b).stkLo.toNat)) →
      Completes (.lw sel rt 2#5 d) sel s (fun c => c.traps 7 0 (c.ea 2#5 d) false (kyEncode (.lw rt 2#5 d)))) ∧
    ((∀ b, ((s.core sel b).ea 2#5 d).toNat % 4 = 0 ∧ (s.core sel b).isSup = false ∧
        ((s.core sel b).stkHi.toNat ≤ ((s.core sel b).ea 2#5 d).toNat ∨ ((s.core sel b).ea 2#5 d).toNat + (if (s.core sel b).pl = 0 then 0 else 256) < (s.core sel b).stkLo.toNat)) →
      Completes (.sw sel rt 2#5 d) sel s (fun c => c.traps 7 0 (c.ea 2#5 d) false (kyEncode (.sw rt 2#5 d)))) ∧
    (rt.getLsbD 0 = true → Completes (.ld sel rt rs1 d) sel s (fun c => c.traps 1 0 0#32 false (kyEncode (.ld rt rs1 d))) ∧
      Completes (.sd sel rt rs1 d) sel s (fun c => c.traps 1 0 0#32 false (kyEncode (.sd rt rs1 d)))) ∧
    Completes (.ld sel 0#5 rs1 d) sel s (fun c => c.traps 1 0 0#32 false (kyEncode (.ld 0#5 rs1 d)))) ∧
  (∀ (s : State) (sel : CoreSel) (t : Nat) (rt rs1 : Reg) (d : BitVec 15), s.ready sel → s.calm sel → s.taskOf sel = some t →
    (∀ e, (∀ b, (s.core sel b).memChk rs1 ((s.core sel b).ea rs1 d) 1 = none) → s.hw.loadFault t ((s.core sel false).ea rs1 d).toNat 1 = some e →
      Completes (.lb sel rt rs1 d) sel s (fun c => c.traps 4 e ((s.core sel false).ea rs1 d) false (kyEncode (.lb rt rs1 d)))) ∧
    (∀ e, (∀ b, (s.core sel b).memChk rs1 ((s.core sel b).ea rs1 d) 1 = none) → s.hw.loadFault t ((s.core sel false).ea rs1 d).toNat 1 = some e →
      Completes (.lbu sel rt rs1 d) sel s (fun c => c.traps 4 e ((s.core sel false).ea rs1 d) false (kyEncode (.lbu rt rs1 d)))) ∧
    (∀ e, (∀ b, (s.core sel b).memChk rs1 ((s.core sel b).ea rs1 d) 2 = none) → s.hw.loadFault t ((s.core sel false).ea rs1 d).toNat 2 = some e →
      Completes (.lh sel rt rs1 d) sel s (fun c => c.traps 4 e ((s.core sel false).ea rs1 d) false (kyEncode (.lh rt rs1 d)))) ∧
    (∀ e, (∀ b, (s.core sel b).memChk rs1 ((s.core sel b).ea rs1 d) 2 = none) → s.hw.loadFault t ((s.core sel false).ea rs1 d).toNat 2 = some e →
      Completes (.lhu sel rt rs1 d) sel s (fun c => c.traps 4 e ((s.core sel false).ea rs1 d) false (kyEncode (.lhu rt rs1 d)))) ∧
    (∀ e, (∀ b, (s.core sel b).memChk rs1 ((s.core sel b).ea rs1 d) 4 = none) → s.hw.loadFault t ((s.core sel false).ea rs1 d).toNat 4 = some e →
      Completes (.lw sel rt rs1 d) sel s (fun c => c.traps 4 e ((s.core sel false).ea rs1 d) false (kyEncode (.lw rt rs1 d)))) ∧
    (∀ e, (∀ b, (s.core sel b).memChk rs1 ((s.core sel b).ea rs1 d) 1 = none) → s.hw.storeFault (s.hw.split (sel.target / 2)) t ((s.core sel false).ea rs1 d).toNat 1 = some e →
      Completes (.sb sel rt rs1 d) sel s (fun c => c.traps 5 e ((s.core sel false).ea rs1 d) false (kyEncode (.sb rt rs1 d)))) ∧
    (∀ e, (∀ b, (s.core sel b).memChk rs1 ((s.core sel b).ea rs1 d) 2 = none) → s.hw.storeFault (s.hw.split (sel.target / 2)) t ((s.core sel false).ea rs1 d).toNat 2 = some e →
      Completes (.sh sel rt rs1 d) sel s (fun c => c.traps 5 e ((s.core sel false).ea rs1 d) false (kyEncode (.sh rt rs1 d)))) ∧
    (∀ e, (∀ b, (s.core sel b).memChk rs1 ((s.core sel b).ea rs1 d) 4 = none) → s.hw.storeFault (s.hw.split (sel.target / 2)) t ((s.core sel false).ea rs1 d).toNat 4 = some e →
      Completes (.sw sel rt rs1 d) sel s (fun c => c.traps 5 e ((s.core sel false).ea rs1 d) false (kyEncode (.sw rt rs1 d)))))

/-- BLD, BAND, BOR and BXOR on a pair or a SPLIT core, on a bit address that Table 6-10 maps to a byte the task may read: the
accumulator takes the bit at the lead's bit address, inverted where n is 1, combined as Table 7-11 says; no other state of the core
and no byte of memory changes. On a bit address outside the spaces they enter LOAD_ACCESS with detail 1 and EADDR the bit address.
Where the spec leaves a point open the clauses follow the model's own reading (assumption log 90). (spec/07_kyoquel_instructions.md
R191, spec/07_kyoquel_instructions.md R192, spec/06_kyoquel_model.md R170) -/
def Obligations.BitLoadResults : Prop :=
  ∀ (s : State) (sel : CoreSel) (t : Nat) (n : Bool) (rs1 : Reg) (d : BitVec 15), s.ready sel → s.taskOf sel = some t →
    (∀ x k, bitPlace ((s.core sel false).ea rs1 d).toNat = some (x, k) → s.hw.loadFault t x 1 = none → (s.hw.cyc t).foll = false → s.hw.poisoned x = none → s.noCmpInj → s.cachesAgree sel → s.lineGood sel x →
      CompletesBut (if s.hw.foreign t x 1 && s.hw.leads t then [.tsk, .pair] else []) [] (.bld sel n rs1 d) sel s
        (fun c => c.givesAcc (let b := ((s.hw.viewByte (sel.target / 2) t x).getLsbD k != n); b)) (fun u => ∀ y, u.hw.mb y = s.hw.mb y) ∧
      CompletesBut (if s.hw.foreign t x 1 && s.hw.leads t then [.tsk, .pair] else []) [] (.band sel n rs1 d) sel s
        (fun c => c.givesAcc (let b := ((s.hw.viewByte (sel.target / 2) t x).getLsbD k != n); (c.acc && b))) (fun u => ∀ y, u.hw.mb y = s.hw.mb y) ∧
      CompletesBut (if s.hw.foreign t x 1 && s.hw.leads t then [.tsk, .pair] else []) [] (.bor sel n rs1 d) sel s
        (fun c => c.givesAcc (let b := ((s.hw.viewByte (sel.target / 2) t x).getLsbD k != n); (c.acc || b))) (fun u => ∀ y, u.hw.mb y = s.hw.mb y) ∧
      CompletesBut (if s.hw.foreign t x 1 && s.hw.leads t then [.tsk, .pair] else []) [] (.bxor sel n rs1 d) sel s
        (fun c => c.givesAcc (let b := ((s.hw.viewByte (sel.target / 2) t x).getLsbD k != n); (c.acc != b))) (fun u => ∀ y, u.hw.mb y = s.hw.mb y)) ∧
    (bitPlace ((s.core sel false).ea rs1 d).toNat = none → s.calm sel →
      Completes (.bld sel n rs1 d) sel s (fun c => c.traps 4 1 ((s.core sel false).ea rs1 d) false (kyEncode (.bld n rs1 d))) ∧
      Completes (.band sel n rs1 d) sel s (fun c => c.traps 4 1 ((s.core sel false).ea rs1 d) false (kyEncode (.band n rs1 d))) ∧
      Completes (.bor sel n rs1 d) sel s (fun c => c.traps 4 1 ((s.core sel false).ea rs1 d) false (kyEncode (.bor n rs1 d))) ∧
      Completes (.bxor sel n rs1 d) sel s (fun c => c.traps 4 1 ((s.core sel false).ea rs1 d) false (kyEncode (.bxor n rs1 d))))

/-- BST, BSET, BCLR, BTGL, BSETA and BRSTA on a pair or a SPLIT core, on a bit address that Table 6-10 maps to a byte outside the
exchange areas that the task may write: the addressed bit of that byte takes the value of Table 7-11 and its other seven bits and
every other byte of memory stay; no general register, condition bit or accumulator changes. On a bit address outside the spaces they
enter STORE_ACCESS with detail 1. Where the spec leaves a point open the clauses follow the model's own reading (assumption log 90).
(spec/07_kyoquel_instructions.md R191, spec/07_kyoquel_instructions.md R192, spec/06_kyoquel_model.md R170) -/
def Obligations.BitStoreResults : Prop :=
  ∀ (s : State) (sel : CoreSel) (t : Nat) (n : Bool) (rs1 : Reg) (d : BitVec 15), s.ready sel → s.taskOf sel = some t →
    (∀ x k old, bitPlace ((s.core sel false).ea rs1 d).toNat = some (x, k) → s.hw.storeFault (s.hw.split (sel.target / 2)) t x 1 = none → exchOf s.hw.prog.exch x = none →
      s.hw.poisoned x = none → s.noCmpInj → s.lineGood sel x → old = (s.hw.viewByte (sel.target / 2) t x).getLsbD k →
      CompletesBut [.mem, .tsk, .pair, .evr] [R.CMP_EPn_STATUS (sel.target / 2), R.CMP_EPn_UNDO (sel.target / 2), R.EVR_LOST] (.bst sel n rs1 d) sel s
        (fun c e => c.sameK e ∧ c.quiet e)
        (fun u => (∀ i, i < 8 → (u.hw.mb (coreToSup x)).getLsbD i = if i = k then ((s.core sel false).acc != n) else (s.hw.viewByte (sel.target / 2) t x).getLsbD i) ∧
          ∀ y, y ≠ coreToSup x → u.hw.mb y = s.hw.mb y) ∧
      CompletesBut [.mem, .tsk, .pair, .evr] [R.CMP_EPn_STATUS (sel.target / 2), R.CMP_EPn_UNDO (sel.target / 2), R.EVR_LOST] (.bset sel rs1 d) sel s
        (fun c e => c.sameK e ∧ c.quiet e)
        (fun u => (∀ i, i < 8 → (u.hw.mb (coreToSup x)).getLsbD i = if i = k then (true) else (s.hw.viewByte (sel.target / 2) t x).getLsbD i) ∧
          ∀ y, y ≠ coreToSup x → u.hw.mb y = s.hw.mb y) ∧
      CompletesBut [.mem, .tsk, .pair, .evr] [R.CMP_EPn_STATUS (sel.target / 2), R.CMP_EPn_UNDO (sel.target / 2), R.EVR_LOST] (.bclr sel rs1 d) sel s
        (fun c e => c.sameK e ∧ c.quiet e)
        (fun u => (∀ i, i < 8 → (u.hw.mb (coreToSup x)).getLsbD i = if i = k then (false) else (s.hw.viewByte (sel.target / 2) t x).getLsbD i) ∧
          ∀ y, y ≠ coreToSup x → u.hw.mb y = s.hw.mb y) ∧
      CompletesBut [.mem, .tsk, .pair, .evr] [R.CMP_EPn_STATUS (sel.target / 2), R.CMP_EPn_UNDO (sel.target / 2), R.EVR_LOST] (.btgl sel rs1 d) sel s
        (fun c e => c.sameK e ∧ c.quiet e)
        (fun u => (∀ i, i < 8 → (u.hw.mb (coreToSup x)).getLsbD i = if i = k then (!old) else (s.hw.viewByte (sel.target / 2) t x).getLsbD i) ∧
          ∀ y, y ≠ coreToSup x → u.hw.mb y = s.hw.mb y) ∧
      CompletesBut [.mem, .tsk, .pair, .evr] [R.CMP_EPn_STATUS (sel.target / 2), R.CMP_EPn_UNDO (sel.target / 2), R.EVR_LOST] (.bseta sel n rs1 d) sel s
        (fun c e => c.sameK e ∧ c.quiet e)
        (fun u => (∀ i, i < 8 → (u.hw.mb (coreToSup x)).getLsbD i = if i = k then (if (s.core sel false).acc != n then true else old) else (s.hw.viewByte (sel.target / 2) t x).getLsbD i) ∧
          ∀ y, y ≠ coreToSup x → u.hw.mb y = s.hw.mb y) ∧
      CompletesBut [.mem, .tsk, .pair, .evr] [R.CMP_EPn_STATUS (sel.target / 2), R.CMP_EPn_UNDO (sel.target / 2), R.EVR_LOST] (.brsta sel n rs1 d) sel s
        (fun c e => c.sameK e ∧ c.quiet e)
        (fun u => (∀ i, i < 8 → (u.hw.mb (coreToSup x)).getLsbD i = if i = k then (if (s.core sel false).acc != n then false else old) else (s.hw.viewByte (sel.target / 2) t x).getLsbD i) ∧
          ∀ y, y ≠ coreToSup x → u.hw.mb y = s.hw.mb y)) ∧
    (bitPlace ((s.core sel false).ea rs1 d).toNat = none → s.calm sel →
      Completes (.bst sel n rs1 d) sel s (fun c => c.traps 5 1 ((s.core sel false).ea rs1 d) false (kyEncode (.bst n rs1 d))) ∧
      Completes (.bset sel rs1 d) sel s (fun c => c.traps 5 1 ((s.core sel false).ea rs1 d) false (kyEncode (.bset rs1 d))) ∧
      Completes (.bclr sel rs1 d) sel s (fun c => c.traps 5 1 ((s.core sel false).ea rs1 d) false (kyEncode (.bclr rs1 d))) ∧
      Completes (.btgl sel rs1 d) sel s (fun c => c.traps 5 1 ((s.core sel false).ea rs1 d) false (kyEncode (.btgl rs1 d))) ∧
      Completes (.bseta sel n rs1 d) sel s (fun c => c.traps 5 1 ((s.core sel false).ea rs1 d) false (kyEncode (.bseta n rs1 d))) ∧
      Completes (.brsta sel n rs1 d) sel s (fun c => c.traps 5 1 ((s.core sel false).ea rs1 d) false (kyEncode (.brsta n rs1 d))))

/-- EDGR and EDGF on a pair or a SPLIT core, on edge instance i of space 0x4 with the edge area outside the exchange areas: a primed
instance gives 0 and is no longer primed; otherwise the accumulator becomes the rising or the falling edge against the instance's
edge bit; the edge bit takes the accumulator, and every other bit and byte stays. Where the spec leaves a point open the clauses
follow the model's own reading (assumption log 90). (spec/07_kyoquel_instructions.md R193, spec/06_kyoquel_model.md R170) -/
def Obligations.EdgeResults : Prop :=
  ∀ (s : State) (sel : CoreSel) (t i : Nat) (rs1 : Reg) (d : BitVec 15) (old : Bool), s.ready sel → s.taskOf sel = some t →
    (∀ b, edgeInst ((s.core sel b).ea rs1 d).toNat = some i) → s.hw.exe.poison = [] → s.hw.prog.exch = [] → s.noCmpInj → s.cachesAgree sel →
    s.lineGood sel (0x107FFC00 + i / 8) →
    (∀ h ∈ s.hw.heldOf (sel.target / 2), h.takes = false) → old = (s.hw.mb (0x907FFC00 + i / 8)).getLsbD (i % 8) →
      CompletesBut [.mem, .tsk, .pair, .evr] [R.CMP_EPn_STATUS (sel.target / 2), R.CMP_EPn_UNDO (sel.target / 2), R.EVR_LOST] (.edgr sel rs1 d) sel s
        (fun c => c.givesAcc (if s.hw.primeOf i then false else c.acc && !old))
        (fun u => u.hw.primeOf i = false ∧ (∀ j, j ≠ i → u.hw.primeOf j = s.hw.primeOf j) ∧
          (∀ j, j < 8 → (u.hw.mb (0x907FFC00 + i / 8)).getLsbD j = if j = i % 8 then (s.core sel false).acc else (s.hw.mb (0x907FFC00 + i / 8)).getLsbD j) ∧
          ∀ y, y ≠ 0x907FFC00 + i / 8 → u.hw.mb y = s.hw.mb y) ∧
      CompletesBut [.mem, .tsk, .pair, .evr] [R.CMP_EPn_STATUS (sel.target / 2), R.CMP_EPn_UNDO (sel.target / 2), R.EVR_LOST] (.edgf sel rs1 d) sel s
        (fun c => c.givesAcc (if s.hw.primeOf i then false else !c.acc && old))
        (fun u => u.hw.primeOf i = false ∧ (∀ j, j ≠ i → u.hw.primeOf j = s.hw.primeOf j) ∧
          (∀ j, j < 8 → (u.hw.mb (0x907FFC00 + i / 8)).getLsbD j = if j = i % 8 then (s.core sel false).acc else (s.hw.mb (0x907FFC00 + i / 8)).getLsbD j) ∧
          ∀ y, y ≠ 0x907FFC00 + i / 8 → u.hw.mb y = s.hw.mb y)

/-- On every selector where an instruction can run: MFCR of a control register that Table 6-4 gives the core and the level may read
writes it to k[rd] and nothing else; MTCR writes EPC, EPSR (bits 3:0), TRAPCFG, SCRATCH0, SCRATCH1 at HANDLER, CRCCTL and FPCSR at
every level, and on the SUP core cr0 (IE only), NEPC, NEPSR and IMASK: the register takes k[rs1] with its reserved bits 0, and no
other control register, general register, condition bit or accumulator changes. Where the spec leaves a point open the clauses
follow the model's own reading (assumption log 30). (spec/07_kyoquel_instructions.md R196, spec/07_kyoquel_instructions.md R197,
spec/06_kyoquel_model.md R158, spec/06_kyoquel_model.md R160) -/
def Obligations.ControlRegisterTransfers : Prop :=
  ∀ (s : State) (sel : CoreSel) (rd rs1 : Reg), s.ready sel →
    (∀ cr : BitVec 5, (∀ b, ((s.core sel b).cr cr.toNat).isSome = true ∧
        ((s.core sel b).isSup = true ∨ 1 ≤ (s.core sel b).pl ∨ cr.toNat ∉ [1, 2, 3, 4, 5, 12, 13])) →
      Completes (.mfcr sel rd cr) sel s (fun c d => ∃ v, c.cr cr.toNat = some v ∧ c.gives rd v d)) ∧
    ((∀ b, (s.core sel b).isSup = true ∨ 1 ≤ (s.core sel b).pl) → Completes (.mtcr sel 1#5 rs1) sel s (fun c e => e.epc = c.rd rs1 ∧ (∀ m, m ≠ 1 → e.cr m = c.cr m) ∧ c.sameK e ∧ c.steps e ∧ e.c = c.c ∧ e.acc = c.acc)) ∧
    ((∀ b, (s.core sel b).isSup = true ∨ 1 ≤ (s.core sel b).pl) → Completes (.mtcr sel 5#5 rs1) sel s (fun c e => e.epsr = (c.epsr &&& 0xF0#32) ||| (c.rd rs1 &&& 0xF#32) ∧ (∀ m, m ≠ 5 → e.cr m = c.cr m) ∧ c.sameK e ∧ c.steps e ∧ e.c = c.c ∧ e.acc = c.acc)) ∧
    ((∀ b, (s.core sel b).isSup = true ∨ 1 ≤ (s.core sel b).pl) → Completes (.mtcr sel 7#5 rs1) sel s (fun c e => e.trapcfg = c.rd rs1 &&& 1#32 ∧ (∀ m, m ≠ 7 → e.cr m = c.cr m) ∧ c.sameK e ∧ c.steps e ∧ e.c = c.c ∧ e.acc = c.acc)) ∧
    (Completes (.mtcr sel 10#5 rs1) sel s (fun c e => e.crcctl = c.rd rs1 &&& 3#32 ∧ (∀ m, m ≠ 10 → e.cr m = c.cr m) ∧ c.sameK e ∧ c.steps e ∧ e.c = c.c ∧ e.acc = c.acc)) ∧
    ((∀ b, (s.core sel b).isSup = true ∨ 1 ≤ (s.core sel b).pl) → Completes (.mtcr sel 12#5 rs1) sel s (fun c e => e.scratch0 = c.rd rs1 ∧ (∀ m, m ≠ 12 → e.cr m = c.cr m) ∧ c.sameK e ∧ c.steps e ∧ e.c = c.c ∧ e.acc = c.acc)) ∧
    ((∀ b, (s.core sel b).isSup = true ∨ 1 ≤ (s.core sel b).pl) → Completes (.mtcr sel 13#5 rs1) sel s (fun c e => e.scratch1 = c.rd rs1 ∧ (∀ m, m ≠ 13 → e.cr m = c.cr m) ∧ c.sameK e ∧ c.steps e ∧ e.c = c.c ∧ e.acc = c.acc)) ∧
    (Completes (.mtcr sel 16#5 rs1) sel s (fun c e => e.fpcsr = c.rd rs1 &&& 0x1F1F03#32 ∧ (∀ m, m ≠ 16 → e.cr m = c.cr m) ∧ c.sameK e ∧ c.steps e ∧ e.c = c.c ∧ e.acc = c.acc)) ∧
    (sel = .sup → s.hw.exe.sup.isSup = true → Completes (.mtcr sel 0#5 rs1) sel s (fun c e => (e.psr = (c.psr &&& ~~~4#32) ||| (c.rd rs1 &&& 4#32)) ∧ (∀ m, m ≠ 0 → e.cr m = c.cr m) ∧ c.sameK e ∧ c.steps e ∧ e.c = c.c ∧ e.acc = c.acc)) ∧
    (sel = .sup → s.hw.exe.sup.isSup = true → Completes (.mtcr sel 22#5 rs1) sel s (fun c e => (e.nepc = c.rd rs1) ∧ (∀ m, m ≠ 22 → e.cr m = c.cr m) ∧ c.sameK e ∧ c.steps e ∧ e.c = c.c ∧ e.acc = c.acc)) ∧
    (sel = .sup → s.hw.exe.sup.isSup = true → Completes (.mtcr sel 23#5 rs1) sel s (fun c e => (e.nepsr = c.rd rs1 &&& 0xFF#32) ∧ (∀ m, m ≠ 23 → e.cr m = c.cr m) ∧ c.sameK e ∧ c.steps e ∧ e.c = c.c ∧ e.acc = c.acc)) ∧
    (sel = .sup → s.hw.exe.sup.isSup = true → Completes (.mtcr sel 25#5 rs1) sel s (fun c e => (e.imask = c.rd rs1 &&& 0xFFF#32) ∧ (∀ m, m ≠ 25 → e.cr m = c.cr m) ∧ c.sameK e ∧ c.steps e ∧ e.c = c.c ∧ e.acc = c.acc))

/-- Outside an exception: an access to a control register that the core does not have enters ILLEGAL; a read or write that Table 6-4
bars at TASK, a write that it shows as RO, and ERET at TASK enter PRIV; TEND, TFAULT and WDCHK on the SUP core enter ILLEGAL;
nothing but the trap entry happens. Where the spec leaves a point open the clauses follow the model's own reading (assumption log 3,
30). (spec/06_kyoquel_model.md R156, spec/06_kyoquel_model.md R158, spec/07_kyoquel_instructions.md R195,
spec/07_kyoquel_instructions.md R197) -/
def Obligations.PrivilegeTraps : Prop :=
  ∀ (s : State) (sel : CoreSel) (rd rs1 : Reg), s.ready sel → s.calm sel →
    (∀ cr : BitVec 5, (∀ b, (s.core sel b).cr cr.toNat = none) →
      Completes (.mfcr sel rd cr) sel s (fun c => c.traps 1 0 0#32 false (kyEncode (.mfcr rd cr))) ∧
      Completes (.mtcr sel cr rs1) sel s (fun c => c.traps 1 0 0#32 false (kyEncode (.mtcr cr rs1)))) ∧
    (∀ cr : BitVec 5, cr.toNat ∈ [1, 2, 3, 4, 5, 12, 13] → (∀ b, (s.core sel b).isSup = false ∧ (s.core sel b).pl = 0) →
      Completes (.mfcr sel rd cr) sel s (fun c => c.traps 2 0 0#32 false (kyEncode (.mfcr rd cr)))) ∧
    (∀ cr : BitVec 5, cr.toNat ∈ [0, 1, 2, 3, 4, 5, 6, 7, 8, 9, 11, 12, 13, 20] → (∀ b, (s.core sel b).isSup = false ∧ (s.core sel b).pl = 0) →
      Completes (.mtcr sel cr rs1) sel s (fun c => c.traps 2 0 0#32 false (kyEncode (.mtcr cr rs1)))) ∧
    (∀ cr : BitVec 5, cr.toNat ∈ [0, 2, 3, 4, 6, 8, 9, 11, 20] → (∀ b, (s.core sel b).isSup = false) →
      Completes (.mtcr sel cr rs1) sel s (fun c => c.traps 2 0 0#32 false (kyEncode (.mtcr cr rs1)))) ∧
    ((∀ b, (s.core sel b).isSup = false ∧ (s.core sel b).pl = 0) →
      Completes (.eret sel) sel s (fun c => c.traps 2 0 0#32 false (kyEncode (.eret)))) ∧
    (sel = .sup → s.hw.exe.sup.isSup = true →
      Completes (.tend sel) sel s (fun c => c.traps 1 0 0#32 false (kyEncode (.tend))) ∧
      Completes (.tfault sel rs1) sel s (fun c => c.traps 1 0 0#32 false (kyEncode (.tfault rs1))) ∧
      Completes (.wdchk sel) sel s (fun c => c.traps 1 0 0#32 false (kyEncode (.wdchk))))

/-- On every selector where an instruction can run: SYSCALL enters slot 13 and, outside DEBUG, BRK slot 14 with EPC the next
instruction and SLOT1 0, since a COP0 instruction issues alone; a word that no table of the chapter defines enters ILLEGAL or COP
with the detail of R175; ERET returns to EPC with PL, IE and INEXC from EPSR (a saved level with bit 1 set gives TASK; on the SUP
core SYSTEM), and with NMIACT = 1 to NEPC with the status from NEPSR, clearing NMIACT; MFC and MTC move c7 to c0 and the
accumulator; nothing else changes. Where the spec leaves a point open the clauses follow the model's own reading (assumption log 3,
8, 32). (spec/07_kyoquel_instructions.md R196, spec/07_kyoquel_instructions.md R179, spec/07_kyoquel_instructions.md R180,
spec/06_kyoquel_model.md R155, spec/06_kyoquel_model.md R160, spec/06_kyoquel_model.md R166, spec/06_kyoquel_model.md R175) -/
def Obligations.SystemInstructionResults : Prop :=
  (∀ (s : State) (sel : CoreSel), s.ready sel → s.calm sel →
    Completes (.syscall sel) sel s (fun c d => c.traps 13 0 0#32 true (kyEncode (.syscall)) d ∧ d.ecause.getLsbD 16 = false) ∧
    (s.hw.mode ≠ .debug → Completes (.brk sel) sel s (fun c d => c.traps 14 0 0#32 true (kyEncode (.brk)) d ∧ d.ecause.getLsbD 16 = false)) ∧
    (∀ w : Word, kyDecode w = none → Completes (.undefinedWord sel w) sel s
      (fun c => c.traps (undefTrap c.isSup w).cause (undefTrap c.isSup w).detail 0#32 false w))) ∧
  (∀ (s : State) (sel : CoreSel) (rd rs1 : Reg), s.ready sel →
    Completes (.mfc sel rd) sel s (fun c => c.gives rd (BitVec.ofNat 32 (c.c.toNat + (if c.acc then 256 else 0)))) ∧
    Completes (.mtc sel rs1) sel s (fun c e => c.sameK e ∧ c.steps e ∧ e.c = (c.rd rs1).setWidth 8 ∧ e.acc = (c.rd rs1).getLsbD 8 ∧
      e.fpcsr = c.fpcsr ∧ c.sameStatus e) ∧
    ((∀ b, (s.core sel b).isSup = true ∨ 1 ≤ (s.core sel b).pl) → (∀ b, (s.core sel b).nmiact = false) →
      Completes (.eret sel) sel s (fun c e => e.pc = c.epc ∧ c.sameK e ∧ e.c = c.c ∧ e.acc = c.acc ∧ e.epc = c.epc ∧ e.epsr = c.epsr ∧
        e.pl = (if c.isSup then 2 else if c.epsr.getLsbD 1 then 0 else bitsOf c.epsr.toNat 0 2) ∧ e.inexc = c.epsr.getLsbD 3 ∧
        e.ie = (c.isSup && c.epsr.getLsbD 2) ∧ e.isSplit = c.isSplit ∧ e.isSup = c.isSup ∧ e.nmiact = false ∧ e.commits = c.commits + 1)) ∧
    (sel = .sup → s.hw.exe.sup.isSup = true → s.hw.exe.sup.nmiact = true →
      Completes (.eret sel) sel s (fun c e => e.pc = c.nepc ∧ c.sameK e ∧ e.c = c.c ∧ e.acc = c.acc ∧ e.nmiact = false ∧ e.pl = 2 ∧
        e.ie = c.nepsr.getLsbD 2 ∧ e.inexc = c.nepsr.getLsbD 3 ∧ e.isSup = true)))

/-- On a lockstep pair where an instruction can run: TEND closes the open window at task end and TFAULT as a task fault with the
reason of k[rs1], 0xFF recorded as 0xFE, each with one commit and no change of memory or of a general register; WDCHK adds a check-
in of the running task to the held items; the instruction that brings the window to the profile's length closes it. Where the spec
leaves a point open the clauses follow the model's own reading (assumption log 32, 37, 91). (spec/05_comparison.md R131,
spec/05_comparison.md R136, spec/06_kyoquel_model.md R163, spec/07_kyoquel_instructions.md R196) -/
def Obligations.TaskEndFaultAndCheckIn : Prop :=
  ∀ (s : State) (n : Fin 4) (rs1 : Reg) (g : Target), s.ready (.pair n) → g = s.hw.tgt (2 * n.val) → (∀ b, (s.core (.pair n) b).isSup = false) →
    Runs (.tend (.pair n)) s (fun u => (∀ b, (s.core (.pair n) b).sameK (u.core (.pair n) b) ∧ (s.core (.pair n) b).quiet (u.core (.pair n) b)) ∧
      u.hw.tgt (2 * n.val) = { g with commits := g.commits + 1, closing := some .taskEnd, cacheErr := (u.hw.tgt (2 * n.val)).cacheErr } ∧ ∀ x, u.hw.mb x = s.hw.mb x) ∧
    Runs (.tfault (.pair n) rs1) s (fun u => (∀ b, (s.core (.pair n) b).sameK (u.core (.pair n) b) ∧ (s.core (.pair n) b).quiet (u.core (.pair n) b)) ∧
      u.hw.tgt (2 * n.val) = { g with commits := g.commits + 1,
                                      closing := some (.taskFault (if ((s.core (.pair n) false).rd rs1).toNat % 256 = 255 then 254
                                                                   else ((s.core (.pair n) false).rd rs1).toNat % 256)), cacheErr := (u.hw.tgt (2 * n.val)).cacheErr } ∧
      ∀ x, u.hw.mb x = s.hw.mb x) ∧
    (∀ t, s.taskOf (.pair n) = some t →
      CompletesBut [] [R.CMP_EPn_HELD n.val] (.wdchk (.pair n)) (.pair n) s (fun c e => c.sameK e ∧ c.quiet e)
        (fun u => u.hw.heldOf n.val = s.hw.heldOf n.val ++ [.check t] ∧ ∀ x, u.hw.mb x = s.hw.mb x)) ∧
    (∀ k, g.commits + 1 = windowLen (s.hw.profile n.val) → s.hw.mode ≠ .debug →
      Runs (.addi (.pair n) 0#5 0#5 k) s (fun u => (u.hw.tgt (2 * n.val)).closing = some .length))

/-- FADD to FCVTWUS, on every selector where an instruction can run: where no raised flag is enabled k[rd] takes the binary32 result
and FPCSR the raised flags, and nothing else changes; where one is, FPE is entered with its bit number as detail and neither is
written. FEQ, FLT, FLE and FUN write one condition bit, with NV for a signalling NaN, or for any NaN in FLT and FLE. FABS, FNEG and
FCLASS raise no flag. Where the spec leaves a point open the clauses follow the model's own reading (assumption log 3).
(spec/07_kyoquel_instructions.md R198) -/
def Obligations.FloatingPointResults : Prop :=
  ∀ (s : State) (sel : CoreSel) (cd : CBit) (rd rs1 rs2 : Reg), s.ready sel →
    ((∀ b, ((fpAdd (s.core sel b).rm (Fp.of ((s.core sel b).rd rs1)) (Fp.of ((s.core sel b).rd rs2))).2.trapBit (s.core sel b).fpEn) = none) → Completes (.fadd sel rd rs1 rs2) sel s (fun c => c.givesF rd (fpAdd c.rm (Fp.of (c.rd rs1)) (Fp.of (c.rd rs2))))) ∧
    (∀ k, s.calm sel → (∀ b, ((fpAdd (s.core sel b).rm (Fp.of ((s.core sel b).rd rs1)) (Fp.of ((s.core sel b).rd rs2))).2.trapBit (s.core sel b).fpEn) = some k) →
      Completes (.fadd sel rd rs1 rs2) sel s (fun c => c.traps 11 k 0#32 false (kyEncode (.fadd rd rs1 rs2)))) ∧
    ((∀ b, ((fpAdd (s.core sel b).rm (Fp.of ((s.core sel b).rd rs1)) (Fp.of ((s.core sel b).rd rs2)).neg).2.trapBit (s.core sel b).fpEn) = none) → Completes (.fsub sel rd rs1 rs2) sel s (fun c => c.givesF rd (fpAdd c.rm (Fp.of (c.rd rs1)) (Fp.of (c.rd rs2)).neg))) ∧
    (∀ k, s.calm sel → (∀ b, ((fpAdd (s.core sel b).rm (Fp.of ((s.core sel b).rd rs1)) (Fp.of ((s.core sel b).rd rs2)).neg).2.trapBit (s.core sel b).fpEn) = some k) →
      Completes (.fsub sel rd rs1 rs2) sel s (fun c => c.traps 11 k 0#32 false (kyEncode (.fsub rd rs1 rs2)))) ∧
    ((∀ b, ((fpMul (s.core sel b).rm (Fp.of ((s.core sel b).rd rs1)) (Fp.of ((s.core sel b).rd rs2))).2.trapBit (s.core sel b).fpEn) = none) → Completes (.fmul sel rd rs1 rs2) sel s (fun c => c.givesF rd (fpMul c.rm (Fp.of (c.rd rs1)) (Fp.of (c.rd rs2))))) ∧
    (∀ k, s.calm sel → (∀ b, ((fpMul (s.core sel b).rm (Fp.of ((s.core sel b).rd rs1)) (Fp.of ((s.core sel b).rd rs2))).2.trapBit (s.core sel b).fpEn) = some k) →
      Completes (.fmul sel rd rs1 rs2) sel s (fun c => c.traps 11 k 0#32 false (kyEncode (.fmul rd rs1 rs2)))) ∧
    ((∀ b, ((fpDiv (s.core sel b).rm (Fp.of ((s.core sel b).rd rs1)) (Fp.of ((s.core sel b).rd rs2))).2.trapBit (s.core sel b).fpEn) = none) → Completes (.fdiv sel rd rs1 rs2) sel s (fun c => c.givesF rd (fpDiv c.rm (Fp.of (c.rd rs1)) (Fp.of (c.rd rs2))))) ∧
    (∀ k, s.calm sel → (∀ b, ((fpDiv (s.core sel b).rm (Fp.of ((s.core sel b).rd rs1)) (Fp.of ((s.core sel b).rd rs2))).2.trapBit (s.core sel b).fpEn) = some k) →
      Completes (.fdiv sel rd rs1 rs2) sel s (fun c => c.traps 11 k 0#32 false (kyEncode (.fdiv rd rs1 rs2)))) ∧
    ((∀ b, ((fpSqrt (s.core sel b).rm (Fp.of ((s.core sel b).rd rs1))).2.trapBit (s.core sel b).fpEn) = none) → Completes (.fsqrt sel rd rs1) sel s (fun c => c.givesF rd (fpSqrt c.rm (Fp.of (c.rd rs1))))) ∧
    (∀ k, s.calm sel → (∀ b, ((fpSqrt (s.core sel b).rm (Fp.of ((s.core sel b).rd rs1))).2.trapBit (s.core sel b).fpEn) = some k) →
      Completes (.fsqrt sel rd rs1) sel s (fun c => c.traps 11 k 0#32 false (kyEncode (.fsqrt rd rs1)))) ∧
    ((∀ b, ((fpMinMax false ((s.core sel b).rd rs1) ((s.core sel b).rd rs2)).2.trapBit (s.core sel b).fpEn) = none) → Completes (.fmin sel rd rs1 rs2) sel s (fun c => c.givesF rd (fpMinMax false (c.rd rs1) (c.rd rs2)))) ∧
    (∀ k, s.calm sel → (∀ b, ((fpMinMax false ((s.core sel b).rd rs1) ((s.core sel b).rd rs2)).2.trapBit (s.core sel b).fpEn) = some k) →
      Completes (.fmin sel rd rs1 rs2) sel s (fun c => c.traps 11 k 0#32 false (kyEncode (.fmin rd rs1 rs2)))) ∧
    ((∀ b, ((fpMinMax true ((s.core sel b).rd rs1) ((s.core sel b).rd rs2)).2.trapBit (s.core sel b).fpEn) = none) → Completes (.fmax sel rd rs1 rs2) sel s (fun c => c.givesF rd (fpMinMax true (c.rd rs1) (c.rd rs2)))) ∧
    (∀ k, s.calm sel → (∀ b, ((fpMinMax true ((s.core sel b).rd rs1) ((s.core sel b).rd rs2)).2.trapBit (s.core sel b).fpEn) = some k) →
      Completes (.fmax sel rd rs1 rs2) sel s (fun c => c.traps 11 k 0#32 false (kyEncode (.fmax rd rs1 rs2)))) ∧
    ((∀ b, ((fpOfInt (s.core sel b).rm ((s.core sel b).rd rs1).toInt).2.trapBit (s.core sel b).fpEn) = none) → Completes (.fcvtsw sel rd rs1) sel s (fun c => c.givesF rd (fpOfInt c.rm (c.rd rs1).toInt))) ∧
    (∀ k, s.calm sel → (∀ b, ((fpOfInt (s.core sel b).rm ((s.core sel b).rd rs1).toInt).2.trapBit (s.core sel b).fpEn) = some k) →
      Completes (.fcvtsw sel rd rs1) sel s (fun c => c.traps 11 k 0#32 false (kyEncode (.fcvtsw rd rs1)))) ∧
    ((∀ b, ((fpOfInt (s.core sel b).rm ((s.core sel b).rd rs1).toNat).2.trapBit (s.core sel b).fpEn) = none) → Completes (.fcvtswu sel rd rs1) sel s (fun c => c.givesF rd (fpOfInt c.rm (c.rd rs1).toNat))) ∧
    (∀ k, s.calm sel → (∀ b, ((fpOfInt (s.core sel b).rm ((s.core sel b).rd rs1).toNat).2.trapBit (s.core sel b).fpEn) = some k) →
      Completes (.fcvtswu sel rd rs1) sel s (fun c => c.traps 11 k 0#32 false (kyEncode (.fcvtswu rd rs1)))) ∧
    ((∀ b, ((fpToRange (s.core sel b).rm (-(2 ^ 31)) (2 ^ 31 - 1) (Fp.of ((s.core sel b).rd rs1))).2.trapBit (s.core sel b).fpEn) = none) → Completes (.fcvtws sel rd rs1) sel s (fun c => c.givesF rd (fpToRange c.rm (-(2 ^ 31)) (2 ^ 31 - 1) (Fp.of (c.rd rs1))))) ∧
    (∀ k, s.calm sel → (∀ b, ((fpToRange (s.core sel b).rm (-(2 ^ 31)) (2 ^ 31 - 1) (Fp.of ((s.core sel b).rd rs1))).2.trapBit (s.core sel b).fpEn) = some k) →
      Completes (.fcvtws sel rd rs1) sel s (fun c => c.traps 11 k 0#32 false (kyEncode (.fcvtws rd rs1)))) ∧
    ((∀ b, ((fpToRange (s.core sel b).rm 0 (2 ^ 32 - 1) (Fp.of ((s.core sel b).rd rs1))).2.trapBit (s.core sel b).fpEn) = none) → Completes (.fcvtwus sel rd rs1) sel s (fun c => c.givesF rd (fpToRange c.rm 0 (2 ^ 32 - 1) (Fp.of (c.rd rs1))))) ∧
    (∀ k, s.calm sel → (∀ b, ((fpToRange (s.core sel b).rm 0 (2 ^ 32 - 1) (Fp.of ((s.core sel b).rd rs1))).2.trapBit (s.core sel b).fpEn) = some k) →
      Completes (.fcvtwus sel rd rs1) sel s (fun c => c.traps 11 k 0#32 false (kyEncode (.fcvtwus rd rs1)))) ∧
    ((∀ b, (s.core sel b).fpEn.testBit 4 = false) → Completes (.feq sel cd rs1 rs2) sel s
      (fun c => c.givesFC cd (let x := Fp.of (c.rd rs1); let y := Fp.of (c.rd rs2); (decide (x.isNan = false ∧ y.isNan = false ∧ x.eqv y = true), ({ nv := x.isSnan || y.isSnan } : FpFlags))))) ∧
    ((∀ b, (s.core sel b).fpEn.testBit 4 = false) → Completes (.flt sel cd rs1 rs2) sel s
      (fun c => c.givesFC cd (let x := Fp.of (c.rd rs1); let y := Fp.of (c.rd rs2); (decide (x.isNan = false ∧ y.isNan = false ∧ x.lt y = true), ({ nv := x.isNan || y.isNan } : FpFlags))))) ∧
    ((∀ b, (s.core sel b).fpEn.testBit 4 = false) → Completes (.fle sel cd rs1 rs2) sel s
      (fun c => c.givesFC cd (let x := Fp.of (c.rd rs1); let y := Fp.of (c.rd rs2); (decide (x.isNan = false ∧ y.isNan = false ∧ y.lt x = false), ({ nv := x.isNan || y.isNan } : FpFlags))))) ∧
    ((∀ b, (s.core sel b).fpEn.testBit 4 = false) → Completes (.fun sel cd rs1 rs2) sel s
      (fun c => c.givesFC cd (let x := Fp.of (c.rd rs1); let y := Fp.of (c.rd rs2); (x.isNan || y.isNan, ({ nv := x.isSnan || y.isSnan } : FpFlags))))) ∧
    Completes (.fabs sel rd rs1) sel s (fun c => c.gives rd (c.rd rs1 &&& 0x7FFFFFFF#32)) ∧
    Completes (.fneg sel rd rs1) sel s (fun c => c.gives rd (c.rd rs1 ^^^ 0x80000000#32)) ∧
    Completes (.fclass sel rd rs1) sel s (fun c => c.gives rd (fpClass (c.rd rs1)))

/-- TEV, TEVX, TETH, TRST and TRDS on an entry that the calling task owns, with no CMP injection armed: TEV and TEVX evaluate the
entry at the task's sampling instant with IN the accumulator, write the entry, et to k[rd] and q to the accumulator; TETH gives bits
39:32 of et and writes nothing; TRST clears IN, Q, RUN and SAT; TRDS gives word 0; no condition bit, no other entry and no byte of
memory changes. Where the spec leaves a point open the clauses follow the model's own reading (assumption log 36).
(spec/07_kyoquel_instructions.md R199, spec/03_task_engine.md R86) -/
def Obligations.TimerInstructionResults : Prop :=
  ∀ (s : State) (sel : CoreSel) (t x : Nat) (rd rs1 rs2 : Reg), s.ready sel → s.taskOf sel = some t → (∀ b, (s.core sel b).isSup = false) →
    x = ((s.core sel false).rd rs1).toNat → x < 8192 → (s.hw.timer x).alloc = true → (s.hw.timer x).owner = t → s.noCmpInj →
    (∀ r, r = (s.hw.timer x).eval ((s.hw.cyc t).due / 1000) (s.core sel false).acc (((s.core sel false).rd rs2).toNat) → (s.hw.timer x).typ ≠ 3 →
      CompletesBut [.tsk, .pair, .evr] [R.CMP_EPn_STATUS (sel.target / 2), R.CMP_EPn_UNDO (sel.target / 2), R.EVR_LOST] (.tev sel rd rs1 rs2) sel s (fun c d => c.puts d rd (BitVec.ofNat 32 (min r.2 0xFFFFFFFF)) ∧ c.steps d ∧ d.c = c.c ∧ d.acc = r.1.q ∧ d.fpcsr = c.fpcsr ∧ c.sameStatus d)
        (fun u => u.hw.timer x = r.1 ∧ (∀ y, y ≠ x → u.hw.timer y = s.hw.timer y) ∧ ∀ y, u.hw.mb y = s.hw.mb y)) ∧
    (rs2.getLsbD 0 = false → ∀ r, r = (s.hw.timer x).eval ((s.hw.cyc t).due / 1000) (s.core sel false).acc (if rs2 = 0#5 then 0 else ((s.core sel false).rd rs2).toNat + ((s.core sel false).rd (rs2 + 1#5)).toNat % 256 * 2 ^ 32) → (s.hw.timer x).typ ≠ 3 →
      CompletesBut [.tsk, .pair, .evr] [R.CMP_EPn_STATUS (sel.target / 2), R.CMP_EPn_UNDO (sel.target / 2), R.EVR_LOST] (.tevx sel rd rs1 rs2) sel s (fun c d => c.puts d rd (BitVec.ofNat 32 (min r.2 0xFFFFFFFF)) ∧ c.steps d ∧ d.c = c.c ∧ d.acc = r.1.q ∧ d.fpcsr = c.fpcsr ∧ c.sameStatus d)
        (fun u => u.hw.timer x = r.1 ∧ (∀ y, y ≠ x → u.hw.timer y = s.hw.timer y) ∧ ∀ y, u.hw.mb y = s.hw.mb y)) ∧
    ((s.hw.timer x).typ ≠ 3 → CompletesBut [] [] (.teth sel rd rs1) sel s
      (fun c d => c.puts d rd (BitVec.ofNat 32 (bitsOf ((s.hw.timer x).eval ((s.hw.cyc t).due / 1000) (s.hw.timer x).inp (s.hw.timer x).pt).2 32 8)) ∧ c.steps d ∧ d.c = c.c ∧ d.acc = c.acc ∧ d.fpcsr = c.fpcsr ∧ c.sameStatus d) (fun u => ∀ y, u.hw.mb y = s.hw.mb y ∧ u.hw.tsk = s.hw.tsk)) ∧
    CompletesBut [.tsk, .pair, .evr] [R.CMP_EPn_STATUS (sel.target / 2), R.CMP_EPn_UNDO (sel.target / 2), R.EVR_LOST] (.trst sel rs1) sel s (fun c d => c.sameK d ∧ c.quiet d)
      (fun u => (u.hw.timer x).inp = false ∧ (u.hw.timer x).q = false ∧ (u.hw.timer x).run = false ∧ (u.hw.timer x).sat = false ∧
        (u.hw.timer x).typ = (s.hw.timer x).typ ∧ (u.hw.timer x).owner = t ∧ (u.hw.timer x).ident = (s.hw.timer x).ident ∧ (u.hw.timer x).w1 = (s.hw.timer x).w1 ∧
        (∀ y, y ≠ x → u.hw.timer y = s.hw.timer y) ∧ ∀ y, u.hw.mb y = s.hw.mb y) ∧
    CompletesBut [] [] (.trds sel rd rs1) sel s (fun c d => c.puts d rd (BitVec.ofNat 32 (s.hw.timer x).w0) ∧ c.steps d ∧ d.c = c.c ∧ d.acc = c.acc ∧ d.fpcsr = c.fpcsr ∧ c.sameStatus d) (fun u => ∀ y, u.hw.mb y = s.hw.mb y ∧ u.hw.tsk = s.hw.tsk)

/-- FSTAT, FQRY, IREC and IBIT give k[rd] the force status, the force state of the item, and the byte and bit address of the calling
task's item, 0 where it is not among its items, and change nothing else; FQRY of an index of 4,096 or above gives 0. A COP2
instruction on an entry index of 8,192 or above, not allocated or not owned enters COP with detail 5, an evaluation of a TYPE 3
entry with detail 6. Where the spec leaves a point open the clauses follow the model's own reading (assumption log 3, 30).
(spec/07_kyoquel_instructions.md R199, spec/07_kyoquel_instructions.md R200) -/
def Obligations.ImageForceInstructionResults : Prop :=
  (∀ (s : State) (sel : CoreSel) (t x : Nat) (rd rs1 rs2 : Reg), s.ready sel → s.taskOf sel = some t → (∀ b, (s.core sel b).isSup = false) →
    x = ((s.core sel false).rd rs1).toNat →
    CompletesBut [] [] (.fstat sel rd) sel s (fun c d => c.puts d rd (s.hw.reg R.TSK_FORCE_STATUS) ∧ c.steps d ∧ d.c = c.c ∧ d.acc = c.acc ∧ d.fpcsr = c.fpcsr ∧ c.sameStatus d) (fun u => ∀ y, u.hw.mb y = s.hw.mb y ∧ u.hw.tsk = s.hw.tsk) ∧
    CompletesBut [] [] (.fqry sel rd rs1) sel s (fun c d => c.puts d rd (BitVec.ofNat 32 (s.hw.fqry x)) ∧ c.steps d ∧ d.c = c.c ∧ d.acc = c.acc ∧ d.fpcsr = c.fpcsr ∧ c.sameStatus d) (fun u => ∀ y, u.hw.mb y = s.hw.mb y ∧ u.hw.tsk = s.hw.tsk) ∧
    CompletesBut [] [] (.irec sel rd rs1) sel s (fun c d => c.puts d rd (BitVec.ofNat 32 (if s.hw.ownsItem t x then s.hw.recAddr t x else 0)) ∧ c.steps d ∧ d.c = c.c ∧ d.acc = c.acc ∧ d.fpcsr = c.fpcsr ∧ c.sameStatus d) (fun u => ∀ y, u.hw.mb y = s.hw.mb y ∧ u.hw.tsk = s.hw.tsk) ∧
    CompletesBut [] [] (.ibit sel rd rs1 rs2) sel s (fun c d => c.puts d rd (BitVec.ofNat 32 (if s.hw.ownsItem t x && decide (((s.core sel false).rd rs2).toNat < 8 * (s.hw.item x).size) then
        0x20000000 + (s.hw.recAddr t x - 0x20000000) * 8 + ((s.core sel false).rd rs2).toNat else 0)) ∧ c.steps d ∧ d.c = c.c ∧ d.acc = c.acc ∧ d.fpcsr = c.fpcsr ∧ c.sameStatus d) (fun u => ∀ y, u.hw.mb y = s.hw.mb y ∧ u.hw.tsk = s.hw.tsk) ∧
    (4096 ≤ x → s.hw.fqry x = 0)) ∧
  (∀ (s : State) (sel : CoreSel) (t x : Nat) (rd rs1 rs2 : Reg), s.ready sel → s.calm sel → s.taskOf sel = some t → (∀ b, (s.core sel b).isSup = false) →
    x = ((s.core sel false).rd rs1).toNat →
    ((8192 ≤ x ∨ (s.hw.timer x).alloc = false ∨ (s.hw.timer x).owner ≠ t) →
      Completes (.tev sel rd rs1 rs2) sel s (fun c => c.traps 9 5 0#32 false (kyEncode (.tev rd rs1 rs2))) ∧
      Completes (.teth sel rd rs1) sel s (fun c => c.traps 9 5 0#32 false (kyEncode (.teth rd rs1))) ∧
      Completes (.trst sel rs1) sel s (fun c => c.traps 9 5 0#32 false (kyEncode (.trst rs1))) ∧
      Completes (.trds sel rd rs1) sel s (fun c => c.traps 9 5 0#32 false (kyEncode (.trds rd rs1)))) ∧
    (x < 8192 → (s.hw.timer x).alloc = true → (s.hw.timer x).owner = t → (s.hw.timer x).typ = 3 →
      Completes (.tev sel rd rs1 rs2) sel s (fun c => c.traps 9 6 0#32 false (kyEncode (.tev rd rs1 rs2))) ∧
      Completes (.teth sel rd rs1) sel s (fun c => c.traps 9 6 0#32 false (kyEncode (.teth rd rs1)))))

/-- On an enabled slot XQ sends its request, with a free port at once, and waits: neither core moves until the response or the
timeout; XP adds the posted operation to the held items and completes. XP on a full held-store queue enters HELD, whatever the slot;
otherwise on a slot that is not enabled both enter COP with detail 2. Where the spec leaves a point open the clauses follow the
model's own reading (assumption log 34). (spec/07_kyoquel_instructions.md R202, spec/05_comparison.md R145, spec/06_kyoquel_model.md
R176) -/
def Obligations.ExtensionPortInstructions : Prop :=
  ∀ (s : State) (sel : CoreSel) (t : Nat) (slot : BitVec 2) (rd rs1 rs2 : Reg) (opc : BitVec 8), s.ready sel → s.taskOf sel = some t →
    (∀ b, (s.core sel b).isSup = false) →
    ((s.hw.fget R.EXE_EXT_CFG_SLOT_EN).testBit slot.toNat = true →
      ((s.hw.cyc t).foll = false → s.hw.exe.extBusy = false → s.hw.exe.extWait = [] →
        Runs (.xq sel slot rd rs1 rs2 opc) s (fun u => (∀ b, u.core sel b = s.core sel b) ∧
          (∃ q, (u.hw.tgt sel.target).query = some q ∧ q.slot = 12 + slot.toNat ∧ q.opc = opc.toNat ∧ q.rd = rd ∧ q.started = true ∧
            q.a = (s.core sel false).rd rs1 ∧ q.b = (s.core sel false).rd rs2 ∧ q.limit = s.hw.clk.up + max 1 (s.hw.fget R.EXE_EXT_CFG_TIMEOUT) * 100) ∧
          (∃ f, u.hw.exe.extOut = s.hw.exe.extOut ++ [f] ∧ f.length = 10) ∧ Frame [.exe] [] s u)) ∧
      (((s.hw.heldOf (sel.target / 2)).filter Held.takes).length < 1024 →
        CompletesBut [] [R.CMP_EPn_HELD (sel.target / 2)] (.xp sel slot rs1 rs2 opc) sel s (fun c e => c.sameK e ∧ c.quiet e)
          (fun u => u.hw.heldOf (sel.target / 2) = s.hw.heldOf (sel.target / 2) ++
            [.post t (12 + slot.toNat) opc.toNat ((s.core sel false).rd rs1) ((s.core sel false).rd rs2)]))) ∧
    (s.calm sel → (s.hw.fget R.EXE_EXT_CFG_SLOT_EN).testBit slot.toNat = false →
      Completes (.xq sel slot rd rs1 rs2 opc) sel s (fun c => c.traps 9 2 0#32 false (kyEncode (.xq slot rd rs1 rs2 opc))) ∧
      (((s.hw.heldOf (sel.target / 2)).filter Held.takes).length < 1024 →
        Completes (.xp sel slot rs1 rs2 opc) sel s (fun c => c.traps 9 2 0#32 false (kyEncode (.xp slot rs1 rs2 opc))))) ∧
    (s.calm sel → s.evRoom 1 →
      1024 ≤ ((s.hw.heldOf (sel.target / 2)).filter Held.takes).length →
      Runs (.xp sel slot rs1 rs2 opc) s (fun u => ∀ b, (s.core sel b).traps 8 0 0#32 false (kyEncode (.xp slot rs1 rs2 opc)) (u.core sel b)))

/-- POWER_ON, a core rail brown-out, the reset after a CORE fault, the hard reset timer, a commanded reset and WAKE_N low each lead
to BOOT with the reset cause and the transition cause of Tables 2-3 and 2-5 (power-on where the retention detector has tripped),
with the host interface ready, its queue empty, the boot sequence under way and the queue of commands as it was; one that a timer
brings does so not before its time; RESET_CAUSE records it. Where the spec leaves a point open the clauses follow the model's own
reading (assumption log 13, 14, 16). (spec/15_time_watchdog.md R403, spec/16_startup_trust_config.md R421) -/
def Obligations.PowerOnAndResets : Prop :=
  ∀ (s : State) (vin : Nat) (hold : Nat) (x : Nat) (liveIn : Bool) (crc : Option Word),
    (s.hw.nvs.vinLost = true → s.hw.mode ≠ .parked → Runs (.powerOn vin hold liveIn crc) s (fun t =>
      Booted s t 1 1 ∧
      t.hw.nvs.vinLost = false)) ∧
    (s.hw.nvs.vinLost = true → s.hw.mode = Mode.parked → Runs (.powerOn vin hold liveIn crc) s (fun t =>
      Booted s t 1 0x23 ∧
      t.hw.nvs.vinLost = false)) ∧
    (s.hw.powered = true → Runs (.coreRailBrownOut) s (fun t =>
      Booted s t 2 2)) ∧
    (s.hw.sup.coreResetDue = some x → Runs (.coreFaultReset) s (fun t =>
      Booted s t 4 4 ∧
      x ≤ t.hw.clk.up)) ∧
    (s.hw.nvs.vinLost = false → s.hw.wdg.hardDue = some x → Runs (.hardResetExpiry) s (fun t =>
      Booted s t 3 3 ∧
      x ≤ t.hw.clk.up ∧
      (s.hw.cal.tripped = false → t.hw.fbit R.CAL_BKREC0_SAFE_COPY = true))) ∧
    (s.hw.sup.resetDue = some x → Runs (.commandedResetExpiry) s (fun t =>
      Booted s t 5 5 ∧
      x ≤ t.hw.clk.up)) ∧
    (s.hw.mode = Mode.parked → s.hw.nvs.vinLost = false → Runs (.wakeNLow) s (fun t =>
      Booted s t 1 0x23 ∧
      t.hw.clk.up = s.hw.clk.up + 10000000))

/-- When the boot sequence is complete the module enters SERVICE where it runs from ROM alone, else SAFE where the SAFE latch is
set, else PROVISION where no key is provisioned or no configuration is valid and none conflicts, else STOP without AUTOSTART; the
boot is over, the watchdog's boot limits end, and the boot sequence has taken no longer than Table 16-1's bound. Where the spec
leaves a point open the clauses follow the model's own reading (assumption log 14, 16, 17). (spec/02_operating_modes.md R47,
spec/16_startup_trust_config.md R421, spec/16_startup_trust_config.md R423, spec/15_time_watchdog.md R415) -/
def Obligations.ModeDecisionAfterBoot : Prop :=
  ∀ (s : State) (us : Nat),
    (s.hw.sup.booting = true → s.hw.mode = .boot → s.hw.sup.waitTo = none → s.hw.nvs.vinLost = false → s.hw.sup.romOnly = true → Runs (.bootModeDecision us) s (fun t =>
      Entered s t .service (s.hw.fget R.CAL_BKREC0_RESET_CAUSE) ∧
      t.hw.sup.booting = false ∧
      t.hw.wdg.bootLimits = false ∧
      t.pending = s.pending)) ∧
    (s.hw.sup.booting = true → s.hw.mode = .boot → s.hw.sup.waitTo = none → s.hw.nvs.vinLost = false → s.hw.sup.romOnly = false → s.hw.fbit R.SUP_MODE_STATUS_SAFE_LATCH = true → Runs (.bootModeDecision us) s (fun t =>
      Entered s t .safe 0x38 ∧
      t.hw.sup.booting = false ∧
      t.hw.wdg.bootLimits = false ∧
      t.pending = s.pending)) ∧
    (s.hw.sup.booting = true → s.hw.mode = .boot → s.hw.sup.waitTo = none → s.hw.nvs.vinLost = false → s.hw.sup.romOnly = false → s.hw.fbit R.SUP_MODE_STATUS_SAFE_LATCH = false → (s.otp.rooted = false ∨ (s.hw.fbit R.SUP_MODE_STATUS_CFG_VALID = false ∧ s.hw.fbit R.SUP_CFG_STATUS_CONFLICT = false)) → Runs (.bootModeDecision us) s (fun t =>
      Entered s t .provision (s.hw.fget R.CAL_BKREC0_RESET_CAUSE) ∧
      t.hw.sup.booting = false ∧
      t.hw.wdg.bootLimits = false ∧
      t.pending = s.pending)) ∧
    (s.hw.sup.booting = true → s.hw.mode = .boot → s.hw.sup.waitTo = none → s.hw.nvs.vinLost = false → s.hw.sup.romOnly = false → s.hw.fbit R.SUP_MODE_STATUS_SAFE_LATCH = false → s.otp.rooted = true → s.hw.fbit R.SUP_MODE_STATUS_CFG_VALID = true → s.hw.fbit R.SUP_MODE_CFG_AUTOSTART = false → Runs (.bootModeDecision us) s (fun t =>
      Entered s t .stop (s.hw.fget R.CAL_BKREC0_RESET_CAUSE) ∧
      t.hw.sup.booting = false ∧
      t.hw.wdg.bootLimits = false ∧
      t.pending = s.pending))

/-- VIN below 9.5 V clears ARMED, latches the reserve where HOLD is at 20 V, and records 0x8004; its return for 1 ms drops the
latch; HOLD at 20 V sets ARMED unless the reserve is latched; 10 s of low HOLD set RESERVE_FAULT with 0x8005; HOLD below 12 V never
raises the reading; loss of VIN takes the module out of every mode but PARKED with LIVE_OUT low; the retention detector sets BKLOST
and clears VALID; a wake starts housekeeping or, without VIN, counts a skipped one; its end records 0x0030 with cause 0x22. Where
the spec leaves a point open the clauses follow the model's own reading (assumption log 13, 19, 79). (spec/13_nv_store.md R356,
spec/13_nv_store.md R357, spec/15_time_watchdog.md R403, spec/15_time_watchdog.md R412, spec/02_operating_modes.md R53) -/
def Obligations.SupplyAndBackup : Prop :=
  ∀ (s : State) (v : Nat) (us : Nat) (cut : Option Nat) (step : Fin 4) (n : Fin 32) (g : Fin 3),
    (s.hw.nvs.vinLost = false → s.hw.fbit R.NVS_STATUS_VIN_LOW = false → s.evRoom 1 → Runs (.reserveLatch v) s (fun t =>
      t.hw.fbit R.NVS_STATUS_VIN_LOW = true ∧
      t.hw.fbit R.NVS_STATUS_ARMED = false ∧
      t.hw.fbit R.NVS_STATUS_RESERVE = (decide (200 ≤ s.hw.nvs.hold) || s.hw.fbit R.NVS_STATUS_RESERVE) ∧
      t.hw.fget R.NVS_SUPPLY_VIN = min v 94 ∧
      Raises s t [(0x8004, min v 94, 0, 0)] ∧
      Frame [.nvs, .evr] [R.NVS_STATUS, R.NVS_SUPPLY] s t)) ∧
    (s.hw.nvs.vinLost = false → s.hw.fbit R.NVS_STATUS_VIN_LOW = true → Runs (.vinRestored v) s (fun t =>
      t.hw.fbit R.NVS_STATUS_VIN_LOW = false ∧
      t.hw.fbit R.NVS_STATUS_RESERVE = false ∧
      t.hw.fbit R.NVS_STATUS_ARMED = decide (200 ≤ s.hw.nvs.hold) ∧
      t.hw.clk.up = s.hw.clk.up + 1000000 ∧
      Frame [.clk, .nvs] [R.NVS_STATUS, R.NVS_SUPPLY] s t)) ∧
    (s.hw.nvs.vinLost = false → s.hw.nvs.holdInj = none → 95 ≤ s.hw.nvs.vin → Runs (.holdCharged v) s (fun t =>
      t.hw.fbit R.NVS_STATUS_HOLD_LOW = false ∧
      t.hw.fbit R.NVS_STATUS_ARMED = !s.hw.fbit R.NVS_STATUS_RESERVE ∧
      t.hw.nvs.hold = max 200 v ∧
      Frame [.clk, .nvs] [R.NVS_STATUS, R.NVS_SUPPLY] s t)) ∧
    (s.hw.nvs.vinLost = false → s.hw.nvs.holdLowSince = some v → s.hw.fbit R.NVS_STATUS_RESERVE_FAULT = false → s.evRoom 1 → Runs (.reserveFault) s (fun t =>
      t.hw.fbit R.NVS_STATUS_RESERVE_FAULT = true ∧
      v + 10000000000 ≤ t.hw.clk.up ∧
      Raises s t [(0x8005, s.hw.nvs.hold, 0, 0)] ∧
      Frame [.clk, .evr] [R.NVS_STATUS] s t)) ∧
    (s.hw.nvs.vinLost = false → s.hw.nvs.busy = none → Runs (.holdCollapse step n g) s (fun t =>
      t.hw.nvs.hold = min s.hw.nvs.hold 119 ∧
      t.hw.fbit R.NVS_STATUS_HOLD_LOW = true ∧
      t.hw.fbit R.NVS_STATUS_ARMED = false ∧
      Frame [.nvs] [R.NVS_STATUS, R.NVS_SUPPLY] s t)) ∧
    (s.hw.nvs.vinLost = false → Runs (.vinLoss us v cut) s (fun t =>
      t.hw.nvs.vinLost = true ∧
      (t.hw.mode = (if s.hw.mode = Mode.parked then Mode.parked else Mode.boot)) ∧
      t.hw.fbit R.SUP_MODE_STATUS_LIVE_OUT = false ∧
      t.hw.exe = ({} : Exe) ∧
      t.hw.tsk = ({} : Tsk) ∧
      t.hw.cal.date = s.hw.cal.date ∧
      t.otp = s.otp ∧
      t.pending = s.pending)) ∧
    (Runs (.backupRetentionTrip) s (fun t =>
      t.hw.cal.tripped = true ∧
      t.hw.fbit R.CAL_STATUS_BKLOST = true ∧
      t.hw.fbit R.CAL_STATUS_VALID = false ∧
      Frame [.cal] [R.CAL_STATUS] s t)) ∧
    (s.hw.mode = Mode.parked → s.hw.fbit R.CAL_WAKE_EN = true → s.hw.fbit R.SUP_MODE_STATUS_HOUSEKEEP = false → s.hw.nvs.vinLost = false → s.hw.xtalOk = true → Runs (.parkedWake) s (fun t =>
      t.hw.fbit R.SUP_MODE_STATUS_HOUSEKEEP = true ∧
      t.hw.mode = Mode.parked ∧
      s.hw.sup.parkedAt + s.hw.wakeNs ≤ t.hw.clk.up ∧
      t.hw.exe.supRunning = true ∧
      Frame [.clk, .sup, .exe, .wdg] [R.SUP_MODE_STATUS] s t)) ∧
    (s.hw.mode = Mode.parked → s.hw.fbit R.CAL_WAKE_EN = true → s.hw.fbit R.SUP_MODE_STATUS_HOUSEKEEP = false → s.hw.nvs.vinLost = true → Runs (.parkedWake) s (fun t =>
      t.hw.fget R.CAL_BKREC2_WAKE_SKIPS = satInc R.CAL_BKREC2_WAKE_SKIPS.w (s.hw.fget R.CAL_BKREC2_WAKE_SKIPS) ∧
      Frame [.clk, .sup] [R.CAL_BKREC2] s t)) ∧
    (s.hw.mode = Mode.parked → s.hw.fbit R.SUP_MODE_STATUS_HOUSEKEEP = true → s.evRoom 1 → Runs (.housekeepingEnd us) s (fun t =>
      Entered s t .parked 0x22 ∧
      t.hw.fbit R.SUP_MODE_STATUS_HOUSEKEEP = false ∧
      Records s t (0x0030, 11, 11, 0x22) ∧
      t.hw.sup.parkedAt = t.hw.clk.up ∧
      t.pending = s.pending ∧
      t.otp = s.otp))

/-- A mode request that the interface serves, outside a transition and with no activity running that the target forbids, enters the
mode of Table 12-9 with transition cause 0x10 and completes OK with RES0 the mode entered and EVENT 0x0030. START without a pair
enters STARTUP and makes every INIT task ready, or goes on to RUN where there is none; SAFE sets the SAFE latch and its copy;
SERVICE_EXIT goes back to SAFE under a set latch. Where the spec leaves a point open the clauses follow the model's own reading
(assumption log 16, 41, 92). (spec/02_operating_modes.md R39, spec/02_operating_modes.md R45, spec/02_operating_modes.md R47,
spec/02_operating_modes.md R53, spec/03_task_engine.md R83, spec/12_host_rings.md R336) -/
def Obligations.ModeRequests : Prop :=
  ∀ (s : State) (d : Desc),
    (s.served d 0x0101 → s.hw.sup.romOnly = false → s.hw.sup.waitTo = none → s.hw.mode = .stop → s.hw.fbit R.SUP_MODE_STATUS_PROG_VALID = true → s.hw.fbit R.SUP_MODE_STATUS_CFG_VALID = true → s.hw.notIn .startup = [] → s.hw.startRefusal .startup = none → s.hw.pairOn = false → (List.range 32).any (fun x => s.hw.kind x == 2) = true → s.evRoom 1 → Runs (.start d) s (fun t =>
      Entered s t .startup 0x10 ∧
      AnswersIn s t (d.answer 0x0101 stOk 3 0 0 0 0x0030) ∧
      Records s t (0x0030, 2, 3, 0x10) ∧
      (List.range 32).all (fun x => s.hw.kind x != 2 || t.hw.tstate x == 2) = true ∧
      Kept [.wdg, .sup, .exe, .tsk, .hif, .nvs, .net, .fld, .pair, .evr, .mem, .clk, .free] s t)) ∧
    (s.served d 0x0101 → s.hw.sup.romOnly = false → s.hw.sup.waitTo = none → s.hw.mode = .stop → s.hw.fbit R.SUP_MODE_STATUS_PROG_VALID = true → s.hw.fbit R.SUP_MODE_STATUS_CFG_VALID = true → s.hw.notIn .startup = [] → s.hw.startRefusal .startup = none → s.hw.pairOn = false → (List.range 32).any (fun x => s.hw.kind x == 2) = false → Runs (.start d) s (fun t =>
      t.hw.mode = Mode.run ∧
      t.hw.fget R.SUP_MODE_STATUS_PREV_MODE = 3 ∧
      t.hw.fget R.SUP_MODE_STATUS_CAUSE = 0x20 ∧
      t.hw.tsk.epoch.isSome = true ∧
      AnswersIn s t (d.answer 0x0101 stOk 3 0 0 0 0x0030) ∧
      Kept [.wdg, .sup, .exe, .tsk, .hif, .nvs, .net, .fld, .pair, .evr] s t)) ∧
    (s.served d 0x0101 → s.hw.sup.romOnly = false → s.hw.sup.waitTo = none → s.hw.mode.runsTasks = true → s.logsGood → Runs (.stop d) s (fun t =>
      Entered s t .stop 0x10 ∧
      AnswersIn s t (d.answer 0x0101 stOk 2 0 0 0 0x0030) ∧
      t.hw.tsk.epoch = none ∧
      (List.range 8).all (fun i => (t.hw.tgt i).task == none) = true ∧
      Kept [.wdg, .sup, .exe, .tsk, .hif, .nvs, .net, .fld, .pair, .evr, .mem] s t)) ∧
    (s.served d 0x0101 → s.hw.sup.romOnly = false → s.hw.sup.waitTo = none → s.hw.mode = .stop → s.hw.fbit R.SUP_MODE_STATUS_PROG_VALID = true → s.hw.fbit R.SUP_MODE_STATUS_CFG_VALID = true → s.hw.liveIn = false → s.hw.notIn .test = [] → s.hw.startRefusal .test = none → s.evRoom 1 → Runs (.test d) s (fun t =>
      Entered s t .test 0x10 ∧
      AnswersIn s t (d.answer 0x0101 stOk 6 0 0 0 0x0030) ∧
      Records s t (0x0030, 2, 6, 0x10) ∧
      t.hw.tsk.epoch.isSome = true ∧
      Kept [.wdg, .sup, .exe, .tsk, .hif, .nvs, .net, .fld, .pair, .evr] s t)) ∧
    (s.served d 0x0101 → s.hw.sup.romOnly = false → s.hw.sup.waitTo = none → s.hw.mode = .stop → s.hw.notIn .service = [] → s.evRoom 1 → Runs (.service d) s (fun t =>
      Entered s t .service 0x10 ∧
      AnswersIn s t (d.answer 0x0101 stOk 8 0 0 0 0x0030) ∧
      Records s t (0x0030, 2, 8, 0x10) ∧
      Kept [.wdg, .sup, .exe, .tsk, .hif, .nvs, .net, .fld, .pair, .evr] s t)) ∧
    (s.served d 0x0101 → s.hw.sup.romOnly = false → s.hw.sup.waitTo = none → s.hw.mode = .safe → s.hw.notIn .service = [] → s.evRoom 1 → Runs (.service d) s (fun t =>
      Entered s t .service 0x10 ∧
      AnswersIn s t (d.answer 0x0101 stOk 8 0 0 0 0x0030) ∧
      Records s t (0x0030, 9, 8, 0x10) ∧
      Kept [.wdg, .sup, .exe, .tsk, .hif, .nvs, .net, .fld, .pair, .evr] s t)) ∧
    (s.served d 0x0101 → s.hw.sup.romOnly = false → s.hw.sup.waitTo = none → s.hw.mode = .service → s.hw.fbit R.SUP_MODE_STATUS_SAFE_LATCH = false → s.hw.notIn .stop = [] → s.evRoom 1 → Runs (.serviceExit d) s (fun t =>
      Entered s t .stop 0x10 ∧
      AnswersIn s t (d.answer 0x0101 stOk 2 0 0 0 0x0030) ∧
      Records s t (0x0030, 8, 2, 0x10) ∧
      Kept [.wdg, .sup, .exe, .tsk, .hif, .nvs, .net, .fld, .pair, .evr] s t)) ∧
    (s.served d 0x0101 → s.hw.sup.romOnly = false → s.hw.sup.waitTo = none → s.hw.mode = .service → s.hw.fbit R.SUP_MODE_STATUS_SAFE_LATCH = true → s.hw.notIn .safe = [] → s.evRoom 1 → Runs (.serviceExit d) s (fun t =>
      Entered s t .safe 0x10 ∧
      AnswersIn s t (d.answer 0x0101 stOk 9 0 0 0 0x0030) ∧
      Records s t (0x0030, 8, 9, 0x10) ∧
      Kept [.wdg, .sup, .exe, .tsk, .hif, .nvs, .net, .fld, .pair, .evr] s t)) ∧
    (s.served d 0x0101 → s.hw.sup.romOnly = false → s.hw.sup.waitTo = none → s.hw.mode = .stop → Runs (.park d) s (fun t =>
      Entered s t .parked 0x10 ∧
      AnswersIn s t (d.answer 0x0101 stOk 11 0 0 0 0x0030) ∧
      t.hw.sup.parkedAt = t.hw.clk.up ∧
      (t.hw.tsk.forces.filter (fun (p : Nat × Force) => p.2.active)) = [] ∧
      Kept [.wdg, .sup, .exe, .tsk, .hif, .nvs, .net, .fld, .pair, .evr, .mem, .clk, .free] s t)) ∧
    (s.served d 0x0101 → s.hw.sup.romOnly = false → s.hw.sup.waitTo = none → s.hw.mode = .safe → Runs (.park d) s (fun t =>
      Entered s t .parked 0x10 ∧
      AnswersIn s t (d.answer 0x0101 stOk 11 0 0 0 0x0030) ∧
      t.hw.sup.parkedAt = t.hw.clk.up ∧
      (t.hw.tsk.forces.filter (fun (p : Nat × Force) => p.2.active)) = [] ∧
      Kept [.wdg, .sup, .exe, .tsk, .hif, .nvs, .net, .fld, .pair, .evr, .mem, .clk, .free] s t)) ∧
    (s.served d 0x0101 → s.hw.sup.romOnly = false → s.hw.sup.waitTo = none → s.hw.mode ∉ [Mode.boot, .safe, .parked] → s.hw.nvs.vinLost = false → Runs (.safe d) s (fun t =>
      Entered s t .safe 0x10 ∧
      AnswersIn s t (d.answer 0x0101 stOk 9 0 0 0 0x0030) ∧
      t.hw.fbit R.SUP_MODE_STATUS_SAFE_LATCH = true ∧
      t.hw.fbit R.CAL_BKREC0_SAFE_COPY = true ∧
      t.hw.sup.safeAt = s.hw.clk.up ∧
      (List.range 8).all (fun i => (t.hw.tgt i).task == none) = true ∧
      Kept [.wdg, .sup, .exe, .tsk, .hif, .nvs, .net, .fld, .pair, .evr, .mem] s t)) ∧
    (s.served d 0x0101 → s.hw.sup.romOnly = false → s.hw.sup.waitTo = none → s.hw.mode = .safe → s.hw.notIn .recovery = [] → s.evRoom 1 → Runs (.recover d) s (fun t =>
      Entered s t .recovery 0x10 ∧
      AnswersIn s t (d.answer 0x0101 stOk 10 0 0 0 0x0030) ∧
      Records s t (0x0030, 9, 10, 0x10) ∧
      t.hw.sup.intent = false ∧
      Kept [.wdg, .sup, .exe, .tsk, .hif, .nvs, .net, .fld, .pair, .evr] s t))

/-- RESET in PROVISION, STOP, SERVICE or SAFE, and PROV_COMMIT in PROVISION, complete OK and arm the reset 1 ms later; nothing else
changes. A mode request from a mode whose row Table 2-4 lacks is refused: 0x0033 with the target and reason 1, status MODE with the
mode as DETAIL and EVENT 0x0033, and no other effect. Where the spec leaves a point open the clauses follow the model's own reading
(assumption log 84, 92). (spec/02_operating_modes.md R45, spec/12_host_rings.md R336) -/
def Obligations.ResetRequestsAndRefusals : Prop :=
  ∀ (s : State) (d : Desc),
    (s.served d 0x0101 → s.hw.sup.romOnly = false → s.hw.sup.waitTo = none → s.hw.mode ∈ [Mode.provision, .stop, .service, .safe] → s.hw.notIn .boot = [] → s.evRoom 1 → Runs (.reset d) s (fun t =>
      Answers s t (d.answer 0x0101 stOk s.hw.mode.code) ∧
      Raises s t [(0x7010, 0x0101, d.src.code, stOk)] ∧
      t.hw.sup.resetDue = some (s.hw.clk.up + 1000000) ∧
      t.hw.mode = s.hw.mode ∧
      Frame [.sup, .hif, .evr] [R.HIF_STATUS] s t)) ∧
    (s.served d 0x0101 → s.hw.sup.romOnly = false → s.hw.sup.waitTo = none → s.hw.mode = .provision → s.hw.notIn .boot = [] → s.evRoom 1 → Runs (.provCommit d) s (fun t =>
      Answers s t (d.answer 0x0101 stOk s.hw.mode.code) ∧
      Raises s t [(0x7010, 0x0101, d.src.code, stOk)] ∧
      t.hw.sup.resetDue = some (s.hw.clk.up + 1000000) ∧
      t.hw.mode = s.hw.mode ∧
      Frame [.sup, .hif, .evr] [R.HIF_STATUS] s t)) ∧
    (s.served d 0x0101 → s.hw.sup.romOnly = false → s.hw.sup.waitTo = none → s.hw.mode ≠ .stop → s.evRoom 2 → Runs (.start d) s (fun t =>
      Answers s t (d.answer 0x0101 stMode 0 0 0 s.hw.mode.code 0x0033) ∧
      Raises s t [(0x0033, Mode.code .startup, 1, 0), (0x7010, 0x0101, d.src.code, stMode)] ∧
      Frame [.hif, .evr] [R.HIF_STATUS] s t)) ∧
    (s.served d 0x0101 → s.hw.sup.romOnly = false → s.hw.sup.waitTo = none → s.hw.mode.runsTasks = false → s.evRoom 2 → Runs (.stop d) s (fun t =>
      Answers s t (d.answer 0x0101 stMode 0 0 0 s.hw.mode.code 0x0033) ∧
      Raises s t [(0x0033, Mode.code .stop, 1, 0), (0x7010, 0x0101, d.src.code, stMode)] ∧
      Frame [.hif, .evr] [R.HIF_STATUS] s t)) ∧
    (s.served d 0x0101 → s.hw.sup.romOnly = false → s.hw.sup.waitTo = none → s.hw.mode ≠ .stop → s.evRoom 2 → Runs (.test d) s (fun t =>
      Answers s t (d.answer 0x0101 stMode 0 0 0 s.hw.mode.code 0x0033) ∧
      Raises s t [(0x0033, Mode.code .test, 1, 0), (0x7010, 0x0101, d.src.code, stMode)] ∧
      Frame [.hif, .evr] [R.HIF_STATUS] s t)) ∧
    (s.served d 0x0101 → s.hw.sup.romOnly = false → s.hw.sup.waitTo = none → s.hw.mode ∉ [Mode.stop, .safe] → s.evRoom 2 → Runs (.service d) s (fun t =>
      Answers s t (d.answer 0x0101 stMode 0 0 0 s.hw.mode.code 0x0033) ∧
      Raises s t [(0x0033, Mode.code .service, 1, 0), (0x7010, 0x0101, d.src.code, stMode)] ∧
      Frame [.hif, .evr] [R.HIF_STATUS] s t)) ∧
    (s.served d 0x0101 → s.hw.sup.romOnly = false → s.hw.sup.waitTo = none → s.hw.mode ≠ .service → s.evRoom 2 → Runs (.serviceExit d) s (fun t =>
      Answers s t (d.answer 0x0101 stMode 0 0 0 s.hw.mode.code 0x0033) ∧
      Raises s t [(0x0033, Mode.code .stop, 1, 0), (0x7010, 0x0101, d.src.code, stMode)] ∧
      Frame [.hif, .evr] [R.HIF_STATUS] s t)) ∧
    (s.served d 0x0101 → s.hw.sup.romOnly = false → s.hw.sup.waitTo = none → s.hw.mode ∉ [Mode.stop, .safe] → s.evRoom 2 → Runs (.park d) s (fun t =>
      Answers s t (d.answer 0x0101 stMode 0 0 0 s.hw.mode.code 0x0033) ∧
      Raises s t [(0x0033, Mode.code .parked, 1, 0), (0x7010, 0x0101, d.src.code, stMode)] ∧
      Frame [.hif, .evr] [R.HIF_STATUS] s t)) ∧
    (s.served d 0x0101 → s.hw.sup.romOnly = false → s.hw.sup.waitTo = none → s.hw.mode = .safe → s.evRoom 2 → Runs (.safe d) s (fun t =>
      Answers s t (d.answer 0x0101 stMode 0 0 0 s.hw.mode.code 0x0033) ∧
      Raises s t [(0x0033, Mode.code .safe, 1, 0), (0x7010, 0x0101, d.src.code, stMode)] ∧
      Frame [.hif, .evr] [R.HIF_STATUS] s t)) ∧
    (s.served d 0x0101 → s.hw.sup.romOnly = false → s.hw.sup.waitTo = none → s.hw.mode ≠ .safe → s.evRoom 2 → Runs (.recover d) s (fun t =>
      Answers s t (d.answer 0x0101 stMode 0 0 0 s.hw.mode.code 0x0033) ∧
      Raises s t [(0x0033, Mode.code .recovery, 1, 0), (0x7010, 0x0101, d.src.code, stMode)] ∧
      Frame [.hif, .evr] [R.HIF_STATUS] s t)) ∧
    (s.served d 0x0101 → s.hw.sup.romOnly = false → s.hw.sup.waitTo = none → s.hw.mode ∉ [Mode.provision, .stop, .service, .safe] → s.evRoom 2 → Runs (.reset d) s (fun t =>
      Answers s t (d.answer 0x0101 stMode 0 0 0 s.hw.mode.code 0x0033) ∧
      Raises s t [(0x0033, Mode.code .boot, 1, 0), (0x7010, 0x0101, d.src.code, stMode)] ∧
      Frame [.hif, .evr] [R.HIF_STATUS] s t)) ∧
    (s.served d 0x0101 → s.hw.sup.romOnly = false → s.hw.sup.waitTo = none → s.hw.mode ≠ .provision → s.evRoom 2 → Runs (.provCommit d) s (fun t =>
      Answers s t (d.answer 0x0101 stMode 0 0 0 s.hw.mode.code 0x0033) ∧
      Raises s t [(0x0033, Mode.code .boot, 1, 0), (0x7010, 0x0101, d.src.code, stMode)] ∧
      Frame [.hif, .evr] [R.HIF_STATUS] s t))

/-- The wait of R287 ends in RECOVERY where LIVE_IN is asserted; 100 ms after a SAFE cause with AUTO_LEFT not 0 RECOVERY follows
with cause 0x12 and AUTO_LEFT one less; the STARTUP limit leads to SAFE with cause 0x36 and the bound of RECOVERY with 0x37; a
passed self-test without latch, pair and intent ends in STOP with cause 0x21, a set latch is first written clear in MRAM, a failed
step leads to SAFE with cause 0x37, the comparator's with 0x2006. Where the spec leaves a point open the clauses follow the model's
own reading (assumption log 2, 40, 41). (spec/02_operating_modes.md R47, spec/02_operating_modes.md R49, spec/02_operating_modes.md
R50, spec/02_operating_modes.md R51, spec/05_comparison.md R151, spec/11_hot_standby.md R287) -/
def Obligations.TimedTransitions : Prop :=
  ∀ (s : State) (x : Nat) (p : Fin 4) (m : Mode) (ok : Option TestFail) (b : TestFail) (fails : List (Fin 48 × Nat)),
    (s.hw.sup.waitTo = some m → s.hw.sup.heldReqs = [] → s.hw.sup.waitCmd = none → s.hw.mode = .stop → s.hw.pairOn = true → s.hw.liveIn = true → s.evRoom 1 → Runs (.preferredWaitExpiry) s (fun t =>
      Entered s t .recovery s.hw.sup.waitCause ∧
      s.hw.sup.waitDue ≤ t.hw.clk.up ∧
      t.hw.sup.intent = true ∧
      Records s t (0x0030, 2, 10, s.hw.sup.waitCause) ∧
      Kept [.wdg, .sup, .exe, .tsk, .hif, .nvs, .net, .fld, .pair, .evr, .clk] s t)) ∧
    (s.hw.mode = .safe → s.hw.fget R.SUP_MODE_STATUS_AUTO_LEFT = x + 1 → Runs (.automaticRecovery) s (fun t =>
      Entered s t .recovery 0x12 ∧
      t.hw.fget R.SUP_MODE_STATUS_AUTO_LEFT = x ∧
      s.hw.sup.safeAt + 100000000 ≤ t.hw.clk.up ∧
      t.hw.sup.intent = s.hw.fbit R.SUP_MODE_CFG_AUTOSTART ∧
      Kept [.wdg, .sup, .exe, .tsk, .hif, .nvs, .net, .fld, .pair, .evr, .clk] s t)) ∧
    (s.hw.mode = .startup → s.hw.nvs.vinLost = false → Runs (.startupLimitExpiry) s (fun t =>
      Entered s t .safe 0x36 ∧
      t.hw.fbit R.SUP_MODE_STATUS_SAFE_LATCH = true ∧
      s.hw.sup.startupAt + max 1 (s.hw.fget R.SUP_MODE_CFG_STARTUP_LIMIT_MS) * 1000000 ≤ t.hw.clk.up ∧
      Kept [.wdg, .sup, .exe, .tsk, .hif, .nvs, .net, .fld, .pair, .evr, .mem, .clk] s t)) ∧
    (s.hw.mode = .recovery → s.hw.nvs.vinLost = false → Runs (.recoveryBoundExpiry) s (fun t =>
      Entered s t .safe 0x37 ∧
      t.hw.fbit R.SUP_MODE_STATUS_SAFE_LATCH = true ∧
      s.hw.sup.recoveryAt + 500000000 ≤ t.hw.clk.up ∧
      Kept [.wdg, .sup, .exe, .tsk, .hif, .nvs, .net, .fld, .pair, .evr, .mem, .clk] s t)) ∧
    (s.hw.mode = .recovery → s.hw.sup.selfTested = false → s.hw.exe.poison = [] → s.hw.fbit R.SUP_MODE_STATUS_SAFE_LATCH = false → s.hw.pairOn = false → s.hw.sup.intent = false → (List.range 6).any s.hw.zirek = false → Runs (.selfTestComplete none none []) s (fun t =>
      Entered s t .stop 0x21 ∧
      Kept [.wdg, .sup, .exe, .tsk, .hif, .nvs, .net, .fld, .pair, .evr, .free] s t)) ∧
    (s.hw.mode = .recovery → s.hw.sup.selfTested = false → s.hw.exe.poison = [] → s.hw.fbit R.SUP_MODE_STATUS_SAFE_LATCH = true → (List.range 6).any s.hw.zirek = false → Runs (.selfTestComplete none none []) s (fun t =>
      t.hw.mode = Mode.recovery ∧
      t.hw.sup.selfTested = true ∧
      NvWrite.state false (s.hw.fget R.SUP_MODE_STATUS_AUTO_LEFT) ∈ t.hw.nvs.queue ++ t.hw.nvs.busy.toList ∧
      Kept [.sup, .nvs, .evr, .free] s t)) ∧
    (s.hw.mode = .recovery → s.hw.sup.selfTested = false → s.hw.nvs.vinLost = false → (b = .step 0 → s.hw.fbit R.SUP_MODE_STATUS_PROG_VALID = true) → Runs (.selfTestComplete none (some b) fails) s (fun t =>
      Entered s t .safe 0x37 ∧
      t.hw.fbit R.SUP_MODE_STATUS_SAFE_LATCH = true ∧
      Kept [.wdg, .sup, .exe, .tsk, .hif, .nvs, .net, .fld, .pair, .evr, .mem, .free] s t)) ∧
    (s.hw.mode = .recovery → s.hw.sup.selfTested = false → s.hw.nvs.vinLost = false → s.evRoom 5 → Runs (.selfTestComplete (some (p, x)) ok fails) s (fun t =>
      Entered s t .safe 0x37 ∧
      t.hw.fbit R.SUP_MODE_STATUS_SAFE_LATCH = true ∧
      Records s t (0x2006, p.val, x, 0) ∧
      Kept [.wdg, .sup, .exe, .tsk, .hif, .nvs, .net, .fld, .pair, .evr, .mem, .free] s t)) ∧
    (s.hw.mode = .recovery → s.hw.sup.selfTested = false → s.hw.nvs.vinLost = false → (s.hw.pathTests x).contains 1 = true → x < 48 → Runs (.selfTestComplete none none [(Fin.ofNat 48 x, 1)]) s (fun t =>
      Entered s t .safe 0x37 ∧
      t.hw.fbit R.SUP_MODE_STATUS_SAFE_LATCH = true ∧
      Kept [.wdg, .sup, .exe, .tsk, .hif, .nvs, .net, .fld, .pair, .evr, .mem, .free] s t))

/-- A droop halves the CORE clock within 2 ns; the stretch ends HOLD_US after the rail's last rise, with COUNT, LAST_US and 0x0021;
after LIMIT_MS LIMIT is set and 0x0022 recorded, with ACTION 1 SAFE follows with cause 0x33. A window in band clears the run of bad
ones, a first bad one only counts, a second declares the domain: CAL clears VALID with 0x0023, NET and FLD lead to SAFE with cause
0x32; a stopped CORE clock takes LIVE_OUT low and arms the reset 1 ms later. A first bad check of MON only counts, a second sets
MON_SUSPECT and leads to SAFE with cause 0x34. Where the spec leaves a point open the clauses follow the model's own reading
(assumption log 2, 39). (spec/01_architecture.md R27, spec/01_architecture.md R32, spec/01_architecture.md R33,
spec/01_architecture.md R34, spec/01_architecture.md R36) -/
def Obligations.DroopAndClockMonitor : Prop :=
  ∀ (s : State) (x : Nat) (dev : Int),
    (s.hw.powered = true → s.hw.fbit R.SUP_DROOP_STATUS_STRETCH = false → Runs (.droopDetect) s (fun t =>
      t.hw.fbit R.SUP_DROOP_STATUS_STRETCH = true ∧
      t.hw.clk.up = s.hw.clk.up + 2 ∧
      t.hw.sup.stretchAt = t.hw.clk.up ∧
      Frame [.clk, .sup] [R.SUP_DROOP_STATUS] s t)) ∧
    (s.hw.fbit R.SUP_DROOP_STATUS_STRETCH = true → s.hw.sup.injDroop = false → s.hw.sup.railLow = 0 → s.hw.sup.stretchAt ≤ s.hw.clk.up → s.hw.clk.up + x + max 1 (s.hw.fget R.SUP_DROOP_CFG_HOLD_US) * 1000 ≤ s.hw.sup.stretchAt + (max 1 (s.hw.fget R.SUP_DROOP_CFG_LIMIT_MS)) * 1000000 → s.evRoom 1 → Runs (.droopHoldExpiry x) s (fun t =>
      t.hw.fbit R.SUP_DROOP_STATUS_STRETCH = false ∧
      t.hw.clk.up = s.hw.clk.up + x + max 1 (s.hw.fget R.SUP_DROOP_CFG_HOLD_US) * 1000 ∧
      t.hw.fget R.SUP_DROOP_STATUS_COUNT = satInc R.SUP_DROOP_STATUS_COUNT.w (s.hw.fget R.SUP_DROOP_STATUS_COUNT) ∧
      t.hw.fget R.SUP_DROOP_STATUS_LAST_US = min 4095 ((t.hw.clk.up - s.hw.sup.stretchAt + 500) / 1000) ∧
      Raises s t [(0x0021, (t.hw.clk.up - s.hw.sup.stretchAt + 500) / 1000, s.hw.sup.stretchMask, 0)] ∧
      Frame [.clk, .sup, .evr] [R.SUP_DROOP_STATUS] s t)) ∧
    (s.hw.fbit R.SUP_DROOP_STATUS_STRETCH = true → s.hw.sup.stretchLim = false → s.evRoom 1 → s.hw.fget R.SUP_DROOP_CFG_ACTION = 0 → Runs (.droopLimitExpiry) s (fun t =>
      t.hw.fbit R.SUP_DROOP_STATUS_LIMIT = true ∧
      Raises s t [(0x0022, (max 1 (s.hw.fget R.SUP_DROOP_CFG_LIMIT_MS)), 0, 0)] ∧
      s.hw.sup.stretchAt + (max 1 (s.hw.fget R.SUP_DROOP_CFG_LIMIT_MS)) * 1000000 ≤ t.hw.clk.up ∧
      Frame [.clk, .sup, .evr] [R.SUP_DROOP_STATUS] s t)) ∧
    (s.hw.fbit R.SUP_DROOP_STATUS_STRETCH = true → s.hw.sup.stretchLim = false → s.evRoom 1 → s.hw.fget R.SUP_DROOP_CFG_ACTION = 1 → s.hw.mode ∈ [Mode.startup, .run, .follow, .test, .debug, .stop, .service, .provision] → s.hw.nvs.vinLost = false → Runs (.droopLimitExpiry) s (fun t =>
      Entered s t .safe 0x33 ∧
      t.hw.fbit R.SUP_MODE_STATUS_SAFE_LATCH = true ∧
      Records s t (0x0022, (max 1 (s.hw.fget R.SUP_DROOP_CFG_LIMIT_MS)), 1, 0))) ∧
    (s.hw.monitors 11 = true → (s.hw.sup.injClk.1 ≠ 11 ∨ s.hw.sup.injClk.2 = 0) → x = 3 → Runs (.clkmonWindow 11 x) s (fun t =>
      tget 0 t.hw.sup.oob 11 = 0 ∧
      Frame [.sup] [] s t)) ∧
    (s.hw.monitors 0 = true → (s.hw.sup.injClk.1 ≠ 0 ∨ s.hw.sup.injClk.2 = 0) → 34000 ≤ x ∧ x ≤ 92000 → Runs (.clkmonWindow 0 x) s (fun t =>
      tget 0 t.hw.sup.oob 0 = 0 ∧
      Frame [.sup] [] s t)) ∧
    (s.hw.monitors 1 = true → (s.hw.sup.injClk.1 ≠ 1 ∨ s.hw.sup.injClk.2 = 0) → (x < 10600 ∨ 14400 < x) → tget 0 s.hw.sup.oob 1 = 0 → Runs (.clkmonWindow 1 x) s (fun t =>
      tget 0 t.hw.sup.oob 1 = 1 ∧
      Frame [.sup] [] s t)) ∧
    (s.hw.monitors 11 = true → (s.hw.sup.injClk.1 ≠ 11 ∨ s.hw.sup.injClk.2 = 0) → x ≠ 3 → tget 0 s.hw.sup.oob 11 = 1 → s.evRoom 1 → Runs (.clkmonWindow 11 x) s (fun t =>
      t.hw.fbit (clkBit 11) = true ∧
      t.hw.fbit R.CAL_STATUS_VALID = false ∧
      Raises s t [(0x0023, 11, x, 0)] ∧
      Frame [.sup, .evr] [R.SUP_CLKMON_STATUS, R.CAL_STATUS] s t)) ∧
    (s.hw.monitors 1 = true → (s.hw.sup.injClk.1 ≠ 1 ∨ s.hw.sup.injClk.2 = 0) → (x < 10600 ∨ 14400 < x) → tget 0 s.hw.sup.oob 1 = 1 → s.hw.mode ∈ [Mode.startup, .run, .follow, .test, .debug, .stop, .service, .provision] → s.hw.nvs.vinLost = false → Runs (.clkmonWindow 1 x) s (fun t =>
      t.hw.fbit (clkBit 1) = true ∧
      Entered s t .safe 0x32)) ∧
    (s.hw.monitors 0 = true → s.hw.sup.coreResetDue = none → Runs (.clockStopDetect true) s (fun t =>
      t.hw.fbit (clkBit 0) = true ∧
      t.hw.fbit R.SUP_MODE_STATUS_LIVE_OUT = false ∧
      t.hw.sup.coreResetDue = some (s.hw.clk.up + 400 + 1000000) ∧
      t.hw.sup.fault = true ∧
      t.hw.fld.driven = [] ∧
      t.hw.fget R.CAL_BKREC0_RESET_CAUSE = 4 ∧
      t.hw.fbit R.CAL_BKREC0_SAFE_COPY = true ∧
      Frame [.clk, .sup, .fld] [R.SUP_CLKMON_STATUS, R.CAL_BKREC0, R.SUP_MODE_STATUS, R.PAIR_STATUS] s t)) ∧
    (s.hw.monitors 1 = true → s.hw.mode ∈ [Mode.startup, .run, .follow, .test, .debug, .stop, .service, .provision] → s.hw.nvs.vinLost = false → Runs (.clockStopDetect false) s (fun t =>
      t.hw.fbit (clkBit 1) = true ∧
      Entered s t .safe 0x32)) ∧
    (s.hw.powered = true → s.hw.mode ≠ .parked → s.hw.sup.injMon = 0 → -100 ≤ dev ∧ dev ≤ 100 → Runs (.monCheck dev) s (fun t =>
      t.hw.sup.monBad = 0 ∧
      t.hw.sup.monAt = t.hw.clk.up ∧
      Frame [.clk, .sup] [] s t)) ∧
    (s.hw.powered = true → s.hw.mode ≠ .parked → s.hw.sup.injMon = 0 → (100 < dev ∨ dev < -100) → s.hw.sup.monBad = 0 → Runs (.monCheck dev) s (fun t =>
      t.hw.sup.monBad = 1 ∧
      Frame [.clk, .sup] [] s t)) ∧
    (s.hw.powered = true → s.hw.mode ≠ .parked → s.hw.sup.injMon = 0 → (100 < dev ∨ dev < -100) → s.hw.sup.monBad = 1 → s.hw.mode ∈ [Mode.startup, .run, .follow, .test, .debug, .stop, .service, .provision] → s.hw.nvs.vinLost = false → Runs (.monCheck dev) s (fun t =>
      t.hw.fbit R.SUP_CLKMON_STATUS_MON_SUSPECT = true ∧
      Entered s t .safe 0x34))

/-- An open window whose COUNT reaches MAX, the SUP entry at SUP MAX, and a SUP check-in with a wrong word or too early raise the
trap with causes 1, 5 and 6: the record is frozen, the hard reset timer starts, the SUP core enters slot 15 with NMIACT, and SAFE
follows with cause 0x31; a right check-in restarts the SUP window. The key sequence within 1 ms disables the watchdog with 0xB003,
under LOCK it is refused with 0xB004, a wrong second word records 0xB005; the sequence lapses after 1 ms; LOCK is set. Where the
spec leaves a point open the clauses follow the model's own reading (assumption log 2, 37). (spec/06_kyoquel_model.md R166,
spec/15_time_watchdog.md R413, spec/15_time_watchdog.md R415, spec/15_time_watchdog.md R416, spec/15_time_watchdog.md R419) -/
def Obligations.WatchdogCommands : Prop :=
  ∀ (s : State) (i : Fin 32) (x : Nat) (v : Word) (src : Nat),
    (s.hw.wdgOn = true → s.hw.mode ∈ [Mode.startup, .run, .follow, .test, .debug, .stop, .service, .provision] → s.hw.wdgEn i.val = true → s.hw.wdg.opens.find? (fun (p : Nat × Nat) => p.1 == i.val) = some (i.val, x) → Runs (.wdgExpiry i) s (fun t =>
      Entered s t .safe 0x31 ∧
      t.hw.fbit R.WDG_CTRL_TRAPPED = true ∧
      (s.hw.fbit R.WDG_CTRL_TRAPPED = false → bitsOf (t.hw.reg 0x400B0040).toNat 0 3 = 1 ∧ t.hw.wdg.hardDue.isSome = true) ∧
      t.hw.exe.sup.nmiact = true ∧
      (s.hw.exe.sup.nmiact = false → t.hw.exe.sup.nepc = s.hw.exe.sup.pc ∧ t.hw.exe.sup.pc = 240#32))) ∧
    (s.hw.wdgOn = true → s.hw.mode ∈ [Mode.startup, .run, .follow, .test, .debug, .stop, .service, .provision] → s.hw.wdg.supOver = false → Runs (.supWdgExpiry) s (fun t =>
      Entered s t .safe 0x31 ∧
      t.hw.fbit R.WDG_CTRL_TRAPPED = true ∧
      (s.hw.fbit R.WDG_CTRL_TRAPPED = false → bitsOf (t.hw.reg 0x400B0040).toNat 0 3 = 5 ∧ t.hw.wdg.hardDue.isSome = true) ∧
      t.hw.exe.sup.nmiact = true ∧
      (s.hw.exe.sup.nmiact = false → t.hw.exe.sup.nepc = s.hw.exe.sup.pc ∧ t.hw.exe.sup.pc = 240#32) ∧
      t.hw.wdg.supOver = true)) ∧
    (s.hw.wdgOn = true → s.hw.mode ∈ [Mode.startup, .run, .follow, .test, .debug, .stop, .service, .provision] → s.hw.wdg.injSup = false → (v ≠ 0xA5C3#32 ∨ s.hw.supCount < s.hw.supMin) → Runs (.wdgSupCheck v) s (fun t =>
      Entered s t .safe 0x31 ∧
      t.hw.fbit R.WDG_CTRL_TRAPPED = true ∧
      (s.hw.fbit R.WDG_CTRL_TRAPPED = false → bitsOf (t.hw.reg 0x400B0040).toNat 0 3 = 6 ∧ t.hw.wdg.hardDue.isSome = true) ∧
      t.hw.exe.sup.nmiact = true ∧
      (s.hw.exe.sup.nmiact = false → t.hw.exe.sup.nepc = s.hw.exe.sup.pc ∧ t.hw.exe.sup.pc = 240#32))) ∧
    (s.hw.wdgOn = true → s.hw.mode ≠ .parked → s.hw.wdg.injSup = false → s.hw.supMin ≤ s.hw.supCount → Runs (.wdgSupCheck 0xA5C3#32) s (fun t =>
      t.hw.wdg.supAt = s.hw.coreClocks ∧
      t.hw.wdg.supOver = false ∧
      Frame [.wdg] [] s t)) ∧
    (s.hw.wdg.keyAt = none → Runs (.wdgKey src v) s (fun t =>
      (t.hw.wdg.keyAt = (if v = 0x5A17#32 then some s.hw.clk.up else none)) ∧
      Frame [.wdg] [] s t)) ∧
    (s.hw.wdg.keyAt = some x → s.hw.clk.up ≤ x + 1000000 → s.evRoom 1 → s.hw.fbit R.WDG_CTRL_LOCK = false → Runs (.wdgKey src 0xC0DE#32) s (fun t =>
      t.hw.fbit R.WDG_CTRL_DISABLED = true ∧
      t.hw.wdg.opens = [] ∧
      t.hw.wdg.keyAt = none ∧
      Raises s t [(0xB003, src, 0, 0)] ∧
      Frame [.wdg, .evr] [R.WDG_CTRL] s t)) ∧
    (s.hw.wdg.keyAt = some x → s.hw.clk.up ≤ x + 1000000 → s.evRoom 1 → s.hw.fbit R.WDG_CTRL_LOCK = true → Runs (.wdgKey src 0xC0DE#32) s (fun t =>
      t.hw.wdg.keyAt = none ∧
      Raises s t [(0xB004, 0, 0, 0)] ∧
      Frame [.wdg, .evr] [] s t)) ∧
    (s.hw.wdg.keyAt = some x → s.hw.clk.up ≤ x + 1000000 → s.evRoom 1 → v ≠ 0xC0DE#32 → Runs (.wdgKey src v) s (fun t =>
      t.hw.wdg.keyAt = none ∧
      Raises s t [(0xB005, v.toNat, 0, 0)] ∧
      Frame [.wdg, .evr] [] s t)) ∧
    (s.hw.wdg.keyAt = some x → Runs (.wdgKeyTimeout) s (fun t =>
      t.hw.wdg.keyAt = none ∧
      x + 1000000 ≤ t.hw.clk.up ∧
      Frame [.clk, .wdg] [] s t)) ∧
    (Runs (.wdgLock) s (fun t =>
      t.hw.fbit R.WDG_CTRL_LOCK = true ∧
      Frame [] [R.WDG_CTRL] s t))

/-- A second advances the counters as R408 says, through minute, hour, day, month and year, with RANGE_OK following and the length
of the next second from the compensation accumulator; a temperature reading sets TEMP and the correction of the curve, interpolated
between its points and held at its ends; a capture shows the counters in CAL_DATE and CAL_TIME; the acknowledgement of a set loads
the counters, VALID, SOURCE and SETS and records 0xA002; CAL_SET queues a set and runs CAL, CAL_GET answers with the captured words
and VALID, a lock of PTP queues a set of UTC. Where the spec leaves a point open the clauses follow the model's own reading
(assumption log 2, 22, 80). (spec/15_time_watchdog.md R405, spec/15_time_watchdog.md R406, spec/15_time_watchdog.md R407,
spec/15_time_watchdog.md R408, spec/15_time_watchdog.md R409, spec/15_time_watchdog.md R411) -/
def Obligations.CalendarCommands : Prop :=
  ∀ (s : State) (d : Desc) (k : Nat) (i : Nat) (x : CalSet) (te : Int),
    (tSec s.hw.cal.time < 59 → Runs (.calSecond) s (fun t =>
      t.hw.cal.date = s.hw.cal.date ∧
      t.hw.cal.time = timeWord (tHour s.hw.cal.time) (tMin s.hw.cal.time) (tSec s.hw.cal.time + 1) ∧
      t.hw.fbit R.CAL_STATUS_RANGE_OK = rangeOk t.hw.cal.date t.hw.cal.time ∧
      t.hw.cal.secAt = s.hw.cal.secAt + s.hw.cal.cycles * 1000000000 / 32768 ∧
      ((t.hw.cal.cycles : Int) = 32768 - ((s.hw.cal.acc : Int) + s.hw.corr) / 1024 ∨ (32768 : Int) < ((s.hw.cal.acc : Int) + s.hw.corr) / 1024) ∧
      (t.hw.cal.acc : Int) = ((s.hw.cal.acc : Int) + s.hw.corr) % 1024 ∧
      Frame [.clk, .cal] [R.CAL_STATUS] s t)) ∧
    (59 ≤ tSec s.hw.cal.time → tMin s.hw.cal.time < 59 → Runs (.calSecond) s (fun t =>
      t.hw.cal.date = s.hw.cal.date ∧
      t.hw.cal.time = timeWord (tHour s.hw.cal.time) (tMin s.hw.cal.time + 1) 0 ∧
      t.hw.fbit R.CAL_STATUS_RANGE_OK = rangeOk t.hw.cal.date t.hw.cal.time ∧
      t.hw.cal.secAt = s.hw.cal.secAt + s.hw.cal.cycles * 1000000000 / 32768 ∧
      ((t.hw.cal.cycles : Int) = 32768 - ((s.hw.cal.acc : Int) + s.hw.corr) / 1024 ∨ (32768 : Int) < ((s.hw.cal.acc : Int) + s.hw.corr) / 1024) ∧
      (t.hw.cal.acc : Int) = ((s.hw.cal.acc : Int) + s.hw.corr) % 1024 ∧
      Frame [.clk, .cal] [R.CAL_STATUS] s t)) ∧
    (59 ≤ tSec s.hw.cal.time → 59 ≤ tMin s.hw.cal.time → tHour s.hw.cal.time < 23 → Runs (.calSecond) s (fun t =>
      t.hw.cal.date = s.hw.cal.date ∧
      t.hw.cal.time = timeWord (tHour s.hw.cal.time + 1) 0 0 ∧
      t.hw.fbit R.CAL_STATUS_RANGE_OK = rangeOk t.hw.cal.date t.hw.cal.time ∧
      t.hw.cal.secAt = s.hw.cal.secAt + s.hw.cal.cycles * 1000000000 / 32768 ∧
      ((t.hw.cal.cycles : Int) = 32768 - ((s.hw.cal.acc : Int) + s.hw.corr) / 1024 ∨ (32768 : Int) < ((s.hw.cal.acc : Int) + s.hw.corr) / 1024) ∧
      (t.hw.cal.acc : Int) = ((s.hw.cal.acc : Int) + s.hw.corr) % 1024 ∧
      Frame [.clk, .cal] [R.CAL_STATUS] s t)) ∧
    (59 ≤ tSec s.hw.cal.time → 59 ≤ tMin s.hw.cal.time → 23 ≤ tHour s.hw.cal.time → (dDay s.hw.cal.date < (if dMonth s.hw.cal.date = 2 then (if (dYear s.hw.cal.date % 4 = 0 ∧ dYear s.hw.cal.date % 100 ≠ 0) ∨ dYear s.hw.cal.date % 400 = 0 then 29 else 28) else if dMonth s.hw.cal.date ∈ [4, 6, 9, 11] then 30 else 31)) → Runs (.calSecond) s (fun t =>
      (t.hw.cal.date = dateWord (dYear s.hw.cal.date) (dMonth s.hw.cal.date) (dDay s.hw.cal.date + 1) (if dWday s.hw.cal.date < 6 then dWday s.hw.cal.date + 1 else 0)) ∧
      t.hw.cal.time = timeWord 0 0 0 ∧
      t.hw.fbit R.CAL_STATUS_RANGE_OK = rangeOk t.hw.cal.date t.hw.cal.time ∧
      t.hw.cal.secAt = s.hw.cal.secAt + s.hw.cal.cycles * 1000000000 / 32768 ∧
      ((t.hw.cal.cycles : Int) = 32768 - ((s.hw.cal.acc : Int) + s.hw.corr) / 1024 ∨ (32768 : Int) < ((s.hw.cal.acc : Int) + s.hw.corr) / 1024) ∧
      (t.hw.cal.acc : Int) = ((s.hw.cal.acc : Int) + s.hw.corr) % 1024 ∧
      Frame [.clk, .cal] [R.CAL_STATUS] s t)) ∧
    (59 ≤ tSec s.hw.cal.time → 59 ≤ tMin s.hw.cal.time → 23 ≤ tHour s.hw.cal.time → ((if dMonth s.hw.cal.date = 2 then (if (dYear s.hw.cal.date % 4 = 0 ∧ dYear s.hw.cal.date % 100 ≠ 0) ∨ dYear s.hw.cal.date % 400 = 0 then 29 else 28) else if dMonth s.hw.cal.date ∈ [4, 6, 9, 11] then 30 else 31) ≤ dDay s.hw.cal.date) → dMonth s.hw.cal.date = 12 → Runs (.calSecond) s (fun t =>
      (t.hw.cal.date = dateWord (dYear s.hw.cal.date + 1) 1 1 (if dWday s.hw.cal.date < 6 then dWday s.hw.cal.date + 1 else 0)) ∧
      t.hw.cal.time = timeWord 0 0 0 ∧
      t.hw.fbit R.CAL_STATUS_RANGE_OK = rangeOk t.hw.cal.date t.hw.cal.time ∧
      t.hw.cal.secAt = s.hw.cal.secAt + s.hw.cal.cycles * 1000000000 / 32768 ∧
      ((t.hw.cal.cycles : Int) = 32768 - ((s.hw.cal.acc : Int) + s.hw.corr) / 1024 ∨ (32768 : Int) < ((s.hw.cal.acc : Int) + s.hw.corr) / 1024) ∧
      (t.hw.cal.acc : Int) = ((s.hw.cal.acc : Int) + s.hw.corr) % 1024 ∧
      Frame [.clk, .cal] [R.CAL_STATUS] s t)) ∧
    (59 ≤ tSec s.hw.cal.time → 59 ≤ tMin s.hw.cal.time → 23 ≤ tHour s.hw.cal.time → ((if dMonth s.hw.cal.date = 2 then (if (dYear s.hw.cal.date % 4 = 0 ∧ dYear s.hw.cal.date % 100 ≠ 0) ∨ dYear s.hw.cal.date % 400 = 0 then 29 else 28) else if dMonth s.hw.cal.date ∈ [4, 6, 9, 11] then 30 else 31) ≤ dDay s.hw.cal.date) → dMonth s.hw.cal.date ≠ 12 → Runs (.calSecond) s (fun t =>
      (t.hw.cal.date = dateWord (dYear s.hw.cal.date) (dMonth s.hw.cal.date + 1) 1 (if dWday s.hw.cal.date < 6 then dWday s.hw.cal.date + 1 else 0)) ∧
      t.hw.cal.time = timeWord 0 0 0 ∧
      t.hw.fbit R.CAL_STATUS_RANGE_OK = rangeOk t.hw.cal.date t.hw.cal.time ∧
      t.hw.cal.secAt = s.hw.cal.secAt + s.hw.cal.cycles * 1000000000 / 32768 ∧
      ((t.hw.cal.cycles : Int) = 32768 - ((s.hw.cal.acc : Int) + s.hw.corr) / 1024 ∨ (32768 : Int) < ((s.hw.cal.acc : Int) + s.hw.corr) / 1024) ∧
      (t.hw.cal.acc : Int) = ((s.hw.cal.acc : Int) + s.hw.corr) % 1024 ∧
      Frame [.clk, .cal] [R.CAL_STATUS] s t)) ∧
    (s.hw.cal.injTemp = false → -440 ≤ te ∧ te ≤ 1200 → te ≤ -320 → Runs (.tempReading te) s (fun t =>
      t.hw.fget R.CAL_COMP_TEMP = (te % (2 ^ R.CAL_COMP_TEMP.w)).toNat ∧
      t.hw.fget R.CAL_COMP_CORR = (s.hw.point 0 % 65536).toNat ∧
      Frame [.cal] [R.CAL_COMP] s t)) ∧
    (s.hw.cal.injTemp = false → -440 ≤ te ∧ te ≤ 1200 → 960 ≤ te → Runs (.tempReading te) s (fun t =>
      t.hw.fget R.CAL_COMP_TEMP = (te % (2 ^ R.CAL_COMP_TEMP.w)).toNat ∧
      t.hw.fget R.CAL_COMP_CORR = (s.hw.point 32 % 65536).toNat ∧
      Frame [.cal] [R.CAL_COMP] s t)) ∧
    (s.hw.cal.injTemp = false → -440 ≤ te ∧ te ≤ 1200 → i < 32 → k < 40 → te = 40 * (i : Int) - 320 + k → Runs (.tempReading te) s (fun t =>
      t.hw.fget R.CAL_COMP_TEMP = (te % (2 ^ R.CAL_COMP_TEMP.w)).toNat ∧
      t.hw.fget R.CAL_COMP_CORR = ((s.hw.point i + round40 ((s.hw.point (i + 1) - s.hw.point i) * k)) % 65536).toNat ∧
      Frame [.cal] [R.CAL_COMP] s t)) ∧
    (Runs (.calDateRead) s (fun t =>
      t.hw.reg R.CAL_DATE = BitVec.ofNat 32 s.hw.cal.date ∧
      t.hw.reg R.CAL_TIME = BitVec.ofNat 32 (s.hw.cal.time % 2 ^ 24 + min 255 ((s.hw.clk.up - s.hw.cal.secAt) * 256 / 1000000000) * 2 ^ 24) ∧
      Frame [] [R.CAL_DATE, R.CAL_TIME] s t)) ∧
    (s.hw.cal.sets = [x] → x.d = none → s.evRoom 1 → Runs (.calendarSetAck) s (fun t =>
      t.hw.cal.sets = [] ∧
      t.hw.cal.date = dateWord (dYear x.date) (dMonth x.date) (dDay x.date) (dWday x.date) ∧
      t.hw.cal.time = timeWord (tHour x.time) (tMin x.time) (tSec x.time) ∧
      t.hw.fbit R.CAL_STATUS_VALID = true ∧
      t.hw.fget R.CAL_STATUS_SOURCE = x.source % 2 ^ R.CAL_STATUS_SOURCE.w ∧
      t.hw.fget R.CAL_STATUS_SETS = satInc R.CAL_STATUS_SETS.w (s.hw.fget R.CAL_STATUS_SETS) ∧
      t.hw.actRuns .cal = false ∧
      Raises s t [(0xA002, x.source, dateWord (dYear x.date) (dMonth x.date) (dDay x.date) (dWday x.date), timeWord (tHour x.time) (tMin x.time) (tSec x.time))] ∧
      Frame [.cal, .evr] [R.CAL_STATUS, R.SUP_ADMIT_STATUS] s t)) ∧
    (s.served d 0x0701 → s.allows .cal { d with op := 0x0701 } → Runs (.calSet d) s (fun t =>
      t.hw.cal.sets = s.hw.cal.sets ++ [({ date := d.p0 % 2 ^ 32, time := d.p1 % 2 ^ 32, source := 1, d := some { d with op := 0x0701 } } : CalSet)] ∧
      t.hw.actRuns .cal = true ∧
      t.hw.hif.running = s.hw.hif.running ++ [{ d with op := 0x0701 }] ∧
      t.hw.hif.done = s.hw.hif.done ∧
      Frame [.cal, .hif] [R.SUP_ADMIT_STATUS, R.HIF_STATUS] s t)) ∧
    (s.served d 0x0702 → Runs (.calGet d) s (fun t =>
      Answers s t (d.answer 0x0702 stOk (t.hw.reg R.CAL_DATE).toNat (t.hw.reg R.CAL_TIME).toNat (s.hw.fget R.CAL_STATUS_VALID)) ∧
      t.hw.reg R.CAL_DATE = BitVec.ofNat 32 s.hw.cal.date ∧
      Frame [.hif] [R.CAL_DATE, R.CAL_TIME, R.HIF_STATUS] s t)) ∧
    (s.hw.mode ∉ [Mode.boot, .parked] → s.hw.ptpLocked = true → s.hw.cal.ptpNow = true → Runs (.calSetFromTimebase) s (fun t =>
      (∃ y : CalSet, t.hw.cal.sets = s.hw.cal.sets ++ [y] ∧ y.source = 2 ∧ y.d = none ∧ (y.date, y.time) = wordsOf ((t.hw.clk.tb / 1000000000 : Nat) - (s.hw.fget R.NET_UTC_OFFSET_OFFSET_S : Int))) ∧
      t.hw.actRuns .cal = true ∧
      t.hw.cal.ptpNow = false ∧
      Frame [.clk, .cal] [R.SUP_ADMIT_STATUS] s t))

/-- SUP_IRQ shows the requesting blocks in IPEND; with IE and an enabled block the SUP core enters slot 16 with EPC the boundary's
pc, else it goes on. A deferred request that nothing blocks any more leaves the list and starts, the oldest after 30 s completes
with BUSY, the blocker as DETAIL and EVENT 0x0042. Where the spec leaves a point open the clauses follow the model's own reading
(assumption log 38, 84, 92). (spec/02_operating_modes.md R61, spec/06_kyoquel_model.md R167) -/
def Obligations.SupInterruptAndDeferredRequests : Prop :=
  ∀ (s : State) (req : BitVec 12) (x : Deferred) (rest : List Deferred),
    (s.hw.exe.supRunning = true → s.hw.exe.sup.ie = true → s.hw.exe.sup.inexc = false → (req.setWidth 32 &&& s.hw.exe.sup.imask) ≠ 0#32 → Runs (.supIrq req) s (fun t =>
      t.hw.exe.sup.ipend = req.setWidth 32 ∧
      t.hw.exe.sup.pc = s.hw.exe.sup.vbase + 256#32 ∧
      t.hw.exe.sup.epc = s.hw.exe.sup.pc ∧
      t.hw.exe.sup.epsr = s.hw.exe.sup.psr ∧
      bitsOf t.hw.exe.sup.ecause.toNat 0 8 = 16 ∧
      t.hw.exe.sup.ie = false ∧ t.hw.exe.sup.inexc = true ∧
      Frame [.exe, .free] [] s t)) ∧
    (s.hw.exe.supRunning = true → (s.hw.exe.sup.ie = false ∨ (req.setWidth 32 &&& s.hw.exe.sup.imask) = 0#32) → Runs (.supIrq req) s (fun t =>
      t.hw.exe.sup = { s.hw.exe.sup with ipend := req.setWidth 32 } ∧
      Frame [.exe] [] s t)) ∧
    (s.hw.hif.deferred = [x] → s.hw.freeNow x = true → x.act = .cal → x.d.op = 0x0701 → Runs (.deferredRequestStart) s (fun t =>
      t.hw.hif.deferred = [] ∧
      t.hw.fget R.SUP_ADMIT_STATUS_DEFERRED = 0 ∧
      t.hw.actRuns .cal = true ∧
      t.hw.cal.sets = s.hw.cal.sets ++ [({ date := x.d.p0 % 2 ^ 32, time := x.d.p1 % 2 ^ 32, source := 1, d := some x.d } : CalSet)] ∧
      t.hw.hif.running = s.hw.hif.running ++ [x.d] ∧
      Frame [.cal, .hif] [R.SUP_ADMIT_STATUS] s t)) ∧
    (s.hw.hif.deferred = x :: rest → x.d.src.isEng = false → x.d.relayed = false → s.hw.hif.lost = [] → s.evRoom 2 → Runs (.deferredRequestExpiry) s (fun t =>
      t.hw.hif.deferred = rest ∧
      x.since + 30000000000 ≤ t.hw.clk.up ∧
      Answers s t (x.d.answer x.d.op stBusy 0 0 0 x.blocker 0x0042) ∧
      Raises s t [(0x0042, x.act.code, x.blocker, 0), (0x7010, x.d.op, x.d.src.code, stBusy)] ∧
      Frame [.clk, .hif, .evr] [R.SUP_ADMIT_STATUS] s t))

/-- On a free target the ready task that R68 puts first starts with window 0: it runs, its pc, k2 to k5 and TASKID are those of
Table 6-2, its window is seeded; on a SPLIT side it pre-empts a running task of lower priority, whose context is saved. A close
whose marigolds, gap and caches agree counts the window: at the length the next window opens with a new seed, at task end the cycle
agrees and the target is free. A mismatch outside a re-execution counts, records 0x2001, and restarts the task as a re-execution;
inside one, or where the undo log has overflowed, it leads to SAFE with cause 0x30 after 0x2003 or 0x2004. Where the spec leaves a
point open the clauses follow the model's own reading (assumption log 32). (spec/03_task_engine.md R68, spec/03_task_engine.md R69,
spec/05_comparison.md R130, spec/05_comparison.md R131, spec/05_comparison.md R132, spec/05_comparison.md R142,
spec/05_comparison.md R143, spec/06_kyoquel_model.md R159) -/
def Obligations.DispatchAndComparison : Prop :=
  ∀ (s : State) (i : Fin 8) (p : Fin 4) (x : Nat) (r : Nat) (gap : Nat) (cache : Option Bool) (ecc : Bool),
    (s.hw.mode ∈ [Mode.run, .test, .debug] → (s.hw.tgt i.val).task = none → (s.hw.tgt i.val).saved = [] → x ∈ s.hw.readyOf i.val → (∀ y ∈ s.hw.readyOf i.val, y ≠ x → s.hw.before x y = true) → Runs (.dispatch i gap cache ecc) s (fun t =>
      (t.hw.tgt i.val).task = some x ∧
      (t.hw.tgt i.val).window = 0 ∧
      (t.hw.tgt i.val).commits = 0 ∧
      (t.hw.tgt i.val).reexec = false ∧
      t.hw.tstate x = 3 ∧
      (∀ c ∈ s.hw.coresOf i.val, (t.hw.cpu c).pc = s.hw.reg (0x40010200 + 16 * x) ∧ (t.hw.cpu c).rd 2#5 = s.hw.reg (0x40010208 + 16 * x) ∧ (t.hw.cpu c).rd 3#5 = s.hw.reg (0x40010204 + 16 * x) ∧ (t.hw.cpu c).rd 4#5 = BitVec.ofNat 32 x ∧ (t.hw.cpu c).rd 5#5 = BitVec.ofNat 32 (0x20000000 + 32 * x) ∧ (t.hw.cpu c).mg = seed x (if s.hw.kind x = 2 then 0 else (s.hw.cyc x).k) 0 ∧ (t.hw.cpu c).pl = 0) ∧
      (∀ m, m ∉ s.hw.coresOf i.val → t.hw.cpu m = s.hw.cpu m) ∧
      Frame [.exe, .wdg, .sup] [R.CMP_EPn_STATUS (i.val / 2), R.TSK_Tn_STAT x] s t)) ∧
    (s.hw.mode ∈ [Mode.run, .test, .debug] → s.hw.split (i.val / 2) = true → (s.hw.tgt i.val).task = some r → s.hw.prio x < s.hw.prio r → s.hw.atBoundary i.val = true → (s.hw.tgt i.val).saved.length < 8 → r ≠ x → x < 32 ∧ r < 32 → x ∈ s.hw.readyOf i.val → (∀ y ∈ s.hw.readyOf i.val, y ≠ x → s.hw.before x y = true) → Runs (.dispatch i gap cache ecc) s (fun t =>
      (t.hw.tgt i.val).task = some x ∧
      (t.hw.tgt i.val).window = 0 ∧
      t.hw.tstate x = 3 ∧
      t.hw.tstate r = 4 ∧
      ((t.hw.tgt i.val).saved.map (fun (c : Saved) => c.task)) = r :: ((s.hw.tgt i.val).saved.map (fun (c : Saved) => c.task)) ∧
      ((t.hw.tgt i.val).saved.head?.map (fun (c : Saved) => c.lead)) = some (s.hw.cpu i.val) ∧
      (t.hw.cpu i.val).pc = s.hw.reg (0x40010200 + 16 * x) ∧
      Frame [.exe, .wdg, .sup] [R.CMP_EPn_STATUS (i.val / 2), R.TSK_Tn_STAT x, R.TSK_Tn_STAT r] s t)) ∧
    ((s.hw.tgt (2 * p.val)).task = some x → s.hw.exe.injMis = none → s.noCmpInj → s.hw.split p.val = false → (s.hw.tgt (2 * p.val)).cacheErr = none → (s.hw.tgt (2 * p.val)).undoBad = false → (s.hw.tgt (2 * p.val)).rest = ([], []) → (s.hw.cpu (2 * p.val)).mg = (s.hw.cpu (2 * p.val + 1)).mg → (s.hw.tgt (2 * p.val)).closing = some .length → Runs (.windowCompare p 2 none ecc) s (fun t =>
      (t.hw.tgt (2 * p.val)) = { (s.hw.tgt (2 * p.val)) with window := (s.hw.tgt (2 * p.val)).window + 1, commits := 0, closing := none } ∧
      t.hw.fget (R.CMP_EPn_WINDOWS_COUNT p.val) = (s.hw.fget (R.CMP_EPn_WINDOWS_COUNT p.val) + 1) % 2 ^ (R.CMP_EPn_WINDOWS_COUNT p.val).w ∧
      ((t.hw.cpu (2 * p.val)) = { s.hw.cpu (2 * p.val) with mg := seed x (if s.hw.kind x = 2 then 0 else (s.hw.cyc x).k) ((s.hw.tgt (2 * p.val)).window + 1) }) ∧
      ((t.hw.cpu (2 * p.val + 1)) = { s.hw.cpu (2 * p.val + 1) with mg := seed x (if s.hw.kind x = 2 then 0 else (s.hw.cyc x).k) ((s.hw.tgt (2 * p.val)).window + 1) }) ∧
      Frame [.exe] [R.CMP_EPn_WINDOWS p.val, R.CMP_EPn_STATUS p.val] s t)) ∧
    ((s.hw.tgt (2 * p.val)).task = some x → s.hw.exe.injMis = none → s.noCmpInj → s.hw.split p.val = false → (s.hw.tgt (2 * p.val)).cacheErr = none → (s.hw.tgt (2 * p.val)).undoBad = false → (s.hw.tgt (2 * p.val)).rest = ([], []) → (s.hw.cpu (2 * p.val)).mg = (s.hw.cpu (2 * p.val + 1)).mg → (s.hw.tgt (2 * p.val)).closing = some .taskEnd → (s.hw.tgt (2 * p.val)).reexec = false → s.hw.heldOf p.val = [] → s.hw.tsk.pendEv = [] → s.hw.mode = .run → Runs (.windowCompare p 2 none ecc) s (fun t =>
      (t.hw.tgt (2 * p.val)).task = none ∧
      (t.hw.tgt (2 * p.val)).closing = none ∧
      (t.hw.cyc x).agreed = true ∧
      (t.hw.tgt (2 * p.val)).undo = (s.hw.tgt (2 * p.val)).undo.filter (fun (u : Undo) => u.task != x) ∧
      t.hw.fget (R.CMP_EPn_WINDOWS_COUNT p.val) = (s.hw.fget (R.CMP_EPn_WINDOWS_COUNT p.val) + 1) % 2 ^ (R.CMP_EPn_WINDOWS_COUNT p.val).w ∧
      t.pending = s.pending ∧
      t.otp = s.otp)) ∧
    ((s.hw.tgt (2 * p.val)).task = some x → s.hw.exe.injMis = none → s.noCmpInj → s.hw.split p.val = false → (s.hw.tgt (2 * p.val)).cacheErr = none → (s.hw.tgt (2 * p.val)).undoBad = false → (s.hw.tgt (2 * p.val)).rest = ([], []) → (s.hw.cpu (2 * p.val)).mg ≠ (s.hw.cpu (2 * p.val + 1)).mg → (s.hw.tgt (2 * p.val)).closing.isSome = true → (s.hw.tgt (2 * p.val)).reexec = false → (s.hw.cyc x).ovf = false → s.hw.mode = .run → s.evRoom 1 → Runs (.windowCompare p gap none false) s (fun t =>
      (t.hw.tgt (2 * p.val)).task = some x ∧
      (t.hw.tgt (2 * p.val)).reexec = true ∧
      (t.hw.tgt (2 * p.val)).window = 0 ∧
      Raises s t [(0x2001, epTask p.val x, (s.hw.tgt (2 * p.val)).window, 0)] ∧
      (t.hw.cpu (2 * p.val)).pc = s.hw.reg (0x40010200 + 16 * x) ∧
      (t.hw.cpu (2 * p.val)).mg = (t.hw.cpu (2 * p.val + 1)).mg ∧
      t.hw.fget (R.CMP_EPn_MISMATCH_MISMATCHES p.val) = satInc (R.CMP_EPn_MISMATCH_MISMATCHES p.val).w (s.hw.fget (R.CMP_EPn_MISMATCH_MISMATCHES p.val)) ∧
      t.hw.fget (R.CMP_EPn_LAST_KIND p.val) = 0 ∧
      Kept [.exe, .tsk, .mem, .pair, .evr, .sup] s t)) ∧
    ((s.hw.tgt (2 * p.val)).task = some x → s.hw.exe.injMis = none → s.noCmpInj → s.hw.split p.val = false → (s.hw.tgt (2 * p.val)).cacheErr = none → (s.hw.tgt (2 * p.val)).undoBad = false → (s.hw.tgt (2 * p.val)).rest = ([], []) → (s.hw.cpu (2 * p.val)).mg ≠ (s.hw.cpu (2 * p.val + 1)).mg → (s.hw.tgt (2 * p.val)).closing.isSome = true → (s.hw.tgt (2 * p.val)).reexec = true → s.hw.mode = .run → s.hw.nvs.vinLost = false → s.evRoom 1 → Runs (.windowCompare p gap none ecc) s (fun t =>
      Entered s t .safe 0x30 ∧
      Records s t (0x2003, epTask p.val x, (s.hw.tgt (2 * p.val)).window, 0) ∧
      t.hw.fget (R.CMP_EPn_MISMATCH_MISMATCHES p.val) = satInc (R.CMP_EPn_MISMATCH_MISMATCHES p.val).w (s.hw.fget (R.CMP_EPn_MISMATCH_MISMATCHES p.val)) ∧
      t.hw.fget (R.CMP_EPn_LAST_KIND p.val) = 0)) ∧
    ((s.hw.tgt (2 * p.val)).task = some x → s.hw.exe.injMis = none → s.noCmpInj → s.hw.split p.val = false → (s.hw.tgt (2 * p.val)).cacheErr = none → (s.hw.tgt (2 * p.val)).undoBad = false → (s.hw.tgt (2 * p.val)).rest = ([], []) → (s.hw.cpu (2 * p.val)).mg ≠ (s.hw.cpu (2 * p.val + 1)).mg → (s.hw.tgt (2 * p.val)).closing.isSome = true → (s.hw.tgt (2 * p.val)).reexec = false → (s.hw.cyc x).ovf = true → s.hw.mode = .run → s.hw.nvs.vinLost = false → s.evRoom 1 → Runs (.windowCompare p gap none ecc) s (fun t =>
      Entered s t .safe 0x30 ∧
      Records s t (0x2004, epTask p.val x, 1, 0) ∧
      t.hw.fget (R.CMP_EPn_MISMATCH_MISMATCHES p.val) = satInc (R.CMP_EPn_MISMATCH_MISMATCHES p.val).w (s.hw.fget (R.CMP_EPn_MISMATCH_MISMATCHES p.val)) ∧
      t.hw.fget (R.CMP_EPn_LAST_KIND p.val) = 0))

/-- At a due instant an idle CYCLIC task is released: its cycle number and due instant are the next, its window is complete with
CYCLE and DUE_NS, it is ready; a task still busy is skipped and counted. At its deadline an agreed cycle releases its outputs and is
over; one not agreed is an overrun: 0x3001, LATE and the counters, by policy 1 the cycle goes on, by policy 0 or at OVR_LIMIT SAFE
follows with cause 0x35. Where the spec leaves a point open the clauses follow the model's own reading (assumption log 2).
(spec/03_task_engine.md R66, spec/03_task_engine.md R67, spec/03_task_engine.md R75, spec/03_task_engine.md R77,
spec/03_task_engine.md R79, spec/03_task_engine.md R80, spec/03_task_engine.md R476) -/
def Obligations.ReleasesAndDeadlines : Prop :=
  ∀ (s : State) (i : Fin 32),
    (s.hw.mode ∈ [Mode.run, .test, .debug] → s.hw.kind i.val = 1 → s.hw.tsk.epoch.isSome = true → (s.hw.cyc i.val).passed = 0 → s.tbRoom (s.hw.dueOf i.val (s.hw.cyc i.val).nextK) → s.hw.tstate i.val = 0 → (s.hw.cyc i.val).pdPend = false → s.hw.pair.reverting = 0 → Runs (.releaseDue i) s (fun t =>
      t.hw.tstate i.val = 2 ∧
      (t.hw.cyc i.val).k = (s.hw.cyc i.val).nextK ∧
      (t.hw.cyc i.val).due = s.hw.dueOf i.val (s.hw.cyc i.val).nextK ∧
      (t.hw.cyc i.val).nextK = (s.hw.cyc i.val).nextK + 1 ∧
      (t.hw.cyc i.val).agreed = false ∧
      s.hw.dueOf i.val (s.hw.cyc i.val).nextK ≤ t.hw.clk.tb ∧
      t.hw.ml (0xA0000010 + 32 * i.val) 8 = (s.hw.cyc i.val).nextK % 2 ^ 64 ∧
      t.hw.ml (0xA0000018 + 32 * i.val) 8 = (s.hw.dueOf i.val (s.hw.cyc i.val).nextK) % 2 ^ 64 ∧
      Kept [.clk, .mem, .tsk, .fld, .pair, .free, .sup] s t)) ∧
    (s.hw.mode ∈ [Mode.run, .test, .debug] → s.hw.kind i.val = 1 → s.hw.tsk.epoch.isSome = true → (s.hw.cyc i.val).passed = 0 → s.hw.tstate i.val ≠ 0 → (s.hw.untilTb (s.hw.dueOf i.val (s.hw.cyc i.val).nextK)).clk.tb < (s.hw.cyc i.val).dead → Runs (.releaseDue i) s (fun t =>
      t.hw.tstate i.val = s.hw.tstate i.val ∧
      (t.hw.cyc i.val) = { (s.hw.cyc i.val) with nextK := (s.hw.cyc i.val).nextK + 1, passed := 0, skipped := (s.hw.cyc i.val).skipped + 1 } ∧
      Frame [.clk, .tsk] [] s t)) ∧
    (s.tbRoom (s.hw.cyc i.val).dead → s.hw.tstate i.val = 6 → s.hw.tsk.pendEv = [] → Runs (.deadlineRelease i) s (fun t =>
      t.hw.tstate i.val = 0 ∧
      (t.hw.cyc i.val).skipped = 0 ∧
      (t.hw.cyc i.val).dead = (s.hw.cyc i.val).dead ∧
      t.pending = s.pending ∧
      t.otp = s.otp ∧
      (s.hw.cyc i.val).dead ≤ t.hw.clk.tb)) ∧
    (s.tbRoom (s.hw.cyc i.val).dead → s.hw.tstate i.val ∈ [1, 2, 3, 4, 5] → s.hw.kind i.val ≠ 2 → s.hw.mode ∈ [Mode.run, .test] → s.hw.fbit (R.TSK_Tn_STAT_LATE i.val) = false → s.evRoom 1 → s.hw.fget (R.TSK_Tn_CTRL_OVR_POL i.val) = 1 → s.hw.fget (R.TSK_Tn_CTRL_OVR_LIMIT i.val) = 0 → Runs (.deadlineExpiry i) s (fun t =>
      Raises s t [(0x3001, i.val, 1, (s.hw.cyc i.val).k % 2 ^ 32)] ∧
      (t.hw.cyc i.val).ovr = true ∧
      t.hw.tstate i.val = s.hw.tstate i.val ∧
      t.hw.fbit (R.TSK_Tn_STAT_LATE i.val) = true ∧
      t.hw.fget (R.TSK_Tn_STAT_OVR_CONSEC i.val) = satInc 4 (s.hw.fget (R.TSK_Tn_STAT_OVR_CONSEC i.val)) ∧
      t.hw.fget (R.TSK_Tn_STAT_OVR_COUNT i.val) = satInc (R.TSK_Tn_STAT_OVR_COUNT i.val).w (s.hw.fget (R.TSK_Tn_STAT_OVR_COUNT i.val)) ∧
      (s.hw.cyc i.val).dead ≤ t.hw.clk.tb ∧
      Frame [.clk, .tsk, .evr] [R.TSK_Tn_STAT i.val] s t)) ∧
    (s.tbRoom (s.hw.cyc i.val).dead → s.hw.tstate i.val ∈ [1, 2, 3, 4, 5] → s.hw.kind i.val ≠ 2 → s.hw.mode ∈ [Mode.run, .test] → s.hw.fbit (R.TSK_Tn_STAT_LATE i.val) = false → s.evRoom 1 → s.hw.fget (R.TSK_Tn_CTRL_OVR_POL i.val) = 0 → s.hw.nvs.vinLost = false → Runs (.deadlineExpiry i) s (fun t =>
      Records s t (0x3001, i.val, 0, (s.hw.cyc i.val).k % 2 ^ 32) ∧
      Entered s t .safe 0x35))

/-- The sweep of a whole second sets SAT of every running entry whose elapsed time has reached 2^44 µs. A due retain pass starts
with the invalidation of the next buffer; a task's stretch that fits is handled; the flush after SAFE entry is recorded with 0x0031.
A deadline copy carries the cycle's process data into the publish buffers. A class C value latches at the next whole millisecond.
EPOCH_LO and POINT_LO latch their high words, TMR_DATA3 commits a timer entry in STOP and SERVICE, and is rejected elsewhere. The
lantern follows the timebase while FLASH is 1. Where the spec leaves a point open the clauses follow the model's own reading
(assumption log 2, 12, 36, 41). (spec/03_task_engine.md R65, spec/03_task_engine.md R87, spec/03_task_engine.md R91,
spec/03_task_engine.md R93, spec/04_forcing_online_change.md R101, spec/04_forcing_online_change.md R109, spec/11_hot_standby.md
R298, spec/13_nv_store.md R360, spec/16_startup_trust_config.md R440, spec/00_scope.md R9, spec/00_scope.md R11) -/
def Obligations.TaskEngineServices : Prop :=
  ∀ (s : State) (i : Fin 32) (x : Nat) (v : Word),
    (Runs (.timerSweep) s (fun t =>
      (∀ y, t.hw.timer y = (if (s.hw.timer y).run = true ∧ 2 ^ 44 ≤ (t.hw.clk.tb / 1000 % 2 ^ 48 + 2 ^ 48 - (s.hw.timer y).start) % 2 ^ 48 then (s.hw.timer y).setSat true else s.hw.timer y)) ∧
      t.hw.tsk.taskSec = t.hw.clk.tb / 1000000000 ∧
      Frame [.clk, .tsk] [] s t)) ∧
    (s.hw.passes = true → s.hw.fbit R.TSK_RETAIN_STATUS_PASS_ACTIVE = false → s.hw.retTasks ≠ [] → Runs (.retainPassStart) s (fun t =>
      t.hw.fbit R.TSK_RETAIN_STATUS_PASS_ACTIVE = true ∧
      t.hw.nvs.passTasks = s.hw.retTasks ∧
      t.hw.nvs.passSeq = (s.hw.nvs.passSeq + 1) % 2 ^ 32 ∧
      NvWrite.invalBuf s.hw.nextBuf ∈ t.hw.nvs.queue ++ t.hw.nvs.busy.toList ∧
      s.hw.nvs.passDue ≤ t.hw.clk.up ∧
      Frame [.clk, .nvs] [R.TSK_RETAIN_STATUS, R.NVS_STATUS] s t)) ∧
    (s.hw.fbit R.TSK_RETAIN_STATUS_PASS_ACTIVE = true → s.hw.passOpen = true → i.val ∈ s.hw.nvs.passTasks → s.hw.stretchFits i.val = true → Runs (.retainStretchCopy i) s (fun t =>
      t.hw.nvs.passTasks = s.hw.nvs.passTasks.filter (fun y => y != i.val) ∧
      Frame [.nvs] [R.NVS_STATUS] s t)) ∧
    (s.hw.mode = .safe → s.hw.sup.safeRecorded = false → s.hw.fbit R.NVS_STATUS_ARMED = true → s.hw.evr.inq = [] → s.hw.evr.injFull = false → s.hw.nvs.pairLayout = none → Runs (.safeRetainFlush) s (fun t =>
      t.hw.sup.safeRecorded = true ∧
      Records s t (0x0031, s.hw.sup.safeCause, s.hw.sup.safeDetail, s.hw.sup.safePrev) ∧
      t.hw.fbit R.TSK_RETAIN_STATUS_PASS_ACTIVE = false ∧
      Kept [.sup, .mem, .nvs, .evr, .hif, .tsk] s t)) ∧
    (s.tbRoom (s.hw.cyc i.val).dead → s.hw.fbit R.PAIR_CFG_ENABLE = true → (s.hw.cyc i.val).pdPend = true → (s.hw.cyc i.val).foll = false → Runs (.pairDeadlineCopy i) s (fun t =>
      (t.hw.cyc i.val).pdPend = false ∧
      tget false t.hw.pair.copied i.val = true ∧
      (s.hw.cyc i.val).dead ≤ t.hw.clk.tb ∧
      Kept [.clk, .tsk, .net, .pair, .evr] s t)) ∧
    (s.tbRoom (s.hw.clk.tb + 1000000) → s.hw.pend = [(x, v)] → chanField x = false → s.hw.pair.pwrites = [] → s.hw.hif.latching = [] → (List.range 12).all (fun b => x != R.BLOCK_STATUS b) = true → Runs (.classCMsLatch) s (fun t =>
      t.hw.reg x = v ∧
      t.hw.pend = [] ∧
      (s.hw.tbRate = 0 → t.hw.clk.tb % 1000000 = 0) ∧
      Frame [.clk, .pend] [(x), R.BLOCK_STATUS 0, R.BLOCK_STATUS 1, R.BLOCK_STATUS 2, R.BLOCK_STATUS 3, R.BLOCK_STATUS 4, R.BLOCK_STATUS 5, R.BLOCK_STATUS 6, R.BLOCK_STATUS 7, R.BLOCK_STATUS 8, R.BLOCK_STATUS 9, R.BLOCK_STATUS 10, R.BLOCK_STATUS 11] s t)) ∧
    (Runs (.epochLoRead) s (fun t =>
      t.hw.reg R.TSK_EPOCH_LO = BitVec.ofNat 32 (s.hw.tsk.epoch.getD 0) ∧
      t.hw.reg R.TSK_EPOCH_HI = BitVec.ofNat 32 (s.hw.tsk.epoch.getD 0 / 2 ^ 32) ∧
      Frame [] [R.TSK_EPOCH_LO, R.TSK_EPOCH_HI] s t)) ∧
    (Runs (.pointLoRead) s (fun t =>
      t.hw.reg R.TSK_OLC_POINT_LO = BitVec.ofNat 32 s.hw.tsk.olc.point ∧
      t.hw.reg R.TSK_OLC_POINT_HI = BitVec.ofNat 32 (s.hw.tsk.olc.point / 2 ^ 32) ∧
      Frame [] [R.TSK_OLC_POINT_LO, R.TSK_OLC_POINT_HI] s t)) ∧
    (s.hw.mode ∈ [Mode.stop, .service] → x = s.hw.fget R.TSK_TMR_INDEX_INDEX → Runs (.tmrDataCommit v) s (fun t =>
      t.hw.timer x = ({ w0 := (s.hw.reg (R.TSK_TMR_DATAw 0)).toNat, w1 := (s.hw.reg (R.TSK_TMR_DATAw 1)).toNat, w2 := (s.hw.reg (R.TSK_TMR_DATAw 2)).toNat, w3 := v.toNat } : Timer) ∧
      (∀ y, y ≠ x → t.hw.timer y = s.hw.timer y) ∧
      Frame [.tsk] [R.TSK_TMR_DATAw 3] s t)) ∧
    (s.hw.mode ∉ [Mode.stop, .service] → s.hw.fbit (R.BLOCK_STATUS_REJECT 3) = false → Runs (.tmrDataCommit v) s (fun t =>
      t.hw.fbit (R.BLOCK_STATUS_REJECT 3) = true ∧
      t.hw.fget (R.BLOCK_STATUS_REJ_OFFSET 3) = R.TSK_TMR_DATAw 3 % 65536 ∧
      Frame [] [R.BLOCK_STATUS 3] s t)) ∧
    (s.tbRoom (s.hw.clk.tb + 500000000) → s.hw.fbit R.TSK_FORCE_CFG_FLASH = true → s.hw.fget R.TSK_FORCE_STATUS_COUNT ≠ 0 → s.hw.mode ∉ [Mode.boot, .parked] → s.hw.tbRate = 0 → Runs (.lanternFlashToggle) s (fun t =>
      t.hw.clk.tb = (s.hw.clk.tb / 500000000 + 1) * 500000000 ∧
      t.hw.sup.lantern = (s.hw.tsk.forces.any (fun (p : Nat × Force) => p.2.active) && decide (t.hw.clk.tb % 1000000000 < 500000000)) ∧
      Frame [.clk, .sup] [R.TSK_FORCE_STATUS, R.CAL_BKREC0] s t))

/-- A completed page write leaves its bytes in MRAM and nowhere else, commits the page and ends its command; a completed retain
commit moves to the other buffer; a completed state record is the one a reader takes; a completed record write leaves its bytes. An
erase of a program slot empties it and ends NOR, a failed one records 0x8008. A slice without errors moves the scrubber on, the last
slice ends the pass with 0x8003. Unlocks lapse 600 s after their last access; the hourly save counts and writes the usage counters;
a transfer lapses 10 s after its last piece. Where the spec leaves a point open the clauses follow the model's own reading
(assumption log 73, 77, 78). (spec/13_nv_store.md R350, spec/13_nv_store.md R353, spec/13_nv_store.md R354, spec/13_nv_store.md
R364, spec/13_nv_store.md R369, spec/13_nv_store.md R375, spec/13_nv_store.md R376, spec/12_host_rings.md R338,
spec/16_startup_trust_config.md R443) -/
def Obligations.NvStoreWrites : Prop :=
  ∀ (s : State) (a : Nat) (b : Nat) (q : Nat) (l : Nat) (bs : List Byte) (d : Desc) (la : Bool) (u : Unlock) (y : Xfer),
    (s.hw.nvs.busy = some (.user (0x50300000 + a) bs (.cmd d true)) → s.hw.nvs.queue = [] → d.src.isEng = false → d.relayed = false → s.hw.hif.lost = [] → s.evRoom 1 → Runs (.pageWriteDone) s (fun t =>
      t.hw.mbs (0x50300000 + a) bs.length = bs ∧
      (∀ x, (x < 0x50300000 + a ∨ 0x50300000 + a + bs.length ≤ x) → t.hw.mb x = s.hw.mb x) ∧
      tget 0 t.hw.nvs.writes (pageOf (0x50300000 + a)) = tget 0 s.hw.nvs.writes (pageOf (0x50300000 + a)) + 1 ∧
      t.hw.nvs.busy = none ∧
      t.hw.fbit R.NVS_STATUS_BUSY = false ∧
      Answers s t (d.answer d.op stOk) ∧
      Raises s t [(0x7010, d.op, d.src.code, stOk)] ∧
      Frame [.mem, .nvs, .hif, .evr] [R.NVS_STATUS] s t)) ∧
    (s.hw.nvs.busy = some (.retCommit b q l) → b < 2 → s.hw.nvs.queue = [] → Runs (.pageWriteDone) s (fun t =>
      ((if b = 0 then t.hw.nvs.retA else t.hw.nvs.retB) = some (q, l)) ∧
      t.hw.fbit R.TSK_RETAIN_STATUS_PASS_ACTIVE = false ∧
      t.hw.fget R.TSK_RETAIN_STATUS_NEXT = 1 - b ∧
      t.hw.fget R.TSK_RETAIN_STATUS_PASSES = satInc R.TSK_RETAIN_STATUS_PASSES.w (s.hw.fget R.TSK_RETAIN_STATUS_PASSES) ∧
      t.hw.nvs.busy = none ∧
      Frame [.nvs] [R.NVS_STATUS, R.TSK_RETAIN_STATUS] s t)) ∧
    (s.hw.nvs.busy = some (.state la a) → s.hw.nvs.queue = [] → s.hw.mode ≠ .recovery → (s.hw.nvs.stateRec.cur.map (fun (c : Nat × Bool × Nat) => c.1)).getD 0 < 4294967295 → Runs (.pageWriteDone) s (fun t =>
      t.hw.stateRec = (la, a) ∧
      t.hw.nvs.busy = none ∧
      Frame [.nvs] [R.NVS_STATUS] s t)) ∧
    (s.hw.nvs.busy = some (.record a bs) → bs.length = 32 → leNat (bs.take 2) ≠ 0x9012 → s.hw.nvs.queue = [] → s.hw.evr.freezing = none → Runs (.recordWriteDone) s (fun t =>
      t.hw.mbs a 32 = bs ∧
      (∀ x, (x < a ∨ a + 32 ≤ x) → t.hw.mb x = s.hw.mb x) ∧
      t.hw.nvs.busy = none ∧
      Frame [.mem, .nvs] [R.NVS_STATUS] s t)) ∧
    (s.hw.nvs.norOps = [NorOp.eraseSlot a d] → s.hw.nvs.norFail = false → d.src.isEng = false → d.relayed = false → s.hw.hif.lost = [] → s.evRoom 1 → Runs (.norOpDone true) s (fun t =>
      t.hw.norProg a = ({} : NorSlot) ∧
      t.hw.nvs.norOps = [] ∧
      t.hw.actRuns .nor = false ∧
      Answers s t (d.answer d.op stOk) ∧
      Raises s t [(0x7010, d.op, d.src.code, stOk)] ∧
      Frame [.nvs, .hif, .evr] [R.SUP_ADMIT_STATUS] s t)) ∧
    (s.hw.nvs.norOps = [NorOp.eraseSlot a d] → s.hw.nvs.norFail = false → d.src.isEng = false → d.relayed = false → s.hw.hif.lost = [] → s.evRoom 2 → d.op = 0x0605 → Runs (.norOpDone false) s (fun t =>
      t.hw.norProg a = s.hw.norProg a ∧
      t.hw.nvs.norOps = [] ∧
      t.hw.actRuns .nor = false ∧
      Answers s t (d.answer d.op stFailed 0 0 0 0 0x8008) ∧
      Raises s t [(0x8008, 0x61000000 + a * 0x2000000, 1, 0), (0x7010, d.op, d.src.code, stFailed)] ∧
      Frame [.nvs, .hif, .evr] [R.SUP_ADMIT_STATUS] s t)) ∧
    (s.hw.nvs.scrubCmd = none → s.hw.powered = true → s.hw.mode ≠ .parked → s.hw.fget R.SUP_ADMIT_STATUS_RUNNING = 0 → s.hw.nvs.scrubRef = false → s.hw.fget R.NVS_SCRUB_STATUS_SLICE = a → (s.hw.nvs.corr ++ s.hw.nvs.uncorr).any (inSlice a) = false → a < 127 → Runs (.scrubSlice) s (fun t =>
      t.hw.fget R.NVS_SCRUB_STATUS_SLICE = a + 1 ∧
      t.hw.nvs.corr = s.hw.nvs.corr ∧ t.hw.nvs.uncorr = s.hw.nvs.uncorr ∧ t.hw.nvs.queue = s.hw.nvs.queue ∧
      s.hw.nvs.scrubAt + 675000000000 ≤ t.hw.clk.up ∧
      Frame [.nvs, .clk] [R.NVS_SCRUB_STATUS, R.NVS_ECC_CNT] s t)) ∧
    (s.hw.nvs.scrubCmd = none → s.hw.powered = true → s.hw.mode ≠ .parked → s.hw.fget R.SUP_ADMIT_STATUS_RUNNING = 0 → s.hw.nvs.scrubRef = false → s.hw.fget R.NVS_SCRUB_STATUS_SLICE = a → (s.hw.nvs.corr ++ s.hw.nvs.uncorr).any (inSlice a) = false → a = 127 → s.evRoom 1 → Runs (.scrubSlice) s (fun t =>
      t.hw.fget R.NVS_SCRUB_STATUS_SLICE = 0 ∧
      t.hw.fget R.NVS_SCRUB_STATUS_AGE_H = 0 ∧
      Raises s t [(0x8003, s.hw.nvs.scrubCorr, s.hw.nvs.scrubUncorr, 0)] ∧
      t.hw.nvs.scrubCorr = 0 ∧ t.hw.nvs.scrubUncorr = 0 ∧
      Frame [.nvs, .evr, .clk] [R.NVS_SCRUB_STATUS, R.NVS_ECC_CNT] s t)) ∧
    (s.hw.nvs.unlocks = [u] → Runs (.unlockExpiry) s (fun t =>
      t.hw.nvs.unlocks = [] ∧
      u.last + 600000000000 ≤ t.hw.clk.up ∧
      Frame [.clk, .nvs] [] s t)) ∧
    (s.hw.mode ≠ .parked → Runs (.usageCounterSave) s (fun t =>
      (t.hw.sup.usage = (List.range 9).map (fun j => if j = 8 then satInc 32 (s.hw.sup.usage.getD j 0) else s.hw.sup.usage.getD j 0)) ∧
      t.hw.fget R.NVS_SCRUB_STATUS_AGE_H = satInc R.NVS_SCRUB_STATUS_AGE_H.w (s.hw.fget R.NVS_SCRUB_STATUS_AGE_H) ∧
      NvWrite.usage t.hw.sup.usage ∈ t.hw.nvs.queue ++ t.hw.nvs.busy.toList ∧
      s.hw.nvs.hourAt + 3600000000000 ≤ t.hw.clk.up ∧
      Frame [.clk, .sup, .nvs] [R.NVS_SCRUB_STATUS, R.NVS_STATUS] s t)) ∧
    (s.hw.hif.xfers = [y] → y.op = 0x0801 → Runs (.pieceGapTimeout) s (fun t =>
      t.hw.hif.xfers = [] ∧
      t.hw.actRuns .cfg = false ∧
      y.last + 10000000000 ≤ t.hw.clk.up ∧
      Frame [.clk, .hif] [R.SUP_ADMIT_STATUS] s t))

/-- NV_READ of a user region that stands open answers with its bytes, with a closed one AUTH and 0x7011; NV_WRITE hands its page to
the page engine and runs on; NV_UNLOCK answers LOCKED for a locked password, opens the region for the source with the right one,
with a wrong one counts it and records 0x8010, and the eighth locks it with 0x8011; NV_SCRUB runs SCR from slice 0; NOR_ERASE erases
the archive sectors that are free or retires and erases the unused program slot; the first piece of FW_UPDATE runs FWU with the
journal in state 1. Where the spec leaves a point open the clauses follow the model's own reading (assumption log 66, 77, 78, 92).
(spec/13_nv_store.md R366, spec/13_nv_store.md R367, spec/13_nv_store.md R368, spec/13_nv_store.md R369, spec/13_nv_store.md R370,
spec/13_nv_store.md R376, spec/13_nv_store.md R377, spec/13_nv_store.md R378, spec/14_event_recorder.md R400) -/
def Obligations.NvStoreCommands : Prop :=
  ∀ (s : State) (d : Desc),
    (s.served d 0x0601 → d.p0 ≤ 15 → 1 ≤ d.len → d.p1 + d.len ≤ 0x30000 → s.hw.pwdOpen d.p0 0 d.src = true → s.hw.nvs.injRead = false → ((s.hw.nvs.uncorr ++ s.hw.nvs.corr).all (fun g => decide (g < (0x50300000 + d.p0 * 0x30000 + d.p1) / 8 ∨ ((0x50300000 + d.p0 * 0x30000 + d.p1) + d.len - 1) / 8 < g)) = true) → (pagesOf (0x50300000 + d.p0 * 0x30000 + d.p1) d.len).all s.hw.pageOk = true → Runs (.nvRead d) s (fun t =>
      Answers s t (d.answer 0x0601 stOk 0 0 0 0 0 (s.hw.mbs (0x50300000 + d.p0 * 0x30000 + d.p1) d.len)) ∧
      Frame [.hif, .nvs] [R.HIF_STATUS] s t)) ∧
    (s.served d 0x0601 → d.p0 ≤ 15 → 1 ≤ d.len → d.p1 + d.len ≤ 0x30000 → s.hw.pwdOpen d.p0 0 d.src = false → s.evRoom 1 → Runs (.nvRead d) s (fun t =>
      Answers s t (d.answer 0x0601 stAuth) ∧
      Raises s t [(0x7011, 0x0601, d.src.code, 0)] ∧
      Frame [.hif, .evr] [R.HIF_STATUS] s t)) ∧
    (s.served d 0x0602 → d.p0 ≤ 15 → 1 ≤ d.len → d.p1 + d.len ≤ 0x30000 → s.hw.pwdOpen d.p0 1 d.src = true → d.p1 % 256 + d.len ≤ 256 → d.data.length = d.len → Runs (.nvWrite d) s (fun t =>
      NvWrite.user (0x50300000 + d.p0 * 0x30000 + d.p1) d.data (.cmd { d with op := 0x0602 } true) ∈ t.hw.nvs.queue ++ t.hw.nvs.busy.toList ∧
      t.hw.hif.running = s.hw.hif.running ++ [{ d with op := 0x0602 }] ∧
      t.hw.hif.done = s.hw.hif.done ∧
      Frame [.hif, .nvs] [R.HIF_STATUS, R.NVS_STATUS] s t)) ∧
    (s.served d 0x0603 → d.p0 ≤ 15 → d.p1 ≤ 1 → s.hw.fbit R.NVS_STATUS_ARMED = true → s.hw.pwdState.2.testBit (d.p0 * 2 + d.p1) = true → s.evRoom 1 → Runs (.nvUnlock d) s (fun t =>
      Answers s t (d.answer 0x0603 stLocked) ∧
      Raises s t [(0x7010, 0x0603, d.src.code, stLocked)] ∧
      Frame [.hif, .evr] [R.HIF_STATUS] s t)) ∧
    (s.served d 0x0603 → d.p0 ≤ 15 → d.p1 ≤ 1 → s.hw.fbit R.NVS_STATUS_ARMED = true → s.hw.pwdState.2.testBit (d.p0 * 2 + d.p1) = false → d.aux = 1 → s.evRoom 1 → tget 0 s.hw.pwdState.1 (d.p0 * 2 + d.p1) = 0 → Runs (.nvUnlock d) s (fun t =>
      Answers s t (d.answer 0x0603 stOk) ∧
      Raises s t [(0x7010, 0x0603, d.src.code, stOk)] ∧
      t.hw.pwdOpen d.p0 d.p1 d.src = true ∧
      Frame [.hif, .evr, .nvs] [R.HIF_STATUS] s t)) ∧
    (s.served d 0x0603 → d.p0 ≤ 15 → d.p1 ≤ 1 → s.hw.fbit R.NVS_STATUS_ARMED = true → s.hw.pwdState.2.testBit (d.p0 * 2 + d.p1) = false → s.hw.pwdDigest d.p0 d.p1 ≠ 0 → d.aux ≠ 1 → s.evRoom 2 → tget 0 s.hw.pwdState.1 (d.p0 * 2 + d.p1) < 7 → Runs (.nvUnlock d) s (fun t =>
      Raises s t [(0x8010, d.p0, d.p1, tget 0 s.hw.pwdState.1 (d.p0 * 2 + d.p1) + 1)] ∧
      tget 0 t.hw.pwdState.1 (d.p0 * 2 + d.p1) = tget 0 s.hw.pwdState.1 (d.p0 * 2 + d.p1) + 1 ∧
      t.hw.pwdState.2 = s.hw.pwdState.2 ∧
      t.hw.hif.running = s.hw.hif.running ++ [{ d with op := 0x0603 }] ∧
      t.hw.nvs.unlocks = s.hw.nvs.unlocks ∧
      Frame [.hif, .evr, .nvs] [R.HIF_STATUS, R.NVS_STATUS] s t)) ∧
    (s.served d 0x0603 → d.p0 ≤ 15 → d.p1 ≤ 1 → s.hw.fbit R.NVS_STATUS_ARMED = true → s.hw.pwdState.2.testBit (d.p0 * 2 + d.p1) = false → s.hw.pwdDigest d.p0 d.p1 ≠ 0 → d.aux ≠ 1 → s.evRoom 2 → 7 ≤ tget 0 s.hw.pwdState.1 (d.p0 * 2 + d.p1) → Runs (.nvUnlock d) s (fun t =>
      Raises s t [(0x8010, d.p0, d.p1, tget 0 s.hw.pwdState.1 (d.p0 * 2 + d.p1) + 1), (0x8011, d.p0, d.p1, 0)] ∧
      t.hw.pwdState.2.testBit (d.p0 * 2 + d.p1) = true ∧
      t.hw.reg R.NVS_PWD_LOCK = BitVec.ofNat 32 t.hw.pwdState.2 ∧
      Frame [.hif, .evr, .nvs] [R.HIF_STATUS, R.NVS_STATUS, R.NVS_PWD_LOCK] s t)) ∧
    (s.served d 0x0604 → s.allows .scr { d with op := 0x0604 } → Runs (.nvScrub d) s (fun t =>
      t.hw.nvs.scrubCmd = some { d with op := 0x0604 } ∧
      t.hw.fget R.NVS_SCRUB_STATUS_SLICE = 0 ∧
      t.hw.actRuns .scr = true ∧
      t.hw.hif.running = s.hw.hif.running ++ [{ d with op := 0x0604 }] ∧
      Frame [.hif, .nvs] [R.HIF_STATUS, R.SUP_ADMIT_STATUS, R.NVS_SCRUB_STATUS] s t)) ∧
    (s.served d 0x0605 → s.allows .nor { d with op := 0x0605 } → s.hw.oldSectors = [] → s.evRoom 1 → Runs (.norEraseArchive d) s (fun t =>
      Answers s t (d.answer 0x0605 stOk) ∧
      Raises s t [(0x7010, 0x0605, d.src.code, stOk)] ∧
      t.hw.actRuns .nor = false ∧
      Frame [.hif, .evr] [R.HIF_STATUS, R.SUP_ADMIT_STATUS] s t)) ∧
    (s.served d 0x0605 → s.allows .nor { d with op := 0x0605 } → s.hw.oldSectors ≠ [] → Runs (.norEraseArchive d) s (fun t =>
      t.hw.nvs.norOps = s.hw.nvs.norOps ++ s.hw.oldSectors.map (fun x => NorOp.eraseArchive x { d with op := 0x0605, p0 := 0 }) ∧
      t.hw.actRuns .nor = true ∧
      Frame [.hif, .nvs] [R.HIF_STATUS, R.SUP_ADMIT_STATUS] s t)) ∧
    (s.served d 0x0605 → s.allows .nor { d with op := 0x0605 } → s.evRoom 1 → Runs (.norEraseProgramSlot d) s (fun t =>
      t.hw.norProg s.hw.progTarget = ({ retired := true } : NorSlot) ∧
      Raises s t [(0x800A, 2 + s.hw.progTarget, 0, 0)] ∧
      t.hw.nvs.norOps = s.hw.nvs.norOps ++ [NorOp.eraseSlot s.hw.progTarget { d with op := 0x0605, p0 := 1 }] ∧
      t.hw.actRuns .nor = true ∧
      Frame [.hif, .nvs, .evr] [R.HIF_STATUS, R.SUP_ADMIT_STATUS] s t)) ∧
    (s.served d 0x0606 → s.allows .fwu { d with op := 0x0606 } → d.p2 = 0 → d.len ≤ 0x7F0000 → d.flags.testBit 2 = true → s.hw.journalNew.st = 0 → s.hw.hif.xfers = [] → s.evRoom 2 → Runs (.fwUpdate d) s (fun t =>
      Answers s t (d.answer 0x0606 stOk d.len) ∧
      Raises s t [(0x8020, 1, 0, 0), (0x7010, 0x0606, d.src.code, stOk)] ∧
      t.hw.journalNew.st = 1 ∧
      t.hw.fget R.NVS_FWU_STATUS_STATE = 1 ∧
      t.hw.actRuns .fwu = true ∧
      t.hw.hif.xfers = [({ op := 0x0606, src := d.src, p0 := d.p0, next := d.len, last := s.hw.clk.up } : Xfer)] ∧
      Frame [.hif, .nvs, .evr] [R.HIF_STATUS, R.SUP_ADMIT_STATUS, R.NVS_FWU_STATUS, R.NVS_STATUS] s t))

/-- A circuit's request with a code below 0xC000 enters the input queue, or counts as lost where the queue is full; one from 0xC000,
which no circuit of the module raises, leaves everything. The writer takes the first request: to the next slot with the next
sequence number, during a freeze to the holding queue; a limited code without tokens is suppressed and counted. A bucket gains a
token, spent on 0x9002 where occurrences were suppressed. REC_READ answers the records from P0 on; with FREEZE it first writes
0x9003, with the end of which the ring is frozen and the read follows; REC_RELEASE ends the freeze for that source alone; 10 s end
it for reason 2. REC_CHALLENGE issues 32 bytes that lapse after 60 s; REC_CLEAR without one is refused with AUTH and 0x9011, with a
usable key and a signature that verifies it starts the clear. The archive takes a page, the counters are saved, EVR_LOOKUP and
EVR_RL_DATA1 act on the rate table. Where the spec leaves a point open the clauses follow the model's own reading (assumption log 6,
73, 93). (spec/14_event_recorder.md R383, spec/14_event_recorder.md R388, spec/14_event_recorder.md R389, spec/14_event_recorder.md
R390, spec/14_event_recorder.md R392, spec/14_event_recorder.md R393, spec/14_event_recorder.md R394, spec/14_event_recorder.md
R395, spec/14_event_recorder.md R396, spec/14_event_recorder.md R397, spec/14_event_recorder.md R398, spec/14_event_recorder.md
R399) -/
def Obligations.Recorder : Prop :=
  ∀ (s : State) (c : BitVec 16) (p : Word) (q : Word) (r : Word) (e : Ev) (l : List Ev) (i : Nat) (j : Fin 1024) (d : Desc) (x : Nat) (y : Src) (bs : List Byte),
    (c.toNat < 0xC000 → s.evRoom 1 → Runs (.eventRequest c p q r) s (fun t =>
      Raises s t [(c.toNat, p.toNat, q.toNat, r.toNat)] ∧
      t.hw.fget R.EVR_STATUS_QUEUED = s.hw.evr.inq.length + 1 ∧
      Frame [.evr] [R.EVR_STATUS] s t)) ∧
    (0xC000 ≤ c.toNat → Runs (.eventRequest c p q r) s (fun t =>
      t.hw.evr = s.hw.evr ∧
      Frame [] [] s t)) ∧
    (c.toNat < 0xC000 → (512 ≤ s.hw.evr.inq.length ∨ s.hw.evr.injFull = true) → Runs (.eventRequest c p q r) s (fun t =>
      Raises s t [] ∧
      t.hw.fget R.EVR_LOST_LOST = satInc R.EVR_LOST_LOST.w (s.hw.fget R.EVR_LOST_LOST) ∧
      t.hw.evr.lostCount = s.hw.evr.lostCount + 1 ∧
      Frame [.evr] [R.EVR_STATUS, R.EVR_LOST] s t)) ∧
    (s.hw.fbit R.NVS_STATUS_ARMED = true → s.hw.evr.clearing = none → s.hw.evr.freezing = none → s.hw.evr.inq = e :: l → s.hw.evr.lostCount = 0 → s.hw.rateOf e.code = none → s.hw.evr.frozen = none → ((s.hw.fget R.EVR_SEQ_NEXT_SEQ + 2 ^ 32 - s.hw.recPtrNew.offset) % 65536) % 8 ≠ 0 → s.hw.hif.waits = [] → Runs (.recordWrite) s (fun t =>
      t.hw.evr.inq = l ∧
      t.hw.fget R.EVR_SEQ_NEXT_SEQ = (s.hw.fget R.EVR_SEQ_NEXT_SEQ + 1) % 2 ^ 32 ∧
      NvWrite.record (slotAddr ((s.hw.fget R.EVR_SEQ_NEXT_SEQ + 2 ^ 32 - s.hw.recPtrNew.offset) % 65536)) (recBytes e (s.hw.fget R.EVR_SEQ_NEXT_SEQ) false (s.hw.fbit R.SUP_MODE_STATUS_HOUSEKEEP) s.hw.evr.injCrc) ∈ t.hw.nvs.queue ++ t.hw.nvs.busy.toList ∧
      t.hw.evr.rates = s.hw.evr.rates ∧
      Frame [.evr, .nvs] [R.EVR_STATUS, R.EVR_SEQ, R.NVS_STATUS] s t)) ∧
    (s.hw.fbit R.NVS_STATUS_ARMED = true → s.hw.evr.clearing = none → s.hw.evr.freezing = none → s.hw.evr.inq = e :: l → s.hw.evr.lostCount = 0 → s.hw.rateOf e.code = none → s.hw.evr.frozen = some (y, x) → s.hw.evr.heldq.length < 256 → s.hw.evr.injHeld = false → Runs (.recordWrite) s (fun t =>
      t.hw.evr.inq = l ∧
      t.hw.evr.heldq = s.hw.evr.heldq ++ [e] ∧
      t.hw.evr.frozen = some (y, x) ∧
      Frame [.evr] [R.EVR_STATUS] s t)) ∧
    (s.hw.fbit R.NVS_STATUS_ARMED = true → s.hw.evr.clearing = none → s.hw.evr.freezing = none → s.hw.evr.inq = e :: l → s.hw.evr.lostCount = 0 → s.hw.rateOf e.code = some i → (s.hw.rate i).tokens = 0 → Runs (.recordWrite) s (fun t =>
      t.hw.evr.inq = l ∧
      (t.hw.rate i).supp = satInc 16 (s.hw.rate i).supp ∧
      (t.hw.rate i).tokens = 0 ∧
      tget 0 t.hw.nvs.rateTotals i = satInc 16 (tget 0 s.hw.nvs.rateTotals i) ∧
      Frame [.evr, .nvs] [R.EVR_STATUS] s t)) ∧
    (s.hw.fbit R.NVS_STATUS_ARMED = true → s.hw.evr.clearing = none → s.hw.evr.freezing = none → s.hw.evr.inq = e :: l → s.hw.evr.lostCount = 0 → s.hw.rateOf e.code = some i → 0 < (s.hw.rate i).tokens → s.hw.evr.frozen = none → ((s.hw.fget R.EVR_SEQ_NEXT_SEQ + 2 ^ 32 - s.hw.recPtrNew.offset) % 65536) % 8 ≠ 0 → s.hw.hif.waits = [] → Runs (.recordWrite) s (fun t =>
      t.hw.evr.inq = l ∧
      (t.hw.rate i).tokens + 1 = (s.hw.rate i).tokens ∧
      t.hw.fget R.EVR_SEQ_NEXT_SEQ = (s.hw.fget R.EVR_SEQ_NEXT_SEQ + 1) % 2 ^ 32 ∧
      Frame [.evr, .nvs] [R.EVR_STATUS, R.EVR_SEQ, R.NVS_STATUS] s t)) ∧
    ((s.hw.rate j.val).tokens < (s.hw.rate j.val).burst → (s.hw.rate j.val).code ≠ 0 → (s.hw.rate j.val).supp = 0 → Runs (.tokenRefill j) s (fun t =>
      (t.hw.rate j.val).tokens = (s.hw.rate j.val).tokens + 1 ∧
      (s.hw.rate j.val).since + (s.hw.rate j.val).period * 1000000 ≤ t.hw.clk.up ∧
      Raises s t [] ∧
      Frame [.clk, .evr] [] s t)) ∧
    ((s.hw.rate j.val).tokens < (s.hw.rate j.val).burst → (s.hw.rate j.val).code ≠ 0 → (s.hw.rate j.val).supp ≠ 0 → s.evRoom 1 → Runs (.tokenRefill j) s (fun t =>
      (t.hw.rate j.val).tokens = (s.hw.rate j.val).tokens ∧
      (t.hw.rate j.val).supp = 0 ∧
      (s.hw.rate j.val).since + (s.hw.rate j.val).period * 1000000 ≤ t.hw.clk.up ∧
      Raises s t [(0x9002, (s.hw.rate j.val).code, (s.hw.rate j.val).supp, satN 32 ((t.hw.clk.up - (s.hw.rate j.val).lastSupp) / 1000))] ∧
      Frame [.clk, .evr] [] s t)) ∧
    (s.hw.evr.frozen = some (y, x) → Runs (.freezeLimit) s (fun t =>
      t.hw.evr.frozen = none ∧
      t.hw.fbit R.EVR_STATUS_FROZEN = false ∧
      t.hw.actRuns .rrf = false ∧
      (y, 2) ∈ t.hw.evr.ended ∧
      t.hw.fget R.EVR_FREEZE_LAST_END = 2 ∧
      x + 10000000000 ≤ t.hw.clk.up)) ∧
    (s.served d 0x0501 → d.p2 = 0 → s.hw.nvs.injRead = false → s.hw.nvs.uncorr = [] → 1 ≤ d.p1 → d.p1 ≤ 8192 → s.hw.endedFor d = none → 32 * d.p1 ≤ d.len → d.src.isEng = false → Runs (.recRead d) s (fun t =>
      Answers s t (d.answer 0x0501 stOk ((s.hw.readable d.p0).take d.p1).length ((s.hw.fget R.EVR_SEQ_NEXT_SEQ + 2 ^ 32 - 1) % 2 ^ 32) 0 0 0 (((s.hw.readable d.p0).take d.p1).flatMap (fun (x : Nat × List Byte) => x.2))) ∧
      Frame [.hif] [R.HIF_STATUS, R.NVS_ECC_CNT] s t)) ∧
    (s.served d 0x0501 → d.p2 = 1 → s.allows .rrf { d with op := 0x0501 } → s.hw.hif.waits = [] → 1 ≤ d.p1 → d.p1 ≤ 8192 → s.hw.endedFor d = none → 32 * d.p1 ≤ d.len → d.src.isEng = false → Runs (.recRead d) s (fun t =>
      t.hw.evr.freezing = some ({ d with op := 0x0501 }, s.hw.clk.up) ∧
      { d with op := 0x0501 } ∈ t.hw.hif.running ∧
      t.hw.actRuns .rrf = true ∧
      t.hw.fget R.EVR_SEQ_NEXT_SEQ = (s.hw.fget R.EVR_SEQ_NEXT_SEQ + 1) % 2 ^ 32 ∧
      Kept [.hif, .evr, .nvs] s t)) ∧
    (s.hw.evr.freezing = some (d, x) → s.hw.nvs.busy = some (.record i bs) → bs.length = 32 → leNat (bs.take 2) = 0x9003 → s.hw.nvs.queue = [] → s.hw.lateErr d = false → Runs (.recordWriteDone) s (fun t =>
      t.hw.evr.frozen = some (d.src, x) ∧
      t.hw.evr.freezing = none ∧
      t.hw.fbit R.EVR_STATUS_FROZEN = true ∧
      t.hw.nvs.busy = none ∧
      Kept [.hif, .evr, .nvs, .mem] s t)) ∧
    (s.served d 0x0501 → s.hw.endedFor d = some x → d.p2 ≤ 1 → 1 ≤ d.p1 → d.p1 ≤ 8192 → 32 * d.p1 ≤ d.len → s.evRoom 1 → Runs (.recRead d) s (fun t =>
      t.hw.endedFor d = none ∧
      AnswersIn s t (d.answer 0x0501 stTimeout 0 0 0 x) ∧
      t.hw.evr.frozen = s.hw.evr.frozen ∧
      Frame [.hif, .evr] [R.HIF_STATUS] s t)) ∧
    (s.served d 0x0502 → s.hw.endedFor d = none → s.hw.evr.frozen = none → s.evRoom 1 → Runs (.recRelease d) s (fun t =>
      Answers s t (d.answer 0x0502 stMode 0 0 0 s.hw.mode.code) ∧
      Raises s t [(0x7010, 0x0502, d.src.code, stMode)] ∧
      Frame [.hif, .evr] [R.HIF_STATUS] s t)) ∧
    (s.served d 0x0502 → s.hw.endedFor d = none → s.hw.evr.frozen = some (y, x) → y.code ≠ d.src.code → s.evRoom 1 → Runs (.recRelease d) s (fun t =>
      Answers s t (d.answer 0x0502 stBusy 0 0 0 1) ∧
      t.hw.evr.frozen = some (y, x) ∧
      Frame [.hif, .evr] [R.HIF_STATUS] s t)) ∧
    (s.served d 0x0502 → s.hw.endedFor d = none → s.hw.evr.frozen = some (y, x) → y.code = d.src.code → s.hw.hif.waits = [] → Runs (.recRelease d) s (fun t =>
      t.hw.evr.frozen = none ∧
      t.hw.fbit R.EVR_STATUS_FROZEN = false ∧
      t.hw.actRuns .rrf = false ∧
      t.hw.endedFor d = none ∧
      t.hw.fget R.EVR_FREEZE_LAST_END = 1 ∧
      AnswersIn s t (d.answer 0x0502 stOk 0 0 0 0 0x9004))) ∧
    (s.served d 0x0503 → 32 ≤ d.len → s.evRoom 1 → Runs (.recChallenge d) s (fun t =>
      t.hw.evr.challenge.map (fun (f : List Byte × Nat) => (f.1.length, f.1.take 16, f.2)) = some (32, leBytes 8 s.otp.serial ++ leBytes 4 s.hw.recPtrNew.clearCount ++ leBytes 4 s.hw.topSeq, s.hw.clk.up) ∧
      Answers s t (d.answer 0x0503 stOk 0 0 0 0 0 ((t.hw.evr.challenge.map (fun (f : List Byte × Nat) => f.1)).getD [])) ∧
      Frame [.hif, .evr, .free] [R.HIF_STATUS] s t)) ∧
    (s.hw.evr.challenge = some (bs, x) → Runs (.challengeExpiry) s (fun t =>
      t.hw.evr.challenge = none ∧
      x + 60000000000 ≤ t.hw.clk.up ∧
      Frame [.clk, .evr] [] s t)) ∧
    (s.served d 0x0504 → d.p0 ≤ 15 → d.len = 3309 → s.allows .rcl { d with op := 0x0504 } → s.hw.evr.challenge = none → s.evRoom 2 → Runs (.recClear d) s (fun t =>
      Answers s t (d.answer 0x0504 stAuth 0 0 0 1 0x9011) ∧
      Raises s t [(0x9011, 1, d.p0, 0), (0x7011, 0x0504, d.src.code, 1)] ∧
      t.hw.actRuns .rcl = false ∧
      t.hw.evr.clearing = s.hw.evr.clearing ∧
      Frame [.hif, .evr] [R.HIF_STATUS, R.SUP_ADMIT_STATUS] s t)) ∧
    (s.served d 0x0504 → d.p0 ≤ 15 → d.len = 3309 → s.allows .rcl { d with op := 0x0504 } → s.hw.evr.challenge = some (bs, x) → s.hw.clk.up ≤ x + 60000000000 → s.otp.usable d.p0 2 = true → d.aux = 1 → s.hw.sup.injSig = false → Runs (.recClear d) s (fun t =>
      t.hw.fbit R.EVR_STATUS_CLEARING = true ∧
      t.hw.evr.challenge = none ∧
      t.hw.actRuns .rcl = true ∧
      t.hw.recPtrNew.clearState = 1 ∧
      t.hw.recPtrNew.clearKey = d.p0 ∧
      t.hw.recPtrNew.clearSeq = s.hw.fget R.EVR_SEQ_NEXT_SEQ ∧
      NvWrite.clearRing ∈ t.hw.nvs.queue ++ t.hw.nvs.busy.toList ∧
      t.hw.hif.done = s.hw.hif.done ∧
      Kept [.hif, .evr, .nvs] s t)) ∧
    (s.hw.fget R.SUP_ADMIT_STATUS_RUNNING &&& 0xFFE = 0 → s.hw.evr.archiving = none → s.hw.powered = true → s.hw.archPage = some i → Runs (.archivePage) s (fun t =>
      t.hw.evr.archiving = some i ∧
      t.hw.nvs.norOps = s.hw.nvs.norOps ++ [NorOp.archive i] ∧
      t.hw.fbit R.EVR_STATUS_ARCHIVING = true ∧
      Frame [.evr, .nvs] [R.EVR_STATUS] s t)) ∧
    (s.hw.powered = true → Runs (.rateCounterSave) s (fun t =>
      (∀ a, a < 8 → NvWrite.rates a ((List.range 128).map (fun (z : Nat) => tget 0 s.hw.nvs.rateTotals (a * 128 + z))) ∈ t.hw.nvs.queue ++ t.hw.nvs.busy.toList) ∧
      s.hw.nvs.ratesAt + 3600000000000 ≤ t.hw.clk.up ∧
      Frame [.clk, .nvs] [R.NVS_STATUS] s t)) ∧
    (Runs (.evrLookup c) s (fun t =>
      t.hw.fget R.EVR_LOOKUP_CODE = c.toNat ∧
      t.hw.fget R.EVR_LOOKUP_SEV = severityOf c.toNat % 8 ∧
      t.hw.fbit R.EVR_LOOKUP_LIMITED = (s.hw.rateOf c.toNat).isSome ∧
      t.hw.fget R.EVR_LOOKUP_BUCKET = (s.hw.rateOf c.toNat).getD 0 % 1024 ∧
      Frame [] [R.EVR_LOOKUP] s t)) ∧
    (s.hw.stopClass = true → (rateClash (fun a => if a = s.hw.fget R.EVR_RL_INDEX_INDEX then rateOfWords (s.hw.fget R.EVR_RL_INDEX_INDEX) (s.hw.reg R.EVR_RL_DATA0, p) else s.hw.rate a) (List.range 12 ++ (s.hw.evr.rates.map (fun (z : Nat × Rate) => z.1)).filter (fun a => decide (12 ≤ a))) (s.hw.fget R.EVR_RL_INDEX_INDEX) = false) → Runs (.rlDataCommit p) s (fun t =>
      t.hw.rate (s.hw.fget R.EVR_RL_INDEX_INDEX) = rateOfWords (s.hw.fget R.EVR_RL_INDEX_INDEX) (s.hw.reg R.EVR_RL_DATA0, p) ∧
      Raises s t [] ∧
      Frame [.evr] [R.EVR_RL_DATA0, R.EVR_RL_DATA1, R.EVR_RL_STAT] s t)) ∧
    (s.hw.stopClass = true → (rateClash (fun a => if a = s.hw.fget R.EVR_RL_INDEX_INDEX then rateOfWords (s.hw.fget R.EVR_RL_INDEX_INDEX) (s.hw.reg R.EVR_RL_DATA0, p) else s.hw.rate a) (List.range 12 ++ (s.hw.evr.rates.map (fun (z : Nat × Rate) => z.1)).filter (fun a => decide (12 ≤ a))) (s.hw.fget R.EVR_RL_INDEX_INDEX) = true) → s.evRoom 1 → Runs (.rlDataCommit p) s (fun t =>
      t.hw.evr.rates = s.hw.evr.rates ∧
      t.hw.fbit (R.BLOCK_STATUS_REJECT 9) = true ∧
      Raises s t [(0x9031, s.hw.fget R.EVR_RL_INDEX_INDEX, 0, 0)] ∧
      Frame [.evr] [R.EVR_RL_DATA0, R.EVR_RL_DATA1, R.EVR_RL_STAT, R.BLOCK_STATUS 9] s t))

/-- A link change shows in NET_PORT_STATUS, is counted where it is a loss, and recorded. Frames of at most 1,522 bytes on an up
port: a telegram that passes the tests of R269 becomes its session's latest; a duplicate counts; a wrong length is recorded with
0x5012; a frame of a pair that PRP has seen is discarded and its entry removed. VALID lapses with 0x5010. At its instant a publish
session sends one telegram with the next counter, or counts LATE_SKIP with 0x5014, or with no directory entry records 0x5015. A Pr
is answered with the second counter, a pull subscriber sends one. An ENG message waits in the queue, a message without session is
dropped with 0x5021. ARP, ICMP and IGMP are answered; a table entry commits with its last word. Where the spec leaves a point open
the clauses follow the model's own reading (assumption log 46, 47, 48, 49, 52, 53). (spec/10_network.md R260, spec/10_network.md
R261, spec/10_network.md R262, spec/10_network.md R263, spec/10_network.md R266, spec/10_network.md R267, spec/10_network.md R268,
spec/10_network.md R269, spec/10_network.md R270, spec/10_network.md R271, spec/10_network.md R272, spec/10_network.md R274) -/
def Obligations.NetworkFrames : Prop :=
  ∀ (s : State) (f : RxFrame) (t0 : PdTelegram) (i : Nat) (j : Fin 512) (b : Bool) (fast : Bool) (e : Nat × Nat × Nat) (l : List (Nat × Nat × Nat)) (ip : Word) (c : Word) (n : Nat) (bs : List Byte) (v : Word) (q : Nat),
    (s.hw.powered = true → s.hw.mode ≠ .parked → s.evRoom 1 → s.hw.fbit (portLink b) = true → Runs (.ethLinkChange b false fast) s (fun t =>
      t.hw.fbit (portLink b) = false ∧
      t.hw.fbit (portFast b) = false ∧
      t.hw.fget (portDowns b) = satInc (portDowns b).w (s.hw.fget (portDowns b)) ∧
      Raises s t [(0x5001, b2n b, 0, 0)] ∧
      Frame [.evr] [R.NET_PORT_STATUS] s t)) ∧
    (s.hw.powered = true → s.hw.mode ≠ .parked → s.evRoom 1 → s.hw.fbit (portLink b) = false → s.hw.fget (portMode b) ∈ [0, 2] → s.hw.net.injPort = none → Runs (.ethLinkChange b true fast) s (fun t =>
      t.hw.fbit (portLink b) = true ∧
      t.hw.fbit (portFast b) = fast ∧
      (Raises s t [(0x5002, b2n b, if fast then 1000 else 100, 0)]) ∧
      Frame [.evr] [R.NET_PORT_STATUS] s t)) ∧
    (s.hw.netOn = true → s.hw.fbit (portLink f.portB) = true → f.full = false → f.size ≤ 1522 → f.trailer = none → f.ok = true → t0.crcOk = true → s.hw.hbTelegram f t0 = false → s.hw.net.sess.filter (fun (p : Nat × Sess) => s.hw.takes p.2 f t0) = [(i, (s.hw.sess i))] → t0.len = (s.hw.sess i).dataLen → (s.hw.sess i).topoChk = false → ((s.hw.sess i).never = true ∨ (s.hw.sess i).valid = false ∨ (let dd := (t0.seq + 2 ^ 32 - (s.hw.sess i).seq) % 2 ^ 32; 1 ≤ dd ∧ dd < 2 ^ 31)) → Runs (.pdTelegramReceive f t0) s (fun t =>
      t.hw.sess i = { (s.hw.sess i) with seq := t0.seq, valid := true, never := false, restartRun := 0, rxAt := s.hw.clk.up, rxBuf := t0.bytes } ∧
      (∀ m, m ≠ i → t.hw.sess m = s.hw.sess m) ∧
      Frame [.net] [] s t)) ∧
    (s.hw.netOn = true → s.hw.fbit (portLink f.portB) = true → f.full = false → f.size ≤ 1522 → f.trailer = none → f.ok = true → t0.crcOk = true → s.hw.hbTelegram f t0 = false → s.hw.net.sess.filter (fun (p : Nat × Sess) => s.hw.takes p.2 f t0) = [(i, (s.hw.sess i))] → t0.len = (s.hw.sess i).dataLen → (s.hw.sess i).topoChk = false → (s.hw.sess i).never = false → (s.hw.sess i).valid = true → t0.seq < 2 ^ 32 → (s.hw.sess i).seq = t0.seq → Runs (.pdTelegramReceive f t0) s (fun t =>
      t.hw.sess i = { (s.hw.sess i) with dup := satInc 8 (s.hw.sess i).dup } ∧
      Frame [.net] [] s t)) ∧
    (s.hw.netOn = true → s.hw.fbit (portLink f.portB) = true → f.full = false → f.size ≤ 1522 → f.trailer = none → f.ok = true → t0.crcOk = true → s.hw.hbTelegram f t0 = false → s.hw.net.sess.filter (fun (p : Nat × Sess) => s.hw.takes p.2 f t0) = [(i, (s.hw.sess i))] → t0.len = (s.hw.sess i).dataLen → (s.hw.sess i).topoChk = false → (s.hw.sess i).never = false → (s.hw.sess i).valid = true → 2 ^ 31 ≤ (t0.seq + 2 ^ 32 - (s.hw.sess i).seq) % 2 ^ 32 → (s.hw.sess i).restartRun ≠ 0 → t0.seq = ((s.hw.sess i).runSeq + 1) % 2 ^ 32 → 1 ≤ s.hw.fget R.NET_TRDP_CFG_RESTART_N → s.hw.fget R.NET_TRDP_CFG_RESTART_N ≤ (s.hw.sess i).restartRun + 1 → s.evRoom 1 → Runs (.pdTelegramReceive f t0) s (fun t =>
      (t.hw.sess i).seq = t0.seq ∧
      (t.hw.sess i).restartRun = 0 ∧
      (t.hw.sess i).restarts = satInc 8 (s.hw.sess i).restarts ∧
      (t.hw.sess i).rxBuf = t0.bytes ∧
      Raises s t [(0x5011, i, (s.hw.sess i).seq, t0.seq)] ∧
      Frame [.net, .evr] [] s t)) ∧
    (s.hw.netOn = true → s.hw.fbit (portLink f.portB) = true → f.full = false → f.size ≤ 1522 → f.trailer = none → f.ok = true → t0.crcOk = true → s.hw.hbTelegram f t0 = false → s.hw.net.sess.filter (fun (p : Nat × Sess) => s.hw.takes p.2 f t0) = [(i, (s.hw.sess i))] → t0.len ≠ (s.hw.sess i).dataLen → s.evRoom 1 → Runs (.pdTelegramReceive f t0) s (fun t =>
      Raises s t [(0x5012, i, t0.len, 0)] ∧
      t.hw.sess i = (s.hw.sess i) ∧
      Frame [.net, .evr] [] s t)) ∧
    (s.hw.netOn = true → s.hw.fbit (portLink f.portB) = true → f.full = false → f.size ≤ 1522 → (f.trailer = some (n, if f.portB then 0xB else 0xA)) → s.hw.net.prp = e :: l → e.1 = f.mac → e.2.1 = n → s.hw.clk.up < e.2.2 + s.hw.forgetNs → Runs (.pdTelegramReceive f t0) s (fun t =>
      t.hw.fget R.NET_PRP_CNT_DISCARDS = (s.hw.fget R.NET_PRP_CNT_DISCARDS + 1) % 2 ^ 32 ∧
      t.hw.net.prp.all (fun (x : Nat × Nat × Nat) => !(x.1 == f.mac && x.2.1 == n)) = true ∧
      t.hw.net.sess = s.hw.net.sess ∧
      Frame [.net] [R.NET_PRP_CNT] s t)) ∧
    (s.hw.net.prp = e :: l → Runs (.prpEntryForget) s (fun t =>
      e.2.2 + s.hw.forgetNs ≤ t.hw.clk.up ∧
      e ∉ t.hw.net.prp ∧
      Frame [.clk, .net] [] s t)) ∧
    (s.hw.netOn = true → s.hw.fbit R.NET_PRP_CFG_SUP_EN = true → Runs (.prpSupervisionSend) s (fun t =>
      t.hw.net.out = s.hw.net.out ++ [s.hw.netFrame (NetOut.prpSup (s.hw.fget R.NET_PRP_CFG_SUP_ADDR))] ∧ t.hw.net.prpSeq = (s.hw.net.prpSeq + 1) % 65536 ∧
      s.hw.net.supAt + 2000000000 ≤ t.hw.clk.up ∧
      Frame [.clk, .net] [] s t)) ∧
    ((s.hw.sess j.val).kind = 2 → (s.hw.sess j.val).valid = true → (s.hw.sess j.val).dropUntil = 0 → s.evRoom 1 → Runs (.sessionTimeout j) s (fun t =>
      (t.hw.sess j.val) = { (s.hw.sess j.val) with valid := false, timeouts := satInc 8 (s.hw.sess j.val).timeouts } ∧
      Raises s t [(0x5010, j.val, (s.hw.sess j.val).seq, 0)] ∧
      (s.hw.sess j.val).rxAt + (s.hw.sess j.val).timeoutMs * 1000000 ≤ t.hw.clk.up ∧
      Frame [.clk, .net, .evr] [] s t)) ∧
    (s.tbRoom (s.hw.nextInstant (s.hw.sess j.val)) → (s.hw.sess j.val).kind = 1 → s.hw.powered = true → s.hw.mode.publishes = true → (s.hw.sess j.val).publishing = true → s.hw.route (s.hw.sess j.val).destIp = true → (s.hw.sess j.val).next = none → s.hw.ahead j.val (s.hw.nextInstant (s.hw.sess j.val)) = [] → Runs (.publicationInstant j false) s (fun t =>
      t.hw.net.out = s.hw.net.out ++ [s.hw.netFrame (NetOut.pd j.val 0x5064 (((s.hw.sess j.val).seq + 1) % 2 ^ 32) (s.hw.sess j.val).comId (s.hw.sess j.val).destIp (sliceZ (s.hw.sess j.val).txBuf 0 (s.hw.sess j.val).dataLen) (s.hw.sess j.val).badCrc (s.hw.pdHdr (s.hw.sess j.val) (s.hw.sess j.val).destIp false))] ∧ t.hw.net.prpSeq = (s.hw.net.prpSeq + 1) % 65536 ∧
      (t.hw.sess j.val).seq = ((s.hw.sess j.val).seq + 1) % 2 ^ 32 ∧
      (t.hw.sess j.val).publishing = true ∧
      s.hw.nextInstant (s.hw.sess j.val) ≤ t.hw.clk.tb ∧
      Frame [.clk, .net] [] s t)) ∧
    (s.tbRoom (s.hw.nextInstant (s.hw.sess j.val)) → (s.hw.sess j.val).kind = 1 → s.hw.powered = true → s.hw.mode.publishes = true → (s.hw.sess j.val).publishing = true → (s.hw.sess j.val).next = none → s.hw.ahead j.val (s.hw.nextInstant (s.hw.sess j.val)) = [] → s.evRoom 1 → Runs (.publicationInstant j true) s (fun t =>
      (t.hw.sess j.val).seq = (s.hw.sess j.val).seq ∧
      (t.hw.sess j.val).dup = satInc 8 (s.hw.sess j.val).dup ∧
      Raises s t [(0x5014, j.val, satInc 8 (s.hw.sess j.val).dup, 0)] ∧
      t.hw.net.out = s.hw.net.out ∧
      s.hw.nextInstant (s.hw.sess j.val) ≤ t.hw.clk.tb ∧
      Frame [.clk, .net, .evr] [] s t)) ∧
    (s.tbRoom (s.hw.nextInstant (s.hw.sess j.val)) → (s.hw.sess j.val).kind = 1 → s.hw.powered = true → s.hw.mode.publishes = true → (s.hw.sess j.val).publishing = true → s.hw.route (s.hw.sess j.val).destIp = false → (s.hw.sess j.val).nodir = false → s.evRoom 1 → (s.hw.sess j.val).next = none → s.hw.ahead j.val (s.hw.nextInstant (s.hw.sess j.val)) = [] → Runs (.publicationInstant j false) s (fun t =>
      (t.hw.sess j.val).seq = (s.hw.sess j.val).seq ∧
      (t.hw.sess j.val).nodir = true ∧
      Raises s t [(0x5015, j.val, (s.hw.sess j.val).destIp, 0)] ∧
      t.hw.net.out = s.hw.net.out ∧
      Frame [.clk, .net, .evr] [] s t)) ∧
    (s.hw.netOn = true → s.hw.fbit (portLink f.portB) = true → f.full = false → f.size ≤ 1522 → f.trailer = none → f.ok = true → t0.crcOk = true → t0.ver / 256 = 1 → t0.msg = 0x5072 → s.hw.mode.publishes = true → s.hw.mode ≠ .follow → s.hw.net.sess.filter (fun (p : Nat × Sess) => p.2.kind == 1 && p.2.pull && p.2.comId == t0.comId) = [(i, (s.hw.sess i))] → (s.hw.sess i).pullAt = none → (s.hw.route (if ip = 0#32 then f.ip else ip.toNat) = true) → Runs (.pullRequestReceive f t0 ip) s (fun t =>
      (t.hw.net.out = s.hw.net.out ++ [s.hw.netFrame (NetOut.pd i 0x5070 (((s.hw.sess i).pulls + 1) % 2 ^ 32) (if (s.hw.sess i).wd 6 = 0 then (s.hw.sess i).comId else (s.hw.sess i).wd 6) (if ip = 0#32 then f.ip else ip.toNat) (sliceZ (s.hw.sess i).txBuf 0 (s.hw.sess i).dataLen) false (s.hw.pdHdr (s.hw.sess i) (if ip = 0#32 then f.ip else ip.toNat) false))] ∧ t.hw.net.prpSeq = (s.hw.net.prpSeq + 1) % 65536) ∧
      (t.hw.sess i).pulls = ((s.hw.sess i).pulls + 1) % 2 ^ 32 ∧
      (t.hw.sess i).seq = (s.hw.sess i).seq ∧
      Frame [.net] [] s t)) ∧
    (s.tbRoom (s.hw.nextInstant (s.hw.sess j.val)) → (s.hw.sess j.val).kind = 2 → (s.hw.sess j.val).pull = true → s.hw.netOn = true → s.hw.route (s.hw.sess j.val).destIp = true → Runs (.pullSubscribeInstant j) s (fun t =>
      (∃ p : List Byte, p.length = (s.hw.sess j.val).dataLen ∧ t.hw.net.out = s.hw.net.out ++ [s.hw.netFrame (NetOut.pr j.val (((s.hw.sess j.val).pulls + 1) % 2 ^ 32) (s.hw.sess j.val).comId (s.hw.sess j.val).destIp p (s.hw.pdHdr (s.hw.sess j.val) (s.hw.sess j.val).destIp true))]) ∧
      t.hw.net.prpSeq = (s.hw.net.prpSeq + 1) % 65536 ∧
      (t.hw.sess j.val).pulls = ((s.hw.sess j.val).pulls + 1) % 2 ^ 32 ∧
      s.hw.nextInstant (s.hw.sess j.val) ≤ t.hw.clk.tb ∧
      Frame [.clk, .net, .free] [] s t)) ∧
    (s.hw.netOn = true → s.hw.fbit (portLink f.portB) = true → f.full = false → f.size ≤ 1522 → f.trailer = none → f.ok = true → bs.length ≤ 16384 → s.hw.net.sess.find? (fun (p : Nat × Sess) => p.2.kind == 3 && p.2.comId == c.toNat && s.hw.fromOk p.2 f.ip) = some (i, (s.hw.sess i)) → (s.hw.sess i).eng = true → s.hw.dirOf f.ip = some q → s.hw.dirEng q = true → s.hw.net.msgs.length < 32 → s.hw.net.msgCount < 500 → Runs (.messageReceive f c n bs) s (fun t =>
      t.hw.net.msgs = s.hw.net.msgs ++ [(⟨i, q, n, bs⟩ : Msg)] ∧
      Frame [.net] [] s t)) ∧
    (s.hw.netOn = true → s.hw.fbit (portLink f.portB) = true → f.full = false → f.size ≤ 1522 → f.trailer = none → f.ok = true → bs.length ≤ 16384 → s.hw.net.sess.find? (fun (p : Nat × Sess) => p.2.kind == 3 && p.2.comId == c.toNat && s.hw.fromOk p.2 f.ip) = none → s.evRoom 1 → Runs (.messageReceive f c n bs) s (fun t =>
      Raises s t [(0x5021, 2, f.ip, 0)] ∧
      Frame [.evr] [] s t)) ∧
    (s.hw.netOn = true → s.hw.fbit (portLink f.portB) = true → f.full = false → f.size ≤ 1522 → f.trailer = none → f.ok = true → ip ≠ 0#32 → ip = s.hw.reg R.NET_IP → Runs (.arpRequest f ip) s (fun t =>
      t.hw.net.out = s.hw.net.out ++ [s.hw.netFrame (NetOut.arpReply ip.toNat)] ∧ t.hw.net.prpSeq = (s.hw.net.prpSeq + 1) % 65536 ∧
      Frame [.net] [] s t)) ∧
    (s.hw.netOn = true → s.hw.fbit (portLink f.portB) = true → f.full = false → f.size ≤ 1522 → f.trailer = none → f.ok = true → ip ≠ 0#32 → ip = s.hw.reg R.NET_IP → Runs (.icmpEcho f ip bs) s (fun t =>
      t.hw.net.out = s.hw.net.out ++ [s.hw.netFrame (NetOut.icmpReply f.ip bs)] ∧ t.hw.net.prpSeq = (s.hw.net.prpSeq + 1) % 65536 ∧
      Frame [.net] [] s t)) ∧
    (s.hw.netOn = true → s.hw.fbit (portLink f.portB) = true → f.full = false → f.size ≤ 1522 → f.trailer = none → f.ok = true → s.hw.net.sess.filter (fun (p : Nat × Sess) => p.2.kind == 2 && multicast p.2.destIp) = [(i, (s.hw.sess i))] → Runs (.igmpQuery f) s (fun t =>
      t.hw.net.out = s.hw.net.out ++ [s.hw.netFrame (NetOut.igmpReport (s.hw.sess i).destIp)] ∧ t.hw.net.prpSeq = (s.hw.net.prpSeq + 1) % 65536 ∧
      Frame [.net] [] s t)) ∧
    (s.hw.stopClass = true → i = s.hw.fget R.NET_SES_INDEX_INDEX → (s.hw.sess i).words ≠ ((List.range 7).map (fun (w : Nat) => s.hw.reg (R.NET_SES_DATAw w)) ++ [v]) → Runs (.sesDataCommit v) s (fun t =>
      (t.hw.sess i).words = ((List.range 7).map (fun (w : Nat) => s.hw.reg (R.NET_SES_DATAw w)) ++ [v]) ∧
      (t.hw.sess i).never = true ∧
      (t.hw.sess i).valid = false ∧
      (∀ m, m ≠ i → t.hw.sess m = s.hw.sess m) ∧
      Frame [.net] [R.NET_SES_DATAw 0, R.NET_SES_DATAw 1, R.NET_SES_DATAw 2, R.NET_SES_DATAw 3, R.NET_SES_DATAw 4, R.NET_SES_DATAw 5, R.NET_SES_DATAw 6, R.NET_SES_DATAw 7] s t)) ∧
    (s.hw.stopClass = false → Runs (.sesDataCommit v) s (fun t =>
      t.hw.fbit (R.BLOCK_STATUS_REJECT 5) = true ∧
      Frame [] [R.BLOCK_STATUS 5] s t)) ∧
    (i = s.hw.fget R.NET_DIR_INDEX_INDEX → v ≠ 0#32 → Runs (.dirDataCommit v) s (fun t =>
      t.hw.dirW i 3 = v.toNat ∧
      t.hw.dirW i 0 = (s.hw.reg (R.NET_DIR_DATAw 0)).toNat ∧ t.hw.dirW i 1 = (s.hw.reg (R.NET_DIR_DATAw 1)).toNat ∧ t.hw.dirW i 2 = (s.hw.reg (R.NET_DIR_DATAw 2)).toNat ∧
      (∀ m w, m ≠ i → t.hw.dirW m w = s.hw.dirW m w) ∧
      Frame [.net] [R.NET_DIR_DATAw 0, R.NET_DIR_DATAw 1, R.NET_DIR_DATAw 2, R.NET_DIR_DATAw 3] s t))

/-- A small offset of the steering port sets F and R within their limits and shows in NET_PTP_OFFSET; a large one steps the timebase
by −o rounded to 8 ns where a condition holds, with 0x5030, else the rate goes to the slew limit, with 0x5031 once. In FOLLOW a
measurement only shows. The loss of Sync leads from LOCKING or LOCKED to HOLDOVER with 0x5033 and leaves the rate. A better clock's
announce gives its UTC offset and ends mastership. Reading NET_TB_LO latches NET_TB_HI. Where the spec leaves a point open the
clauses follow the model's own reading (assumption log 27, 50, 51). (spec/10_network.md R280, spec/10_network.md R281,
spec/10_network.md R282, spec/10_network.md R283) -/
def Obligations.NetworkTime : Prop :=
  ∀ (s : State) (b : Bool) (w : Int) (a : Announce) (k : Int),
    (s.hw.netOn = true → s.hw.fbit R.NET_PTP_CFG_ENABLE = true → s.hw.fget R.NET_PTP_STATUS_PORT = b2n b → s.hw.net.offA = none → s.hw.net.offB = none → s.hw.mode ≠ .follow → w.natAbs < s.hw.stepNs → 1000 ≤ w.natAbs → Runs (.ptpMeasurement b w (!b)) s (fun t =>
      t.hw.reg R.NET_PTP_OFFSET = wInt (satS 32 (max (-2147483647) w)) ∧
      t.hw.net.freq = (max (-(16000 * (s.hw.slewMax : Int))) (min (16000 * (s.hw.slewMax : Int)) (s.hw.net.freq - w))) ∧
      t.hw.tbRate = ((max (-(16000 * (s.hw.slewMax : Int))) (min (16000 * (s.hw.slewMax : Int)) ((max (-(16000 * (s.hw.slewMax : Int))) (min (16000 * (s.hw.slewMax : Int)) (s.hw.net.freq - w))) - 16 * w))) * 100 + 8) / 16 ∧
      t.hw.fget R.NET_PTP_STATUS_STATE = 1 ∧
      t.hw.clk = s.hw.clk ∧
      Raises s t [] ∧
      Frame [.net, .evr] [R.NET_PTP_OFFSET, R.NET_TB_RATE, R.NET_PTP_STATUS] s t)) ∧
    (s.hw.netOn = true → s.hw.fbit R.NET_PTP_CFG_ENABLE = true → s.hw.fget R.NET_PTP_STATUS_PORT = b2n b → s.hw.net.offA = none → s.hw.net.offB = none → s.hw.mode ≠ .follow → w.natAbs < 1000 → 1000 ≤ s.hw.stepNs → s.hw.net.smallRun = 15 → s.hw.fget R.NET_PTP_STATUS_STATE ≠ 2 → s.evRoom 1 → Runs (.ptpMeasurement b w (!b)) s (fun t =>
      t.hw.reg R.NET_PTP_OFFSET = wInt (satS 32 (max (-2147483647) w)) ∧
      t.hw.fget R.NET_PTP_STATUS_STATE = 2 ∧
      t.hw.net.freq = (max (-(16000 * (s.hw.slewMax : Int))) (min (16000 * (s.hw.slewMax : Int)) (s.hw.net.freq - w))) ∧
      Raises s t [(0x5032, b2n b, (wInt w).toNat, 0)] ∧
      Frame [.net, .evr, .cal] [R.NET_PTP_OFFSET, R.NET_TB_RATE, R.NET_PTP_STATUS] s t)) ∧
    (s.hw.netOn = true → s.hw.fbit R.NET_PTP_CFG_ENABLE = true → s.hw.fget R.NET_PTP_STATUS_PORT = b2n b → s.hw.net.offA = none → s.hw.net.offB = none → s.hw.mode.runsTasks = false → s.hw.stepNs ≤ w.natAbs → k = -(8 * ((w + 4) / 8)) → 0 ≤ (s.hw.clk.tb : Int) + k → (s.hw.clk.tb : Int) + k < 2 ^ 64 → s.evRoom 1 → Runs (.ptpMeasurement b w (!b)) s (fun t =>
      t.hw.reg R.NET_PTP_OFFSET = wInt (satS 32 (max (-2147483647) w)) ∧
      (t.hw.clk.tb : Int) = s.hw.clk.tb + k ∧
      t.hw.clk.up = s.hw.clk.up ∧
      t.hw.net.freq = s.hw.net.freq ∧
      Raises s t [(0x5030, (BitVec.ofInt 64 k).toNat % 2 ^ 32, (BitVec.ofInt 64 k).toNat / 2 ^ 32, 1)] ∧
      Frame [.clk, .net, .evr] [R.NET_PTP_OFFSET, R.NET_PTP_STATUS] s t)) ∧
    (s.hw.netOn = true → s.hw.fbit R.NET_PTP_CFG_ENABLE = true → s.hw.fget R.NET_PTP_STATUS_PORT = b2n b → s.hw.net.offA = none → s.hw.net.offB = none → s.hw.stepCause = 0 → s.hw.stepNs ≤ w.natAbs → s.hw.mode ≠ .follow → s.hw.net.slewing = false → s.evRoom 1 → Runs (.ptpMeasurement b w (!b)) s (fun t =>
      t.hw.reg R.NET_PTP_OFFSET = wInt (satS 32 (max (-2147483647) w)) ∧
      (t.hw.tbRate = (if 0 < w then -1 else 1) * (100000 * (s.hw.slewMax : Int))) ∧
      t.hw.clk = s.hw.clk ∧
      Raises s t [(0x5031, w.natAbs / 1000, 0, 0)] ∧
      Frame [.net, .evr] [R.NET_PTP_OFFSET, R.NET_PTP_STATUS, R.NET_TB_RATE] s t)) ∧
    (s.hw.netOn = true → s.hw.fbit R.NET_PTP_CFG_ENABLE = true → s.hw.fget R.NET_PTP_STATUS_PORT = b2n b → s.hw.net.offA = none → s.hw.net.offB = none → s.hw.mode = .follow → Runs (.ptpMeasurement b w (!b)) s (fun t =>
      t.hw.reg R.NET_PTP_OFFSET = wInt (satS 32 (max (-2147483647) w)) ∧
      t.hw.tbRate = s.hw.tbRate ∧
      Frame [.net] [R.NET_PTP_OFFSET] s t)) ∧
    (s.hw.netOn = true → s.hw.fbit R.NET_PTP_CFG_ENABLE = true → (s.hw.fget R.NET_PTP_STATUS_STATE = 1 ∨ s.hw.fget R.NET_PTP_STATUS_STATE = 2) → s.evRoom 1 → Runs (.ptpAnnounceTimeout) s (fun t =>
      t.hw.fget R.NET_PTP_STATUS_STATE = 3 ∧
      t.hw.tbRate = s.hw.tbRate ∧
      Raises s t [(0x5033, s.hw.fget R.NET_PTP_STATUS_PORT, 0, 0)] ∧
      Frame [.net, .evr] [R.NET_PTP_STATUS] s t)) ∧
    (s.hw.netOn = true → s.hw.fbit R.NET_PTP_CFG_ENABLE = true → a.domain = s.hw.fget R.NET_PTP_CFG_DOMAIN → s.hw.betterMaster a = true → a.utcValid = true → Runs (.ptpAnnounceReceive a) s (fun t =>
      t.hw.fget R.NET_UTC_OFFSET_OFFSET_S = a.utc % 65536 ∧
      t.hw.fbit R.NET_UTC_OFFSET_FROM_PTP = true ∧
      t.hw.fbit R.NET_PTP_STATUS_MASTER = false ∧
      Frame [] [R.NET_PTP_STATUS, R.NET_UTC_OFFSET] s t)) ∧
    (s.hw.netOn = true → s.hw.fbit R.NET_PTP_CFG_ENABLE = true → a.domain = s.hw.fget R.NET_PTP_CFG_DOMAIN → s.hw.fbit R.NET_PTP_CFG_MASTER_EN = true → s.hw.fget R.NET_PTP_CFG_PRIORITY1 < a.prio1 → Runs (.ptpAnnounceReceive a) s (fun t =>
      t.hw.fbit R.NET_PTP_STATUS_MASTER = true ∧
      Frame [] [R.NET_PTP_STATUS] s t)) ∧
    (Runs (.tbLoRead) s (fun t =>
      t.hw.reg R.NET_TB_LO = BitVec.ofNat 32 s.hw.clk.tb ∧
      t.hw.reg R.NET_TB_HI = BitVec.ofNat 32 (s.hw.clk.tb / 2 ^ 32) ∧
      Frame [] [R.NET_TB_LO, R.NET_TB_HI] s t))

/-- A heartbeat instant counts HB_COUNT and sends a heartbeat and a TIME frame; a heartbeat received shows the partner's mode and
LIVE, restores a line after three in a row with 0x6004, and in the third period of dual LIVE sends the non-preferred module to SAFE
with cause 0x10. Two misses only count, the third fails the line with 0x6003, both lines lost is PARTNER_LOST with 0x6005. A frame
that lacks its ACK is resent, after 8 times guy line A fails. TIME frames are kept and steer a follower. A complete snapshot makes
its task ready, READS wait, a digest that differs and an overflow lose synchronisation with 0x6006, a marker restarts the execution,
STATE items are applied, differing counters are set with 0x6011. Where the spec leaves a point open the clauses follow the model's
own reading (assumption log 21, 54, 55, 56, 57, 60). (spec/11_hot_standby.md R288, spec/11_hot_standby.md R294,
spec/11_hot_standby.md R295, spec/11_hot_standby.md R297, spec/11_hot_standby.md R300, spec/11_hot_standby.md R301,
spec/11_hot_standby.md R302, spec/11_hot_standby.md R305, spec/11_hot_standby.md R309, spec/11_hot_standby.md R312,
spec/11_hot_standby.md R313) -/
def Obligations.PairLink : Prop :=
  ∀ (s : State) (n : Nat) (b : Beat) (l : Bool) (q : Nat) (own : Nat) (seen : Nat) (sent : Nat) (m : SyncMsg) (k : Nat) (x : Nat) (rest : List (Nat × Nat × Nat × SyncMsg)) (i : Fin 32) (due : Nat) (bs : List Byte) (e : ReadEntry) (dg : BitVec 64) (v : Timer) (c : Nat × Nat × Nat),
    (s.hw.pairUnit = true → Runs (.syncLinkUp) s (fun t =>
      t.hw.pair.linkUp = true ∧
      t.hw.pair.rxSeq = none ∧
      Frame [.pair] [] s t)) ∧
    (Runs (.syncLinkDown) s (fun t =>
      t.hw.pair.linkUp = false ∧
      Frame [.pair] [] s t)) ∧
    (s.hw.pairUnit = true → s.hw.pair.linkUp = true → s.evRoom 1 → Runs (.syncFrameError) s (fun t =>
      t.hw.fget R.PAIR_LINK_CNT_FRAME_ERR = satInc 16 (s.hw.fget R.PAIR_LINK_CNT_FRAME_ERR) ∧
      Raises s t [(0x6012, satInc 16 (s.hw.fget R.PAIR_LINK_CNT_FRAME_ERR), 0, 0)] ∧
      Frame [.evr] [R.PAIR_LINK_CNT] s t)) ∧
    (s.hw.pairUnit = true → s.hw.pair.injA = 0 → s.hw.pair.injB = 0 → s.hw.dirValid (s.hw.fget R.PAIR_PARTNER_PARTNER_DIR) = true → s.hw.pair.revertS = none → Runs (.heartbeatInstant) s (fun t =>
      t.hw.pair.hbCount = (s.hw.pair.hbCount + 1) % 2 ^ 32 ∧
      t.hw.beat.count = t.hw.pair.hbCount ∧
      t.hw.pair.out = s.hw.pair.out ++ [(s.hw.pair.txSeq, s.hw.pair.injCrc, SyncMsg.heartbeat t.hw.beat), ((s.hw.pair.txSeq + 1) % 2 ^ 32, false, SyncMsg.time t.hw.clk.tb s.hw.pair.timeRx.1 s.hw.pair.timeRx.2)] ∧
      t.hw.net.out = s.hw.net.out ++ [s.hw.netFrame (NetOut.heartbeat t.hw.beat)] ∧
      Frame [.clk, .pair, .net] [] s t)) ∧
    (s.hw.pairUnit = true → s.hw.pair.linkUp = true → (s.hw.pair.rxSeq = none ∨ s.hw.pair.rxSeq = some ((n + 2 ^ 32 - 1) % 2 ^ 32)) → s.hw.pair.revertS = none → s.hw.pair.swapped = 0 → (s.hw.guy false).count = none → b.preferred ≠ s.hw.fbit R.PAIR_CFG_PREFERRED → (s.hw.fbit R.SUP_MODE_STATUS_LIVE_OUT = false ∨ b.live = false) → s.hw.fbit R.PAIR_STATUS_GUY_A = true → Runs (.heartbeatReceive n none b) s (fun t =>
      t.hw.pair.rxSeq = some n ∧
      t.hw.pair.partner = some b ∧
      t.hw.fbit R.PAIR_STATUS_PARTNER_LIVE = b.live ∧
      t.hw.fget R.PAIR_STATUS_PARTNER_MODE = b.mode % 16 ∧
      (t.hw.guy false).count = some b.count ∧
      (t.hw.guy false).misses = 0 ∧
      t.hw.fbit R.PAIR_STATUS_CONFLICT = false ∧
      Frame [.pair] [R.PAIR_STATUS] s t)) ∧
    (s.hw.pairUnit = true → s.hw.pair.linkUp = true → (s.hw.pair.rxSeq = none ∨ s.hw.pair.rxSeq = some ((n + 2 ^ 32 - 1) % 2 ^ 32)) → s.hw.pair.revertS = none → s.hw.pair.swapped = 0 → (s.hw.guy false).count = none → b.preferred ≠ s.hw.fbit R.PAIR_CFG_PREFERRED → (s.hw.fbit R.SUP_MODE_STATUS_LIVE_OUT = false ∨ b.live = false) → s.hw.fbit R.PAIR_STATUS_GUY_A = false → 2 ≤ (s.hw.guy false).goods → s.evRoom 1 → Runs (.heartbeatReceive n none b) s (fun t =>
      t.hw.pair.rxSeq = some n ∧
      t.hw.pair.partner = some b ∧
      t.hw.fbit R.PAIR_STATUS_PARTNER_LIVE = b.live ∧
      t.hw.fget R.PAIR_STATUS_PARTNER_MODE = b.mode % 16 ∧
      (t.hw.guy false).count = some b.count ∧
      (t.hw.guy false).misses = 0 ∧
      t.hw.fbit R.PAIR_STATUS_GUY_A = true ∧
      t.hw.fbit R.PAIR_STATUS_PARTNER_LOST = false ∧
      Raises s t [(0x6004, 0, 0, 0)] ∧
      Frame [.pair, .evr] [R.PAIR_STATUS] s t)) ∧
    (s.hw.pairUnit = true → s.hw.pair.linkUp = true → (s.hw.pair.rxSeq = none ∨ s.hw.pair.rxSeq = some ((n + 2 ^ 32 - 1) % 2 ^ 32)) → s.hw.pair.revertS = none → s.hw.pair.swapped = 0 → (s.hw.guy false).count = none → b.preferred ≠ s.hw.fbit R.PAIR_CFG_PREFERRED → s.hw.fbit R.SUP_MODE_STATUS_LIVE_OUT = true → b.live = true → s.hw.pair.liveRuns = 2 → b.count = (s.hw.pair.hbSeen + 1) % 2 ^ 32 → s.hw.fbit R.PAIR_STATUS_CONFLICT = false → s.hw.fbit R.PAIR_CFG_PREFERRED = false → s.hw.mode = .run → s.hw.nvs.vinLost = false → s.hw.fbit R.PAIR_STATUS_GUY_A = true → s.evRoom 1 → Runs (.heartbeatReceive n none b) s (fun t =>
      Entered s t .safe 0x10 ∧
      Records s t (0x600D, 0, b.mac % 2 ^ 32, 0))) ∧
    (s.hw.pairUnit = true → s.hw.pair.revertS = none → (s.hw.guy l).misses < 2 → Runs (.guyLineMiss l) s (fun t =>
      (t.hw.guy l).misses = (s.hw.guy l).misses + 1 ∧
      (t.hw.guy l).goods = 0 ∧
      (s.hw.guy l).arr + max 1 ((s.hw.pair.partner.map (fun (z : Beat) => z.phb)).getD 1000) * 1000 ≤ t.hw.clk.up ∧
      Frame [.clk, .pair] [] s t)) ∧
    (s.hw.pairUnit = true → s.hw.pair.revertS = none → (s.hw.guy l).misses = 2 → s.hw.fbit R.PAIR_STATUS_GUY_A = true → s.hw.fbit R.PAIR_STATUS_GUY_B = true → l = true → s.evRoom 1 → Runs (.guyLineMiss l) s (fun t =>
      t.hw.fbit R.PAIR_STATUS_GUY_B = false ∧
      t.hw.fbit R.PAIR_STATUS_GUY_A = true ∧
      Raises s t [(0x6003, 1, 0, 0)] ∧
      (s.hw.guy l).arr + max 1 ((s.hw.pair.partner.map (fun (z : Beat) => z.phb)).getD 1000) * 1000 ≤ t.hw.clk.up ∧
      Frame [.clk, .pair, .evr] [R.PAIR_STATUS] s t)) ∧
    (s.hw.pairUnit = true → s.hw.pair.revertS = none → (s.hw.guy l).misses = 2 → s.hw.fbit R.PAIR_STATUS_GUY_A = false → s.hw.fbit R.PAIR_STATUS_GUY_B = true → l = true → s.evRoom 2 → Runs (.guyLineMiss l) s (fun t =>
      t.hw.fbit R.PAIR_STATUS_GUY_B = false ∧
      t.hw.fbit R.PAIR_STATUS_PARTNER_LOST = true ∧
      Raises s t [(0x6003, 1, 0, 0), (0x6005, b2n s.hw.liveIn, 0, 0)] ∧
      Frame [.clk, .pair, .evr] [R.PAIR_STATUS] s t)) ∧
    (s.hw.pairUnit = true → s.hw.pair.linkUp = true → (s.hw.pair.rxSeq = none ∨ s.hw.pair.rxSeq = some ((n + 2 ^ 32 - 1) % 2 ^ 32)) → s.hw.mode ≠ .follow → s.hw.mode ≠ .recovery → Runs (.timeReceive n own seen sent) s (fun t =>
      t.hw.pair.rxSeq = some n ∧
      t.hw.pair.timeRx = (s.hw.clk.tb, own) ∧
      Frame [.pair] [] s t)) ∧
    (s.hw.pairUnit = true → s.hw.pair.linkUp = true → (s.hw.pair.rxSeq = none ∨ s.hw.pair.rxSeq = some ((n + 2 ^ 32 - 1) % 2 ^ 32)) → s.hw.mode = .follow → seen ≠ 0 → ((((sent : Int) - seen) + ((s.hw.clk.tb : Int) - own)) / 2).natAbs < s.hw.stepNs → Runs (.timeReceive n own seen sent) s (fun t =>
      t.hw.pair.rxSeq = some n ∧
      t.hw.reg R.PAIR_TB_OFFSET = wInt (satS 32 (max (-2147483647) ((((sent : Int) - seen) + ((s.hw.clk.tb : Int) - own)) / 2))) ∧
      t.hw.net.freq = clampI (16000 * s.hw.slewMax) (s.hw.net.freq - (((sent : Int) - seen) + ((s.hw.clk.tb : Int) - own)) / 2) ∧
      t.hw.clk = s.hw.clk ∧
      Frame [.pair, .net, .evr] [R.PAIR_TB_OFFSET, R.NET_TB_RATE] s t)) ∧
    (s.hw.pairUnit = true → s.hw.pair.linkUp = true → (s.hw.pair.rxSeq = none ∨ s.hw.pair.rxSeq = some ((n + 2 ^ 32 - 1) % 2 ^ 32)) → Runs (.ackReceive n q none) s (fun t =>
      t.hw.pair.rxSeq = some n ∧
      t.hw.pair.unacked = s.hw.pair.unacked.filter (fun (z : Nat × Nat × Nat × SyncMsg) => z.1 != q) ∧
      Frame [.pair] [] s t)) ∧
    (s.hw.pair.unacked = (q, x, k, m) :: rest → k < 8 → Runs (.ackTimeout) s (fun t =>
      t.hw.pair.unacked = rest ++ [(q, t.hw.clk.up, k + 1, m)] ∧
      t.hw.pair.out = s.hw.pair.out ++ [(q, false, m)] ∧
      x + 20000 ≤ t.hw.clk.up ∧
      Frame [.clk, .pair] [] s t)) ∧
    (s.hw.pair.unacked = (q, x, k, m) :: rest → 8 ≤ k → s.hw.fbit R.PAIR_STATUS_GUY_A = true → s.hw.fbit R.PAIR_STATUS_GUY_B = true → s.hw.pair.relayed = [] → s.hw.mode = .run → s.evRoom 1 → s.hw.pair.revertS = none → Runs (.ackTimeout) s (fun t =>
      t.hw.pair.unacked = rest ∧
      t.hw.fbit R.PAIR_STATUS_GUY_A = false ∧
      Raises s t [(0x6003, 0, 0, 0)] ∧
      Frame [.clk, .pair, .evr] [R.PAIR_STATUS] s t)) ∧
    (s.hw.pairUnit = true → s.hw.pair.linkUp = true → (s.hw.pair.rxSeq = none ∨ s.hw.pair.rxSeq = some ((n + 2 ^ 32 - 1) % 2 ^ 32)) → s.hw.tstate i.val = 1 → (s.hw.cyc i.val).foll = true → (s.hw.cyc i.val).k = k → s.hw.pair.snaps = [] → s.hw.fget R.PAIR_XCHK_CFG_XCHK_MS = 0 → Runs (.snapshotReceive n i 0 k due bs true) s (fun t =>
      t.hw.pair.rxSeq = some n ∧
      t.hw.tstate i.val = 2 ∧
      (t.hw.cyc i.val).due = due ∧
      (t.hw.cyc i.val).k = k ∧
      (t.hw.cyc i.val).foll = true ∧
      t.hw.ml (0xA0000010 + 32 * i.val) 8 = k % 2 ^ 64 ∧
      t.hw.ml (0xA0000018 + 32 * i.val) 8 = due % 2 ^ 64 ∧
      Kept [.mem, .tsk, .pair, .free, .fld] s t)) ∧
    (s.hw.pairUnit = true → s.hw.pair.linkUp = true → (s.hw.pair.rxSeq = none ∨ s.hw.pair.rxSeq = some ((n + 2 ^ 32 - 1) % 2 ^ 32)) → s.hw.tstate i.val = 1 → (s.hw.cyc i.val).foll = true → (s.hw.cyc i.val).k = k → s.hw.pair.snaps = [] → Runs (.snapshotReceive n i 0 k due bs false) s (fun t =>
      t.hw.pair.rxSeq = some n ∧
      t.hw.pair.snaps = [(i.val, k + 1, 1)] ∧
      t.hw.tstate i.val = 1 ∧
      Frame [.mem, .pair] [] s t)) ∧
    (s.hw.pairUnit = true → s.hw.pair.linkUp = true → (s.hw.pair.rxSeq = none ∨ s.hw.pair.rxSeq = some ((n + 2 ^ 32 - 1) % 2 ^ 32)) → s.hw.mode = .follow → Runs (.readsReceive n [e] false) s (fun t =>
      t.hw.pair.rxSeq = some n ∧
      tget [] t.hw.pair.readsIn e.task = (tget [] s.hw.pair.readsIn e.task).filter (fun (z : ReadEntry) => decide (e.cycle ≤ z.cycle + 1)) ++ [e] ∧
      Frame [.pair] [] s t)) ∧
    (s.hw.pairUnit = true → s.hw.pair.linkUp = true → (s.hw.pair.rxSeq = none ∨ s.hw.pair.rxSeq = some ((n + 2 ^ 32 - 1) % 2 ^ 32)) → s.hw.mode = .follow → s.evRoom 1 → Runs (.readsReceive n [e] true) s (fun t =>
      t.hw.pair.rxSeq = some n ∧
      t.hw.fget R.PAIR_STATUS_SYNC = 0 ∧
      t.hw.reg R.PAIR_JOINED = 0#32 ∧
      Raises s t [(0x6006, 7, e.task, 0)] ∧
      Frame [.pair, .net, .evr] [R.PAIR_STATUS, R.PAIR_JOINED, R.PAIR_LINK_CNT] s t)) ∧
    (s.hw.pairUnit = true → s.hw.pair.linkUp = true → (s.hw.pair.rxSeq = none ∨ s.hw.pair.rxSeq = some ((n + 2 ^ 32 - 1) % 2 ^ 32)) → ((s.hw.cyc i.val).foll = false ∨ (s.hw.cyc i.val).k ≠ k) → Runs (.releaseReceive n i k dg) s (fun t =>
      t.hw.pair.rxSeq = some n ∧
      tget (0, 0#64) t.hw.pair.rxDig i.val = (k + 1, dg) ∧
      Frame [.pair] [] s t)) ∧
    (s.hw.pairUnit = true → s.hw.pair.linkUp = true → (s.hw.pair.rxSeq = none ∨ s.hw.pair.rxSeq = some ((n + 2 ^ 32 - 1) % 2 ^ 32)) → s.hw.mode = .follow → (s.hw.cyc i.val).foll = true → (s.hw.cyc i.val).k = k → (tget (0, 0#64) s.hw.pair.ownDig i.val).1 = k + 1 → (tget (0, 0#64) s.hw.pair.ownDig i.val).2 ≠ dg → s.evRoom 1 → Runs (.releaseReceive n i k dg) s (fun t =>
      t.hw.pair.rxSeq = some n ∧
      t.hw.fget R.PAIR_STATUS_SYNC = 0 ∧
      Raises s t [(0x6006, 4, i.val, 0)] ∧
      Frame [.pair, .net, .evr] [R.PAIR_STATUS, R.PAIR_JOINED, R.PAIR_LINK_CNT] s t)) ∧
    (s.hw.pairUnit = true → s.hw.pair.linkUp = true → (s.hw.pair.rxSeq = none ∨ s.hw.pair.rxSeq = some ((n + 2 ^ 32 - 1) % 2 ^ 32)) → (s.hw.cyc i.val).foll = true → (s.hw.cyc i.val).k = k → (s.hw.cyc i.val).ovf = false → s.hw.tstate i.val = 3 → (s.hw.tgt (s.hw.targetOf i.val)).task = some i.val → s.hw.mode = .follow → Runs (.reexecMarker n i k x) s (fun t =>
      t.hw.pair.rxSeq = some n ∧
      (t.hw.tgt (s.hw.targetOf i.val)).task = some i.val ∧
      (t.hw.tgt (s.hw.targetOf i.val)).window = 0 ∧
      (t.hw.tgt (s.hw.targetOf i.val)).reexec = false ∧
      (t.hw.cyc i.val).exec = x ∧
      (t.hw.cpu (s.hw.targetOf i.val)).pc = s.hw.reg (0x40010200 + 16 * i.val) ∧
      t.otp = s.otp ∧ t.pending = s.pending)) ∧
    (s.hw.pairUnit = true → s.hw.pair.linkUp = true → (s.hw.pair.rxSeq = none ∨ s.hw.pair.rxSeq = some ((n + 2 ^ 32 - 1) % 2 ^ 32)) → (s.hw.cyc i.val).foll = true → (s.hw.cyc i.val).k = k → s.hw.tstate i.val = 2 → Runs (.reexecMarker n i k x) s (fun t =>
      t.hw.pair.rxSeq = some n ∧
      (t.hw.cyc i.val) = { (s.hw.cyc i.val) with exec := x } ∧
      Frame [.tsk, .pair] [] s t)) ∧
    (s.hw.pairUnit = true → s.hw.pair.linkUp = true → (s.hw.pair.rxSeq = none ∨ s.hw.pair.rxSeq = some ((n + 2 ^ 32 - 1) % 2 ^ 32)) → s.hw.mode = .follow → s.hw.pair.step ≠ 0 → Runs (.stateReceive n [.timer q v.w0 v.w1 v.w2 v.w3, .prime x l]) s (fun t =>
      t.hw.pair.rxSeq = some n ∧
      t.hw.timer q = v ∧
      t.hw.primeOf x = l ∧
      (∀ y, y ≠ q → t.hw.timer y = s.hw.timer y) ∧
      t.hw.pair.out = s.hw.pair.out ++ [(s.hw.pair.txSeq, s.hw.pair.injCrc, SyncMsg.ack n)] ∧
      Frame [.tsk, .pair] [] s t)) ∧
    (s.hw.pairUnit = true → s.hw.pair.linkUp = true → (s.hw.pair.rxSeq = none ∨ s.hw.pair.rxSeq = some ((n + 2 ^ 32 - 1) % 2 ^ 32)) → s.hw.mode = .follow → (s.hw.sess c.1).kind = 1 → (s.hw.sess c.1).publishing = false → (s.hw.sess c.1).seq ≠ c.2.1 % 2 ^ 32 → s.evRoom 1 → Runs (.countersReceive n [c] x) s (fun t =>
      t.hw.pair.rxSeq = some n ∧
      t.hw.sess c.1 = { (s.hw.sess c.1) with seq := c.2.1 % 2 ^ 32, pulls := c.2.2 % 2 ^ 32 } ∧
      Raises s t [(0x6011, 1, 0, 0)] ∧
      Frame [.pair, .net, .evr] [] s t)) ∧
    (s.hw.pairFormed = true → Runs (.countersSend) s (fun t =>
      t.hw.pair.out = s.hw.pair.out ++ [(s.hw.pair.txSeq, s.hw.pair.injCrc, SyncMsg.counters ((s.hw.net.sess.filter (fun (p : Nat × Sess) => p.2.kind == 1)).map (fun (p : Nat × Sess) => (p.1, p.2.seq, p.2.pulls))))] ∧
      s.hw.pair.countersAt + 100000000 ≤ t.hw.clk.up ∧
      Frame [.clk, .pair] [] s t))

/-- Resynchronisation starts with SYNC 1 and goes through its steps to SYNC 3 and 0x6007; the active module sends its part. A drop
of LIVE_IN makes a follower whose SYNC is 3 or 4 take over into RUN with cause 0x40 and 0x6001, one that is not synchronised records
0x6002; a short pulse is a glitch; in TEST an asserted LIVE_IN is recorded with 0x0033. A takeover hold that ends returns its
channel to groundsheet with 0x600F. The revert becomes ready after REVERT_HOLD_S, is proposed with 0x600A, is given up 5 ms before S
without a confirmation, hands over at S and ends 40 or 41 µs later. A proposal is confirmed by the follower, a confirmation taken by
the active module; a class P value latches at E, without a confirmation it is dropped with 0x6010 and PAIR. Where the spec leaves a
point open the clauses follow the model's own reading (assumption log 21, 43, 57, 58, 59). (spec/11_hot_standby.md R287,
spec/11_hot_standby.md R291, spec/11_hot_standby.md R292, spec/11_hot_standby.md R308, spec/11_hot_standby.md R310,
spec/11_hot_standby.md R315, spec/11_hot_standby.md R316, spec/11_hot_standby.md R317, spec/11_hot_standby.md R318,
spec/11_hot_standby.md R319, spec/11_hot_standby.md R321) -/
def Obligations.PairChanges : Prop :=
  ∀ (s : State) (n : Nat) (x : ResyncIn) (q : Nat) (c : Fin 48) (ct : Ctl) (p : PWrite) (d : Desc),
    (s.hw.pair.retryAt = some q → s.hw.mode = .follow → s.hw.fbit R.PAIR_STATUS_GUY_A = true → s.hw.pair.step = 0 → s.hw.clk.tb ≤ q → s.tbRoom q → Runs (.resyncStart) s (fun t =>
      t.hw.pair.step = 1 ∧
      t.hw.fget R.PAIR_STATUS_SYNC = 1 ∧
      t.hw.reg R.PAIR_JOINED = 0#32 ∧
      t.hw.pair.retryAt = none ∧
      q ≤ t.hw.clk.tb ∧
      Frame [.clk, .pair] [R.PAIR_STATUS, R.PAIR_JOINED] s t)) ∧
    (s.hw.fget R.PAIR_STATUS_ROLE = 2 → s.hw.fget R.PAIR_STATUS_PARTNER_MODE = 4 → s.hw.pair.step = 1 → x.familyEq = true → s.hw.fbit R.PAIR_STATUS_GUY_A = true → x.cfgEq = true → x.progEq = true → Runs (.resyncStepDone x) s (fun t =>
      t.hw.pair.step = 3 ∧
      t.hw.fget R.PAIR_STATUS_SYNC = 2 ∧
      t.hw.pair.calOk = x.calValid ∧
      t.hw.clk.up = s.hw.clk.up + x.us * 1000 ∧
      Frame [.clk, .pair] [R.PAIR_STATUS] s t)) ∧
    (s.hw.fget R.PAIR_STATUS_ROLE = 2 → s.hw.fget R.PAIR_STATUS_PARTNER_MODE = 4 → s.hw.pair.step = 1 → x.familyEq = false → s.hw.mode = .follow → s.evRoom 1 → Runs (.resyncStepDone x) s (fun t =>
      t.hw.pair.step = 0 ∧
      t.hw.fget R.PAIR_STATUS_SYNC = 0 ∧
      t.hw.pair.retryAt = some (t.hw.clk.tb + 1000000000) ∧
      Raises s t [(0x6008, 1, 0, 0)] ∧
      Frame [.clk, .pair, .evr] [R.PAIR_STATUS, R.PAIR_JOINED] s t)) ∧
    (s.hw.fget R.PAIR_STATUS_ROLE = 2 → s.hw.pair.step = 3 → Runs (.resyncStepDone x) s (fun t =>
      t.hw.pair.step = 4 ∧
      t.hw.fget R.PAIR_STATUS_SYNC = 2 ∧
      Frame [.clk, .pair] [R.PAIR_STATUS] s t)) ∧
    (s.hw.fget R.PAIR_STATUS_ROLE = 2 → s.hw.pair.step = 4 → Runs (.resyncStepDone x) s (fun t =>
      t.hw.pair.step = 5 ∧
      t.hw.fget R.PAIR_STATUS_SYNC = 3 ∧
      Frame [.clk, .pair] [R.PAIR_STATUS] s t)) ∧
    (s.hw.fget R.PAIR_STATUS_ROLE = 2 → s.hw.fget R.PAIR_STATUS_PARTNER_MODE = 4 → s.hw.pair.step = 5 → s.hw.pair.joinAt ≠ 0 → s.hw.mode = .follow → s.evRoom 1 → Runs (.resyncStepDone x) s (fun t =>
      t.hw.pair.step = 0 ∧
      (∀ y : Fin 32, s.hw.kind y.val = 1 → (t.hw.cyc y.val).nextK = max (s.hw.cyc y.val).nextK (s.hw.firstK y.val s.hw.pair.joinAt)) ∧
      Raises s t [(0x6007, s.hw.pair.joinAt / 1000 % 2 ^ 32, (t.hw.clk.up - s.hw.pair.stepAt) / 1000000, 0)] ∧
      Kept [.clk, .tsk, .pair, .evr] s t)) ∧
    (s.hw.pairFormed = true → s.hw.partnerSync = 2 → s.hw.pair.step = 4 → s.hw.pair.ovfSeen = false → Runs (.resyncStepDone x) s (fun t =>
      t.hw.pair.step = 5 ∧
      t.hw.pair.joinAt = ceilTo 1000000 (s.hw.clk.tb + 1000000) ∧
      t.hw.pair.out = s.hw.pair.out ++ [(s.hw.pair.txSeq, s.hw.pair.injCrc, SyncMsg.join t.hw.pair.joinAt)] ∧
      Frame [.pair] [] s t)) ∧
    (s.hw.liveIn = true → s.hw.pairOn = true → s.hw.mode = .follow → s.hw.pair.revertConf = false → s.hw.fget R.PAIR_STATUS_SYNC ∈ [3, 4] → s.hw.notIn .run = [] → s.hw.hif.deferred = [] → s.noInj → s.evRoom 2 → Runs (.liveInDrop) s (fun t =>
      Entered s t .run 0x40 ∧
      t.hw.liveIn = false ∧
      Raises s t [(0x0030, 5, 4, 0x40), (0x6001, s.hw.fget R.PAIR_STATUS_SYNC, ((List.range 48).filter (fun (y : Nat) => tget false s.hw.fld.driven y)).length, 0)] ∧
      t.hw.clk.up = s.hw.clk.up + 256 ∧
      t.hw.pair.dropAt = some s.hw.clk.tb ∧
      t.hw.fld.held = ((List.range 48).filter (fun (y : Nat) => tget false s.hw.fld.driven y)).map (fun (y : Nat) => (y, s.hw.holdN)) ∧
      (∀ y : Fin 32, (t.hw.cyc y.val).foll = false ∧ (s.hw.tstate y.val = 1 → t.hw.tstate y.val = 0)))) ∧
    (s.hw.liveIn = true → s.hw.pairOn = true → s.hw.mode = .follow → s.hw.pair.revertConf = false → s.hw.fget R.PAIR_STATUS_SYNC < 3 → s.evRoom 1 → Runs (.liveInDrop) s (fun t =>
      t.hw.liveIn = false ∧
      t.hw.mode = Mode.follow ∧
      Raises s t [(0x6002, s.hw.fget R.PAIR_STATUS_SYNC, 0, 0)] ∧
      Frame [.clk, .evr] [R.SUP_MODE_STATUS] s t)) ∧
    (s.hw.liveIn = true → s.evRoom 1 → Runs (.liveInGlitch) s (fun t =>
      t.hw.fget R.PAIR_LINK_CNT_GLITCHES = satInc 8 (s.hw.fget R.PAIR_LINK_CNT_GLITCHES) ∧
      Raises s t [(0x6013, satInc 8 (s.hw.fget R.PAIR_LINK_CNT_GLITCHES), 0, 0)] ∧
      t.hw.liveIn = true ∧
      Frame [.evr] [R.PAIR_LINK_CNT] s t)) ∧
    (s.hw.liveIn = false → s.hw.mode ≠ .test → s.hw.sup.waitTo = none → Runs (.liveInAssert) s (fun t =>
      t.hw.liveIn = true ∧
      Frame [] [R.SUP_MODE_STATUS] s t)) ∧
    (s.hw.liveIn = false → s.hw.mode = .test → s.evRoom 1 → Runs (.liveInAssert) s (fun t =>
      t.hw.liveIn = true ∧
      Raises s t [(0x0033, 6, 4, 0)] ∧
      Frame [.evr] [R.SUP_MODE_STATUS] s t)) ∧
    (s.hw.pair.dropAt = some q → tget 0 s.hw.fld.held c.val = n → n ≠ 0 → s.hw.kind (s.hw.chOwner c.val) = 1 → s.evRoom 1 → Runs (.takeoverHoldExpiry c) s (fun t =>
      tget 0 t.hw.fld.held c.val = 0 ∧
      tget false t.hw.fld.driven c.val = false ∧
      Raises s t [(0x600F, c.val, 0, 0)] ∧
      Frame [.clk, .fld, .evr] [] s t)) ∧
    (s.hw.pair.okSince = some q → s.hw.revertBad = 0 → Runs (.revertHoldComplete) s (fun t =>
      t.hw.pair.ready = true ∧
      q + s.hw.revertHold * 1000000000 ≤ t.hw.clk.up ∧
      Frame [.clk, .pair] [] s t)) ∧
    (s.hw.mode = .run → s.hw.fget R.PAIR_STATUS_ROLE = 1 → s.hw.revertBadActive = 0 → (s.hw.pair.partner.map (fun (z : Beat) => z.revertReady)).getD false = true → s.hw.pair.revertS = none → s.evRoom 1 → Runs (.revertPropose) s (fun t =>
      t.hw.pair.revertS = some (ceilTo 20000 (t.hw.clk.tb + 10000000)) ∧
      t.hw.pair.revertConf = false ∧
      t.hw.pair.out = s.hw.pair.out ++ [(s.hw.pair.txSeq, s.hw.pair.injCrc, SyncMsg.control { kind := 3, inst := ceilTo 20000 (t.hw.clk.tb + 10000000) })] ∧
      Raises s t [(0x600A, ceilTo 20000 (t.hw.clk.tb + 10000000) / 1000 % 2 ^ 32, 0, 0)] ∧
      Frame [.clk, .pair, .evr] [] s t)) ∧
    (s.hw.pair.revertS = some q → s.hw.pair.revertConf = false → s.evRoom 1 → Runs (.revertConfirmTimeout) s (fun t =>
      t.hw.pair.revertS = none ∧
      t.hw.fbit R.PAIR_STATUS_REVERT_PENDING = false ∧
      Raises s t [(0x600C, 0, 0, 0)] ∧
      t.hw.pair.out = s.hw.pair.out ++ [(s.hw.pair.txSeq, s.hw.pair.injCrc, SyncMsg.control { kind := 3 })] ∧
      Frame [.clk, .pair, .evr] [R.PAIR_STATUS] s t)) ∧
    (s.hw.pair.revertS = some q → s.hw.pair.revertConf = true → s.hw.pair.reverting = 0 → s.tbRoom q → s.hw.fget R.PAIR_STATUS_ROLE = 1 → s.hw.revertBadActive = 0 → s.hw.overlap = false → s.hw.mode = .run → Runs (.revertInstant) s (fun t =>
      Entered s t .follow 0x41 ∧
      t.hw.fget R.PAIR_STATUS_SYNC = 4 ∧
      t.hw.pair.reverting = 1 ∧
      q ≤ t.hw.clk.tb)) ∧
    (s.hw.pair.revertS = some q → s.hw.pair.revertConf = true → s.hw.pair.reverting = 0 → s.tbRoom q → s.hw.fget R.PAIR_STATUS_ROLE = 2 → s.hw.revertBad = 0 → s.hw.overlap = true → Runs (.revertInstant) s (fun t =>
      Entered s t .run 0x42 ∧
      t.hw.pair.reverting = 2 ∧
      q ≤ t.hw.clk.tb)) ∧
    (s.hw.pair.revertS = some q → s.tbRoom (q + 41000) → s.hw.pair.reverting = 2 → s.hw.mode = .follow → Runs (.revertHandoverExpiry) s (fun t =>
      Entered s t .run 0x42 ∧
      q + 40000 ≤ t.hw.clk.tb ∧
      t.hw.pair.revertS = none ∧
      t.hw.pair.reverting = 0 ∧
      t.hw.fbit R.PAIR_STATUS_REVERT_PENDING = false)) ∧
    (s.hw.pair.revertS = some q → s.tbRoom (q + 41000) → s.hw.pair.reverting = 1 → s.hw.mode = .follow → s.hw.liveIn = false → Runs (.revertHandoverExpiry) s (fun t =>
      Entered s t .run 0x40 ∧
      q + 41000 ≤ t.hw.clk.tb ∧
      t.hw.pair.revertS = none ∧
      t.hw.pair.reverting = 0 ∧
      t.hw.fbit R.PAIR_STATUS_REVERT_PENDING = false)) ∧
    (s.hw.pair.revertS = some q → s.tbRoom (q + 41000) → s.hw.pair.reverting = 1 → s.hw.mode = .follow → s.hw.liveIn = true → Runs (.revertHandoverExpiry) s (fun t =>
      t.hw.mode = Mode.follow ∧
      t.hw.pair.revertS = none ∧
      t.hw.pair.reverting = 0 ∧
      t.hw.fbit R.PAIR_STATUS_REVERT_PENDING = false ∧
      Frame [.clk, .pair] [R.PAIR_STATUS] s t)) ∧
    (s.hw.pairUnit = true → s.hw.pair.linkUp = true → (s.hw.pair.rxSeq = none ∨ s.hw.pair.rxSeq = some ((n + 2 ^ 32 - 1) % 2 ^ 32)) → s.hw.fget R.PAIR_STATUS_ROLE = 2 → ct.confirm = false → ct.kind = 3 → ct.inst ≠ 0 → s.hw.revertBad = 0 → s.hw.pair.ready = true → s.hw.clk.tb + 5000000 ≤ ct.inst → Runs (.controlReceive n (.control ct)) s (fun t =>
      t.hw.pair.revertS = some ct.inst ∧
      t.hw.pair.revertConf = true ∧
      t.hw.fbit R.PAIR_STATUS_REVERT_PENDING = true ∧
      t.hw.pair.out = s.hw.pair.out ++ [(s.hw.pair.txSeq, s.hw.pair.injCrc, SyncMsg.ack n), ((s.hw.pair.txSeq + 1) % 2 ^ 32, false, SyncMsg.control { ct with confirm := true })] ∧
      Frame [.pair] [R.PAIR_STATUS] s t)) ∧
    (s.hw.pairUnit = true → s.hw.pair.linkUp = true → (s.hw.pair.rxSeq = none ∨ s.hw.pair.rxSeq = some ((n + 2 ^ 32 - 1) % 2 ^ 32)) → s.hw.fget R.PAIR_STATUS_ROLE = 2 → ct.confirm = false → ct.kind = 1 → ct.inst ≠ 0 → Runs (.controlReceive n (.control ct)) s (fun t =>
      (ct.a, w32 ct.b) ∈ t.hw.pend ∧
      t.hw.pair.pwrites = s.hw.pair.pwrites ++ [({ addr := ct.a, val := w32 ct.b, eff := ct.inst, d := none, confirmed := true } : PWrite)] ∧
      t.hw.pair.out = s.hw.pair.out ++ [(s.hw.pair.txSeq, s.hw.pair.injCrc, SyncMsg.ack n), ((s.hw.pair.txSeq + 1) % 2 ^ 32, false, SyncMsg.control { ct with confirm := true })] ∧
      Frame [.pend, .pair] [R.BLOCK_STATUS ((ct.a - 0x40000000) / 65536)] s t)) ∧
    (s.hw.pairUnit = true → s.hw.pair.linkUp = true → (s.hw.pair.rxSeq = none ∨ s.hw.pair.rxSeq = some ((n + 2 ^ 32 - 1) % 2 ^ 32)) → s.hw.fget R.PAIR_STATUS_ROLE = 1 → ct.confirm = true → ct.kind = 3 → s.hw.pair.revertS = some ct.inst → s.hw.clk.tb + 5000000 ≤ ct.inst → Runs (.controlReceive n (.control ct)) s (fun t =>
      t.hw.pair.revertConf = true ∧
      t.hw.fbit R.PAIR_STATUS_REVERT_PENDING = true ∧
      Frame [.pair] [R.PAIR_STATUS] s t)) ∧
    (s.hw.pairUnit = true → s.hw.pair.linkUp = true → (s.hw.pair.rxSeq = none ∨ s.hw.pair.rxSeq = some ((n + 2 ^ 32 - 1) % 2 ^ 32)) → s.hw.fget R.PAIR_STATUS_ROLE = 1 → Runs (.controlReceive n (.relay d)) s (fun t =>
      t.hw.hif.queue = s.hw.hif.queue ++ [{ d with relayed := true }] ∧
      t.hw.fget R.HIF_STATUS_QUEUED = min 64 (s.hw.hif.queue.length + 1) % 2 ^ R.HIF_STATUS_QUEUED.w ∧
      Frame [.hif, .pair] [R.HIF_STATUS] s t)) ∧
    (s.hw.pair.pwrites = [p] → p.confirmed = true → s.hw.pend = [(p.addr, p.val)] → chanField p.addr = false → (List.range 12).all (fun z => p.addr != R.BLOCK_STATUS z) = true → s.hw.hif.latching = [] → s.tbRoom p.eff → Runs (.classPInstant) s (fun t =>
      t.hw.reg p.addr = p.val ∧
      t.hw.pend = [] ∧
      t.hw.pair.pwrites = [] ∧
      p.eff ≤ t.hw.clk.tb ∧
      Frame [.clk, .pend, .pair] [(p.addr), R.BLOCK_STATUS 0, R.BLOCK_STATUS 1, R.BLOCK_STATUS 2, R.BLOCK_STATUS 3, R.BLOCK_STATUS 4, R.BLOCK_STATUS 5, R.BLOCK_STATUS 6, R.BLOCK_STATUS 7, R.BLOCK_STATUS 8, R.BLOCK_STATUS 9, R.BLOCK_STATUS 10, R.BLOCK_STATUS 11] s t)) ∧
    (s.hw.pair.pwrites = [p] → p.confirmed = false → p.d = none → s.hw.tsk.feffs = [] → s.hw.tsk.olc.point = 0 → p.eff ≠ 0 → s.evRoom 1 → s.hw.pend = [(p.addr, p.val)] → Runs (.partnerConfirmTimeout) s (fun t =>
      t.hw.pair.pwrites = [] ∧
      t.hw.pend = [] ∧
      Raises s t [(0x6010, (p.addr - 0x40000000) / 65536, p.addr % 65536, 0)] ∧
      Kept [.clk, .pend, .pair, .hif, .evr] s t))

/-- Where the carrier may run the first boundary starts it: CARRIER and STARTING, the field side in autonomy, a frame on the line. A
steady group's boundary sends a DRIVE frame with the next SEQ and slot, the released OUT and CTRL bits and the AO command of the
slot; the third period without a valid return takes the barrier down with 0x4001, cause 1. A carrier fault does so with cause 2 and
stops the carrier; it restarts 10 ms later. A valid outbound frame reaches every channel, a lost one counts. A checked return frame
shows its states and enters the image, one with a wrong CRC has no effect. The Zirek link sends its frame and takes its states; in
autonomy the field side sends on its own. Where the spec leaves a point open the clauses follow the model's own reading (assumption
log 2, 20, 61, 64). (spec/08_field_digital.md R208, spec/08_field_digital.md R210, spec/08_field_digital.md R211,
spec/08_field_digital.md R212, spec/08_field_digital.md R215, spec/08_field_digital.md R216, spec/08_field_digital.md R217,
spec/08_field_digital.md R219, spec/08_field_digital.md R220) -/
def Obligations.FieldLinks : Prop :=
  ∀ (s : State) (g : Fin 6) (w : Nat) (x : Nat) (y : FsSeen) (m : Nat),
    (s.hw.fbit (R.FLD_GRPg_STATUS_ZIREK g.val) = false → s.hw.fbit (R.FLD_GRPg_STATUS_CARRIER g.val) = false → s.hw.carrierMay g.val = true → (s.hw.lnk g.val).restartAt = none → Runs (.outboundBoundary g) s (fun t =>
      t.hw.fbit (R.FLD_GRPg_STATUS_CARRIER g.val) = true ∧
      t.hw.fbit (R.FLD_GRPg_STATUS_STARTING g.val) = true ∧
      t.hw.fbit (R.FLD_GRPg_STATUS_BARRIER_OK g.val) = false ∧
      (t.hw.fs g.val).powered = true ∧
      (t.hw.fs g.val).autonomy = true ∧
      (t.hw.lnk g.val).startAt = some t.hw.clk.up ∧
      (t.hw.lnk g.val).out.isSome = true ∧
      (t.hw.lnk g.val).seq = 1 ∧
      Frame [.clk, .fld] [R.FLD_GRPg_STATUS g.val] s t)) ∧
    (s.hw.fbit (R.FLD_GRPg_STATUS_ZIREK g.val) = false → s.hw.fbit (R.FLD_GRPg_STATUS_CARRIER g.val) = true → s.hw.groupUsed g.val = true → s.hw.mode = .run → (s.hw.lnk g.val).startAt = some x → x ≤ s.hw.clk.up → (s.hw.lnk g.val).toSend = [] → (s.hw.lnk g.val).batch = [] → (s.hw.lnk g.val).want = [] → (s.hw.lnk g.val).tests = [] → (s.hw.lnk g.val).await = none → (s.hw.lnk g.val).sent = none → (s.hw.lnk g.val).wasOff = false → s.hw.offFrames g.val = false → (s.hw.lnk g.val).injSupp = 0 → s.hw.pend = [] → (s.hw.lnk g.val).seen = true → s.hw.fbit (R.FLD_GRPg_STATUS_BARRIER_OK g.val) = true → (s.hw.lnk g.val).frames < 63 → s.tbRoom (s.hw.clk.tb + 10000) → Runs (.outboundBoundary g) s (fun t =>
      ((t.hw.lnk g.val).out = some (sealFrame (frameBits 0 (s.hw.lnk g.val).seq (s.hw.lnk g.val).slot (mask8 (fun z => s.hw.outOf (g.val * 8 + z))) (mask8 (fun z => s.hw.ctrlOf (g.val * 8 + z))) (if s.hw.fget (R.FLD_CHc_CFG_MODE (g.val * 8 + (s.hw.lnk g.val).slot)) = 4 then s.hw.aoCommand (g.val * 8 + (s.hw.lnk g.val).slot) else 0)))) ∧
      (t.hw.lnk g.val).seq = ((s.hw.lnk g.val).seq + 1) % 8 ∧
      (t.hw.lnk g.val).slot = ((s.hw.lnk g.val).slot + 1) % 8 ∧
      (t.hw.lnk g.val).startAt = some t.hw.clk.up ∧
      (s.hw.tbRate = 0 → t.hw.clk.tb % 5000 = 0) ∧
      Frame [.clk, .fld] [] s t)) ∧
    (s.hw.fbit (R.FLD_GRPg_STATUS_ZIREK g.val) = false → s.hw.fbit (R.FLD_GRPg_STATUS_CARRIER g.val) = true → s.hw.groupUsed g.val = true → s.hw.mode = .run → (s.hw.lnk g.val).startAt = some x → x ≤ s.hw.clk.up → (s.hw.lnk g.val).toSend = [] → (s.hw.lnk g.val).batch = [] → (s.hw.lnk g.val).want = [] → (s.hw.lnk g.val).tests = [] → (s.hw.lnk g.val).await = none → (s.hw.lnk g.val).sent = none → (s.hw.lnk g.val).wasOff = false → s.hw.offFrames g.val = false → (s.hw.lnk g.val).injSupp = 0 → s.hw.pend = [] → (s.hw.lnk g.val).seen = false → (s.hw.lnk g.val).missRun = 2 → (s.hw.lnk g.val).loss.isSome = true → s.hw.fbit (R.FLD_GRPg_STATUS_BARRIER_OK g.val) = true → s.evRoom 1 → Runs (.outboundBoundary g) s (fun t =>
      ((t.hw.lnk g.val).out = some (sealFrame (frameBits 0 (s.hw.lnk g.val).seq (s.hw.lnk g.val).slot (mask8 (fun z => s.hw.outOf (g.val * 8 + z))) (mask8 (fun z => s.hw.ctrlOf (g.val * 8 + z))) (if s.hw.fget (R.FLD_CHc_CFG_MODE (g.val * 8 + (s.hw.lnk g.val).slot)) = 4 then s.hw.aoCommand (g.val * 8 + (s.hw.lnk g.val).slot) else 0)))) ∧
      t.hw.fbit (R.FLD_GRPg_STATUS_BARRIER_OK g.val) = false ∧
      t.hw.fbit (R.FLD_GRPg_STATUS_STARTING g.val) = true ∧
      t.hw.fget (R.FLD_GRPg_ERR_DOWNS g.val) = satInc (R.FLD_GRPg_ERR_DOWNS g.val).w (s.hw.fget (R.FLD_GRPg_ERR_DOWNS g.val)) ∧
      t.hw.fget (R.FLD_GRPg_ERR_MISSED g.val) = satInc (R.FLD_GRPg_ERR_MISSED g.val).w (s.hw.fget (R.FLD_GRPg_ERR_MISSED g.val)) ∧
      Raises s t [(0x4001, g.val, 1, 0)] ∧
      (t.hw.lnk g.val).seq = ((s.hw.lnk g.val).seq + 1) % 8 ∧
      (t.hw.lnk g.val).slot = ((s.hw.lnk g.val).slot + 1) % 8 ∧
      (t.hw.lnk g.val).startAt = some t.hw.clk.up ∧
      Frame [.clk, .fld, .evr] [R.FLD_GRPg_STATUS g.val, R.FLD_GRPg_ERR g.val] s t)) ∧
    (s.hw.fbit (R.FLD_GRPg_STATUS_CARRIER g.val) = true → s.evRoom 1 → Runs (.carrierFault g) s (fun t =>
      t.hw.fbit (R.FLD_GRPg_STATUS_BARRIER_OK g.val) = false ∧
      t.hw.fbit (R.FLD_GRPg_STATUS_CARRIER g.val) = false ∧
      (t.hw.lnk g.val).restartAt = some (s.hw.clk.up + 10000000) ∧
      t.hw.fs g.val = ({} : Fs) ∧
      Raises s t [(0x4001, g.val, 2, 0)] ∧
      Frame [.fld, .evr] [R.FLD_GRPg_STATUS g.val, R.FLD_GRPg_ERR g.val] s t)) ∧
    ((s.hw.lnk g.val).restartAt = some x → s.hw.carrierMay g.val = true → Runs (.carrierRestart g) s (fun t =>
      t.hw.fbit (R.FLD_GRPg_STATUS_CARRIER g.val) = true ∧
      t.hw.fbit (R.FLD_GRPg_STATUS_STARTING g.val) = true ∧
      t.hw.fbit (R.FLD_GRPg_STATUS_BARRIER_OK g.val) = false ∧
      (t.hw.fs g.val).powered = true ∧
      (t.hw.fs g.val).autonomy = true ∧
      (t.hw.lnk g.val).restartAt = none ∧
      x ≤ t.hw.clk.up ∧
      Frame [.clk, .fld] [R.FLD_GRPg_STATUS g.val] s t)) ∧
    ((s.hw.lnk g.val).out = some w → (s.hw.lnk g.val).startAt = some x → (s.hw.fs g.val).powered = true → frameOk w = true → w < 2 ^ 72 → Runs (.fieldFrameReceive g (.frame 0) y) s (fun t =>
      (∀ z : Fin 8, ((t.hw.fs g.val).ch z.val).cmd = (frA w).testBit z.val ∧ ((t.hw.fs g.val).ch z.val).ctl = (frB w).testBit z.val) ∧
      (t.hw.fs g.val).valid = (s.hw.fs g.val).valid + 1 ∧
      (t.hw.fs g.val).lastAt = x ∧
      (t.hw.lnk g.val).out = none ∧
      (t.hw.lnk g.val).ret.isSome = true ∧
      x + 3200 ≤ t.hw.clk.up ∧
      Kept [.clk, .fld, .evr] s t)) ∧
    ((s.hw.lnk g.val).out = some w → (s.hw.lnk g.val).startAt = some x → (s.hw.fs g.val).powered = true → Runs (.fieldFrameReceive g .lost y) s (fun t =>
      (t.hw.fs g.val).loss = ((s.hw.fs g.val).loss + 1) % 8 ∧
      (t.hw.fs g.val).valid = 0 ∧
      (t.hw.lnk g.val).out = none ∧
      (t.hw.lnk g.val).ret = (s.hw.lnk g.val).ret ∧
      Frame [.clk, .fld] [] s t)) ∧
    ((s.hw.lnk g.val).ret = some w → (s.hw.lnk g.val).injCrc = 0 → frameOk w = true → w < 2 ^ 72 → frType w = 0 → (s.hw.lnk g.val).await = none → s.hw.mode = .run → s.hw.fbit (R.FLD_GRPg_STATUS_BARRIER_OK g.val) = true → Runs (.returnFrameCheck g (.frame 0)) s (fun t =>
      (∀ z : Fin 8, t.hw.fget (R.FLD_CHc_STATUS_STATE (g.val * 8 + z.val)) = b2n ((frA w).testBit z.val)) ∧
      (t.hw.img g.val).state = frA w ∧
      (t.hw.lnk g.val).seen = true ∧
      (t.hw.lnk g.val).missRun = 0 ∧
      (t.hw.lnk g.val).ret = none ∧
      t.hw.fbit (R.FLD_GRPg_STATUS_AUTONOMY g.val) = false ∧
      t.hw.fbit (R.FLD_GRPg_STATUS_SUPPLY_OK g.val) = (frWord w).testBit 31 ∧
      Kept [.clk, .tsk, .fld, .evr] s t)) ∧
    ((s.hw.lnk g.val).ret = some w → (s.hw.lnk g.val).injCrc = 0 → frameOk (w ^^^ m % 2 ^ 72) = false → Runs (.returnFrameCheck g (.frame m)) s (fun t =>
      (t.hw.lnk g.val) = { (s.hw.lnk g.val) with ret := none, injCrc := 0 } ∧
      t.hw.fs g.val = s.hw.fs g.val ∧
      t.hw.img g.val = s.hw.img g.val ∧
      Frame [.clk, .fld] [] s t)) ∧
    (s.hw.fbit (R.FLD_GRPg_STATUS_ZIREK g.val) = true → s.hw.carrierMay g.val = true → s.hw.pend = [] → (s.hw.lnk g.val).startAt.isSome = true → (s.hw.lnk g.val).seen = true → Runs (.zirekBoundary g) s (fun t =>
      (t.hw.lnk g.val).out = some (zirekOut (s.hw.lnk g.val).seq (s.hw.zirekByte g.val)) ∧
      (t.hw.lnk g.val).seq = ((s.hw.lnk g.val).seq + 1) % 8 ∧
      (t.hw.lnk g.val).startAt = some t.hw.clk.up ∧
      (t.hw.lnk g.val).seen = false ∧
      (∀ z : Fin 8, t.hw.chMode (g.val * 8 + z.val) = s.hw.fget (R.FLD_CHc_CFG_MODE (g.val * 8 + z.val)) % 2 ^ (R.FLD_CHc_STATUS_MODE_APPLIED 0).w) ∧
      Frame [.clk, .fld] [R.FLD_CHc_STATUS (g.val * 8 + 0), R.FLD_CHc_STATUS (g.val * 8 + 1), R.FLD_CHc_STATUS (g.val * 8 + 2), R.FLD_CHc_STATUS (g.val * 8 + 3), R.FLD_CHc_STATUS (g.val * 8 + 4), R.FLD_CHc_STATUS (g.val * 8 + 5), R.FLD_CHc_STATUS (g.val * 8 + 6), R.FLD_CHc_STATUS (g.val * 8 + 7)] s t)) ∧
    (s.hw.fbit (R.FLD_GRPg_STATUS_ZIREK g.val) = true → (s.hw.lnk g.val).startAt.isSome = true → (s.hw.lnk g.val).seen = false → zirekOk w ((s.hw.lnk g.val).seq + 7) = true → w.testBit 43 = false → s.hw.fbit (R.FLD_GRPg_STATUS_BARRIER_OK g.val) = true → s.hw.mode = .run → Runs (.zirekReturn g w) s (fun t =>
      (t.hw.lnk g.val).seen = true ∧
      (t.hw.lnk g.val).missRun = 0 ∧
      (t.hw.lnk g.val).flags = bitsOf w 24 8 ∧
      (t.hw.img g.val).state = bitsOf w 32 8 ∧
      t.hw.fbit (R.FLD_GRPg_STATUS_SUPPLY_OK g.val) = w.testBit 23 ∧
      t.hw.fbit (R.FLD_GRPg_STATUS_SUPPLY_LOW g.val) = w.testBit 22 ∧
      t.hw.fbit (R.FLD_GRPg_STATUS_AUTONOMY g.val) = w.testBit 21 ∧
      Kept [.clk, .tsk, .fld] s t)) ∧
    (s.hw.fbit (R.FLD_GRPg_STATUS_ZIREK g.val) = true → (s.hw.lnk g.val).startAt.isSome = true → (s.hw.lnk g.val).seen = false → zirekOk w ((s.hw.lnk g.val).seq + 7) = true → w.testBit 43 = true → s.hw.dirMatch g.val (bitsOf w 32 8) = true → 7 ≤ (s.hw.lnk g.val).goodRun → s.hw.fbit (R.FLD_GRPg_STATUS_BARRIER_OK g.val) = false → s.evRoom 1 → Runs (.zirekReturn g w) s (fun t =>
      (t.hw.lnk g.val).seen = true ∧
      t.hw.fbit (R.FLD_GRPg_STATUS_ID_OK g.val) = true ∧
      t.hw.fbit (R.FLD_GRPg_STATUS_BARRIER_OK g.val) = true ∧
      t.hw.fget (R.FLD_GRPg_ZIREK_UNIT_TYPE g.val) = bitsOf w 24 8 ∧
      t.hw.fget (R.FLD_GRPg_ZIREK_DIR_MAP g.val) = bitsOf w 32 8 ∧
      Raises s t [(0x4002, g.val, (t.hw.clk.up - (s.hw.lnk g.val).upFrom) / 1000, 0)] ∧
      Frame [.clk, .fld, .evr] [R.FLD_GRPg_STATUS g.val, R.FLD_GRPg_ZIREK g.val] s t)) ∧
    ((s.hw.fs g.val).powered = true → (s.hw.fs g.val).autonomy = true → (s.hw.fs g.val).valid = 0 → Runs (.autonomyReturnFrame g y) s (fun t =>
      (t.hw.lnk g.val).ret.isSome = true ∧
      (t.hw.fs g.val).retSeq = ((s.hw.fs g.val).retSeq + 1) % 8 ∧
      (t.hw.fs g.val).retAt = t.hw.clk.up ∧
      (s.hw.fs g.val).retAt + 5000 ≤ t.hw.clk.up ∧
      t.hw.img g.val = s.hw.img g.val ∧
      Frame [.clk, .fld] [] s t))

/-- A level that has held becomes the filtered state, or counts as a rise or fall; wire-break sets below 0.5 mA with 0x4008 and
clears with 0x4009. A DO switch that has limited for LIM_MS, or that reaches 150 °C, switches off with 0x400A or 0x400B and its
counters; the retry turns it on, a clear ends a latch, the inrush allowance lasts 20 ms. Supply measurements count towards the
flags, ten on the far side change one. A conversion latches; the burden limiter engages with 0x4012, disconnects after 100 ms with
0x4013, reconnects after 10 s with 0x4014. 16 µs without a valid frame lead to autonomy and the groundsheet states. Where the spec
leaves a point open the clauses follow the model's own reading (assumption log 2, 29, 62). (spec/08_field_digital.md R216,
spec/08_field_digital.md R223, spec/08_field_digital.md R225, spec/08_field_digital.md R226, spec/08_field_digital.md R230,
spec/08_field_digital.md R231, spec/08_field_digital.md R232, spec/08_field_digital.md R236, spec/08_field_digital.md R237,
spec/09_field_analogue.md R241, spec/09_field_analogue.md R244, spec/09_field_analogue.md R252) -/
def Obligations.FieldSideEvents : Prop :=
  ∀ (s : State) (g : Fin 6) (c : Fin 48) (x : FsCh) (f : Fs) (v : Int) (n : Nat) (w : Word) (l : Bool),
    (s.hw.fs g.val = f → f.powered = true → f.autonomy = false → Runs (.autonomyTimeout g) s (fun t =>
      (t.hw.fs g.val).autonomy = true ∧
      (t.hw.fs g.val).valid = 0 ∧
      f.lastAt + 16000 ≤ t.hw.clk.up ∧
      (∀ z : Fin 8, ((f.ch z.val).mode = 2 ∧ (f.ch z.val).shut = false ∧ (f.ch z.val).retry = false ∧ (f.ch z.val).test = none ∧ f.supOk = true ∧ f.off = false) → ((t.hw.fs g.val).ch z.val).on = (f.ch z.val).gs) ∧
      Frame [.clk, .fld] [] s t)) ∧
    (s.hw.fch c.val = x → x.mode = 1 → x.level v = x.filt → Runs (.diFilterExpiry c v) s (fun t =>
      (t.hw.fch c.val) = { x with lvl := x.level v } ∧
      Frame [.fld] [] s t)) ∧
    (s.hw.fch c.val = x → x.mode = 1 → x.level v ≠ x.filt → Runs (.diFilterExpiry c v) s (fun t =>
      (t.hw.fch c.val) = { x with lvl := x.level v, filt := x.level v, filtAt := t.hw.clk.up } ∧
      x.filtAt + max 1 (bitsOf (x.cfg 2) 0 16) * 1000 ≤ t.hw.clk.up ∧
      Frame [.clk, .fld] [] s t)) ∧
    (s.hw.fch c.val = x → x.mode = 1 → x.level v ≠ x.pcl → Runs (.pulseCount c v) s (fun t =>
      (t.hw.fch c.val) = { x with lvl := x.level v, pcl := x.level v, rises := (x.rises + b2n (x.level v)) % 16, falls := (x.falls + b2n (!x.level v)) % 16, pclAt := t.hw.clk.up } ∧
      x.pclAt + max 4 (bitsOf (x.cfg 2) 16 8) * 1000 ≤ t.hw.clk.up ∧
      Frame [.clk, .fld] [] s t)) ∧
    (s.hw.fch c.val = x → x.mode = 1 → (x.cfg 1).testBit 24 = true → x.wb = false → n < 50 → x.inj = none → s.evRoom 1 → Runs (.wirebreakSet c n) s (fun t =>
      (t.hw.fch c.val) = { x with wb := true, wbAt := t.hw.clk.up } ∧
      x.wbAt + 10000000 ≤ t.hw.clk.up ∧
      t.hw.fbit (R.FLD_CHc_STATUS_WB_SEEN c.val) = true ∧
      Raises s t [(0x4008, c.val, n, 0)] ∧
      Frame [.clk, .fld, .evr] [R.FLD_CHc_STATUS c.val] s t)) ∧
    (s.hw.fch c.val = x → x.wb = true → 100 ≤ n → x.inj = none → s.evRoom 1 → Runs (.wirebreakClear c n) s (fun t =>
      (t.hw.fch c.val) = { x with wb := false, wbAt := t.hw.clk.up } ∧
      x.wbAt + 10000000 ≤ t.hw.clk.up ∧
      Raises s t [(0x4009, c.val, 0, 0)] ∧
      Frame [.clk, .fld, .evr] [] s t)) ∧
    (s.hw.fch c.val = x → x.mode = 2 → x.on = true → x.limiting = true → x.inj = none → s.evRoom 1 → Runs (.overloadSwitchOff c n) s (fun t =>
      (t.hw.fch c.val).on = false ∧
      (t.hw.fch c.val).ovl = true ∧
      (t.hw.fch c.val).latched = (x.cfg 3).testBit 5 ∧
      t.hw.fbit (R.FLD_CHc_STATUS_OVL_SEEN c.val) = true ∧
      Raises s t [(0x400A, c.val, n, b2n ((x.cfg 3).testBit 5))] ∧
      x.limAt + max 1 (bitsOf (x.cfg 3) 8 8) * 1000000 ≤ t.hw.clk.up ∧
      t.hw.fget (R.FLD_CHc_STATUS_SHUTDOWNS c.val) = satInc (R.FLD_CHc_STATUS_SHUTDOWNS c.val).w (s.hw.fget (R.FLD_CHc_STATUS_SHUTDOWNS c.val)) ∧
      Frame [.clk, .fld, .evr] [R.FLD_CHc_STATUS c.val] s t)) ∧
    (s.hw.fch c.val = x → x.mode = 2 → (s.hw.fs (c.val / 8)).supOk = true → x.therm = false → s.evRoom 1 → Runs (.thermalSwitchOff c n) s (fun t =>
      (t.hw.fch c.val).on = false ∧
      (t.hw.fch c.val).therm = true ∧
      (t.hw.fch c.val).hot = true ∧
      t.hw.fbit (R.FLD_CHc_STATUS_THERM_SEEN c.val) = true ∧
      Raises s t [(0x400B, c.val, n, 0)] ∧
      t.hw.fget (R.FLD_CHc_STATUS_SHUTDOWNS c.val) = satInc (R.FLD_CHc_STATUS_SHUTDOWNS c.val).w (s.hw.fget (R.FLD_CHc_STATUS_SHUTDOWNS c.val)) ∧
      Frame [.fld, .evr] [R.FLD_CHc_STATUS c.val] s t)) ∧
    (s.hw.fch c.val = x → x.mode = 2 → (x.ovl = true ∨ x.therm = true) → x.latched = false → x.hot = false → (s.hw.fs (c.val / 8)).want x = true → Runs (.retryExpiry c) s (fun t =>
      (t.hw.fch c.val).on = true ∧
      (t.hw.fch c.val).ovl = false ∧
      (t.hw.fch c.val).therm = false ∧
      x.offAt + max 1 (bitsOf (x.cfg 3) 16 8) * 10000000 ≤ t.hw.clk.up ∧
      Frame [.clk, .fld] [] s t)) ∧
    (s.hw.fch c.val = x → x.inrush = true → Runs (.inrushExpiry c) s (fun t =>
      (t.hw.fch c.val) = { x with inrush := false } ∧
      x.onAt + 20000000 ≤ t.hw.clk.up ∧
      Frame [.clk, .fld] [] s t)) ∧
    (s.hw.fs g.val = f → f.powered = true → f.inj = none → Runs (.supplyMeasurement g n) s (fun t =>
      (t.hw.fs g.val = { f with supAt := t.hw.clk.up, supN := f.supN + 1, lplus := min 1023 n, okRun := if (f.far (s.hw.lowThresh g.val) n).1 then f.okRun + 1 else 0, lowRun := if (f.far (s.hw.lowThresh g.val) n).2.1 then f.lowRun + 1 else 0, overRun := if (f.far (s.hw.lowThresh g.val) n).2.2 then f.overRun + 1 else 0 }) ∧
      f.supAt + 10000 ≤ t.hw.clk.up ∧
      Frame [.clk, .fld] [] s t)) ∧
    (s.hw.fs g.val = f → f.powered = true → f.inj = none → 10 ≤ f.supN → f.supInit = true → f.supOk = true → 10 ≤ f.okRun → f.lowRun < 10 → f.overRun < 10 → s.evRoom 1 → Runs (.supplyFlagChange g) s (fun t =>
      (t.hw.fs g.val).supOk = false ∧
      (t.hw.fs g.val).supLow = f.supLow ∧
      (∀ z : Fin 8, ((t.hw.fs g.val).ch z.val).on = false) ∧
      Raises s t [(0x4004, g.val, f.lplus, 0)] ∧
      Frame [.fld, .evr] [] s t)) ∧
    (s.hw.fs g.val = f → f.powered = true → f.inj = none → 10 ≤ f.supN → f.supInit = true → f.okRun < 10 → f.supLow = false → 10 ≤ f.lowRun → f.overRun < 10 → s.evRoom 1 → Runs (.supplyFlagChange g) s (fun t =>
      (t.hw.fs g.val).supLow = true ∧
      (t.hw.fs g.val).supOk = f.supOk ∧
      Raises s t [(0x4006, g.val, f.lplus, 0)] ∧
      Frame [.fld, .evr] [] s t)) ∧
    (s.hw.fch c.val = x → x.mode = 3 → x.inj = none → s.tbRoom (x.convAt + x.convN * 5000) → Runs (.conversionEnd c v false) s (fun t =>
      (t.hw.fch c.val) = { x with conv := (max (-33554431) (min 33554431 v)), convAt := (x.convAt + x.convN * 5000), convEnd := (x.convAt + x.convN * 5000), convOk := true, adc := false } ∧
      (x.convAt + x.convN * 5000) ≤ t.hw.clk.tb ∧
      Frame [.clk, .fld] [] s t)) ∧
    (s.hw.fch c.val = x → x.mode = 3 → x.inj = none → x.adc = false → s.evRoom 1 → Runs (.conversionEnd c v true) s (fun t =>
      (t.hw.fch c.val).conv = (max (-33554431) (min 33554431 v)) ∧
      (t.hw.fch c.val).adc = true ∧
      Raises s t [(0x401C, c.val, 1, 0)] ∧
      Frame [.clk, .fld, .evr] [] s t)) ∧
    (s.hw.fch c.val = x → x.mode = 3 → x.disc = false → x.limiting = false → s.evRoom 1 → Runs (.limiterEngage c v) s (fun t =>
      (t.hw.fch c.val) = { x with limiting := true, lim := true, limAt := s.hw.clk.up } ∧
      t.hw.fbit (R.FLD_CHc_AN_STATUS_LIM_SEEN c.val) = true ∧
      Raises s t [(0x4012, c.val, (wInt v).toNat, 0)] ∧
      Frame [.fld, .evr] [R.FLD_CHc_AN_STATUS c.val] s t)) ∧
    (s.hw.fch c.val = x → x.mode = 3 → x.limiting = true → s.evRoom 1 → Runs (.limiterDisconnect c) s (fun t =>
      (t.hw.fch c.val).limiting = false ∧
      (t.hw.fch c.val).disc = true ∧
      (t.hw.fch c.val).discAt = t.hw.clk.up ∧
      x.limAt + 100000000 ≤ t.hw.clk.up ∧
      t.hw.fget (R.FLD_CHc_AN_STATUS_EPISODES c.val) = satInc (R.FLD_CHc_AN_STATUS_EPISODES c.val).w (s.hw.fget (R.FLD_CHc_AN_STATUS_EPISODES c.val)) ∧
      Raises s t [(0x4013, c.val, t.hw.fget (R.FLD_CHc_AN_STATUS_EPISODES c.val), 0)] ∧
      Frame [.clk, .fld, .evr] [R.FLD_CHc_AN_STATUS c.val] s t)) ∧
    (s.hw.fch c.val = x → x.disc = true → s.evRoom 1 → Runs (.limiterReconnect c) s (fun t =>
      (t.hw.fch c.val).disc = false ∧
      x.discAt + 10000000000 ≤ t.hw.clk.up ∧
      Raises s t [(0x4014, c.val, 0, 0)] ∧
      Frame [.clk, .fld, .evr] [] s t)) ∧
    (s.hw.fch c.val = x → x.lim = true → x.disc = false → x.inj = none → Runs (.limiterClear c) s (fun t =>
      (t.hw.fch c.val) = { x with lim := false, limiting := false } ∧
      Frame [.fld] [] s t)) ∧
    (s.hw.fch c.val = x → x.mode = 4 → x.therm ≠ l → s.evRoom 1 → Runs (.aoThermal c l) s (fun t =>
      (t.hw.fch c.val).therm = l ∧
      (l = true → (t.hw.fch c.val).drive = 0) ∧
      Raises s t [(0x401A, c.val, b2n l, 0)] ∧
      Frame [.fld, .evr] [] s t)) ∧
    (s.hw.fch c.val = x → c.val < 32 → w = BitVec.twoPow 32 c.val → x.latched = true → x.hot = false → s.evRoom 1 → Runs (.fldLatchClr false w) s (fun t =>
      (t.hw.fch c.val) = { x with latched := false, ovl := false, therm := false, zero := false } ∧
      Raises s t [(0x400C, c.val, 2, 0)] ∧
      Frame [.fld, .evr] [] s t)) ∧
    (s.hw.fch c.val = x → x.mode = 2 → x.latched = false → Runs (.doSwitchCooled c) s (fun t =>
      (t.hw.fch c.val).hot = false ∧
      ((x.retry = true ∧ (s.hw.fs (c.val / 8)).want x = true) → (t.hw.fch c.val).on = true ∧ (t.hw.fch c.val).therm = false) ∧
      Frame [.fld] [] s t))

/-- An admitted CHT_START puts its test on its channel: a TEST word waits for the line, or for AO the test registers name the
channel and its current; an invalid one answers VALUE. The end of a test records 0x4010 with CODE and PASS, completes its command
(DI and DO: PASS as the field side found it, AI: by the current measured, AO: by the readback against FLD_AN_TEST_NA), and the
channel shows its result with DONE; CHT_END ends a test with DURATION 0, or an AO one; a command on a channel without a test changes
nothing, CHT_END answers VALUE. A word of a table is written in STOP and SERVICE, OK follows the points, elsewhere the write is
rejected. FLD_AN_TEST and FLD_AN_TEST_NA are written while a test of their channel runs, else rejected. Where the spec leaves a
point open the clauses follow the model's own reading (assumption log 62, 63). (spec/08_field_digital.md R239,
spec/09_field_analogue.md R248, spec/09_field_analogue.md R256, spec/09_field_analogue.md R257) -/
def Obligations.ChannelTestsAndTables : Prop :=
  ∀ (s : State) (c : Fin 48) (v : Nat) (w : Word) (l : Bool) (d : Desc) (y : ChTest) (n : Fin 16) (i : Fin 64),
    (s.served d 0x0A01 → s.allows .cht { d with op := 0x0A01 } → s.hw.zirek (d.p0 / 8) = false → d.p0 < 48 → ((s.hw.fget (R.FLD_CHc_CFG_MODE d.p0) = 1 ∧ (d.p1 = 1 ∨ d.p1 = 2)) ∨ (s.hw.fget (R.FLD_CHc_CFG_MODE d.p0) = 2 ∧ 3 ≤ d.p1 ∧ d.p1 ≤ 6) ∨ (s.hw.fget (R.FLD_CHc_CFG_MODE d.p0) = 3 ∧ 1 ≤ d.p1 ∧ d.p1 ≤ 3)) → d.p2 < 65536 → Runs (.chtStart d) s (fun t =>
      t.hw.actRuns .cht = true ∧
      t.hw.hif.running = s.hw.hif.running ++ [{ d with op := 0x0A01 }] ∧
      t.hw.fld.tests = tput s.hw.fld.tests d.p0 { d := { d with op := 0x0A01 }, code := d.p1, dur := d.p2, start := s.hw.clk.up } ∧
      (t.hw.lnk (d.p0 / 8)).tests = (s.hw.lnk (d.p0 / 8)).tests ++ [d.p0 % 8 * 2 ^ 29 + d.p1 * 2 ^ 26 + d.p2] ∧
      Frame [.hif, .fld] [R.HIF_STATUS, R.SUP_ADMIT_STATUS] s t)) ∧
    (s.served d 0x0A01 → s.allows .cht { d with op := 0x0A01 } → s.hw.zirek (d.p0 / 8) = false → d.p0 < 48 → s.hw.fget (R.FLD_CHc_CFG_MODE d.p0) = 4 → d.p1 = 0 → Runs (.chtStart d) s (fun t =>
      t.hw.actRuns .cht = true ∧
      t.hw.hif.running = s.hw.hif.running ++ [{ d with op := 0x0A01 }] ∧
      t.hw.fld.tests = tput s.hw.fld.tests d.p0 { d := { d with op := 0x0A01 }, code := d.p1, dur := d.p2, start := s.hw.clk.up } ∧
      t.hw.fget R.FLD_AN_TEST_CHANNEL = d.p0 ∧
      t.hw.fbit R.FLD_AN_TEST_ACTIVE = true ∧
      t.hw.reg R.FLD_AN_TEST_NA = BitVec.ofNat 32 d.p2 ∧
      (t.hw.lnk (d.p0 / 8)).tests = (s.hw.lnk (d.p0 / 8)).tests ∧
      Frame [.hif, .fld] [R.HIF_STATUS, R.SUP_ADMIT_STATUS, R.FLD_AN_TEST, R.FLD_AN_TEST_NA] s t)) ∧
    (s.served d 0x0A01 → s.allows .cht { d with op := 0x0A01 } → (48 ≤ d.p0 ∨ s.hw.fget (R.FLD_CHc_CFG_MODE d.p0) = 0 ∨ 7 ≤ d.p1) → s.hw.fld.tests = [] → s.evRoom 1 → Runs (.chtStart d) s (fun t =>
      Answers s t (d.answer 0x0A01 stValue) ∧
      Raises s t [(0x7010, 0x0A01, d.src.code, stValue)] ∧
      t.hw.actRuns .cht = false ∧
      Frame [.hif, .evr] [R.HIF_STATUS, R.SUP_ADMIT_STATUS] s t)) ∧
    (s.hw.fld.tests = [(c.val, y)] → y.dur ≠ 0 → s.evRoom 2 → y.d.src.isEng = false → y.d.relayed = false → s.hw.hif.lost = [] → s.hw.fget (R.FLD_CHc_CFG_MODE c.val) = 2 → Runs (.channelTestEnd c l v) s (fun t =>
      t.hw.fld.tests = [] ∧
      t.hw.actRuns .cht = false ∧
      (t.hw.fch c.val).result = some (c.val % 8 * 2 ^ 29 + y.code % 8 * 2 ^ 26 + b2n (l) * 2 ^ 25 + 2 ^ 24 + v % 65536) ∧
      (Answers s t (y.d.answer y.d.op (if l then stOk else stFailed) (c.val % 8 * 2 ^ 29 + y.code % 8 * 2 ^ 26 + b2n (l) * 2 ^ 25 + 2 ^ 24 + v % 65536) (b2n (l)) 0 0 0x4010)) ∧
      (Raises s t [(0x4010, c.val, y.code, b2n (l)), (0x7010, y.d.op, y.d.src.code, if l then stOk else stFailed)]) ∧
      y.start + y.dur * 1000 ≤ t.hw.clk.up ∧
      Frame [.clk, .hif, .fld, .evr] [R.SUP_ADMIT_STATUS] s t)) ∧
    (s.hw.fld.tests = [(c.val, y)] → y.dur ≠ 0 → s.evRoom 2 → y.d.src.isEng = false → y.d.relayed = false → s.hw.hif.lost = [] → s.hw.fget (R.FLD_CHc_CFG_MODE c.val) = 1 → Runs (.channelTestEnd c l v) s (fun t =>
      t.hw.fld.tests = [] ∧
      t.hw.actRuns .cht = false ∧
      (t.hw.fch c.val).result = some (c.val % 8 * 2 ^ 29 + y.code % 8 * 2 ^ 26 + b2n (l) * 2 ^ 25 + 2 ^ 24 + v % 65536) ∧
      (Answers s t (y.d.answer y.d.op (if l then stOk else stFailed) (c.val % 8 * 2 ^ 29 + y.code % 8 * 2 ^ 26 + b2n (l) * 2 ^ 25 + 2 ^ 24 + v % 65536) (b2n (l)) 0 0 0x4010)) ∧
      (Raises s t [(0x4010, c.val, y.code, b2n (l)), (0x7010, y.d.op, y.d.src.code, if l then stOk else stFailed)]) ∧
      y.start + y.dur * 1000 ≤ t.hw.clk.up ∧
      Frame [.clk, .hif, .fld, .evr] [R.SUP_ADMIT_STATUS] s t)) ∧
    (s.hw.fld.tests = [(c.val, y)] → y.dur ≠ 0 → s.evRoom 2 → y.d.src.isEng = false → y.d.relayed = false → s.hw.hif.lost = [] → s.hw.fget (R.FLD_CHc_CFG_MODE c.val) = 3 → y.code = 1 → Runs (.channelTestEnd c l v) s (fun t =>
      t.hw.fld.tests = [] ∧
      t.hw.actRuns .cht = false ∧
      (t.hw.fch c.val).result = some (c.val % 8 * 2 ^ 29 + y.code % 8 * 2 ^ 26 + b2n (v % 65536 ≥ 3900 ∧ v % 65536 ≤ 4100) * 2 ^ 25 + 2 ^ 24 + v % 65536) ∧
      (Answers s t (y.d.answer y.d.op (if v % 65536 ≥ 3900 ∧ v % 65536 ≤ 4100 then stOk else stFailed) (c.val % 8 * 2 ^ 29 + y.code % 8 * 2 ^ 26 + b2n (v % 65536 ≥ 3900 ∧ v % 65536 ≤ 4100) * 2 ^ 25 + 2 ^ 24 + v % 65536) (b2n (v % 65536 ≥ 3900 ∧ v % 65536 ≤ 4100)) 0 0 0x4010)) ∧
      (Raises s t [(0x4010, c.val, y.code, b2n (v % 65536 ≥ 3900 ∧ v % 65536 ≤ 4100)), (0x7010, y.d.op, y.d.src.code, if v % 65536 ≥ 3900 ∧ v % 65536 ≤ 4100 then stOk else stFailed)]) ∧
      y.start + y.dur * 1000 ≤ t.hw.clk.up ∧
      Frame [.clk, .hif, .fld, .evr] [R.SUP_ADMIT_STATUS] s t)) ∧
    (s.hw.fld.tests = [(c.val, y)] → y.dur ≠ 0 → s.evRoom 2 → y.d.src.isEng = false → y.d.relayed = false → s.hw.hif.lost = [] → s.hw.fget (R.FLD_CHc_CFG_MODE c.val) = 3 → y.code = 2 → Runs (.channelTestEnd c l v) s (fun t =>
      t.hw.fld.tests = [] ∧
      t.hw.actRuns .cht = false ∧
      (t.hw.fch c.val).result = some (c.val % 8 * 2 ^ 29 + y.code % 8 * 2 ^ 26 + b2n (v % 65536 ≥ 19900 ∧ v % 65536 ≤ 20100) * 2 ^ 25 + 2 ^ 24 + v % 65536) ∧
      (Answers s t (y.d.answer y.d.op (if v % 65536 ≥ 19900 ∧ v % 65536 ≤ 20100 then stOk else stFailed) (c.val % 8 * 2 ^ 29 + y.code % 8 * 2 ^ 26 + b2n (v % 65536 ≥ 19900 ∧ v % 65536 ≤ 20100) * 2 ^ 25 + 2 ^ 24 + v % 65536) (b2n (v % 65536 ≥ 19900 ∧ v % 65536 ≤ 20100)) 0 0 0x4010)) ∧
      (Raises s t [(0x4010, c.val, y.code, b2n (v % 65536 ≥ 19900 ∧ v % 65536 ≤ 20100)), (0x7010, y.d.op, y.d.src.code, if v % 65536 ≥ 19900 ∧ v % 65536 ≤ 20100 then stOk else stFailed)]) ∧
      y.start + y.dur * 1000 ≤ t.hw.clk.up ∧
      Frame [.clk, .hif, .fld, .evr] [R.SUP_ADMIT_STATUS] s t)) ∧
    (s.hw.fld.tests = [(c.val, y)] → y.dur ≠ 0 → s.evRoom 2 → y.d.src.isEng = false → y.d.relayed = false → s.hw.hif.lost = [] → s.hw.fget (R.FLD_CHc_CFG_MODE c.val) = 3 → y.code = 3 → Runs (.channelTestEnd c l v) s (fun t =>
      t.hw.fld.tests = [] ∧
      t.hw.actRuns .cht = false ∧
      (t.hw.fch c.val).result = some (c.val % 8 * 2 ^ 29 + y.code % 8 * 2 ^ 26 + b2n ((s.hw.fch c.val).lim = true ∧ v % 65536 ≥ 28000 ∧ v % 65536 ≤ 32000) * 2 ^ 25 + 2 ^ 24 + v % 65536) ∧
      (Answers s t (y.d.answer y.d.op (if (s.hw.fch c.val).lim = true ∧ v % 65536 ≥ 28000 ∧ v % 65536 ≤ 32000 then stOk else stFailed) (c.val % 8 * 2 ^ 29 + y.code % 8 * 2 ^ 26 + b2n ((s.hw.fch c.val).lim = true ∧ v % 65536 ≥ 28000 ∧ v % 65536 ≤ 32000) * 2 ^ 25 + 2 ^ 24 + v % 65536) (b2n ((s.hw.fch c.val).lim = true ∧ v % 65536 ≥ 28000 ∧ v % 65536 ≤ 32000)) 0 0 0x4010)) ∧
      (Raises s t [(0x4010, c.val, y.code, b2n ((s.hw.fch c.val).lim = true ∧ v % 65536 ≥ 28000 ∧ v % 65536 ≤ 32000)), (0x7010, y.d.op, y.d.src.code, if (s.hw.fch c.val).lim = true ∧ v % 65536 ≥ 28000 ∧ v % 65536 ≤ 32000 then stOk else stFailed)]) ∧
      y.start + y.dur * 1000 ≤ t.hw.clk.up ∧
      Frame [.clk, .hif, .fld, .evr] [R.SUP_ADMIT_STATUS] s t)) ∧
    (s.hw.fld.tests = [] → Runs (.channelTestEnd c l v) s (fun t =>
      t.hw = s.hw ∧
      Frame [] [] s t)) ∧
    (s.served d 0x0A02 → s.hw.fld.tests = [(d.p0, y)] → y.dur = 0 → s.evRoom 3 → s.hw.fget (R.FLD_CHc_CFG_MODE d.p0) = 2 → y.d.src.isEng = false → y.d.relayed = false → s.hw.hif.lost = [] → Runs (.chtEnd d) s (fun t =>
      t.hw.fld.tests = [] ∧
      t.hw.actRuns .cht = false ∧
      (t.hw.fch d.p0).result = some (d.p0 % 8 * 2 ^ 29 + y.code % 8 * 2 ^ 26 + b2n (d.aux.testBit 16) * 2 ^ 25 + 2 ^ 24 + d.aux % 65536) ∧
      (t.hw.hif.done = s.hw.hif.done ++ [(y.d.answer y.d.op (if d.aux.testBit 16 then stOk else stFailed) (d.p0 % 8 * 2 ^ 29 + y.code % 8 * 2 ^ 26 + b2n (d.aux.testBit 16) * 2 ^ 25 + 2 ^ 24 + d.aux % 65536) (b2n (d.aux.testBit 16)) 0 0 0x4010), d.answer 0x0A02 stOk]) ∧
      (Raises s t [(0x4010, d.p0, y.code, b2n (d.aux.testBit 16)), (0x7010, y.d.op, y.d.src.code, if d.aux.testBit 16 then stOk else stFailed), (0x7010, 0x0A02, d.src.code, stOk)]) ∧
      Frame [.hif, .fld, .evr] [R.HIF_STATUS, R.SUP_ADMIT_STATUS] s t)) ∧
    (s.served d 0x0A02 → s.hw.fld.tests = [(d.p0, y)] → s.evRoom 3 → s.hw.fget (R.FLD_CHc_CFG_MODE d.p0) = 4 → s.hw.fget R.FLD_AN_TEST_CHANNEL = d.p0 → y.d.src.isEng = false → y.d.relayed = false → s.hw.hif.lost = [] → Runs (.chtEnd d) s (fun t =>
      t.hw.fld.tests = [] ∧
      t.hw.actRuns .cht = false ∧
      t.hw.fbit R.FLD_AN_TEST_ACTIVE = false ∧
      t.hw.fbit R.FLD_AN_TEST_PASS = decide (((s.hw.fch d.p0).conv - sx 32 (s.hw.fget R.FLD_AN_TEST_NA_CMD_NA)).natAbs ≤ 100000) ∧
      (t.hw.hif.done = s.hw.hif.done ++ [(y.d.answer y.d.op (if (((s.hw.fch d.p0).conv - sx 32 (s.hw.fget R.FLD_AN_TEST_NA_CMD_NA)).natAbs ≤ 100000) then stOk else stFailed) (d.p0 % 8 * 2 ^ 29 + y.code % 8 * 2 ^ 26 + b2n ((((s.hw.fch d.p0).conv - sx 32 (s.hw.fget R.FLD_AN_TEST_NA_CMD_NA)).natAbs ≤ 100000)) * 2 ^ 25 + 2 ^ 24 + ((wInt ((s.hw.fch d.p0).conv / 1000)).toNat) % 65536) (b2n ((((s.hw.fch d.p0).conv - sx 32 (s.hw.fget R.FLD_AN_TEST_NA_CMD_NA)).natAbs ≤ 100000))) 0 0 0x4010), d.answer 0x0A02 stOk]) ∧
      (Raises s t [(0x4010, d.p0, y.code, b2n ((((s.hw.fch d.p0).conv - sx 32 (s.hw.fget R.FLD_AN_TEST_NA_CMD_NA)).natAbs ≤ 100000))), (0x7010, y.d.op, y.d.src.code, if (((s.hw.fch d.p0).conv - sx 32 (s.hw.fget R.FLD_AN_TEST_NA_CMD_NA)).natAbs ≤ 100000) then stOk else stFailed), (0x7010, 0x0A02, d.src.code, stOk)]) ∧
      Frame [.hif, .fld, .evr] [R.HIF_STATUS, R.SUP_ADMIT_STATUS, R.FLD_AN_TEST] s t)) ∧
    (s.served d 0x0A02 → s.hw.fld.tests = [] → s.evRoom 1 → Runs (.chtEnd d) s (fun t =>
      Answers s t (d.answer 0x0A02 stValue) ∧
      Frame [.hif, .evr] [R.HIF_STATUS] s t)) ∧
    (s.hw.stopClass = true → Runs (.tableWrite n (some i) w) s (fun t =>
      t.hw.reg (R.FLD_TBLt_Xi n.val 0 + 4 * i.val) = w ∧
      t.hw.fbit (R.FLD_TBL_CTRLt_OK n.val) = (decide (2 ≤ t.hw.fget (R.FLD_TBL_CTRLt_N n.val) ∧ t.hw.fget (R.FLD_TBL_CTRLt_N n.val) ≤ 32) && (List.range (t.hw.fget (R.FLD_TBL_CTRLt_N n.val) - 1)).all (fun (z : Nat) => (t.hw.reg (R.FLD_TBLt_Xi n.val z)).slt (t.hw.reg (R.FLD_TBLt_Xi n.val (z + 1))))) ∧
      Frame [.fld] [(R.FLD_TBLt_Xi n.val 0 + 4 * i.val), (R.FLD_TBL_CTRLt n.val)] s t)) ∧
    (s.hw.stopClass = true → Runs (.tableWrite n none w) s (fun t =>
      t.hw.fget (R.FLD_TBL_CTRLt_N n.val) = w.toNat % 64 ∧
      t.hw.fbit (R.FLD_TBL_CTRLt_OK n.val) = (decide (2 ≤ t.hw.fget (R.FLD_TBL_CTRLt_N n.val) ∧ t.hw.fget (R.FLD_TBL_CTRLt_N n.val) ≤ 32) && (List.range (t.hw.fget (R.FLD_TBL_CTRLt_N n.val) - 1)).all (fun (z : Nat) => (t.hw.reg (R.FLD_TBLt_Xi n.val z)).slt (t.hw.reg (R.FLD_TBLt_Xi n.val (z + 1))))) ∧
      Frame [.fld] [(R.FLD_TBL_CTRLt n.val)] s t)) ∧
    (s.hw.stopClass = false → Runs (.tableWrite n none w) s (fun t =>
      t.hw.fbit (R.BLOCK_STATUS_REJECT 4) = true ∧
      t.hw.reg (R.FLD_TBL_CTRLt n.val) = s.hw.reg (R.FLD_TBL_CTRLt n.val) ∧
      Frame [] [R.BLOCK_STATUS 4] s t)) ∧
    (s.hw.fld.tests = [(c.val, y)] → s.hw.fget (R.FLD_CHc_CFG_MODE c.val) = 4 → w.toNat % 64 = c.val → Runs (.fldAnTestWrite false w) s (fun t =>
      t.hw.fget R.FLD_AN_TEST_CHANNEL = c.val ∧
      t.hw.fbit R.FLD_AN_TEST_ACTIVE = s.hw.fbit R.FLD_AN_TEST_ACTIVE ∧
      Frame [] [R.FLD_AN_TEST] s t)) ∧
    (s.hw.fld.tests = [(c.val, y)] → s.hw.fget (R.FLD_CHc_CFG_MODE c.val) = 4 → s.hw.fget R.FLD_AN_TEST_CHANNEL = c.val → Runs (.fldAnTestWrite true w) s (fun t =>
      t.hw.reg R.FLD_AN_TEST_NA = w ∧
      Frame [] [R.FLD_AN_TEST_NA] s t)) ∧
    (s.hw.fld.tests = [] → Runs (.fldAnTestWrite l w) s (fun t =>
      t.hw.fbit (R.BLOCK_STATUS_REJECT 4) = true ∧
      t.hw.reg R.FLD_AN_TEST_NA = s.hw.reg R.FLD_AN_TEST_NA ∧
      Frame [] [R.BLOCK_STATUS 4] s t))

/-- GO reads the ring table: enabled valid rings start with SQ_CONS = SQ_PROD and CQ_PROD = CQ_CONS, invalid ones go into error with
0x7003 reason 1. A poll takes a ring's indices; a SQ_PROD out of range is reason 2, a failed descriptor read reason 3. A fetch takes
at most 8 descriptors, each with its slot, into the SUP queue, then SQ_CONS is written. A completion is written with the buffer, the
entry, CQ_PROD and the message, in this order; without room it waits, 0x7005 once. GO = 0 stops every ring. A link loss resets GO,
the doorbell address and POLL_US, discards completions, 0x7002. Short engineering requests get Me, repeats their stored reply,
permitted ones run. Where the spec leaves a point open the clauses follow the model's own reading (assumption log 45, 81, 82, 83).
(spec/12_host_rings.md R324, spec/12_host_rings.md R327, spec/12_host_rings.md R328, spec/12_host_rings.md R329,
spec/12_host_rings.md R330, spec/12_host_rings.md R331, spec/12_host_rings.md R332, spec/12_host_rings.md R333,
spec/12_host_rings.md R343, spec/12_host_rings.md R345, spec/12_host_rings.md R346, spec/12_host_rings.md R347) -/
def Obligations.HostRings : Prop :=
  ∀ (s : State) (r : Fin 8) (v : BitVec 8) (tb : List RingIn) (fs : List (Option (List Desc))) (is : List (Nat × Nat)) (a : Nat) (b : Nat) (ds : List Desc) (c : Compl) (x : Fin 3) (g : Bool) (w : Bool) (m : Msg) (l : List Msg) (d : Desc) (e : Compl),
    (s.hw.fbit R.HIF_CTRL_GO = false → s.evRoom 8 → Runs (.go v tb) s (fun t =>
      t.hw.fbit R.HIF_CTRL_GO = true ∧
      t.hw.fget R.HIF_CTRL_POLL_US = v.toNat ∧
      (∀ z : Fin 8, t.hw.ring z.val = (if (tb.getD z.val {}).w10.testBit 4 = true then ({ sqBase := (tb.getD z.val {}).sqBase, cqBase := (tb.getD z.val {}).cqBase, sizeLog2 := bitsOf (tb.getD z.val {}).w10 0 4, on := decide (4 ≤ bitsOf (tb.getD z.val {}).w10 0 4 ∧ bitsOf (tb.getD z.val {}).w10 0 4 ≤ 12 ∧ (tb.getD z.val {}).sqBase % 64 = 0 ∧ (tb.getD z.val {}).cqBase % 64 = 0 ∧ bitsOf (tb.getD z.val {}).w10 12 20 = 0 ∧ (tb.getD z.val {}).resv = false), err := !decide (4 ≤ bitsOf (tb.getD z.val {}).w10 0 4 ∧ bitsOf (tb.getD z.val {}).w10 0 4 ≤ 12 ∧ (tb.getD z.val {}).sqBase % 64 = 0 ∧ (tb.getD z.val {}).cqBase % 64 = 0 ∧ bitsOf (tb.getD z.val {}).w10 12 20 = 0 ∧ (tb.getD z.val {}).resv = false), prio := bitsOf (tb.getD z.val {}).w10 5 3, vector := bitsOf (tb.getD z.val {}).w10 8 4, sqProd := (tb.getD z.val {}).sqProd, sqCons := (tb.getD z.val {}).sqProd, cqProd := (tb.getD z.val {}).cqCons, cqCons := (tb.getD z.val {}).cqCons, start := (tb.getD z.val {}).cqCons } : Ring) else {})) ∧
      t.hw.fget R.HIF_STATUS_RING_ON = mask8 (fun (z : Nat) => decide ((tb.getD z {}).w10.testBit 4 = true ∧ (4 ≤ bitsOf (tb.getD z {}).w10 0 4 ∧ bitsOf (tb.getD z {}).w10 0 4 ≤ 12 ∧ (tb.getD z {}).sqBase % 64 = 0 ∧ (tb.getD z {}).cqBase % 64 = 0 ∧ bitsOf (tb.getD z {}).w10 12 20 = 0 ∧ (tb.getD z {}).resv = false))) ∧
      t.hw.fget R.HIF_STATUS_RING_ERR = mask8 (fun (z : Nat) => decide ((tb.getD z {}).w10.testBit 4 = true ∧ ¬(4 ≤ bitsOf (tb.getD z {}).w10 0 4 ∧ bitsOf (tb.getD z {}).w10 0 4 ≤ 12 ∧ (tb.getD z {}).sqBase % 64 = 0 ∧ (tb.getD z {}).cqBase % 64 = 0 ∧ bitsOf (tb.getD z {}).w10 12 20 = 0 ∧ (tb.getD z {}).resv = false))) ∧
      Raises s t (((List.range 8).filter (fun (z : Nat) => decide ((tb.getD z {}).w10.testBit 4 = true ∧ ¬(4 ≤ bitsOf (tb.getD z {}).w10 0 4 ∧ bitsOf (tb.getD z {}).w10 0 4 ≤ 12 ∧ (tb.getD z {}).sqBase % 64 = 0 ∧ (tb.getD z {}).cqBase % 64 = 0 ∧ bitsOf (tb.getD z {}).w10 12 20 = 0 ∧ (tb.getD z {}).resv = false)))).map (fun (z : Nat) => (0x7003, z, 1, 0))) ∧
      Frame [.hif, .evr] [R.HIF_CTRL, R.HIF_STATUS] s t)) ∧
    (s.hw.fbit R.HIF_CTRL_GO = true → Runs (.go v tb) s (fun t =>
      t.hw.fget R.HIF_CTRL_POLL_US = v.toNat ∧
      t.hw.hif.rings = s.hw.hif.rings ∧
      t.hw.fbit R.HIF_CTRL_GO = true ∧
      Frame [.hif] [R.HIF_CTRL] s t)) ∧
    (Runs (.goClear v) s (fun t =>
      t.hw.fbit R.HIF_CTRL_GO = false ∧
      t.hw.fget R.HIF_CTRL_POLL_US = v.toNat ∧
      (∀ z : Fin 8, t.hw.ring z.val = { s.hw.ring z.val with on := false }) ∧
      t.hw.fget R.HIF_STATUS_RING_ON = 0 ∧
      t.hw.hif.queue = s.hw.hif.queue ∧
      t.hw.hif.running = s.hw.hif.running ∧
      t.hw.hif.done = s.hw.hif.done ∧
      Frame [.hif] [R.HIF_CTRL, R.HIF_STATUS] s t)) ∧
    (s.hw.fbit R.HIF_CTRL_GO = true → s.hw.fbit R.HIF_STATUS_READY = true → s.hw.fbit R.HIF_LINK_UP = true → s.hw.mode ≠ .boot → s.hw.mode ≠ .parked → (s.hw.ring r.val).on = true → s.hw.hif.injPoll = none → is.getD r.val (0, 0) = (a, b) → r.val < is.length → a < 2 ^ 32 → b < 2 ^ 32 → (a + 2 ^ 32 - (s.hw.ring r.val).sqCons) % 2 ^ 32 ≤ 2 ^ (s.hw.ring r.val).sizeLog2 → Runs (.doorbellPoll is) s (fun t =>
      (t.hw.ring r.val) = { (s.hw.ring r.val) with sqProd := a, cqCons := b } ∧
      s.hw.hif.pollAt + max 1 (s.hw.fget R.HIF_CTRL_POLL_US) * 1000 ≤ t.hw.clk.up ∧
      Kept [.clk, .hif, .evr] s t)) ∧
    (s.hw.fbit R.HIF_CTRL_GO = true → s.hw.fbit R.HIF_STATUS_READY = true → s.hw.fbit R.HIF_LINK_UP = true → s.hw.mode ≠ .boot → s.hw.mode ≠ .parked → (s.hw.ring r.val).on = true → s.hw.hif.injPoll = none → is.getD r.val (0, 0) = (a, b) → r.val < is.length → a < 2 ^ 32 → b < 2 ^ 32 → 2 ^ (s.hw.ring r.val).sizeLog2 < (a + 2 ^ 32 - (s.hw.ring r.val).sqCons) % 2 ^ 32 → s.evRoom 8 → Runs (.doorbellPoll is) s (fun t =>
      (t.hw.ring r.val).on = false ∧
      (t.hw.ring r.val).err = true ∧
      (t.hw.fget R.HIF_STATUS_RING_ERR).testBit r.val = true ∧
      (t.hw.fget R.HIF_STATUS_RING_ON).testBit r.val = false ∧
      Records s t (0x7003, r.val, 2, 0) ∧
      s.hw.hif.pollAt + max 1 (s.hw.fget R.HIF_CTRL_POLL_US) * 1000 ≤ t.hw.clk.up ∧
      Kept [.clk, .hif, .evr] s t)) ∧
    (s.hw.fbit R.HIF_CTRL_GO = true → s.hw.fbit R.HIF_STATUS_READY = true → s.hw.fbit R.HIF_LINK_UP = true → s.hw.mode ≠ .boot → s.hw.mode ≠ .parked → (s.hw.ring r.val).on = true → (∀ z : Fin 8, z ≠ r → (s.hw.ring z.val).on = false) → s.hw.overCompl r.val < 16 → (s.hw.ring r.val).sqCons < 2 ^ 32 → (s.hw.ring r.val).prio < 8 → fs.getD r.val (some []) = some ds → (∀ z : Desc, z ∈ ds → z.unknown = none) → s.hw.hif.queue.length + 8 ≤ 64 → ds.length = (min 8 (((s.hw.ring r.val).sqProd + 2 ^ 32 - (s.hw.ring r.val).sqCons) % 2 ^ 32)) → ds ≠ [] → Runs (.descriptorFetchDone fs) s (fun t =>
      t.hw.hif.queue = s.hw.hif.queue ++ ds.zipIdx.map (fun (z : Desc × Nat) => { z.1 with src := Src.ring r.val (((s.hw.ring r.val).sqCons + z.2) % 2 ^ 32 % 2 ^ (s.hw.ring r.val).sizeLog2) }) ∧
      (t.hw.ring r.val) = { (s.hw.ring r.val) with sqCons := ((s.hw.ring r.val).sqCons + ds.length) % 2 ^ 32 } ∧
      t.hw.fget R.HIF_STATUS_QUEUED = s.hw.hif.queue.length + ds.length ∧
      t.hw.hif.out = s.hw.hif.out ++ [HostOut.sqCons r.val (((s.hw.ring r.val).sqCons + ds.length) % 2 ^ 32)] ∧
      Frame [.hif] [R.HIF_STATUS] s t)) ∧
    (s.hw.fbit R.HIF_CTRL_GO = true → s.hw.fbit R.HIF_STATUS_READY = true → s.hw.fbit R.HIF_LINK_UP = true → s.hw.mode ≠ .boot → s.hw.mode ≠ .parked → (s.hw.ring r.val).on = true → (∀ z : Fin 8, z ≠ r → (s.hw.ring z.val).on = false) → (s.hw.ring r.val).sqProd ≠ (s.hw.ring r.val).sqCons → (s.hw.ring r.val).sqProd < 2 ^ 32 → (s.hw.ring r.val).sqCons < 2 ^ 32 → fs.getD r.val (some []) = none → s.evRoom 1 → Runs (.descriptorFetchDone fs) s (fun t =>
      t.hw.hif.queue = s.hw.hif.queue ∧
      (t.hw.ring r.val) = { (s.hw.ring r.val) with on := false, err := true } ∧
      Raises s t [(0x7003, r.val, 3, 0)] ∧
      t.hw.hif.out = s.hw.hif.out ∧
      Frame [.hif, .evr] [R.HIF_STATUS] s t)) ∧
    (s.hw.hif.done = [c] → c.src = .ring r.val a → s.hw.hif.injHold = none → (s.hw.ring r.val).sizeLog2 ≠ 0 → (s.hw.ring r.val).holdUntil ≤ s.hw.clk.up → s.hw.sup.resetDue = none → ((s.hw.ring r.val).cqProd + 2 ^ 32 - (s.hw.ring r.val).cqCons) % 2 ^ 32 < 2 ^ (s.hw.ring r.val).sizeLog2 → c.noirq = true → Runs (.completionWrite) s (fun t =>
      t.hw.hif.done = [] ∧
      (t.hw.ring r.val) = { (s.hw.ring r.val) with cqProd := ((s.hw.ring r.val).cqProd + 1) % 2 ^ 32 } ∧
      (t.hw.hif.out = s.hw.hif.out ++ (if c.out = [] then [] else [HostOut.buffer c.addr c.out]) ++ [HostOut.compl r.val ((s.hw.ring r.val).cqProd % 2 ^ (s.hw.ring r.val).sizeLog2) [c.op % 2 ^ 16 + c.status % 2 ^ 8 * 2 ^ 16 + b2n (((s.hw.ring r.val).cqProd / 2 ^ (s.hw.ring r.val).sizeLog2 + (s.hw.ring r.val).start / 2 ^ (s.hw.ring r.val).sizeLog2) % 2 == 0) * 2 ^ 24, c.tag, a, c.out.length, c.res0, c.res1, c.res2, c.detail % 2 ^ 16 + c.event % 2 ^ 16 * 2 ^ 16], HostOut.cqProd r.val (((s.hw.ring r.val).cqProd + 1) % 2 ^ 32)]) ∧
      Frame [.hif] [] s t)) ∧
    (s.hw.hif.done = [c] → c.src = .ring r.val a → s.hw.hif.injHold = none → (s.hw.ring r.val).sizeLog2 ≠ 0 → (s.hw.ring r.val).holdUntil ≤ s.hw.clk.up → s.hw.sup.resetDue = none → ((s.hw.ring r.val).cqProd + 2 ^ 32 - (s.hw.ring r.val).cqCons) % 2 ^ 32 < 2 ^ (s.hw.ring r.val).sizeLog2 → c.noirq = false → s.hw.msix (4 * (s.hw.ring r.val).vector + 3) = 0#32 → Runs (.completionWrite) s (fun t =>
      t.hw.hif.done = [] ∧
      (t.hw.ring r.val) = { (s.hw.ring r.val) with cqProd := ((s.hw.ring r.val).cqProd + 1) % 2 ^ 32 } ∧
      (t.hw.hif.out = s.hw.hif.out ++ (if c.out = [] then [] else [HostOut.buffer c.addr c.out]) ++ [HostOut.compl r.val ((s.hw.ring r.val).cqProd % 2 ^ (s.hw.ring r.val).sizeLog2) [c.op % 2 ^ 16 + c.status % 2 ^ 8 * 2 ^ 16 + b2n (((s.hw.ring r.val).cqProd / 2 ^ (s.hw.ring r.val).sizeLog2 + (s.hw.ring r.val).start / 2 ^ (s.hw.ring r.val).sizeLog2) % 2 == 0) * 2 ^ 24, c.tag, a, c.out.length, c.res0, c.res1, c.res2, c.detail % 2 ^ 16 + c.event % 2 ^ 16 * 2 ^ 16], HostOut.cqProd r.val (((s.hw.ring r.val).cqProd + 1) % 2 ^ 32)] ++ [HostOut.msi ((s.hw.msix (4 * (s.hw.ring r.val).vector)).toNat + (s.hw.msix (4 * (s.hw.ring r.val).vector + 1)).toNat * 2 ^ 32) (s.hw.msix (4 * (s.hw.ring r.val).vector + 2)).toNat]) ∧
      Frame [.hif] [] s t)) ∧
    (s.hw.hif.done = [c] → c.src = .ring r.val a → s.hw.hif.injHold = none → (s.hw.ring r.val).sizeLog2 ≠ 0 → (s.hw.ring r.val).holdUntil ≤ s.hw.clk.up → ((s.hw.ring r.val).cqProd + 2 ^ 32 - (s.hw.ring r.val).cqCons) % 2 ^ 32 < 2 ^ (s.hw.ring r.val).sizeLog2 → c.noirq = true → c.op = 0x0101 → s.hw.sup.resetDue = some b → Runs (.completionWrite) s (fun t =>
      t.hw.hif.done = [] ∧
      (t.hw.ring r.val) = { (s.hw.ring r.val) with cqProd := ((s.hw.ring r.val).cqProd + 1) % 2 ^ 32 } ∧
      t.hw.sup.resetDue = some (s.hw.clk.up + 1000000) ∧
      Frame [.hif, .sup] [] s t)) ∧
    (s.hw.hif.done = [c] → c.src = .ring r.val a → s.hw.hif.injHold = none → (s.hw.ring r.val).sizeLog2 ≠ 0 → (s.hw.ring r.val).holdUntil ≤ s.hw.clk.up → 2 ^ (s.hw.ring r.val).sizeLog2 ≤ ((s.hw.ring r.val).cqProd + 2 ^ 32 - (s.hw.ring r.val).cqCons) % 2 ^ 32 → (s.hw.ring r.val).fullSeen = false → s.evRoom 1 → Runs (.completionWrite) s (fun t =>
      t.hw.hif.done = [c] ∧
      t.hw.hif.out = s.hw.hif.out ∧
      (t.hw.ring r.val) = { (s.hw.ring r.val) with fullSeen := true } ∧
      Raises s t [(0x7005, r.val, 0, 0)] ∧
      Frame [.hif, .evr] [] s t)) ∧
    (s.hw.hif.done = [c] → c.src = .ring r.val a → (s.hw.ring r.val).sizeLog2 ≠ 0 → ((s.hw.ring r.val).cqProd + 2 ^ 32 - (s.hw.ring r.val).cqCons) % 2 ^ 32 < 2 ^ (s.hw.ring r.val).sizeLog2 → c.noirq = true → s.hw.sup.resetDue = none → Runs (.completionRoom r) s (fun t =>
      t.hw.hif.done = [] ∧
      (t.hw.ring r.val) = { (s.hw.ring r.val) with cqProd := ((s.hw.ring r.val).cqProd + 1) % 2 ^ 32, fullSeen := false } ∧
      (t.hw.hif.out = s.hw.hif.out ++ (if c.out = [] then [] else [HostOut.buffer c.addr c.out]) ++ [HostOut.compl r.val ((s.hw.ring r.val).cqProd % 2 ^ (s.hw.ring r.val).sizeLog2) [c.op % 2 ^ 16 + c.status % 2 ^ 8 * 2 ^ 16 + b2n (((s.hw.ring r.val).cqProd / 2 ^ (s.hw.ring r.val).sizeLog2 + (s.hw.ring r.val).start / 2 ^ (s.hw.ring r.val).sizeLog2) % 2 == 0) * 2 ^ 24, c.tag, a, c.out.length, c.res0, c.res1, c.res2, c.detail % 2 ^ 16 + c.event % 2 ^ 16 * 2 ^ 16], HostOut.cqProd r.val (((s.hw.ring r.val).cqProd + 1) % 2 ^ 32)]) ∧
      (s.hw.ring r.val).holdUntil ≤ t.hw.clk.up ∧
      Frame [.clk, .hif] [] s t)) ∧
    (s.hw.hif.lost = [] → s.evRoom 1 → x = 0 → s.hw.fbit R.HIF_LINK_UP = true → Runs (.pcieLinkLoss x) s (fun t =>
      t.hw.hif.done = [] ∧
      t.hw.hif.lost = s.hw.outstanding ∧
      t.hw.fbit R.HIF_CTRL_GO = false ∧
      t.hw.fget R.HIF_CTRL_POLL_US = 5 ∧
      t.hw.reg R.HIF_DB_LO = 0#32 ∧
      t.hw.reg R.HIF_DB_HI = 0#32 ∧
      t.hw.fget R.HIF_STATUS_RING_ON = 0 ∧
      Raises s t [(0x7002, x.val + 1, s.hw.outstanding.length + s.hw.hif.done.length, 0)] ∧
      t.hw.hif.queue = s.hw.hif.queue ∧
      t.hw.hif.running = s.hw.hif.running ∧
      t.hw.fbit R.HIF_LINK_UP = false ∧
      t.hw.fget R.HIF_LINK_DOWNS = satInc R.HIF_LINK_DOWNS.w (s.hw.fget R.HIF_LINK_DOWNS) ∧
      Frame [.hif, .evr] [R.HIF_CTRL, R.HIF_DB_LO, R.HIF_DB_HI, R.HIF_STATUS, R.HIF_LINK] s t)) ∧
    (s.hw.hif.lost = [] → s.evRoom 1 → x = 2 → Runs (.pcieLinkLoss x) s (fun t =>
      t.hw.hif.done = [] ∧
      t.hw.hif.lost = s.hw.outstanding ∧
      t.hw.fbit R.HIF_CTRL_GO = false ∧
      t.hw.fget R.HIF_CTRL_POLL_US = 5 ∧
      t.hw.reg R.HIF_DB_LO = 0#32 ∧
      t.hw.reg R.HIF_DB_HI = 0#32 ∧
      t.hw.fget R.HIF_STATUS_RING_ON = 0 ∧
      Raises s t [(0x7002, x.val + 1, s.hw.outstanding.length + s.hw.hif.done.length, 0)] ∧
      t.hw.hif.queue = s.hw.hif.queue ∧
      t.hw.hif.running = s.hw.hif.running ∧
      t.hw.fbit R.HIF_LINK_UP = s.hw.fbit R.HIF_LINK_UP ∧
      t.hw.fget R.HIF_LINK_FLRS = satInc R.HIF_LINK_FLRS.w (s.hw.fget R.HIF_LINK_FLRS) ∧
      Frame [.hif, .evr] [R.HIF_CTRL, R.HIF_DB_LO, R.HIF_DB_HI, R.HIF_STATUS, R.HIF_LINK] s t)) ∧
    (s.hw.powered = true → s.evRoom 1 → Runs (.pcieLinkUp g w) s (fun t =>
      t.hw.fbit R.HIF_LINK_UP = true ∧
      t.hw.fget R.HIF_LINK_SPEED = 1 + b2n g ∧
      t.hw.fget R.HIF_LINK_WIDTH = 1 + b2n w ∧
      Raises s t [(0x7001, 1 + b2n g, 1 + b2n w, 0)] ∧
      Frame [.evr] [R.HIF_LINK] s t)) ∧
    (s.hw.net.msgs = m :: l → s.hw.mode ≠ .boot → s.hw.mode ≠ .parked → s.hw.hif.queue.length < 64 → m.bytes.length < 32 → Runs (.engRequest .none 0) s (fun t =>
      t.hw.net.msgs = l ∧
      t.hw.net.out = s.hw.net.out ++ [s.hw.netFrame (NetOut.me m.dir m.sid)] ∧
      t.hw.hif.queue = s.hw.hif.queue ∧
      Frame [.net] [] s t)) ∧
    (s.hw.net.msgs = m :: l → s.hw.mode ≠ .boot → s.hw.mode ≠ .parked → s.hw.hif.queue.length < 64 → 32 ≤ m.bytes.length → s.hw.net.replies.find? (fun (z : Nat × Nat × Option Compl) => z.2.1 == m.sid) = some (a, m.sid, some e) → Runs (.engRequest .none 0) s (fun t =>
      t.hw.net.msgs = l ∧
      t.hw.net.out = s.hw.net.out ++ [s.hw.netFrame (NetOut.mp m.dir m.sid e)] ∧
      t.hw.hif.queue = s.hw.hif.queue ∧
      Frame [.net] [] s t)) ∧
    (s.hw.net.msgs = m :: l → s.hw.mode ≠ .boot → s.hw.mode ≠ .parked → s.hw.hif.queue.length < 64 → 32 ≤ m.bytes.length → s.hw.net.replies.find? (fun (z : Nat × Nat × Option Compl) => z.2.1 == m.sid) = none → m.desc .none 0 = d → s.hw.hif.queue = [] → s.hw.sup.waitTo = none → d.malformed = false → s.hw.sup.romOnly = false → d.op = 0x0001 → Runs (.engRequest .none 0) s (fun t =>
      t.hw.net.msgs = l ∧
      t.hw.net.out = s.hw.net.out ++ [s.hw.netFrame (NetOut.mp m.dir m.sid (d.answer 0x0001 stOk))] ∧
      (m.dir, m.sid, some (d.answer 0x0001 stOk)) ∈ t.hw.net.replies ∧
      t.hw.hif.queue = [] ∧
      Frame [.net, .hif] [R.HIF_STATUS] s t)) ∧
    (s.hw.net.msgs = m :: l → s.hw.mode ≠ .boot → s.hw.mode ≠ .parked → s.hw.hif.queue.length < 64 → 32 ≤ m.bytes.length → s.hw.net.replies.find? (fun (z : Nat × Nat × Option Compl) => z.2.1 == m.sid) = none → m.desc .none 0 = d → s.hw.hif.queue = [] → s.hw.sup.waitTo = none → d.malformed = false → s.hw.sup.romOnly = false → d.op = 0x0301 → s.hw.fbit R.HIF_ENG_CFG_ENG_WRITE = false → s.evRoom 1 → Runs (.engRequest .none 0) s (fun t =>
      t.hw.net.out = s.hw.net.out ++ [s.hw.netFrame (NetOut.mp m.dir m.sid (d.answer 0x0301 stAuth 0 0 0 1))] ∧
      Raises s t [(0x7011, 0x0301, m.dir + 0x8000, 1)] ∧
      Frame [.net, .hif, .evr] [R.HIF_STATUS] s t))

/-- NOP answers OK. IDENTIFY answers the identity words of Table 12-8 with the calendar captured. REG_READ answers the words of the
supervisor view: registers, memory; VALUE where the range touches MRAM, NOR or OTP; outside the view 0 with 0x0026. REG_WRITE puts a
class I value in force at once, a class S one in STOP and SERVICE only (else MODE), a class C one waits for its latch and so does
the completion. EVENT_WAIT waits, a seventeenth gets BUSY, at its limit TIMEOUT. A write by the SUP firmware or through BAR0 does
the same to the register or the MSI-X table. Where the spec leaves a point open the clauses follow the model's own reading
(assumption log 42, 44, 88). (spec/00_scope.md R9, spec/00_scope.md R11, spec/00_scope.md R12, spec/01_architecture.md R20,
spec/12_host_rings.md R326, spec/12_host_rings.md R332, spec/12_host_rings.md R341, spec/12_host_rings.md R342, spec/13_nv_store.md
R372, spec/16_startup_trust_config.md R441) -/
def Obligations.RegisterCommands : Prop :=
  ∀ (s : State) (d : Desc) (e : EWait) (b : Bool) (a : Word) (v : Word) (n : Nat),
    (s.served d 0x0001 → Runs (.nop d) s (fun t =>
      Answers s t (d.answer 0x0001 stOk) ∧
      Frame [.hif] [R.HIF_STATUS] s t)) ∧
    (s.served d 0x0002 → 64 ≤ d.len → Runs (.identify d) s (fun t =>
      (Answers s t (d.answer 0x0002 stOk 0 0 0 0 0 (leBytes 4 (t.hw.readVal (R.SUP_FAMILY_ID)).toNat ++ leBytes 4 (t.hw.readVal (R.SUP_MODE_STATUS)).toNat ++ leBytes 4 (t.hw.readVal (R.SUP_ADMIT_STATUS)).toNat ++ leBytes 4 (t.hw.readVal (R.HIF_STATUS)).toNat ++ leBytes 4 (t.hw.readVal (R.PAIR_STATUS)).toNat ++ leBytes 4 (t.hw.readVal (R.TSK_OLC_STATUS)).toNat ++ leBytes 8 (if s.hw.fbit R.SUP_MODE_STATUS_PROG_VALID then s.hw.prog.layout else 0) ++ leBytes 4 (t.hw.readVal (R.SUP_CFG_SEQ)).toNat ++ leBytes 4 (t.hw.readVal (R.CAL_DATE)).toNat ++ leBytes 4 (t.hw.readVal (R.CAL_TIME)).toNat ++ List.replicate 20 0#8))) ∧
      t.hw.reg R.CAL_DATE = w32 s.hw.cal.date ∧
      Frame [.hif] [R.HIF_STATUS, R.CAL_DATE, R.CAL_TIME] s t)) ∧
    (s.served d 0x0002 → d.len < 64 → Runs (.identify d) s (fun t =>
      Answers s t (d.answer 0x0002 stValue) ∧
      Frame [.hif] [R.HIF_STATUS] s t)) ∧
    (s.served d 0x0003 → d.p0 % 4 = 0 → 4 * d.p1 ≤ d.len → d.p1 = 1 → 0x40000000 ≤ d.p0 → d.p0 < 0x400C0000 → d.p0 ∉ [R.NET_TB_LO, R.CAL_DATE, R.TSK_EPOCH_LO, R.TSK_OLC_POINT_LO, R.HIF_STATUS] → Runs (.regRead d) s (fun t =>
      Answers s t (d.answer 0x0003 stOk 0 0 0 0 0 (leBytes 4 (s.hw.readVal d.p0).toNat)) ∧
      Frame [.hif] [R.HIF_STATUS] s t)) ∧
    (s.served d 0x0003 → d.p0 % 4 = 0 → 4 * d.p1 ≤ d.len → 1 ≤ d.p1 → d.p1 ≤ 256 → 0x90000000 ≤ d.p0 → d.p0 + 4 * d.p1 ≤ 0x90800000 → Runs (.regRead d) s (fun t =>
      Answers s t (d.answer 0x0003 stOk 0 0 0 0 0 (s.hw.mbs d.p0 (4 * d.p1))) ∧
      Frame [.hif] [R.HIF_STATUS] s t)) ∧
    (s.served d 0x0003 → d.p0 % 4 = 0 → 4 * d.p1 ≤ d.len → d.p1 = 1 → (d.p0 < 0x40000000 ∨ 0x400C0000 ≤ d.p0) → barredRange d.p0 4 = false → supReadable d.p0 4 = false → s.evRoom 1 → Runs (.regRead d) s (fun t =>
      Answers s t (d.answer 0x0003 stOk 0 0 0 0 0 [0#8, 0#8, 0#8, 0#8]) ∧
      Raises s t [(0x0026, d.p0, 0, 0)] ∧
      Frame [.hif, .evr] [R.HIF_STATUS] s t)) ∧
    (s.served d 0x0003 → ((0x50000000 ≤ d.p0 ∧ d.p0 < 0x50800000) ∨ (0x60000000 ≤ d.p0 ∧ d.p0 < 0x70000000) ∨ (0x02000000 ≤ d.p0 ∧ d.p0 < 0x02004000) ∨ d.p1 = 0 ∨ 256 < d.p1) → Runs (.regRead d) s (fun t =>
      Answers s t (d.answer 0x0003 stValue) ∧
      Frame [.hif] [R.HIF_STATUS] s t)) ∧
    (s.served d 0x0004 → d.p0 = R.NET_TOPO_ETB → s.hw.pend = [] → s.evRoom 1 → Runs (.regWrite d) s (fun t =>
      t.hw.reg R.NET_TOPO_ETB = ((s.hw.reg R.NET_TOPO_ETB &&& ~~~(BitVec.ofNat 32 d.p2)) ||| (BitVec.ofNat 32 d.p1 &&& BitVec.ofNat 32 d.p2)) ∧
      Answers s t (d.answer 0x0004 stOk ((s.hw.reg R.NET_TOPO_ETB &&& ~~~(BitVec.ofNat 32 d.p2)) ||| (BitVec.ofNat 32 d.p1 &&& BitVec.ofNat 32 d.p2)).toNat) ∧
      Raises s t [(0x7010, 0x0004, d.src.code, stOk)] ∧
      Frame [.hif, .evr] [R.HIF_STATUS, R.NET_TOPO_ETB] s t)) ∧
    (s.served d 0x0004 → s.allows .cfg { d with op := 0x0004 } → d.p0 = R.NET_IP → BitVec.ofNat 32 d.p2 ≠ 0#32 → s.hw.stopClass = true → s.evRoom 1 → s.hw.pend = [] → s.hw.fbit (R.BLOCK_STATUS_REJECT 5) = false → Runs (.regWrite d) s (fun t =>
      t.hw.reg R.NET_IP = ((s.hw.reg R.NET_IP &&& ~~~(BitVec.ofNat 32 d.p2)) ||| (BitVec.ofNat 32 d.p1 &&& BitVec.ofNat 32 d.p2)) ∧
      Answers s t (d.answer 0x0004 stOk ((s.hw.reg R.NET_IP &&& ~~~(BitVec.ofNat 32 d.p2)) ||| (BitVec.ofNat 32 d.p1 &&& BitVec.ofNat 32 d.p2)).toNat) ∧
      Raises s t [(0x7010, 0x0004, d.src.code, stOk)] ∧
      t.hw.actRuns .cfg = false ∧
      Frame [.hif, .evr] [R.HIF_STATUS, R.SUP_ADMIT_STATUS, R.NET_IP] s t)) ∧
    (s.served d 0x0004 → s.allows .cfg { d with op := 0x0004 } → d.p0 = R.NET_IP → BitVec.ofNat 32 d.p2 ≠ 0#32 → s.hw.stopClass = false → s.evRoom 1 → Runs (.regWrite d) s (fun t =>
      t.hw.reg R.NET_IP = s.hw.reg R.NET_IP ∧
      Answers s t (d.answer 0x0004 stMode 0 0 0 s.hw.mode.code) ∧
      t.hw.fbit (R.BLOCK_STATUS_REJECT 5) = true ∧
      Frame [.hif, .evr] [R.HIF_STATUS, R.SUP_ADMIT_STATUS, R.BLOCK_STATUS 5] s t)) ∧
    (s.served d 0x0004 → s.allows .cfg { d with op := 0x0004 } → d.p0 = R.FLD_CHc_SCALE_LO 11 → d.p2 = 0xFFFF → s.hw.barrier 1 = true → s.hw.pend = [] → s.hw.hif.latching = [] → Runs (.regWrite d) s (fun t =>
      t.hw.pend = [(R.FLD_CHc_SCALE_LO 11, s.hw.reg (R.FLD_CHc_SCALE_LO 11) &&& 0xFFFF0000#32 ||| (BitVec.ofNat 32 d.p1 &&& 0xFFFF#32))] ∧
      t.hw.reg (R.FLD_CHc_SCALE_LO 11) = s.hw.reg (R.FLD_CHc_SCALE_LO 11) ∧
      t.hw.hif.latching.map (fun (z : Latch) => (z.d, z.addr)) = [({ d with op := 0x0004 }, some d.p0)] ∧
      t.hw.hif.done = s.hw.hif.done ∧
      t.hw.fbit (R.BLOCK_STATUS_PENDING 4) = true ∧
      Frame [.hif, .pend] [R.HIF_STATUS, R.SUP_ADMIT_STATUS, R.BLOCK_STATUS 4] s t)) ∧
    (s.served d 0x0005 → 32 ≤ d.len → 1 ≤ d.p2 → d.p2 ≤ 65535 → s.hw.hif.waits.length < 16 → Runs (.eventWait d) s (fun t =>
      t.hw.hif.waits = s.hw.hif.waits ++ [({ d := { d with op := 0x0005 }, limit := s.hw.clk.up + d.p2 * 1000000 } : EWait)] ∧
      t.hw.hif.done = s.hw.hif.done ∧
      Frame [.hif] [R.HIF_STATUS] s t)) ∧
    (s.served d 0x0005 → 32 ≤ d.len → 1 ≤ d.p2 → d.p2 ≤ 65535 → 16 ≤ s.hw.hif.waits.length → Runs (.eventWait d) s (fun t =>
      t.hw.hif.waits = s.hw.hif.waits ∧
      Answers s t (d.answer 0x0005 stBusy) ∧
      Frame [.hif] [R.HIF_STATUS] s t)) ∧
    (s.hw.hif.waits = [e] → e.d.src.isEng = false → e.d.relayed = false → s.hw.hif.lost = [] → Runs (.eventWaitTimeout) s (fun t =>
      t.hw.hif.waits = [] ∧
      Answers s t (e.d.answer e.d.op stTimeout) ∧
      e.limit ≤ t.hw.clk.up ∧
      Frame [.clk, .hif] [] s t)) ∧
    (s.hw.powered = true → a.toNat = R.NET_TOPO_OPT → Runs (.registerWrite false a v) s (fun t =>
      t.hw.reg R.NET_TOPO_OPT = v ∧
      Frame [] [R.NET_TOPO_OPT] s t)) ∧
    (s.hw.powered = true → s.hw.fbit R.HIF_LINK_UP = true → a = 0x18#32 → s.hw.pend = [] → s.hw.fbit R.HIF_CTRL_GO = false → Runs (.registerWrite true a v) s (fun t =>
      t.hw.reg R.HIF_DB_LO = v &&& 0xFFFFF000#32 ||| (s.hw.reg R.HIF_DB_LO &&& 0xFFF#32) ∧
      Frame [] [R.HIF_DB_LO] s t)) ∧
    (s.hw.powered = true → s.hw.fbit R.HIF_LINK_UP = true → a = 0x18#32 → s.hw.fbit R.HIF_CTRL_GO = true → Runs (.registerWrite true a v) s (fun t =>
      t.hw.reg R.HIF_DB_LO = s.hw.reg R.HIF_DB_LO ∧
      t.hw.fbit (R.BLOCK_STATUS_REJECT 7) = true ∧
      Frame [] [R.BLOCK_STATUS 7] s t)) ∧
    (s.hw.powered = true → s.hw.fbit R.HIF_LINK_UP = true → n < 64 → n % 4 ≠ 3 → a = BitVec.ofNat 32 (0x8000 + 4 * n) → Runs (.registerWrite true a v) s (fun t =>
      t.hw.msix n = v ∧
      t.hw.hif.out = s.hw.hif.out ∧
      Frame [.hif] [] s t))

/-- A FORCE_SET that every check passes takes the lowest free entry, or the entry of its identity, with the effective instant at the
first whole microsecond after the table write (no partner); it is PENDING until then. Refusals: VALUE, NOITEM, FULL. FORCE_CLEAR
waits for its instant in the same way; without an entry it answers OK with RES0 0xFFFFFFFF. At the instant the entry becomes active
or not, with 0x3010 or 0x3011, COUNT and the lantern follow, the command completes. FORCE_LIST answers the active entries. Where the
spec leaves a point open the clauses follow the model's own reading (assumption log 2, 74, 94). (spec/04_forcing_online_change.md
R94, spec/04_forcing_online_change.md R95, spec/04_forcing_online_change.md R99, spec/04_forcing_online_change.md R100,
spec/04_forcing_online_change.md R101, spec/12_host_rings.md R344) -/
def Obligations.Forces : Prop :=
  ∀ (s : State) (d : Desc) (f : Force) (i : Nat) (x : FEff) (l : List (Nat × Force)),
    (s.served d 0x0301 → s.allows .frc { d with op := 0x0301 } → s.hw.fget R.PAIR_STATUS_ROLE ≠ 2 → f = forceOf d.p0 d.p1 d.addr 0 → forceResv d.p0 d.p1 = true → f.idOk = true → f.valueOk = true → s.hw.forceMode f = true → s.hw.tsk.forces.any (fun (z : Nat × Force) => z.2.active && z.2.clash f) = false → s.hw.partnerSynced = false → s.hw.forceHeld f = true → s.hw.forceFind f = none → s.hw.forceFree = some i → Runs (.forceSet d) s (fun t =>
      t.hw.tsk.feffs = s.hw.tsk.feffs ++ [({ idx := i, set := true, new := f, eff := (s.hw.clk.tb / 1000 + 1) * 1000, d := { d with op := 0x0301 }, confirmed := true } : FEff)] ∧
      t.hw.hif.running = s.hw.hif.running ++ [{ d with op := 0x0301 }] ∧
      t.hw.fbit R.TSK_FORCE_STATUS_PENDING = true ∧
      t.hw.hif.done = s.hw.hif.done ∧
      t.hw.actRuns .frc = true ∧
      t.hw.force i = f ∧
      (∀ z : Fin 1024, z.val ≠ i → t.hw.force z.val = s.hw.force z.val) ∧
      Frame [.hif, .tsk, .sup] [R.HIF_STATUS, R.SUP_ADMIT_STATUS, R.TSK_FORCE_STATUS, R.CAL_BKREC0] s t)) ∧
    (s.served d 0x0301 → s.allows .frc { d with op := 0x0301 } → s.hw.fget R.PAIR_STATUS_ROLE ≠ 2 → f = forceOf d.p0 d.p1 d.addr 0 → forceResv d.p0 d.p1 = true → f.idOk = true → f.valueOk = true → s.hw.forceMode f = true → s.hw.tsk.forces.any (fun (z : Nat × Force) => z.2.active && z.2.clash f) = false → s.hw.partnerSynced = false → s.hw.forceHeld f = true → s.hw.forceFind f = some i → Runs (.forceSet d) s (fun t =>
      t.hw.tsk.feffs = s.hw.tsk.feffs ++ [({ idx := i, set := true, new := { f with source := (s.hw.force i).source }, eff := (s.hw.clk.tb / 1000 + 1) * 1000, d := { d with op := 0x0301 }, confirmed := true } : FEff)] ∧
      t.hw.hif.running = s.hw.hif.running ++ [{ d with op := 0x0301 }] ∧
      t.hw.fbit R.TSK_FORCE_STATUS_PENDING = true ∧
      t.hw.hif.done = s.hw.hif.done ∧
      t.hw.actRuns .frc = true ∧
      t.hw.tsk.forces = s.hw.tsk.forces ∧
      Frame [.hif, .tsk, .sup] [R.HIF_STATUS, R.SUP_ADMIT_STATUS, R.TSK_FORCE_STATUS, R.CAL_BKREC0] s t)) ∧
    (s.served d 0x0301 → s.allows .frc { d with op := 0x0301 } → s.hw.fget R.PAIR_STATUS_ROLE ≠ 2 → f = forceOf d.p0 d.p1 d.addr 0 → forceResv d.p0 d.p1 = true → f.idOk = true → f.valueOk = true → s.hw.forceMode f = true → s.hw.tsk.forces.any (fun (z : Nat × Force) => z.2.active && z.2.clash f) = false → s.hw.forceHeld f = false → s.evRoom 1 → Runs (.forceSet d) s (fun t =>
      Answers s t (d.answer 0x0301 stNoItem) ∧
      Raises s t [(0x7010, 0x0301, d.src.code, stNoItem)] ∧
      t.hw.tsk = s.hw.tsk ∧
      t.hw.actRuns .frc = false ∧
      Frame [.hif, .evr] [R.HIF_STATUS, R.SUP_ADMIT_STATUS] s t)) ∧
    (s.served d 0x0301 → s.allows .frc { d with op := 0x0301 } → s.hw.fget R.PAIR_STATUS_ROLE ≠ 2 → f = forceOf d.p0 d.p1 d.addr 0 → forceResv d.p0 d.p1 = true → f.idOk = true → f.valueOk = true → s.hw.forceMode f = true → s.hw.tsk.forces.any (fun (z : Nat × Force) => z.2.active && z.2.clash f) = false → s.hw.forceHeld f = true → s.hw.forceFind f = none → s.hw.forceFree = none → s.evRoom 1 → Runs (.forceSet d) s (fun t =>
      Answers s t (d.answer 0x0301 stFull) ∧
      Raises s t [(0x7010, 0x0301, d.src.code, stFull)] ∧
      t.hw.tsk = s.hw.tsk ∧
      t.hw.actRuns .frc = false ∧
      Frame [.hif, .evr] [R.HIF_STATUS, R.SUP_ADMIT_STATUS] s t)) ∧
    (s.served d 0x0301 → s.allows .frc { d with op := 0x0301 } → s.hw.fget R.PAIR_STATUS_ROLE ≠ 2 → forceResv d.p0 d.p1 = false → s.evRoom 1 → Runs (.forceSet d) s (fun t =>
      Answers s t (d.answer 0x0301 stValue) ∧
      Raises s t [(0x7010, 0x0301, d.src.code, stValue)] ∧
      t.hw.tsk = s.hw.tsk ∧
      t.hw.actRuns .frc = false ∧
      Frame [.hif, .evr] [R.HIF_STATUS, R.SUP_ADMIT_STATUS] s t)) ∧
    (s.served d 0x0302 → s.allows .frc { d with op := 0x0302 } → s.hw.fget R.PAIR_STATUS_ROLE ≠ 2 → f = forceOf d.p0 d.p1 0 0 → forceResv d.p0 d.p1 = true → f.idOk = true → s.hw.partnerSynced = false → s.hw.forceFind f = some i → Runs (.forceClear d) s (fun t =>
      t.hw.tsk.feffs = s.hw.tsk.feffs ++ [({ idx := i, set := false, new := s.hw.force i, eff := (s.hw.clk.tb / 1000 + 1) * 1000, d := { d with op := 0x0302 }, confirmed := true } : FEff)] ∧
      t.hw.hif.running = s.hw.hif.running ++ [{ d with op := 0x0302 }] ∧
      t.hw.fbit R.TSK_FORCE_STATUS_PENDING = true ∧
      t.hw.hif.done = s.hw.hif.done ∧
      t.hw.actRuns .frc = true ∧
      t.hw.tsk.forces = s.hw.tsk.forces ∧
      Frame [.hif, .tsk, .sup] [R.HIF_STATUS, R.SUP_ADMIT_STATUS, R.TSK_FORCE_STATUS, R.CAL_BKREC0] s t)) ∧
    (s.served d 0x0302 → s.allows .frc { d with op := 0x0302 } → s.hw.fget R.PAIR_STATUS_ROLE ≠ 2 → f = forceOf d.p0 d.p1 0 0 → forceResv d.p0 d.p1 = true → f.idOk = true → s.hw.forceFind f = none → Runs (.forceClear d) s (fun t =>
      Answers s t (d.answer 0x0302 stOk 0xFFFFFFFF (s.hw.fget R.TSK_FORCE_STATUS_COUNT)) ∧
      t.hw.actRuns .frc = false ∧
      Frame [.hif] [R.HIF_STATUS, R.SUP_ADMIT_STATUS] s t)) ∧
    (s.served d 0x0303 → s.allows .frc { d with op := 0x0303 } → s.hw.fget R.PAIR_STATUS_ROLE ≠ 2 → s.hw.partnerSynced = false → s.hw.tsk.forces.filter (fun (z : Nat × Force) => z.2.active) = l → l ≠ [] → Runs (.forceClearAll d) s (fun t =>
      t.hw.tsk.feffs = s.hw.tsk.feffs ++ l.map (fun (z : Nat × Force) => ({ idx := z.1, set := false, new := z.2, eff := (s.hw.clk.tb / 1000 + 1) * 1000, d := { d with op := 0x0303 }, confirmed := true } : FEff)) ∧
      t.hw.hif.running = s.hw.hif.running ++ [{ d with op := 0x0303 }] ∧
      t.hw.hif.done = s.hw.hif.done ∧
      Frame [.hif, .tsk, .sup] [R.HIF_STATUS, R.SUP_ADMIT_STATUS, R.TSK_FORCE_STATUS, R.CAL_BKREC0] s t)) ∧
    (s.served d 0x0303 → s.allows .frc { d with op := 0x0303 } → s.hw.fget R.PAIR_STATUS_ROLE ≠ 2 → s.hw.tsk.forces.filter (fun (z : Nat × Force) => z.2.active) = [] → Runs (.forceClearAll d) s (fun t =>
      Answers s t (d.answer 0x0303 stOk) ∧
      t.hw.actRuns .frc = false ∧
      Frame [.hif] [R.HIF_STATUS, R.SUP_ADMIT_STATUS] s t)) ∧
    (s.hw.tsk.feffs = [x] → x.confirmed = true → x.d.op = 0x0301 → x.set = true → x.d.src.isEng = false → x.d.relayed = false → s.hw.hif.lost = [] → s.hw.pairFormed = false → s.evRoom 2 → s.tbRoom x.eff → Runs (.forceEffective) s (fun t =>
      t.hw.force x.idx = { x.new with active := true } ∧
      (∀ z : Fin 1024, z.val ≠ x.idx → t.hw.force z.val = s.hw.force z.val) ∧
      t.hw.tsk.feffs = [] ∧
      x.eff ≤ t.hw.clk.tb ∧
      Raises s t [(0x3010, x.idx, x.new.ident, 0), (0x7010, 0x0301, x.d.src.code, stOk)] ∧
      Answers s t (x.d.answer 0x0301 stOk x.idx (t.hw.fget R.TSK_FORCE_STATUS_COUNT) (x.eff / 1000) 0 0x3010) ∧
      t.hw.actRuns .frc = false ∧
      t.hw.fget R.TSK_FORCE_STATUS_COUNT = (t.hw.tsk.forces.filter (fun (z : Nat × Force) => z.2.active)).length % 2 ^ R.TSK_FORCE_STATUS_COUNT.w ∧
      t.hw.fbit R.TSK_FORCE_STATUS_LANTERN = decide ((t.hw.tsk.forces.filter (fun (z : Nat × Force) => z.2.active)).length ≠ 0) ∧
      t.hw.fbit R.TSK_FORCE_STATUS_PENDING = false ∧
      Frame [.clk, .hif, .tsk, .sup, .evr] [R.SUP_ADMIT_STATUS, R.TSK_FORCE_STATUS, R.CAL_BKREC0] s t)) ∧
    (s.hw.tsk.feffs = [x] → x.confirmed = true → x.d.op = 0x0302 → x.set = false → x.d.src.isEng = false → x.d.relayed = false → s.hw.hif.lost = [] → s.hw.pairFormed = false → s.evRoom 2 → s.tbRoom x.eff → Runs (.forceEffective) s (fun t =>
      t.hw.force x.idx = { x.new with active := false } ∧
      (∀ z : Fin 1024, z.val ≠ x.idx → t.hw.force z.val = s.hw.force z.val) ∧
      t.hw.tsk.feffs = [] ∧
      x.eff ≤ t.hw.clk.tb ∧
      Raises s t [(0x3011, x.idx, x.new.ident, 0), (0x7010, 0x0302, x.d.src.code, stOk)] ∧
      Answers s t (x.d.answer 0x0302 stOk x.idx (t.hw.fget R.TSK_FORCE_STATUS_COUNT) (x.eff / 1000) 0 0x3011) ∧
      t.hw.actRuns .frc = false ∧
      t.hw.fget R.TSK_FORCE_STATUS_COUNT = (t.hw.tsk.forces.filter (fun (z : Nat × Force) => z.2.active)).length % 2 ^ R.TSK_FORCE_STATUS_COUNT.w ∧
      t.hw.fbit R.TSK_FORCE_STATUS_LANTERN = decide ((t.hw.tsk.forces.filter (fun (z : Nat × Force) => z.2.active)).length ≠ 0) ∧
      t.hw.fbit R.TSK_FORCE_STATUS_PENDING = false ∧
      Frame [.clk, .hif, .tsk, .sup, .evr] [R.SUP_ADMIT_STATUS, R.TSK_FORCE_STATUS, R.CAL_BKREC0] s t)) ∧
    (s.served d 0x0304 → d.p2 % 16 = 0 → d.p2 ≤ 16384 → Runs (.forceList d) s (fun t =>
      Answers s t (d.answer 0x0304 stOk (((s.hw.tsk.forces.filter (fun (z : Nat × Force) => z.2.active)).flatMap (fun (z : Nat × Force) => z.2.bytes (s.hw.tsk.feffs.any (fun (y : FEff) => y.idx == z.1)))).length / 16) 0 ((s.hw.tsk.forces.filter (fun (z : Nat × Force) => z.2.active)).flatMap (fun (z : Nat × Force) => z.2.bytes (s.hw.tsk.feffs.any (fun (y : FEff) => y.idx == z.1)))).length 0 0 ((((s.hw.tsk.forces.filter (fun (z : Nat × Force) => z.2.active)).flatMap (fun (z : Nat × Force) => z.2.bytes (s.hw.tsk.feffs.any (fun (y : FEff) => y.idx == z.1)))).drop d.p2).take d.len)) ∧
      Frame [.hif] [R.HIF_STATUS] s t))

/-- OLC_STAGE of a flysheet that verifies and passes the checks of Table 4-3 leaves STATE 2 with the affected mask and SWAP_CLOCKS,
answers them with 0x3020, the running program as it was; without a valid flysheet it fails with reason 1 and 0x3021. OLC_ARM starts
the search, a second one is BUSY, without a staged flysheet MODE. OLC_CANCEL rolls back with reason 14. At a swap point the flysheet
becomes the program, STATE 5, 0x3022, the arm command completes with s. A search without one rolls back after WAIT_MS with reason
10. Where the spec leaves a point open the clauses follow the model's own reading (assumption log 75, 76).
(spec/04_forcing_online_change.md R102, spec/04_forcing_online_change.md R108, spec/04_forcing_online_change.md R109,
spec/04_forcing_online_change.md R110, spec/04_forcing_online_change.md R119, spec/04_forcing_online_change.md R121) -/
def Obligations.OnlineChange : Prop :=
  ∀ (s : State) (d : Desc) (p : Pitch) (n : Nat) (e : Desc) (f : CfgImage),
    (s.served d 0x0401 → s.allows .olc { d with op := 0x0401 } → s.hw.fget R.PAIR_STATUS_ROLE ≠ 2 → s.hw.norProg s.hw.progTarget = ({ valid := true, pitch := some p } : NorSlot) → verify s.otp 2 p.hdr true = none → p.layoutOk = true → p.layout ≠ 0 → p.hdr.objId = p.layout → p.hashesOk = true → s.hw.sup.injSig = false → p.cfg = some f → verify s.otp 3 f.common.hdr true = none → verify s.otp 4 f.indiv.hdr true = none → f.common.hdr.objId = f.common.seq → f.indiv.hdr.objId = f.indiv.seq → f.keyRecs = false → f.regs.all (fun (z : Bool × Nat × Word) => decide (z.2.1 ≠ R.HIF_STATUS ∧ z.2.1 ≠ R.SUP_ADMIT_STATUS ∧ z.2.1 ≠ R.TSK_OLC_STATUS)) = true → s.hw.tableRefusal f = none → s.hw.stageCheck p = none → s.hw.partnerSynced = false → s.hw.mode = .run → s.evRoom 2 → Runs (.olcStage d) s (fun t =>
      t.hw.fget R.TSK_OLC_STATUS_STATE = 2 ∧
      t.hw.tsk.olc.staged = some p ∧
      t.hw.reg R.TSK_OLC_AFFECTED = BitVec.ofNat 32 p.affected ∧
      t.hw.fget R.TSK_OLC_COST_SWAP_CLOCKS = swapClocks p.migration ∧
      t.hw.prog = s.hw.prog ∧
      Answers s t (d.answer 0x0401 stOk (swapClocks p.migration) p.affected 0 0 0x3020) ∧
      Raises s t [(0x3020, p.layout % 2 ^ 32, p.affected % 2 ^ 32, swapClocks p.migration), (0x7010, 0x0401, d.src.code, stOk)] ∧
      t.hw.actRuns .olc = true ∧
      Frame [.mem, .exe, .nvs, .hif, .tsk, .evr] [R.HIF_STATUS, R.SUP_ADMIT_STATUS, R.NVS_STATUS, R.TSK_OLC_STATUS, R.TSK_OLC_AFFECTED, R.TSK_OLC_COST] s t)) ∧
    (s.served d 0x0401 → s.allows .olc { d with op := 0x0401 } → s.hw.fget R.PAIR_STATUS_ROLE ≠ 2 → (s.hw.norProg s.hw.progTarget).pitch = none → s.hw.tsk.olc.armCmd = none → s.evRoom 2 → Runs (.olcStage d) s (fun t =>
      t.hw.fget R.TSK_OLC_STATUS_STATE = 6 ∧
      t.hw.fget R.TSK_OLC_STATUS_REASON = 1 ∧
      t.hw.tsk.olc.staged = none ∧
      t.hw.actRuns .olc = false ∧
      t.hw.prog = s.hw.prog ∧
      Answers s t (d.answer 0x0401 stFailed 0 0 0 1 0x3021) ∧
      Raises s t [(0x3021, 1, 0, 0), (0x7010, 0x0401, d.src.code, stFailed)] ∧
      Frame [.hif, .tsk, .evr] [R.HIF_STATUS, R.SUP_ADMIT_STATUS, R.TSK_OLC_STATUS] s t)) ∧
    (s.served d 0x0402 → s.hw.fget R.PAIR_STATUS_ROLE ≠ 2 → s.hw.fget R.TSK_OLC_STATUS_STATE = 2 → Runs (.olcArm d) s (fun t =>
      t.hw.fget R.TSK_OLC_STATUS_STATE = 3 ∧
      t.hw.tsk.olc = { s.hw.tsk.olc with armCmd := some { d with op := 0x0402 }, armAt := s.hw.clk.up, point := 0, confirmed := false } ∧
      t.hw.hif.running = s.hw.hif.running ++ [{ d with op := 0x0402 }] ∧
      t.hw.hif.done = s.hw.hif.done ∧
      Frame [.hif, .tsk] [R.HIF_STATUS, R.TSK_OLC_STATUS] s t)) ∧
    (s.served d 0x0402 → s.hw.fget R.PAIR_STATUS_ROLE ≠ 2 → 3 ≤ s.hw.fget R.TSK_OLC_STATUS_STATE → s.hw.fget R.TSK_OLC_STATUS_STATE ≤ 5 → s.evRoom 1 → Runs (.olcArm d) s (fun t =>
      Answers s t (d.answer 0x0402 stBusy 0 0 0 7) ∧
      t.hw.tsk = s.hw.tsk ∧
      Frame [.hif, .evr] [R.HIF_STATUS] s t)) ∧
    (s.served d 0x0402 → s.hw.fget R.PAIR_STATUS_ROLE ≠ 2 → s.hw.fget R.TSK_OLC_STATUS_STATE < 2 → s.evRoom 1 → Runs (.olcArm d) s (fun t =>
      Answers s t (d.answer 0x0402 stMode 0 0 0 s.hw.mode.code) ∧
      t.hw.tsk = s.hw.tsk ∧
      Frame [.hif, .evr] [R.HIF_STATUS] s t)) ∧
    (s.served d 0x0403 → s.hw.fget R.PAIR_STATUS_ROLE ≠ 2 → 1 ≤ s.hw.fget R.TSK_OLC_STATUS_STATE → s.hw.fget R.TSK_OLC_STATUS_STATE ≤ 4 → s.hw.tsk.olc.armCmd = none → s.hw.fbit R.TSK_OLC_STATUS_PAIRED = false → s.evRoom 2 → Runs (.olcCancel d) s (fun t =>
      t.hw.fget R.TSK_OLC_STATUS_STATE = 6 ∧
      t.hw.fget R.TSK_OLC_STATUS_REASON = 14 ∧
      t.hw.tsk.olc.staged = none ∧
      t.hw.actRuns .olc = false ∧
      t.hw.prog = s.hw.prog ∧
      Answers s t (d.answer 0x0403 stOk 0 0 0 0 0x3021) ∧
      Raises s t [(0x3021, 14, 0, 0), (0x7010, 0x0403, d.src.code, stOk)] ∧
      Frame [.hif, .tsk, .evr] [R.HIF_STATUS, R.SUP_ADMIT_STATUS, R.TSK_OLC_STATUS] s t)) ∧
    (s.served d 0x0403 → s.hw.fget R.PAIR_STATUS_ROLE ≠ 2 → s.hw.fget R.TSK_OLC_STATUS_STATE = 5 → s.evRoom 1 → Runs (.olcCancel d) s (fun t =>
      Answers s t (d.answer 0x0403 stMode 0 0 0 s.hw.mode.code) ∧
      t.hw.tsk = s.hw.tsk ∧
      Frame [.hif, .evr] [R.HIF_STATUS] s t)) ∧
    (s.hw.fget R.TSK_OLC_STATUS_STATE = 3 → s.hw.tsk.olc.armCmd = some e → e.src.isEng = false → e.relayed = false → s.hw.hif.lost = [] → s.hw.fbit R.TSK_OLC_STATUS_PAIRED = false → s.hw.tsk.olc.staged = some p → s.hw.tsk.olc.point = 0 → s.hw.tsk.olc.cfg = none → s.hw.swapIdle p = true → n = ceilTo 1000 s.hw.clk.tb → s.hw.swapDue p n = none → s.hw.exe.poison = [] → s.evRoom 3 → p.timers = [] → s.hw.tsk.forces = [] → Runs (.swapPointFound) s (fun t =>
      t.hw.prog = p ∧
      t.hw.fget R.TSK_OLC_STATUS_STATE = 5 ∧
      t.hw.reg R.EXE_VBASE = BitVec.ofNat 32 p.vbase ∧
      t.hw.fget R.TSK_OLC_LAST_LAST_CLOCKS = (swapClocks p.migration) % 2 ^ R.TSK_OLC_LAST_LAST_CLOCKS.w ∧
      Records s t (0x3022, swapClocks p.migration, p.migration.length, n / 1000 % 2 ^ 32) ∧
      AnswersIn s t (e.answer e.op stOk (swapClocks p.migration) (n % 2 ^ 32) (n / 2 ^ 32) 0 0x3022) ∧
      t.hw.tsk.olc.staged = none)) ∧
    (s.hw.fget R.TSK_OLC_STATUS_STATE = 3 → s.hw.tsk.olc.armCmd = some e → e.src.isEng = false → e.relayed = false → s.hw.hif.lost = [] → s.hw.fbit R.TSK_OLC_STATUS_PAIRED = false → s.evRoom 2 → Runs (.swapSearchTimeout) s (fun t =>
      t.hw.fget R.TSK_OLC_STATUS_STATE = 6 ∧
      t.hw.fget R.TSK_OLC_STATUS_REASON = 10 ∧
      t.hw.tsk.olc.staged = none ∧
      t.hw.actRuns .olc = false ∧
      t.hw.prog = s.hw.prog ∧
      Answers s t (e.answer e.op stFailed 0 0 0 10) ∧
      Raises s t [(0x3021, 10, 0, 0), (0x7010, e.op, e.src.code, stFailed)] ∧
      s.hw.tsk.olc.armAt + min 60000 (max 10 (s.hw.fget R.TSK_OLC_CFG_WAIT_MS)) * 1000000 ≤ t.hw.clk.up ∧
      Frame [.clk, .hif, .tsk, .evr] [R.SUP_ADMIT_STATUS, R.TSK_OLC_STATUS] s t))

/-- The first piece of PROG_LOAD into SRAM strikes the loaded program and retires the unused slot; a whole pitch file that verifies
and passes R64 goes to the slot, and the command runs on; a bad one fails with 0x010F; into NOR alone the loaded program stays.
PROG_STRIKE strikes the program and clears the forces. PROG_INFO answers 256 bytes. CFG_WRITE of an authorised image with a later
SEQ writes the slot that is not applied, header last; one that is not authorised gets AUTH; under a conflict CONFLICT. CFG_READ
answers the slot's bytes; CFG_CHOOSE in STOP invalidates the other slot. Where the spec leaves a point open the clauses follow the
model's own reading (assumption log 10, 71, 72, 92). (spec/04_forcing_online_change.md R94, spec/12_host_rings.md R338,
spec/12_host_rings.md R344, spec/13_nv_store.md R376, spec/16_startup_trust_config.md R429, spec/16_startup_trust_config.md R434,
spec/16_startup_trust_config.md R435, spec/16_startup_trust_config.md R437, spec/16_startup_trust_config.md R440,
spec/12_host_rings.md R477) -/
def Obligations.ProgramsAndConfiguration : Prop :=
  ∀ (s : State) (d : Desc) (p : Pitch) (c : CfgImage),
    (s.served d 0x0201 → d.p1 = 0 → d.p2 = 0 → s.allows .pdl { d with op := 0x0201, p0 := 0 } → s.hw.tsk.forces = [] → d.flags.testBit 2 = true → s.hw.hif.xfers = [] → s.evRoom 2 → Runs (.progLoadSram d) s (fun t =>
      t.hw.fbit R.SUP_MODE_STATUS_PROG_VALID = false ∧
      t.hw.prog = ({} : Pitch) ∧
      (∀ z : Fin 32, t.hw.kind z.val = 0) ∧
      t.hw.norProg s.hw.progTarget = ({ retired := true } : NorSlot) ∧
      t.hw.hif.xfers = [({ op := 0x0201, src := d.src, p0 := 0, next := d.len, last := s.hw.clk.up } : Xfer)] ∧
      Answers s t (d.answer 0x0201 stOk d.len) ∧
      Raises s t [(0x800A, 2 + s.hw.progTarget, 0, 0), (0x7010, 0x0201, d.src.code, stOk)] ∧
      t.hw.actRuns .pdl = true ∧
      Kept [.hif, .tsk, .sup, .fld, .net, .nvs, .evr] s t)) ∧
    (s.served d 0x0201 → d.p1 = 0 → d.p2 = 0 → s.allows .pdl { d with op := 0x0201, p0 := 0 } → s.hw.tsk.forces = [] → d.flags.testBit 2 = false → d.obj = .pitch p → verify s.otp 2 p.hdr true = none → p.layoutOk = true → p.layout ≠ 0 → p.hdr.objId = p.layout → p.hashesOk = true → s.hw.sup.injSig = false → s.hw.taskCheck p = none → s.evRoom 1 → Runs (.progLoadSram d) s (fun t =>
      t.hw.fbit R.SUP_MODE_STATUS_PROG_VALID = false ∧
      t.hw.prog = ({} : Pitch) ∧
      (∀ z : Fin 32, t.hw.kind z.val = 0) ∧
      t.hw.nvs.norOps = s.hw.nvs.norOps ++ [NorOp.progSlot s.hw.progTarget p ({ d with op := 0x0201, p0 := 0 } : Desc) true] ∧
      t.hw.hif.running = s.hw.hif.running ++ [({ d with op := 0x0201, p0 := 0 } : Desc)] ∧
      t.hw.hif.done = s.hw.hif.done ∧
      t.hw.norProg s.hw.progTarget = ({ retired := true } : NorSlot) ∧
      t.hw.actRuns .pdl = true ∧
      Kept [.hif, .tsk, .sup, .fld, .net, .nvs, .evr] s t)) ∧
    (s.served d 0x0201 → d.p1 = 0 → d.p2 = 0 → s.allows .pdl { d with op := 0x0201, p0 := 1 } → d.flags.testBit 2 = false → d.obj = .pitch p → verify s.otp 2 p.hdr true = none → p.layoutOk = true → p.layout ≠ 0 → p.hdr.objId = p.layout → p.hashesOk = true → s.hw.sup.injSig = false → s.hw.taskCheck p = none → s.evRoom 1 → Runs (.progLoadNor d) s (fun t =>
      t.hw.nvs.norOps = s.hw.nvs.norOps ++ [NorOp.progSlot s.hw.progTarget p ({ d with op := 0x0201, p0 := 1 } : Desc) false] ∧
      t.hw.hif.running = s.hw.hif.running ++ [({ d with op := 0x0201, p0 := 1 } : Desc)] ∧
      t.hw.hif.done = s.hw.hif.done ∧
      t.hw.norProg s.hw.progTarget = ({ retired := true } : NorSlot) ∧
      t.hw.actRuns .pdl = true ∧
      t.hw.prog = s.hw.prog ∧
      Frame [.hif, .nvs, .evr] [R.HIF_STATUS, R.SUP_ADMIT_STATUS] s t)) ∧
    (s.served d 0x0201 → d.p1 = 0 → d.p2 = 0 → s.allows .pdl { d with op := 0x0201, p0 := 1 } → d.flags.testBit 2 = false → d.obj = .bad → s.evRoom 3 → Runs (.progLoadNor d) s (fun t =>
      Answers s t (d.answer 0x0201 stFailed 0 0 0 2 0x010F) ∧
      Raises s t [(0x800A, 2 + s.hw.progTarget, 0, 0), (0x010F, 2, 0xFFFF, 1), (0x7010, 0x0201, d.src.code, stFailed)] ∧
      t.hw.actRuns .pdl = false ∧
      t.hw.nvs.norOps = s.hw.nvs.norOps ∧
      t.hw.prog = s.hw.prog ∧
      Frame [.hif, .nvs, .evr] [R.HIF_STATUS, R.SUP_ADMIT_STATUS] s t)) ∧
    (s.served d 0x0202 → s.allows .pdl { d with op := 0x0202 } → s.hw.tsk.forces = [] → s.evRoom 1 → Runs (.progStrike d) s (fun t =>
      t.hw.fbit R.SUP_MODE_STATUS_PROG_VALID = false ∧
      t.hw.prog = ({} : Pitch) ∧
      (∀ z : Fin 32, t.hw.kind z.val = 0) ∧
      Answers s t (d.answer 0x0202 stOk) ∧
      Raises s t [(0x7010, 0x0202, d.src.code, stOk)] ∧
      t.hw.actRuns .pdl = false ∧
      t.hw.nvs = s.hw.nvs ∧
      Kept [.hif, .tsk, .sup, .fld, .net, .evr, .prog] s t)) ∧
    (s.served d 0x0203 → 256 ≤ d.len → Runs (.progInfo d) s (fun t =>
      t.hw.hif.done.length = s.hw.hif.done.length + 1 ∧
      (t.hw.hif.done.getLast?).map (fun (z : Compl) => (z.op, z.status, z.tag, z.out.length)) = some (0x0203, 0, d.tag, 256) ∧
      Frame [.hif, .free] [R.HIF_STATUS] s t)) ∧
    (s.served d 0x0801 → s.hw.fbit R.SUP_CFG_STATUS_CONFLICT = false → s.allows .cfg { d with op := 0x0801 } → d.p2 = 0 → d.flags.testBit 2 = false → d.obj = .cfg c → s.hw.imageReason s.otp c = 0 → verify s.otp 3 c.common.hdr true = none → verify s.otp 4 c.indiv.hdr true = none → c.common.hdr.objId = c.common.seq → c.indiv.hdr.objId = c.indiv.seq → s.hw.sup.injSig = false → c.keyRecs = false → (s.hw.fget R.SUP_CFG_STATUS_APPLIED = 0 ∨ serialLater c.seq (s.hw.reg R.SUP_CFG_SEQ).toNat = true) → s.hw.tableRefusal c = none → s.hw.cfgFree = true → Runs (.cfgWrite d) s (fun t =>
      (NvWrite.cfgInval (if s.hw.fget R.SUP_CFG_STATUS_APPLIED = 1 then 1 else 0) none ∈ t.hw.nvs.queue ++ t.hw.nvs.busy.toList) ∧
      (NvWrite.cfgData (if s.hw.fget R.SUP_CFG_STATUS_APPLIED = 1 then 1 else 0) (c.bytes.drop 256) ∈ t.hw.nvs.queue ++ t.hw.nvs.busy.toList) ∧
      (NvWrite.cfgHeader (if s.hw.fget R.SUP_CFG_STATUS_APPLIED = 1 then 1 else 0) c (some { d with op := 0x0801 }) true ∈ t.hw.nvs.queue ++ t.hw.nvs.busy.toList) ∧
      t.hw.hif.running = s.hw.hif.running ++ [{ d with op := 0x0801 }] ∧
      t.hw.hif.done = s.hw.hif.done ∧
      t.hw.actRuns .cfg = true ∧
      Frame [.hif, .nvs] [R.HIF_STATUS, R.SUP_ADMIT_STATUS, R.NVS_STATUS] s t)) ∧
    (s.served d 0x0801 → s.hw.fbit R.SUP_CFG_STATUS_CONFLICT = false → s.allows .cfg { d with op := 0x0801 } → d.p2 = 0 → d.flags.testBit 2 = false → d.obj = .bad → s.evRoom 1 → Runs (.cfgWrite d) s (fun t =>
      Answers s t (d.answer 0x0801 stAuth) ∧
      Raises s t [(0x7011, 0x0801, d.src.code, 0)] ∧
      t.hw.actRuns .cfg = false ∧
      t.hw.nvs = s.hw.nvs ∧
      Frame [.hif, .evr] [R.HIF_STATUS, R.SUP_ADMIT_STATUS] s t)) ∧
    (s.served d 0x0801 → s.hw.fbit R.SUP_CFG_STATUS_CONFLICT = false → s.allows .cfg { d with op := 0x0801 } → d.p2 = 0 → d.flags.testBit 2 = true → s.hw.hif.xfers = [] → s.evRoom 1 → Runs (.cfgWrite d) s (fun t =>
      Answers s t (d.answer 0x0801 stOk d.len) ∧
      t.hw.hif.xfers = [({ op := 0x0801, src := d.src, p0 := d.p0, next := d.len, last := s.hw.clk.up } : Xfer)] ∧
      t.hw.actRuns .cfg = true ∧
      Frame [.hif, .evr] [R.HIF_STATUS, R.SUP_ADMIT_STATUS] s t)) ∧
    (s.served d 0x0801 → s.hw.fbit R.SUP_CFG_STATUS_CONFLICT = true → s.evRoom 1 → Runs (.cfgWrite d) s (fun t =>
      Answers s t (d.answer 0x0801 stConflict) ∧
      Frame [.hif, .evr] [R.HIF_STATUS] s t)) ∧
    (s.served d 0x0802 → d.p0 ≤ 1 → d.p2 % 8 = 0 → d.p2 ≤ 262144 → s.hw.nvs.uncorr = [] → s.hw.nvs.injRead = false → Runs (.cfgRead d) s (fun t =>
      (Answers s t (d.answer 0x0802 stOk 0 0 262144 0 0 (s.hw.mbs ((if d.p0 = 0 then 0x50000000 else 0x50040000) + d.p2) (min d.len (262144 - d.p2))))) ∧
      Frame [.hif] [R.HIF_STATUS] s t)) ∧
    (s.served d 0x0803 → s.allows .cfg { d with op := 0x0803 } → s.hw.mode = .stop → d.p0 ≤ 1 → s.hw.slotAuth d.p0 = true → s.hw.cfgSlot d.p0 = some c → s.hw.tableRefusal c = none → Runs (.cfgChoose d) s (fun t =>
      NvWrite.cfgInval (1 - d.p0) (some { d with op := 0x0803 }) ∈ t.hw.nvs.queue ++ t.hw.nvs.busy.toList ∧
      t.hw.hif.running = s.hw.hif.running ++ [{ d with op := 0x0803 }] ∧
      t.hw.actRuns .cfg = true ∧
      Frame [.hif, .nvs] [R.HIF_STATUS, R.SUP_ADMIT_STATUS, R.NVS_STATUS] s t)) ∧
    (s.served d 0x0803 → s.allows .cfg { d with op := 0x0803 } → s.hw.mode ≠ .stop → s.evRoom 1 → Runs (.cfgChoose d) s (fun t =>
      Answers s t (d.answer 0x0803 stMode 0 0 0 s.hw.mode.code) ∧
      t.hw.actRuns .cfg = false ∧
      t.hw.nvs = s.hw.nvs ∧
      Frame [.hif, .evr] [R.HIF_STATUS, R.SUP_ADMIT_STATUS] s t))

/-- DBG_ATTACH from STOP or RUN enters DEBUG with transition cause 0x24 for its source and pair, DBG_DETACH goes back to STOP.
DBG_HALT of an idle pair halts it at once and answers the lead's pc and commit count. While the lead is halted DBG_READ answers a
register, a control register or memory, DBG_WRITE acts on the lead at once and enters the replay queue, BUSY beyond 64; DBG_RESUME
and DBG_STEP apply the queue to the shadow and let both cores go on, a step halting after one instruction. At most 16 breakpoints.
JTAG writes go the same way unless JTAG is disabled. Where the spec leaves a point open the clauses follow the model's own reading
(assumption log 35). (spec/02_operating_modes.md R62, spec/05_comparison.md R148, spec/05_comparison.md R149, spec/12_host_rings.md
R339, spec/16_startup_trust_config.md R428) -/
def Obligations.DebugSession : Prop :=
  ∀ (s : State) (d : Desc) (e : Nat) (l : List Replay) (r : Nat) (v : Word) (k : BitVec 4),
    (s.served d 0x0901 → d.p0 ≤ 3 → s.allows .dbg { d with op := 0x0901 } → s.hw.fget R.SUP_ADMIT_STATUS_RUNNING = 0 → s.hw.startable = true → s.hw.startRefusal .debug = none → s.hw.mode = .stop → Runs (.dbgAttach d) s (fun t =>
      Entered s t .debug 0x24 ∧
      t.hw.exe.dbgSrc = some d.src ∧
      t.hw.fget R.CMP_REPLAY_STATUS_EP = d.p0 ∧
      t.hw.exe.replay = [] ∧
      t.hw.exe.breaks = [] ∧
      t.hw.actRuns .dbg = true ∧
      AnswersIn s t (d.answer 0x0901 stOk 0 0 0 0 0x0030) ∧
      t.hw.tsk.epoch.isSome = true)) ∧
    (s.served d 0x0901 → d.p0 ≤ 3 → s.allows .dbg { d with op := 0x0901 } → s.hw.fget R.SUP_ADMIT_STATUS_RUNNING = 0 → s.hw.startable = true → s.hw.startRefusal .debug = none → s.hw.mode = .run → Runs (.dbgAttach d) s (fun t =>
      Entered s t .debug 0x24 ∧
      t.hw.exe.dbgSrc = some d.src ∧
      t.hw.fget R.CMP_REPLAY_STATUS_EP = d.p0 ∧
      t.hw.exe.replay = [] ∧
      t.hw.exe.breaks = [] ∧
      t.hw.actRuns .dbg = true ∧
      AnswersIn s t (d.answer 0x0901 stOk 0 0 0 0 0x0030) ∧
      t.hw.tsk.epoch = s.hw.tsk.epoch)) ∧
    (s.served d 0x0902 → s.hw.mode = .debug → s.hw.exe.dbgSrc = some d.src → s.hw.fget R.CMP_REPLAY_STATUS_EP = e → e ≤ 3 → s.logsGood → Runs (.dbgDetach d) s (fun t =>
      Entered s t .stop 0x24 ∧
      t.hw.exe.dbgSrc = none ∧
      t.hw.actRuns .dbg = false ∧
      t.hw.tsk.epoch = none ∧
      AnswersIn s t (d.answer 0x0902 stOk 0 0 0 0 0x0030))) ∧
    (s.served d 0x0903 → s.hw.mode = .debug → s.hw.exe.dbgSrc = some d.src → s.hw.fget R.CMP_REPLAY_STATUS_EP = e → e ≤ 3 → s.hw.fbit (R.CMP_EPn_STATUS_HALTED e) = true → s.evRoom 1 → Runs (.dbgHalt d) s (fun t =>
      Answers s t (d.answer 0x0903 stOk (s.hw.cpu (2 * e)).pc.toNat (s.hw.cpu (2 * e)).commits) ∧
      Frame [.hif, .evr] [R.HIF_STATUS] s t)) ∧
    (s.served d 0x0903 → s.hw.mode = .debug → s.hw.exe.dbgSrc = some d.src → s.hw.fget R.CMP_REPLAY_STATUS_EP = e → e ≤ 3 → s.hw.fbit (R.CMP_EPn_STATUS_HALTED e) = false → (s.hw.tgt (2 * e)).task = none → s.hw.hif.running = [] → s.evRoom 1 → Runs (.dbgHalt d) s (fun t =>
      t.hw.fbit (R.CMP_EPn_STATUS_HALTED e) = true ∧
      Answers s t (d.answer 0x0903 stOk (s.hw.cpu (2 * e)).pc.toNat (s.hw.cpu (2 * e)).commits) ∧
      t.hw.cpu (2 * e) = s.hw.cpu (2 * e) ∧
      Frame [.hif, .exe, .evr] [R.HIF_STATUS, R.CMP_EPn_STATUS e] s t)) ∧
    (s.served d 0x0904 → s.hw.mode = .debug → s.hw.exe.dbgSrc = some d.src → s.hw.fget R.CMP_REPLAY_STATUS_EP = e → e ≤ 3 → s.hw.fbit (R.CMP_EPn_STATUS_HALTED e) = true → s.hw.exe.replay = l → s.evRoom 1 → Runs (.dbgResume d) s (fun t =>
      t.hw.fbit (R.CMP_EPn_STATUS_HALTED e) = false ∧
      t.hw.exe.replay = [] ∧
      t.hw.fget R.CMP_REPLAY_STATUS_DEPTH = 0 ∧
      (s.hw.split e = false → t.hw.cpu (2 * e + 1) = l.foldl Cpu.dbgAct (s.hw.cpu (2 * e + 1))) ∧
      t.hw.cpu (2 * e) = s.hw.cpu (2 * e) ∧
      t.hw.fget R.CMP_REPLAY_STATUS_ACTIONS = min 65535 (s.hw.fget R.CMP_REPLAY_STATUS_ACTIONS + l.length + 1) ∧
      Answers s t (d.answer 0x0904 stOk) ∧
      Frame [.hif, .exe, .evr] [R.HIF_STATUS, R.CMP_EPn_STATUS e, R.CMP_REPLAY_STATUS, R.CMP_EPn_STATUS 0, R.CMP_EPn_STATUS 1, R.CMP_EPn_STATUS 2, R.CMP_EPn_STATUS 3] s t)) ∧
    (s.served d 0x0905 → s.hw.mode = .debug → s.hw.exe.dbgSrc = some d.src → s.hw.fget R.CMP_REPLAY_STATUS_EP = e → e ≤ 3 → s.hw.fbit (R.CMP_EPn_STATUS_HALTED e) = true → s.hw.exe.replay = l → l.length < 64 → Runs (.dbgStep d) s (fun t =>
      t.hw.fbit (R.CMP_EPn_STATUS_HALTED e) = false ∧
      t.hw.exe.replay = [] ∧
      t.hw.fget R.CMP_REPLAY_STATUS_DEPTH = 0 ∧
      (s.hw.split e = false → t.hw.cpu (2 * e + 1) = l.foldl Cpu.dbgAct (s.hw.cpu (2 * e + 1))) ∧
      t.hw.cpu (2 * e) = s.hw.cpu (2 * e) ∧
      t.hw.fget R.CMP_REPLAY_STATUS_ACTIONS = min 65535 (s.hw.fget R.CMP_REPLAY_STATUS_ACTIONS + l.length + 1) ∧
      t.hw.exe.stepping = true ∧
      t.hw.hif.running = s.hw.hif.running ++ [{ d with op := 0x0905 }] ∧
      t.hw.hif.done = s.hw.hif.done ∧
      Frame [.hif, .exe] [R.HIF_STATUS, R.CMP_EPn_STATUS e, R.CMP_REPLAY_STATUS] s t)) ∧
    (s.served d 0x0905 → s.hw.mode = .debug → s.hw.exe.dbgSrc = some d.src → s.hw.fget R.CMP_REPLAY_STATUS_EP = e → e ≤ 3 → s.hw.fbit (R.CMP_EPn_STATUS_HALTED e) = true → 64 ≤ s.hw.exe.replay.length → s.evRoom 1 → Runs (.dbgStep d) s (fun t =>
      Answers s t (d.answer 0x0905 stBusy) ∧
      t.hw.exe = s.hw.exe ∧
      Frame [.hif, .evr] [R.HIF_STATUS] s t)) ∧
    (s.served d 0x0906 → s.hw.mode = .debug → s.hw.exe.dbgSrc = some d.src → s.hw.fget R.CMP_REPLAY_STATUS_EP = e → e ≤ 3 → d.p0 % 4 = 0 → d.p0 < 0x01000000 → d.p1 ≤ 1 → s.evRoom 1 → d.p1 = 1 → s.hw.exe.breaks.contains d.p0 = false → s.hw.exe.breaks.length < 16 → Runs (.dbgBreak d) s (fun t =>
      t.hw.exe.breaks = s.hw.exe.breaks ++ [d.p0] ∧
      Answers s t (d.answer 0x0906 stOk) ∧
      Frame [.hif, .exe, .evr] [R.HIF_STATUS] s t)) ∧
    (s.served d 0x0906 → s.hw.mode = .debug → s.hw.exe.dbgSrc = some d.src → s.hw.fget R.CMP_REPLAY_STATUS_EP = e → e ≤ 3 → d.p0 % 4 = 0 → d.p0 < 0x01000000 → d.p1 ≤ 1 → s.evRoom 1 → d.p1 = 1 → s.hw.exe.breaks.contains d.p0 = false → 16 ≤ s.hw.exe.breaks.length → Runs (.dbgBreak d) s (fun t =>
      t.hw.exe.breaks = s.hw.exe.breaks ∧
      Answers s t (d.answer 0x0906 stFull) ∧
      Frame [.hif, .evr] [R.HIF_STATUS] s t)) ∧
    (s.served d 0x0906 → s.hw.mode = .debug → s.hw.exe.dbgSrc = some d.src → s.hw.fget R.CMP_REPLAY_STATUS_EP = e → e ≤ 3 → d.p0 % 4 = 0 → d.p0 < 0x01000000 → d.p1 ≤ 1 → s.evRoom 1 → d.p1 = 0 → Runs (.dbgBreak d) s (fun t =>
      t.hw.exe.breaks = s.hw.exe.breaks.filter (fun (z : Nat) => z != d.p0) ∧
      Answers s t (d.answer 0x0906 stOk) ∧
      Frame [.hif, .exe, .evr] [R.HIF_STATUS] s t)) ∧
    (s.served d 0x0907 → s.hw.mode = .debug → s.hw.exe.dbgSrc = some d.src → s.hw.fget R.CMP_REPLAY_STATUS_EP = e → e ≤ 3 → s.hw.fbit (R.CMP_EPn_STATUS_HALTED e) = true → d.p2 ≤ d.len → d.p0 = 0 → d.p1 < 32 → Runs (.dbgRead d) s (fun t =>
      Answers s t (d.answer 0x0907 stOk 0 0 0 0 0 (leBytes d.p2 ((s.hw.cpu (2 * e)).rd (BitVec.ofNat 5 d.p1)).toNat)) ∧
      Frame [.hif] [R.HIF_STATUS] s t)) ∧
    (s.served d 0x0907 → s.hw.mode = .debug → s.hw.exe.dbgSrc = some d.src → s.hw.fget R.CMP_REPLAY_STATUS_EP = e → e ≤ 3 → s.hw.fbit (R.CMP_EPn_STATUS_HALTED e) = true → d.p2 ≤ d.len → d.p0 = 3 → 0x90000000 ≤ d.p1 → d.p1 + d.p2 ≤ 0x90800000 → Runs (.dbgRead d) s (fun t =>
      Answers s t (d.answer 0x0907 stOk 0 0 0 0 0 (s.hw.mbs d.p1 d.p2)) ∧
      Frame [.hif] [R.HIF_STATUS] s t)) ∧
    (s.served d 0x0908 → s.hw.mode = .debug → s.hw.exe.dbgSrc = some d.src → s.hw.fget R.CMP_REPLAY_STATUS_EP = e → e ≤ 3 → s.hw.fbit (R.CMP_EPn_STATUS_HALTED e) = true → s.hw.exe.replay.length < 64 → d.p0 = 0 → d.p1 < 32 → d.p1 ≠ 0 → s.evRoom 1 → Runs (.dbgWrite d) s (fun t =>
      (t.hw.cpu (2 * e)).rd (BitVec.ofNat 5 d.p1) = BitVec.ofNat 32 d.addr ∧
      t.hw.cpu (2 * e + 1) = s.hw.cpu (2 * e + 1) ∧
      t.hw.exe.replay = s.hw.exe.replay ++ [({ action := 0, ep := e, commit := (s.hw.cpu (2 * e)).commits % 2 ^ 32, reg := d.p1, value := d.addr % 2 ^ 32 } : Replay)] ∧
      t.hw.fget R.CMP_REPLAY_STATUS_DEPTH = t.hw.exe.replay.length ∧
      Answers s t (d.answer 0x0908 stOk) ∧
      Frame [.hif, .exe, .evr] [R.HIF_STATUS, R.CMP_REPLAY_STATUS] s t)) ∧
    (s.served d 0x0908 → s.hw.mode = .debug → s.hw.exe.dbgSrc = some d.src → s.hw.fget R.CMP_REPLAY_STATUS_EP = e → e ≤ 3 → s.hw.fbit (R.CMP_EPn_STATUS_HALTED e) = true → s.hw.exe.replay.length < 64 → d.p0 = 3 → 0x90000000 ≤ d.p1 → d.p1 + 4 ≤ 0x90800000 → d.p1 % 4 = 0 → (s.hw.tgt (2 * e)).task = none → s.evRoom 1 → Runs (.dbgWrite d) s (fun t =>
      (∀ z : Fin 4, t.hw.mb (d.p1 + z.val) = if d.p2.testBit z.val then BitVec.ofNat 8 (d.addr / 2 ^ (8 * z.val)) else s.hw.mb (d.p1 + z.val)) ∧
      (∀ x, (x < d.p1 ∨ d.p1 + 4 ≤ x) → t.hw.mb x = s.hw.mb x) ∧
      t.hw.exe.replay = s.hw.exe.replay ++ [({ action := 4, ep := e, commit := (s.hw.cpu (2 * e)).commits % 2 ^ 32, be := d.p2 % 16, value := d.addr % 2 ^ 32, addr := d.p1 } : Replay)] ∧
      Answers s t (d.answer 0x0908 stOk) ∧
      Frame [.mem, .hif, .exe, .evr] [R.HIF_STATUS, R.CMP_REPLAY_STATUS] s t)) ∧
    (s.served d 0x0908 → s.hw.mode = .debug → s.hw.exe.dbgSrc = some d.src → s.hw.fget R.CMP_REPLAY_STATUS_EP = e → e ≤ 3 → s.hw.fbit (R.CMP_EPn_STATUS_HALTED e) = true → d.p0 = 4 → 64 ≤ s.hw.exe.replay.length → s.evRoom 1 → Runs (.dbgWrite d) s (fun t =>
      Answers s t (d.answer 0x0908 stBusy) ∧
      t.hw.exe = s.hw.exe ∧
      Frame [.hif, .evr] [R.HIF_STATUS] s t)) ∧
    (s.hw.mode = .debug → s.hw.fget R.CMP_REPLAY_STATUS_EP = e → e ≤ 3 → s.hw.fbit (R.CMP_EPn_STATUS_HALTED e) = true → s.hw.exe.replay.length < 64 → s.otp.jtagOff = false → Runs (.jtagAccess 4 r v k) s (fun t =>
      (t.hw.cpu (2 * e)).pc = v ∧
      t.hw.exe.replay = s.hw.exe.replay ++ [({ action := 3, ep := e, commit := (s.hw.cpu (2 * e)).commits % 2 ^ 32, value := v.toNat } : Replay)] ∧
      t.hw.cpu (2 * e + 1) = s.hw.cpu (2 * e + 1) ∧
      Frame [.exe] [R.CMP_REPLAY_STATUS] s t)) ∧
    (s.hw.mode = .debug → s.hw.fget R.CMP_REPLAY_STATUS_EP = e → e ≤ 3 → s.hw.fbit (R.CMP_EPn_STATUS_HALTED e) = true → s.hw.exe.replay.length < 64 → s.otp.jtagOff = true → Runs (.jtagAccess 4 r v k) s (fun t =>
      t.hw.exe = s.hw.exe ∧
      Frame [] [] s t))

/-- INJ_ARM arms a point that Table 16-11 permits in the mode: POINT and ARM in the block's INJ_CTRL, the command running until the
point acts; BUSY while one is armed, MODE outside the point's modes, VALUE for no point. An armed point that acts records the
block's injection event with INJECTED, clears ARM, sets DONE, completes the command, and has its effect (0x902: the next record has
a wrong CRC; 0x601: four pulses of guy line A lost). ATTEST answers 9,026 bytes: member, length, nonce, serial first; 0x010D. The
first PROV_KEY programs slot 0 with KEYADMIN, 0x010A; a later one needs a signature of a KEYADMIN key, else AUTH. Where the spec
leaves a point open the clauses follow the model's own reading (assumption log 3, 10, 65, 67, 68, 69, 70).
(spec/16_startup_trust_config.md R425, spec/16_startup_trust_config.md R442, spec/16_startup_trust_config.md R444,
spec/16_startup_trust_config.md R445, spec/16_startup_trust_config.md R446) -/
def Obligations.InjectionAndTrust : Prop :=
  ∀ (s : State) (d : Desc) (e : Desc) (n : Nat),
    (s.served d 0x0A03 → d.p0 = 0x902 → (s.hw.mode = .test ∨ s.hw.mode = .service) → s.hw.armed 9 = none → Runs (.injArm d) s (fun t =>
      t.hw.reg 0x40090030 = 0x10002#32 ∧
      t.hw.hif.running = s.hw.hif.running ++ [{ d with op := 0x0A03 }] ∧
      t.hw.hif.done = s.hw.hif.done ∧
      Frame [.hif] [R.HIF_STATUS, (0x40090030)] s t)) ∧
    (s.served d 0x0A03 → d.p0 = 0x902 → (s.hw.mode = .test ∨ s.hw.mode = .service) → s.hw.armed 9 = some n → s.evRoom 1 → Runs (.injArm d) s (fun t =>
      Answers s t (d.answer 0x0A03 stBusy) ∧
      Frame [.hif, .evr] [R.HIF_STATUS] s t)) ∧
    (s.served d 0x0A03 → d.p0 = 0x902 → s.hw.mode = .run → s.evRoom 1 → Runs (.injArm d) s (fun t =>
      Answers s t (d.answer 0x0A03 stMode 0 0 0 s.hw.mode.code) ∧
      Frame [.hif, .evr] [R.HIF_STATUS] s t)) ∧
    (s.served d 0x0A03 → d.p0 = 0x904 → s.evRoom 1 → Runs (.injArm d) s (fun t =>
      Answers s t (d.answer 0x0A03 stValue) ∧
      Frame [.hif, .evr] [R.HIF_STATUS] s t)) ∧
    ((s.hw.reg 0x40090030).getLsbD 16 = true → bitsOf (s.hw.reg 0x40090030).toNat 0 4 = 2 → s.hw.hif.running = [e] → e.op = 0x0A03 → e.p0 = 0x902 → e.src.isEng = false → e.relayed = false → s.hw.hif.lost = [] → s.evRoom 2 → Runs (.injectionAct 9) s (fun t =>
      t.hw.reg 0x40090030 = (s.hw.reg 0x40090030 &&& 0xFFFCFFFF#32) ||| 0x20000#32 ∧
      Raises s t [(0x9020, 0x902, 0, 0), (0x7010, 0x0A03, e.src.code, stOk)] ∧
      ((t.hw.evr.inq.drop s.hw.evr.inq.length).head?).map (fun (z : Ev) => z.injected) = some true ∧
      Answers s t (e.answer 0x0A03 stOk 0x9020 0 0 0 0x9020) ∧
      t.hw.hif.running = [] ∧
      t.hw.evr.injCrc = true ∧
      Frame [.hif, .evr] [(0x40090030)] s t)) ∧
    ((s.hw.reg 0x40060030).getLsbD 16 = true → bitsOf (s.hw.reg 0x40060030).toNat 0 4 = 1 → s.hw.hif.running = [e] → e.op = 0x0A03 → e.p0 = 0x601 → e.src.isEng = false → e.relayed = false → s.hw.hif.lost = [] → s.evRoom 2 → Runs (.injectionAct 6) s (fun t =>
      t.hw.reg 0x40060030 = (s.hw.reg 0x40060030 &&& 0xFFFCFFFF#32) ||| 0x20000#32 ∧
      Raises s t [(0x6020, 0x601, 0, 0), (0x7010, 0x0A03, e.src.code, stOk)] ∧
      ((t.hw.evr.inq.drop s.hw.evr.inq.length).head?).map (fun (z : Ev) => z.injected) = some true ∧
      Answers s t (e.answer 0x0A03 stOk 0x6020 0 0 0 0x6020) ∧
      t.hw.hif.running = [] ∧
      t.hw.pair.injA = 4 ∧
      Frame [.hif, .evr, .pair] [(0x40060030)] s t)) ∧
    (s.served d 0x0B01 → 9026 ≤ d.len → s.evRoom 1 → Runs (.attest d) s (fun t =>
      (t.hw.hif.done.getLast?).map (fun (z : Compl) => (z.op, z.status, z.tag, z.res0, z.event, z.out.length)) = some (0x0B01, 0, d.tag, 9026, 0x010D, 9026) ∧
      (t.hw.hif.done.getLast?).map (fun (z : Compl) => z.out.take 48) = some (leBytes 4 0x00010480 ++ leBytes 4 9026 ++ (sliceZ d.data 0 32) ++ leBytes 8 s.otp.serial) ∧
      t.hw.hif.done.length = s.hw.hif.done.length + 1 ∧
      Raises s t [(0x010D, leNat (sliceZ (sliceZ d.data 0 32) 8 4), 0, 0)] ∧
      Frame [.hif, .evr, .free] [R.HIF_STATUS, R.CAL_DATE, R.CAL_TIME] s t)) ∧
    (s.served d 0x0B01 → d.len < 9026 → Runs (.attest d) s (fun t =>
      Answers s t (d.answer 0x0B01 stValue) ∧
      Frame [.hif] [R.HIF_STATUS] s t)) ∧
    (s.served d 0x0B02 → s.hw.mode = .provision → s.hw.fbit R.NVS_STATUS_ARMED = true → d.p0 = 0 → (List.range 16).any s.otp.written = false → 1956 ≤ d.len → d.provPerm < 16 → d.provPerm.testBit 3 = true → s.evRoom 2 → s.otp.bytes = [] → Runs (.provKey d) s (fun t =>
      Answers s t (d.answer 0x0B02 stOk 0 0 0 0 0x010A) ∧
      Raises s t [(0x010A, 0, d.provPerm, 0), (0x7010, 0x0B02, d.src.code, stOk)] ∧
      t.otp.written 0 = true ∧
      t.otp.perm 0 = d.provPerm ∧
      t.otp.digest 0 = d.aux / 2 % 2 ^ 256 ∧
      t.pending = s.pending)) ∧
    (s.served d 0x0B02 → s.hw.mode = .provision → s.hw.fbit R.NVS_STATUS_ARMED = true → 1 ≤ d.p0 → d.p0 ≤ 15 → s.otp.written d.p0 = false → 5269 ≤ d.len → d.provPerm < 16 → s.otp.usable d.provSigner 3 = false → s.evRoom 1 → Runs (.provKey d) s (fun t =>
      Answers s t (d.answer 0x0B02 stAuth) ∧
      Raises s t [(0x7011, 0x0B02, d.src.code, 0)] ∧
      Frame [.hif, .evr] [R.HIF_STATUS] s t))

/-- A query whose TIMEOUT passes enters COP with detail 7 on the lead, the query is over, a request that still waits is withdrawn; a
response within the limit gives k[rd] its value and completes the XQ, one that matches no query is discarded. EXT_RST_N rises not
before 1 µs after SLOT_EN first became non-zero. When EXT_BUSY falls the waiting requests start in order of arrival, each query
outstanding from then on. Where the spec leaves a point open the clauses follow the model's own reading (assumption log 9, 34).
(spec/06_kyoquel_model.md R176, spec/17_electrical.md R465) -/
def Obligations.ExtensionPortEvents : Prop :=
  ∀ (s : State) (i : Fin 8) (v : Word) (q : Query) (w : List (Nat × Bool × List Byte)) (f : List Byte) (n : Nat),
    ((s.hw.tgt i.val).query = some q → (s.hw.tgt i.val).task = some n → q.started = true → (s.hw.cpu i.val).inexc = false → Runs (.extQueryTimeout i) s (fun t =>
      (t.hw.tgt i.val).query = none ∧
      bitsOf (t.hw.cpu i.val).ecause.toNat 0 8 = 9 ∧
      bitsOf (t.hw.cpu i.val).ecause.toNat 8 8 = 7 ∧
      (t.hw.cpu i.val).pc = (s.hw.cpu i.val).vbase + 144#32 ∧
      (t.hw.cpu i.val).epc = (s.hw.cpu i.val).pc ∧
      (t.hw.cpu i.val).epsr = (s.hw.cpu i.val).psr ∧
      (t.hw.cpu i.val).inexc = true ∧
      t.hw.exe.extWait = s.hw.exe.extWait ∧
      q.limit ≤ t.hw.clk.up)) ∧
    ((s.hw.tgt i.val).query = some q → (s.hw.tgt i.val).task = some n → q.started = false → Runs (.extQueryTimeout i) s (fun t =>
      t.hw = s.hw ∧
      Frame [] [] s t)) ∧
    ((s.hw.tgt i.val).query = some q → (s.hw.tgt i.val).task = some n → q.started = true → s.hw.clk.up ≤ q.limit → (s.hw.cyc n).foll = false → (s.hw.cpu i.val).fetchBad = false → Runs (.extResponseReceive i v) s (fun t =>
      (t.hw.tgt i.val).query = none ∧
      ((t.hw.cpu i.val).rd q.rd = (if q.rd = 0#5 then 0#32 else v)) ∧
      (t.hw.cpu i.val).pc = (s.hw.cpu i.val).pc + 4#32 ∧
      (t.hw.cpu i.val).commits = (s.hw.cpu i.val).commits + 1)) ∧
    ((s.hw.tgt i.val).query = none → Runs (.extResponseReceive i v) s (fun t =>
      t.hw.exe = s.hw.exe ∧
      Frame [] [] s t)) ∧
    (s.hw.fget R.EXE_EXT_CFG_SLOT_EN ≠ 0 → s.hw.mode ≠ .boot → s.hw.mode ≠ .parked → Runs (.extRstNRelease) s (fun t =>
      t.hw.exe.extRst = true ∧
      s.hw.exe.extAt + 1000 ≤ t.hw.clk.up ∧
      Frame [.clk, .exe] [] s t)) ∧
    (s.hw.exe.extWait = w → (∀ z ∈ w, z.2.1 = false) → Runs (.extBusyLow false) s (fun t =>
      t.hw.exe.extBusy = false ∧
      t.hw.exe.extWait = [] ∧
      t.hw.exe.extOut = s.hw.exe.extOut ++ w.map (fun (z : Nat × Bool × List Byte) => z.2.2) ∧
      Frame [.exe] [] s t)) ∧
    (s.hw.exe.extWait = [(i.val, true, f)] → (s.hw.tgt i.val).query = some q → Runs (.extBusyLow false) s (fun t =>
      t.hw.exe.extWait = [] ∧
      t.hw.exe.extOut = s.hw.exe.extOut ++ [f] ∧
      (t.hw.tgt i.val).query = some { q with started := true, limit := s.hw.extLimit } ∧
      Frame [.exe] [] s t))

/-- With a command at the front of its queue the machine's step is exec of that command with the queue's rest. On an empty queue
(the model's choice, log 1) one NET clock of 8 ns passes and nothing but the clocks changes. No word of the table's bits spells a
command, so that withFetchWord leaves the state. (spec/12_host_rings.md R340) -/
def Obligations.StepRunsFront : Prop :=
  (∀ (c : Instr) (r : List Instr) (s : State), step { s with pending := c :: r } = exec c { s with pending := r }) ∧
  (∀ s : State, s.pending = [] → ∃ t, step s = .next t ∧ t.hw.clk.up = s.hw.clk.up + 8 ∧ Frame [.clk] [] s t) ∧
  (∀ nbits w, decodeTableWord nbits w = none) ∧ (∀ (s : State) nbits w, s.withFetchWord nbits w = s)

/-- For every command and every state exec answers a next state, neither a fault nor a refusal, with the queue of waiting commands
as it was; so does every step, with the queue one command shorter. Where the spec leaves a point open the clauses follow the model's
own reading (assumption log 4). (spec/12_host_rings.md R341, spec/00_scope.md R11) -/
def Obligations.EveryCommandAnswers : Prop :=
  (∀ (c : Instr) (s : State), Runs c s (fun t => t.pending = s.pending)) ∧
  (∀ s : State, ∃ t, step s = .next t ∧ t.pending = s.pending.drop 1)

/-- At reset SUP_FAMILY_ID reads 0x48046410 and each block's identification 0xAE10n001, POLL_US is 5, the extension port's TIMEOUT
10 µs, the scrubber and queues are empty, no command waits, memory lists nothing and is well formed, no key slot is written, and the
store keeps what it holds (the invariant of OtpStoreOnlyGains at reset). Where the spec leaves a point open the clauses follow the
model's own reading (assumption log 5, 11, 24, 25, 26). (spec/00_scope.md R2, spec/00_scope.md R4, spec/00_scope.md R6) -/
def Obligations.ResetState : Prop :=
  State.reset.hw.reg R.SUP_FAMILY_ID = 0x48046410#32 ∧
  (∀ b : Fin 12, State.reset.hw.reg (0x40000000 + b.val * 0x10000) = BitVec.ofNat 32 (0xAE100001 + b.val * 0x1000)) ∧
  State.reset.hw.fget R.HIF_CTRL_POLL_US = 5 ∧ State.reset.hw.fbit R.HIF_CTRL_GO = false ∧ State.reset.hw.fget R.EXE_EXT_CFG_TIMEOUT = 10 ∧
  State.reset.hw.hif.queue = [] ∧ State.reset.pending = [] ∧ State.reset.hw.mem = [] ∧ Memory.wf State.reset.hw.mem = true ∧
  State.reset.hw.prog = {} ∧ State.reset.hw.nvs.cfgA = none ∧ State.reset.hw.nvs.cfgB = none ∧ (∀ k, State.reset.otp.written k = false) ∧
  State.reset.otp.keeps State.reset.otp

/-- For every Kyoquel instruction, with every operand at every value its fields hold, the decoder reads the instruction back from
its word; and every word that the decoder accepts is the word of the instruction it reads, so that no bit of an encoding is dropped
and no two instructions share a word. (spec/07_kyoquel_instructions.md R178, spec/07_kyoquel_instructions.md R179) -/
def Obligations.KyoquelDecodeEncode : Prop :=
  (∀ i : Ky, kyDecode (kyEncode i) = some i) ∧ (∀ (w : Word) (i : Ky), kyDecode w = some i → kyEncode i = w)

/-- For every store o: if what o holds is kept in a state (every bit that is 1, every written key slot whole), then it is kept in
the state that any step answers, whatever the command: keys are only added to unwritten slots, and KEY_REVOKE, FW_REVOKE and
JTAG_DISABLE bits are only set. (spec/16_startup_trust_config.md R425, spec/16_startup_trust_config.md R426,
spec/16_startup_trust_config.md R427) -/
def Obligations.OtpStoreOnlyGains : Prop :=
  ∀ (o : Otp) (s t : State), o.keeps s.otp → step s = .next t → o.keeps t.otp
end

