-- ==== Sys2Proof/Laws/Bits.lean ====
section
/-! SUPPORT. Laws of the bit fields. -/

namespace Sys2Proof.Machine

@[simp] theorem b2n_true : b2n true = 1 := rfl
@[simp] theorem b2n_false : b2n false = 0 := rfl

theorem b2n_le (b : Bool) : b2n b ≤ 1 := by cases b <;> decide

/-- A field holds what was put into it, cut to its width. -/
theorem bitsOf_setBitsOf_same (v lo w x : Nat) : bitsOf (setBitsOf v lo w x) lo w = x % 2 ^ w := by
  unfold bitsOf setBitsOf
  have hp : 0 < 2 ^ lo := Nat.two_pow_pos lo
  have e : v % 2 ^ lo + x % 2 ^ w * 2 ^ lo + v / 2 ^ (lo + w) * 2 ^ (lo + w)
      = v % 2 ^ lo + (x % 2 ^ w + v / 2 ^ (lo + w) * 2 ^ w) * 2 ^ lo := by
    rw [Nat.pow_add, Nat.add_mul, Nat.add_assoc, ← Nat.mul_assoc, Nat.mul_right_comm]
  rw [e, Nat.add_mul_div_right _ _ hp, Nat.div_eq_of_lt (Nat.mod_lt _ hp), Nat.zero_add, Nat.add_mul_mod_self_right, Nat.mod_mod]

/-- Bit `i` of a field put into a number. -/
theorem testBit_setBitsOf (v lo w x i : Nat) :
    (setBitsOf v lo w x).testBit i = if lo ≤ i ∧ i < lo + w then (x % 2 ^ w).testBit (i - lo) else v.testBit i := by
  have e : setBitsOf v lo w x = 2 ^ (lo + w) * (v / 2 ^ (lo + w)) + (2 ^ lo * (x % 2 ^ w) + v % 2 ^ lo) := by
    unfold setBitsOf; rw [Nat.mul_comm (2 ^ (lo + w)), Nat.mul_comm (2 ^ lo)]; omega
  have hx : x % 2 ^ w < 2 ^ w := Nat.mod_lt _ (Nat.two_pow_pos w)
  have hl : v % 2 ^ lo < 2 ^ lo := Nat.mod_lt _ (Nat.two_pow_pos lo)
  have hb : 2 ^ lo * (x % 2 ^ w) + v % 2 ^ lo < 2 ^ (lo + w) := by
    rw [Nat.pow_add]
    calc 2 ^ lo * (x % 2 ^ w) + v % 2 ^ lo < 2 ^ lo * (x % 2 ^ w) + 2 ^ lo := by omega
      _ = 2 ^ lo * (x % 2 ^ w + 1) := by rw [Nat.mul_add, Nat.mul_one]
      _ ≤ 2 ^ lo * 2 ^ w := Nat.mul_le_mul_left _ hx
  rw [e, Nat.testBit_two_pow_mul_add _ hb, Nat.testBit_two_pow_mul_add _ hl]
  by_cases h1 : i < lo
  · simp [h1, Nat.testBit_mod_two_pow, show i < lo + w by omega, show ¬ lo ≤ i by omega]
  · by_cases h2 : i < lo + w
    · simp [h1, h2, show lo ≤ i by omega]
    · simp [h1, h2, Nat.testBit_div_two_pow, show i - (lo + w) + (lo + w) = i by omega]

/-- A field keeps its value when a field apart from it is written. -/
theorem bitsOf_setBitsOf_apart (v lo w x m n : Nat) (h : m + n ≤ lo ∨ lo + w ≤ m) :
    bitsOf (setBitsOf v lo w x) m n = bitsOf v m n := by
  apply Nat.eq_of_testBit_eq
  intro i
  simp only [bitsOf, Nat.testBit_mod_two_pow, Nat.testBit_div_two_pow, testBit_setBitsOf]
  by_cases hi : i < n
  · have : ¬ (lo ≤ i + m ∧ i + m < lo + w) := by omega
    simp [hi, this]
  · simp [hi]

/-- Writing a field that lies inside 32 bits keeps the number inside 32 bits. -/
theorem setBitsOf_lt (v lo w x : Nat) (hv : v < 2 ^ 32) (h : lo + w ≤ 32) : setBitsOf v lo w x < 2 ^ 32 := by
  apply Nat.lt_pow_two_of_testBit
  intro i hi
  rw [testBit_setBitsOf]
  have h1 : ¬ (lo ≤ i ∧ i < lo + w) := by omega
  simp only [h1, if_false]
  exact Nat.testBit_lt_two_pow (Nat.lt_of_lt_of_le hv (Nat.pow_le_pow_right (by decide) hi))

end Sys2Proof.Machine
end

