-- ==== Sys2Proof/Laws/State.lean ====
section
/-! SUPPORT. What each named update of the hardware leaves as it was: one lemma per field and update. -/

namespace Sys2Proof.Machine

variable (h : Hw)

/-! ## setReg -/

@[simp] theorem Hw.setReg_clk (a : Nat) (v : Word) : (h.setReg a v).clk = h.clk := rfl
@[simp] theorem Hw.setReg_pend (a : Nat) (v : Word) : (h.setReg a v).pend = h.pend := rfl
@[simp] theorem Hw.setReg_mem (a : Nat) (v : Word) : (h.setReg a v).mem = h.mem := rfl
@[simp] theorem Hw.setReg_sup (a : Nat) (v : Word) : (h.setReg a v).sup = h.sup := rfl
@[simp] theorem Hw.setReg_exe (a : Nat) (v : Word) : (h.setReg a v).exe = h.exe := rfl
@[simp] theorem Hw.setReg_tsk (a : Nat) (v : Word) : (h.setReg a v).tsk = h.tsk := rfl
@[simp] theorem Hw.setReg_hif (a : Nat) (v : Word) : (h.setReg a v).hif = h.hif := rfl
@[simp] theorem Hw.setReg_nvs (a : Nat) (v : Word) : (h.setReg a v).nvs = h.nvs := rfl
@[simp] theorem Hw.setReg_net (a : Nat) (v : Word) : (h.setReg a v).net = h.net := rfl
@[simp] theorem Hw.setReg_fld (a : Nat) (v : Word) : (h.setReg a v).fld = h.fld := rfl
@[simp] theorem Hw.setReg_pair (a : Nat) (v : Word) : (h.setReg a v).pair = h.pair := rfl
@[simp] theorem Hw.setReg_evr (a : Nat) (v : Word) : (h.setReg a v).evr = h.evr := rfl
@[simp] theorem Hw.setReg_wdg (a : Nat) (v : Word) : (h.setReg a v).wdg = h.wdg := rfl
@[simp] theorem Hw.setReg_cal (a : Nat) (v : Word) : (h.setReg a v).cal = h.cal := rfl
@[simp] theorem Hw.setReg_prog (a : Nat) (v : Word) : (h.setReg a v).prog = h.prog := rfl
@[simp] theorem Hw.setReg_free (a : Nat) (v : Word) : (h.setReg a v).free = h.free := rfl

/-! ## fset -/

@[simp] theorem Hw.fset_clk (f : Fld) (v : Nat) : (h.fset f v).clk = h.clk := rfl
@[simp] theorem Hw.fset_pend (f : Fld) (v : Nat) : (h.fset f v).pend = h.pend := rfl
@[simp] theorem Hw.fset_mem (f : Fld) (v : Nat) : (h.fset f v).mem = h.mem := rfl
@[simp] theorem Hw.fset_sup (f : Fld) (v : Nat) : (h.fset f v).sup = h.sup := rfl
@[simp] theorem Hw.fset_exe (f : Fld) (v : Nat) : (h.fset f v).exe = h.exe := rfl
@[simp] theorem Hw.fset_tsk (f : Fld) (v : Nat) : (h.fset f v).tsk = h.tsk := rfl
@[simp] theorem Hw.fset_hif (f : Fld) (v : Nat) : (h.fset f v).hif = h.hif := rfl
@[simp] theorem Hw.fset_nvs (f : Fld) (v : Nat) : (h.fset f v).nvs = h.nvs := rfl
@[simp] theorem Hw.fset_net (f : Fld) (v : Nat) : (h.fset f v).net = h.net := rfl
@[simp] theorem Hw.fset_fld (f : Fld) (v : Nat) : (h.fset f v).fld = h.fld := rfl
@[simp] theorem Hw.fset_pair (f : Fld) (v : Nat) : (h.fset f v).pair = h.pair := rfl
@[simp] theorem Hw.fset_evr (f : Fld) (v : Nat) : (h.fset f v).evr = h.evr := rfl
@[simp] theorem Hw.fset_wdg (f : Fld) (v : Nat) : (h.fset f v).wdg = h.wdg := rfl
@[simp] theorem Hw.fset_cal (f : Fld) (v : Nat) : (h.fset f v).cal = h.cal := rfl
@[simp] theorem Hw.fset_prog (f : Fld) (v : Nat) : (h.fset f v).prog = h.prog := rfl
@[simp] theorem Hw.fset_free (f : Fld) (v : Nat) : (h.fset f v).free = h.free := rfl

/-! ## finc -/

@[simp] theorem Hw.finc_clk (f : Fld) : (h.finc f).clk = h.clk := rfl
@[simp] theorem Hw.finc_pend (f : Fld) : (h.finc f).pend = h.pend := rfl
@[simp] theorem Hw.finc_mem (f : Fld) : (h.finc f).mem = h.mem := rfl
@[simp] theorem Hw.finc_sup (f : Fld) : (h.finc f).sup = h.sup := rfl
@[simp] theorem Hw.finc_exe (f : Fld) : (h.finc f).exe = h.exe := rfl
@[simp] theorem Hw.finc_tsk (f : Fld) : (h.finc f).tsk = h.tsk := rfl
@[simp] theorem Hw.finc_hif (f : Fld) : (h.finc f).hif = h.hif := rfl
@[simp] theorem Hw.finc_nvs (f : Fld) : (h.finc f).nvs = h.nvs := rfl
@[simp] theorem Hw.finc_net (f : Fld) : (h.finc f).net = h.net := rfl
@[simp] theorem Hw.finc_fld (f : Fld) : (h.finc f).fld = h.fld := rfl
@[simp] theorem Hw.finc_pair (f : Fld) : (h.finc f).pair = h.pair := rfl
@[simp] theorem Hw.finc_evr (f : Fld) : (h.finc f).evr = h.evr := rfl
@[simp] theorem Hw.finc_wdg (f : Fld) : (h.finc f).wdg = h.wdg := rfl
@[simp] theorem Hw.finc_cal (f : Fld) : (h.finc f).cal = h.cal := rfl
@[simp] theorem Hw.finc_prog (f : Fld) : (h.finc f).prog = h.prog := rfl
@[simp] theorem Hw.finc_free (f : Fld) : (h.finc f).free = h.free := rfl

/-! ## setMb -/

@[simp] theorem Hw.setMb_clk (a : Nat) (b : Byte) : (h.setMb a b).clk = h.clk := rfl
@[simp] theorem Hw.setMb_regs (a : Nat) (b : Byte) : (h.setMb a b).regs = h.regs := rfl
@[simp] theorem Hw.setMb_pend (a : Nat) (b : Byte) : (h.setMb a b).pend = h.pend := rfl
@[simp] theorem Hw.setMb_sup (a : Nat) (b : Byte) : (h.setMb a b).sup = h.sup := rfl
@[simp] theorem Hw.setMb_exe (a : Nat) (b : Byte) : (h.setMb a b).exe = h.exe := rfl
@[simp] theorem Hw.setMb_tsk (a : Nat) (b : Byte) : (h.setMb a b).tsk = h.tsk := rfl
@[simp] theorem Hw.setMb_hif (a : Nat) (b : Byte) : (h.setMb a b).hif = h.hif := rfl
@[simp] theorem Hw.setMb_nvs (a : Nat) (b : Byte) : (h.setMb a b).nvs = h.nvs := rfl
@[simp] theorem Hw.setMb_net (a : Nat) (b : Byte) : (h.setMb a b).net = h.net := rfl
@[simp] theorem Hw.setMb_fld (a : Nat) (b : Byte) : (h.setMb a b).fld = h.fld := rfl
@[simp] theorem Hw.setMb_pair (a : Nat) (b : Byte) : (h.setMb a b).pair = h.pair := rfl
@[simp] theorem Hw.setMb_evr (a : Nat) (b : Byte) : (h.setMb a b).evr = h.evr := rfl
@[simp] theorem Hw.setMb_wdg (a : Nat) (b : Byte) : (h.setMb a b).wdg = h.wdg := rfl
@[simp] theorem Hw.setMb_cal (a : Nat) (b : Byte) : (h.setMb a b).cal = h.cal := rfl
@[simp] theorem Hw.setMb_prog (a : Nat) (b : Byte) : (h.setMb a b).prog = h.prog := rfl
@[simp] theorem Hw.setMb_free (a : Nat) (b : Byte) : (h.setMb a b).free = h.free := rfl

/-! ## pass -/

@[simp] theorem Hw.pass_regs (d : Nat) : (h.pass d).regs = h.regs := rfl
@[simp] theorem Hw.pass_pend (d : Nat) : (h.pass d).pend = h.pend := rfl
@[simp] theorem Hw.pass_mem (d : Nat) : (h.pass d).mem = h.mem := rfl
@[simp] theorem Hw.pass_sup (d : Nat) : (h.pass d).sup = h.sup := rfl
@[simp] theorem Hw.pass_exe (d : Nat) : (h.pass d).exe = h.exe := rfl
@[simp] theorem Hw.pass_tsk (d : Nat) : (h.pass d).tsk = h.tsk := rfl
@[simp] theorem Hw.pass_hif (d : Nat) : (h.pass d).hif = h.hif := rfl
@[simp] theorem Hw.pass_nvs (d : Nat) : (h.pass d).nvs = h.nvs := rfl
@[simp] theorem Hw.pass_net (d : Nat) : (h.pass d).net = h.net := rfl
@[simp] theorem Hw.pass_fld (d : Nat) : (h.pass d).fld = h.fld := rfl
@[simp] theorem Hw.pass_pair (d : Nat) : (h.pass d).pair = h.pair := rfl
@[simp] theorem Hw.pass_evr (d : Nat) : (h.pass d).evr = h.evr := rfl
@[simp] theorem Hw.pass_wdg (d : Nat) : (h.pass d).wdg = h.wdg := rfl
@[simp] theorem Hw.pass_cal (d : Nat) : (h.pass d).cal = h.cal := rfl
@[simp] theorem Hw.pass_prog (d : Nat) : (h.pass d).prog = h.prog := rfl
@[simp] theorem Hw.pass_free (d : Nat) : (h.pass d).free = h.free := rfl

/-! ## untilTb -/

@[simp] theorem Hw.untilTb_regs (t : Nat) : (h.untilTb t).regs = h.regs := rfl
@[simp] theorem Hw.untilTb_pend (t : Nat) : (h.untilTb t).pend = h.pend := rfl
@[simp] theorem Hw.untilTb_mem (t : Nat) : (h.untilTb t).mem = h.mem := rfl
@[simp] theorem Hw.untilTb_sup (t : Nat) : (h.untilTb t).sup = h.sup := rfl
@[simp] theorem Hw.untilTb_exe (t : Nat) : (h.untilTb t).exe = h.exe := rfl
@[simp] theorem Hw.untilTb_tsk (t : Nat) : (h.untilTb t).tsk = h.tsk := rfl
@[simp] theorem Hw.untilTb_hif (t : Nat) : (h.untilTb t).hif = h.hif := rfl
@[simp] theorem Hw.untilTb_nvs (t : Nat) : (h.untilTb t).nvs = h.nvs := rfl
@[simp] theorem Hw.untilTb_net (t : Nat) : (h.untilTb t).net = h.net := rfl
@[simp] theorem Hw.untilTb_fld (t : Nat) : (h.untilTb t).fld = h.fld := rfl
@[simp] theorem Hw.untilTb_pair (t : Nat) : (h.untilTb t).pair = h.pair := rfl
@[simp] theorem Hw.untilTb_evr (t : Nat) : (h.untilTb t).evr = h.evr := rfl
@[simp] theorem Hw.untilTb_wdg (t : Nat) : (h.untilTb t).wdg = h.wdg := rfl
@[simp] theorem Hw.untilTb_cal (t : Nat) : (h.untilTb t).cal = h.cal := rfl
@[simp] theorem Hw.untilTb_prog (t : Nat) : (h.untilTb t).prog = h.prog := rfl
@[simp] theorem Hw.untilTb_free (t : Nat) : (h.untilTb t).free = h.free := rfl

/-! ## untilUp -/

@[simp] theorem Hw.untilUp_regs (t : Nat) : (h.untilUp t).regs = h.regs := rfl
@[simp] theorem Hw.untilUp_pend (t : Nat) : (h.untilUp t).pend = h.pend := rfl
@[simp] theorem Hw.untilUp_mem (t : Nat) : (h.untilUp t).mem = h.mem := rfl
@[simp] theorem Hw.untilUp_sup (t : Nat) : (h.untilUp t).sup = h.sup := rfl
@[simp] theorem Hw.untilUp_exe (t : Nat) : (h.untilUp t).exe = h.exe := rfl
@[simp] theorem Hw.untilUp_tsk (t : Nat) : (h.untilUp t).tsk = h.tsk := rfl
@[simp] theorem Hw.untilUp_hif (t : Nat) : (h.untilUp t).hif = h.hif := rfl
@[simp] theorem Hw.untilUp_nvs (t : Nat) : (h.untilUp t).nvs = h.nvs := rfl
@[simp] theorem Hw.untilUp_net (t : Nat) : (h.untilUp t).net = h.net := rfl
@[simp] theorem Hw.untilUp_fld (t : Nat) : (h.untilUp t).fld = h.fld := rfl
@[simp] theorem Hw.untilUp_pair (t : Nat) : (h.untilUp t).pair = h.pair := rfl
@[simp] theorem Hw.untilUp_evr (t : Nat) : (h.untilUp t).evr = h.evr := rfl
@[simp] theorem Hw.untilUp_wdg (t : Nat) : (h.untilUp t).wdg = h.wdg := rfl
@[simp] theorem Hw.untilUp_cal (t : Nat) : (h.untilUp t).cal = h.cal := rfl
@[simp] theorem Hw.untilUp_prog (t : Nat) : (h.untilUp t).prog = h.prog := rfl
@[simp] theorem Hw.untilUp_free (t : Nat) : (h.untilUp t).free = h.free := rfl

/-! ## bump -/

@[simp] theorem Hw.bump_clk : (h.bump).clk = h.clk := rfl
@[simp] theorem Hw.bump_regs : (h.bump).regs = h.regs := rfl
@[simp] theorem Hw.bump_pend : (h.bump).pend = h.pend := rfl
@[simp] theorem Hw.bump_mem : (h.bump).mem = h.mem := rfl
@[simp] theorem Hw.bump_sup : (h.bump).sup = h.sup := rfl
@[simp] theorem Hw.bump_exe : (h.bump).exe = h.exe := rfl
@[simp] theorem Hw.bump_tsk : (h.bump).tsk = h.tsk := rfl
@[simp] theorem Hw.bump_hif : (h.bump).hif = h.hif := rfl
@[simp] theorem Hw.bump_nvs : (h.bump).nvs = h.nvs := rfl
@[simp] theorem Hw.bump_net : (h.bump).net = h.net := rfl
@[simp] theorem Hw.bump_fld : (h.bump).fld = h.fld := rfl
@[simp] theorem Hw.bump_pair : (h.bump).pair = h.pair := rfl
@[simp] theorem Hw.bump_evr : (h.bump).evr = h.evr := rfl
@[simp] theorem Hw.bump_wdg : (h.bump).wdg = h.wdg := rfl
@[simp] theorem Hw.bump_cal : (h.bump).cal = h.cal := rfl
@[simp] theorem Hw.bump_prog : (h.bump).prog = h.prog := rfl

/-! ## netSend -/

@[simp] theorem Hw.netSend_clk (x : NetOut) : (h.netSend x).clk = h.clk := rfl
@[simp] theorem Hw.netSend_regs (x : NetOut) : (h.netSend x).regs = h.regs := rfl
@[simp] theorem Hw.netSend_pend (x : NetOut) : (h.netSend x).pend = h.pend := rfl
@[simp] theorem Hw.netSend_mem (x : NetOut) : (h.netSend x).mem = h.mem := rfl
@[simp] theorem Hw.netSend_sup (x : NetOut) : (h.netSend x).sup = h.sup := rfl
@[simp] theorem Hw.netSend_exe (x : NetOut) : (h.netSend x).exe = h.exe := rfl
@[simp] theorem Hw.netSend_tsk (x : NetOut) : (h.netSend x).tsk = h.tsk := rfl
@[simp] theorem Hw.netSend_hif (x : NetOut) : (h.netSend x).hif = h.hif := rfl
@[simp] theorem Hw.netSend_nvs (x : NetOut) : (h.netSend x).nvs = h.nvs := rfl
@[simp] theorem Hw.netSend_fld (x : NetOut) : (h.netSend x).fld = h.fld := rfl
@[simp] theorem Hw.netSend_pair (x : NetOut) : (h.netSend x).pair = h.pair := rfl
@[simp] theorem Hw.netSend_evr (x : NetOut) : (h.netSend x).evr = h.evr := rfl
@[simp] theorem Hw.netSend_wdg (x : NetOut) : (h.netSend x).wdg = h.wdg := rfl
@[simp] theorem Hw.netSend_cal (x : NetOut) : (h.netSend x).cal = h.cal := rfl
@[simp] theorem Hw.netSend_prog (x : NetOut) : (h.netSend x).prog = h.prog := rfl
@[simp] theorem Hw.netSend_free (x : NetOut) : (h.netSend x).free = h.free := rfl

/-! ## pairSend -/

@[simp] theorem Hw.pairSend_clk (m : SyncMsg) : (h.pairSend m).clk = h.clk := rfl
@[simp] theorem Hw.pairSend_regs (m : SyncMsg) : (h.pairSend m).regs = h.regs := rfl
@[simp] theorem Hw.pairSend_pend (m : SyncMsg) : (h.pairSend m).pend = h.pend := rfl
@[simp] theorem Hw.pairSend_mem (m : SyncMsg) : (h.pairSend m).mem = h.mem := rfl
@[simp] theorem Hw.pairSend_sup (m : SyncMsg) : (h.pairSend m).sup = h.sup := rfl
@[simp] theorem Hw.pairSend_exe (m : SyncMsg) : (h.pairSend m).exe = h.exe := rfl
@[simp] theorem Hw.pairSend_tsk (m : SyncMsg) : (h.pairSend m).tsk = h.tsk := rfl
@[simp] theorem Hw.pairSend_hif (m : SyncMsg) : (h.pairSend m).hif = h.hif := rfl
@[simp] theorem Hw.pairSend_nvs (m : SyncMsg) : (h.pairSend m).nvs = h.nvs := rfl
@[simp] theorem Hw.pairSend_net (m : SyncMsg) : (h.pairSend m).net = h.net := rfl
@[simp] theorem Hw.pairSend_fld (m : SyncMsg) : (h.pairSend m).fld = h.fld := rfl
@[simp] theorem Hw.pairSend_evr (m : SyncMsg) : (h.pairSend m).evr = h.evr := rfl
@[simp] theorem Hw.pairSend_wdg (m : SyncMsg) : (h.pairSend m).wdg = h.wdg := rfl
@[simp] theorem Hw.pairSend_cal (m : SyncMsg) : (h.pairSend m).cal = h.cal := rfl
@[simp] theorem Hw.pairSend_prog (m : SyncMsg) : (h.pairSend m).prog = h.prog := rfl
@[simp] theorem Hw.pairSend_free (m : SyncMsg) : (h.pairSend m).free = h.free := rfl

/-! ## stopPublishing -/

@[simp] theorem Hw.stopPublishing_clk : (h.stopPublishing).clk = h.clk := rfl
@[simp] theorem Hw.stopPublishing_regs : (h.stopPublishing).regs = h.regs := rfl
@[simp] theorem Hw.stopPublishing_pend : (h.stopPublishing).pend = h.pend := rfl
@[simp] theorem Hw.stopPublishing_mem : (h.stopPublishing).mem = h.mem := rfl
@[simp] theorem Hw.stopPublishing_sup : (h.stopPublishing).sup = h.sup := rfl
@[simp] theorem Hw.stopPublishing_exe : (h.stopPublishing).exe = h.exe := rfl
@[simp] theorem Hw.stopPublishing_tsk : (h.stopPublishing).tsk = h.tsk := rfl
@[simp] theorem Hw.stopPublishing_hif : (h.stopPublishing).hif = h.hif := rfl
@[simp] theorem Hw.stopPublishing_nvs : (h.stopPublishing).nvs = h.nvs := rfl
@[simp] theorem Hw.stopPublishing_fld : (h.stopPublishing).fld = h.fld := rfl
@[simp] theorem Hw.stopPublishing_pair : (h.stopPublishing).pair = h.pair := rfl
@[simp] theorem Hw.stopPublishing_evr : (h.stopPublishing).evr = h.evr := rfl
@[simp] theorem Hw.stopPublishing_wdg : (h.stopPublishing).wdg = h.wdg := rfl
@[simp] theorem Hw.stopPublishing_cal : (h.stopPublishing).cal = h.cal := rfl
@[simp] theorem Hw.stopPublishing_prog : (h.stopPublishing).prog = h.prog := rfl
@[simp] theorem Hw.stopPublishing_free : (h.stopPublishing).free = h.free := rfl

/-! ## raiseEv -/

@[simp] theorem Hw.raiseEv_clk (e : Ev) : (h.raiseEv e).clk = h.clk := by unfold Hw.raiseEv; split <;> rfl
@[simp] theorem Hw.raiseEv_pend (e : Ev) : (h.raiseEv e).pend = h.pend := by unfold Hw.raiseEv; split <;> rfl
@[simp] theorem Hw.raiseEv_mem (e : Ev) : (h.raiseEv e).mem = h.mem := by unfold Hw.raiseEv; split <;> rfl
@[simp] theorem Hw.raiseEv_sup (e : Ev) : (h.raiseEv e).sup = h.sup := by unfold Hw.raiseEv; split <;> rfl
@[simp] theorem Hw.raiseEv_exe (e : Ev) : (h.raiseEv e).exe = h.exe := by unfold Hw.raiseEv; split <;> rfl
@[simp] theorem Hw.raiseEv_tsk (e : Ev) : (h.raiseEv e).tsk = h.tsk := by unfold Hw.raiseEv; split <;> rfl
@[simp] theorem Hw.raiseEv_hif (e : Ev) : (h.raiseEv e).hif = h.hif := by unfold Hw.raiseEv; split <;> rfl
@[simp] theorem Hw.raiseEv_nvs (e : Ev) : (h.raiseEv e).nvs = h.nvs := by unfold Hw.raiseEv; split <;> rfl
@[simp] theorem Hw.raiseEv_net (e : Ev) : (h.raiseEv e).net = h.net := by unfold Hw.raiseEv; split <;> rfl
@[simp] theorem Hw.raiseEv_fld (e : Ev) : (h.raiseEv e).fld = h.fld := by unfold Hw.raiseEv; split <;> rfl
@[simp] theorem Hw.raiseEv_pair (e : Ev) : (h.raiseEv e).pair = h.pair := by unfold Hw.raiseEv; split <;> rfl
@[simp] theorem Hw.raiseEv_wdg (e : Ev) : (h.raiseEv e).wdg = h.wdg := by unfold Hw.raiseEv; split <;> rfl
@[simp] theorem Hw.raiseEv_cal (e : Ev) : (h.raiseEv e).cal = h.cal := by unfold Hw.raiseEv; split <;> rfl
@[simp] theorem Hw.raiseEv_prog (e : Ev) : (h.raiseEv e).prog = h.prog := by unfold Hw.raiseEv; split <;> rfl
@[simp] theorem Hw.raiseEv_free (e : Ev) : (h.raiseEv e).free = h.free := by unfold Hw.raiseEv; split <;> rfl

/-! ## raise -/

@[simp] theorem Hw.raise_clk (c p0 p1 p2 : Nat) : (h.raise c p0 p1 p2).clk = h.clk := by unfold Hw.raise Hw.raiseEv; split <;> rfl
@[simp] theorem Hw.raise_pend (c p0 p1 p2 : Nat) : (h.raise c p0 p1 p2).pend = h.pend := by unfold Hw.raise Hw.raiseEv; split <;> rfl
@[simp] theorem Hw.raise_mem (c p0 p1 p2 : Nat) : (h.raise c p0 p1 p2).mem = h.mem := by unfold Hw.raise Hw.raiseEv; split <;> rfl
@[simp] theorem Hw.raise_sup (c p0 p1 p2 : Nat) : (h.raise c p0 p1 p2).sup = h.sup := by unfold Hw.raise Hw.raiseEv; split <;> rfl
@[simp] theorem Hw.raise_exe (c p0 p1 p2 : Nat) : (h.raise c p0 p1 p2).exe = h.exe := by unfold Hw.raise Hw.raiseEv; split <;> rfl
@[simp] theorem Hw.raise_tsk (c p0 p1 p2 : Nat) : (h.raise c p0 p1 p2).tsk = h.tsk := by unfold Hw.raise Hw.raiseEv; split <;> rfl
@[simp] theorem Hw.raise_hif (c p0 p1 p2 : Nat) : (h.raise c p0 p1 p2).hif = h.hif := by unfold Hw.raise Hw.raiseEv; split <;> rfl
@[simp] theorem Hw.raise_nvs (c p0 p1 p2 : Nat) : (h.raise c p0 p1 p2).nvs = h.nvs := by unfold Hw.raise Hw.raiseEv; split <;> rfl
@[simp] theorem Hw.raise_net (c p0 p1 p2 : Nat) : (h.raise c p0 p1 p2).net = h.net := by unfold Hw.raise Hw.raiseEv; split <;> rfl
@[simp] theorem Hw.raise_fld (c p0 p1 p2 : Nat) : (h.raise c p0 p1 p2).fld = h.fld := by unfold Hw.raise Hw.raiseEv; split <;> rfl
@[simp] theorem Hw.raise_pair (c p0 p1 p2 : Nat) : (h.raise c p0 p1 p2).pair = h.pair := by unfold Hw.raise Hw.raiseEv; split <;> rfl
@[simp] theorem Hw.raise_wdg (c p0 p1 p2 : Nat) : (h.raise c p0 p1 p2).wdg = h.wdg := by unfold Hw.raise Hw.raiseEv; split <;> rfl
@[simp] theorem Hw.raise_cal (c p0 p1 p2 : Nat) : (h.raise c p0 p1 p2).cal = h.cal := by unfold Hw.raise Hw.raiseEv; split <;> rfl
@[simp] theorem Hw.raise_prog (c p0 p1 p2 : Nat) : (h.raise c p0 p1 p2).prog = h.prog := by unfold Hw.raise Hw.raiseEv; split <;> rfl
@[simp] theorem Hw.raise_free (c p0 p1 p2 : Nat) : (h.raise c p0 p1 p2).free = h.free := by unfold Hw.raise Hw.raiseEv; split <;> rfl

/-! ## What they change -/

@[simp] theorem Hw.pass_up (d : Nat) : (h.pass d).clk.up = h.clk.up + d := rfl
@[simp] theorem Hw.untilUp_up (t : Nat) : (h.untilUp t).clk.up = h.clk.up + (t - h.clk.up) := rfl
@[simp] theorem Hw.bump_free : h.bump.free = h.free + 1 := rfl
@[simp] theorem Hw.setReg_regs (a : Nat) (v : Word) : (h.setReg a v).regs = tset (resetWord a) h.regs a v := rfl
@[simp] theorem Hw.setMb_mem (a : Nat) (b : Byte) : (h.setMb a b).mem = tset (memDefault a) h.mem a b := rfl

end Sys2Proof.Machine
end

