-- ==== Sys2Proof/Laws/Table.lean ====
section
/-! SUPPORT. Laws of the sparse tables: reading after writing, and the canonical form. -/

namespace Sys2Proof.Machine

variable {α : Type}

/-! ## Reading after writing -/

@[simp] theorem tget_nil (d : α) (k : Nat) : tget d [] k = d := rfl

theorem tget_tput_same (d : α) (t : List (Nat × α)) (k : Nat) (v : α) : tget d (tput t k v) k = v := by
  induction t with
  | nil => simp [tput, tget]
  | cons x r ih =>
    obtain ⟨a, y⟩ := x
    simp only [tput]
    split
    · simp [tget]
    · split
      · simp [tget]
      · rename_i h; simp [tget, h, ih]

theorem tget_tput_ne (d : α) (t : List (Nat × α)) (k j : Nat) (v : α) (h : j ≠ k) : tget d (tput t k v) j = tget d t j := by
  induction t with
  | nil => simp [tput, tget, h.symm]
  | cons x r ih =>
    obtain ⟨a, y⟩ := x
    simp only [tput]
    split
    · simp [tget, h.symm]
    · split
      · rename_i h1; subst h1; simp [tget, h.symm]
      · simp [tget, ih]

theorem tget_tdel_same (d : α) (t : List (Nat × α)) (k : Nat) : tget d (tdel t k) k = d := by
  induction t with
  | nil => rfl
  | cons x r ih =>
    obtain ⟨a, y⟩ := x
    simp only [tdel]
    split
    · exact ih
    · rename_i h; simp [tget, h, ih]

theorem tget_tdel_ne (d : α) (t : List (Nat × α)) (k j : Nat) (h : j ≠ k) : tget d (tdel t k) j = tget d t j := by
  induction t with
  | nil => rfl
  | cons x r ih =>
    obtain ⟨a, y⟩ := x
    simp only [tdel]
    split
    · rename_i h1; subst h1; simp [tget, h.symm, ih]
    · simp [tget, ih]

theorem tset_eq [DecidableEq α] (d : α) (t : List (Nat × α)) (k : Nat) (v : α) :
    tset d t k v = if v = d then tdel t k else tput t k v := by
  cases t <;> simp [tset, tdel, tput]

/-- What was written is read back. -/
@[simp] theorem tget_tset_same [DecidableEq α] (d : α) (t : List (Nat × α)) (k : Nat) (v : α) : tget d (tset d t k v) k = v := by
  rw [tset_eq]
  split
  · rename_i h; rw [h]; exact tget_tdel_same d t k
  · exact tget_tput_same d t k v

/-- A write leaves every other index. -/
theorem tget_tset_ne [DecidableEq α] (d e : α) (t : List (Nat × α)) (k j : Nat) (v : α) (h : j ≠ k) :
    tget e (tset d t k v) j = tget e t j := by
  rw [tset_eq]
  split
  · exact tget_tdel_ne e t k j h
  · exact tget_tput_ne e t k j v h

/-- Reading after a write: the value at the index written, else as before. -/
theorem tget_tset [DecidableEq α] (d e : α) (t : List (Nat × α)) (k j : Nat) (v : α) (hd : j = k → e = d) :
    tget e (tset d t k v) j = if j = k then v else tget e t j := by
  split
  · rename_i h; rw [hd h, h]; exact tget_tset_same d t k v
  · rename_i h; exact tget_tset_ne d e t k j v h

theorem tget_tfilter (d : α) (p : Nat → Bool) (t : List (Nat × α)) (k : Nat) :
    tget d (tfilter p t) k = if p k then tget d t k else d := by
  induction t with
  | nil => simp [tfilter]
  | cons x r ih =>
    obtain ⟨a, y⟩ := x
    simp only [tfilter]
    by_cases h : a = k
    · subst h
      cases hp : p a <;> simp [tget, ih, hp]
    · cases hp : p a <;> simp [tget, ih, h]

/-! ## The canonical form -/

section
variable [DecidableEq α]

/-- The lower bound as a proposition. -/
def above : Option Nat → Nat → Prop
  | none, _ => True
  | some l, a => l < a

theorem twfFrom_cons (d : Nat → α) (lo : Option Nat) (a : Nat) (y : α) (r : List (Nat × α)) :
    twfFrom d lo ((a, y) :: r) = true ↔ above lo a ∧ y ≠ d a ∧ twfFrom d (some a) r = true := by
  cases lo <;> simp [twfFrom, above, and_assoc]

/-- Above a lower bound the form also holds above a smaller one, and without one. -/
theorem twfFrom_weaken (d : Nat → α) (t : List (Nat × α)) (l m : Nat) (hml : m ≤ l) (h : twfFrom d (some l) t = true) :
    twfFrom d (some m) t = true := by
  cases t with
  | nil => rfl
  | cons x r =>
    obtain ⟨a, y⟩ := x
    rw [twfFrom_cons] at *
    exact ⟨Nat.lt_of_le_of_lt hml h.1, h.2⟩

theorem twfFrom_none (d : Nat → α) (t : List (Nat × α)) (l : Nat) (h : twfFrom d (some l) t = true) : twfFrom d none t = true := by
  cases t with
  | nil => rfl
  | cons x r =>
    obtain ⟨a, y⟩ := x
    rw [twfFrom_cons] at *
    exact ⟨trivial, h.2⟩

theorem twfFrom_tput (d : Nat → α) (t : List (Nat × α)) (k : Nat) (v : α) (hv : v ≠ d k) :
    ∀ lo, above lo k → twfFrom d lo t = true → twfFrom d lo (tput t k v) = true := by
  induction t with
  | nil => intro lo hk _; rw [tput, twfFrom_cons]; exact ⟨hk, hv, rfl⟩
  | cons x r ih =>
    obtain ⟨a, y⟩ := x
    intro lo hk h
    rw [twfFrom_cons] at h
    simp only [tput]
    split
    · rename_i hlt; rw [twfFrom_cons, twfFrom_cons]; exact ⟨hk, hv, hlt, h.2⟩
    · split
      · rename_i heq; subst heq; rw [twfFrom_cons]; exact ⟨hk, hv, h.2.2⟩
      · rename_i h1 h2
        rw [twfFrom_cons]
        exact ⟨h.1, h.2.1, ih (some a) (by simp only [above]; omega) h.2.2⟩

theorem twfFrom_tfilter (d : Nat → α) (p : Nat → Bool) (t : List (Nat × α)) :
    ∀ lo, twfFrom d lo t = true → twfFrom d lo (tfilter p t) = true := by
  induction t with
  | nil => intro lo _; rfl
  | cons x r ih =>
    obtain ⟨a, y⟩ := x
    intro lo h
    rw [twfFrom_cons] at h
    simp only [tfilter]
    split
    · rw [twfFrom_cons]; exact ⟨h.1, h.2.1, ih _ h.2.2⟩
    · cases lo with
      | none => exact twfFrom_none d _ a (ih _ h.2.2)
      | some l => exact twfFrom_weaken d _ a l (Nat.le_of_lt h.1) (ih _ h.2.2)

omit [DecidableEq α] in
theorem tdel_eq_tfilter (t : List (Nat × α)) (k : Nat) : tdel t k = tfilter (fun a => decide (a ≠ k)) t := by
  induction t with
  | nil => rfl
  | cons x r ih =>
    obtain ⟨a, y⟩ := x
    by_cases h : a = k <;> simp [tdel, tfilter, h, ih]

/-- A write keeps the canonical form. -/
theorem twf_tset (d : Nat → α) (t : List (Nat × α)) (k : Nat) (v : α) (h : twf d t = true) : twf d (tset (d k) t k v) = true := by
  rw [tset_eq]
  split
  · rw [tdel_eq_tfilter]; exact twfFrom_tfilter d _ t none h
  · rename_i hv; exact twfFrom_tput d t k v hv none trivial h

/-- Dropping entries keeps the canonical form. -/
theorem twf_tfilter (d : Nat → α) (p : Nat → Bool) (t : List (Nat × α)) (h : twf d t = true) : twf d (tfilter p t) = true :=
  twfFrom_tfilter d p t none h

end

end Sys2Proof.Machine
end

