-- ==== Sys2Proof/Laws/Ops.lean ====
section
/-! SUPPORT. What each shared operation over registers, memory and time does. -/

namespace Sys2Proof.Machine

variable (h : Hw)

/-! ## Registers -/

@[simp] theorem Hw.reg_setReg_same (a : Nat) (v : Word) : (h.setReg a v).reg a = v := by
  simp [Hw.reg, Hw.setReg]

theorem Hw.reg_setReg_ne (a b : Nat) (v : Word) (hne : b ≠ a) : (h.setReg a v).reg b = h.reg b := by
  simp only [Hw.reg, Hw.setReg]; exact tget_tset_ne _ _ _ _ _ _ hne

/-- A register after a write: the word written, or what it was. -/
theorem Hw.reg_setReg (a b : Nat) (v : Word) : (h.setReg a v).reg b = if b = a then v else h.reg b := by
  by_cases e : b = a
  · subst e; simp
  · simp [e, Hw.reg_setReg_ne]

/-- A write of a field changes no other register. -/
theorem Hw.reg_fset_ne (f : Fld) (v b : Nat) (hne : b ≠ f.a) : (h.fset f v).reg b = h.reg b := Hw.reg_setReg_ne h _ _ _ hne

theorem Hw.reg_finc_ne (f : Fld) (b : Nat) (hne : b ≠ f.a) : (h.finc f).reg b = h.reg b := Hw.reg_setReg_ne h _ _ _ hne

/-- A register's word after a write of one of its fields. -/
theorem Hw.reg_fset_same (f : Fld) (v : Nat) (hw : f.lo + f.w ≤ 32) :
    ((h.fset f v).reg f.a).toNat = setBitsOf (h.reg f.a).toNat f.lo f.w v := by
  simp only [Hw.fset, Hw.reg_setReg_same, w32, BitVec.toNat_ofNat]
  exact Nat.mod_eq_of_lt (setBitsOf_lt _ _ _ _ (BitVec.isLt _) hw)

/-- A field reads as it was written, cut to its width. -/
theorem Hw.fget_fset_same (f : Fld) (v : Nat) (hw : f.lo + f.w ≤ 32) : (h.fset f v).fget f = v % 2 ^ f.w := by
  simp only [Hw.fget, Hw.reg_fset_same h f v hw, bitsOf_setBitsOf_same]

/-- A field of another register, or apart from the one written, keeps its value. -/
theorem Hw.fget_fset_apart (f g : Fld) (v : Nat) (hw : f.lo + f.w ≤ 32)
    (hap : g.a ≠ f.a ∨ g.lo + g.w ≤ f.lo ∨ f.lo + f.w ≤ g.lo) : (h.fset f v).fget g = h.fget g := by
  by_cases e : g.a = f.a
  · have h2 : g.lo + g.w ≤ f.lo ∨ f.lo + f.w ≤ g.lo := hap.resolve_left (fun n => n e)
    simp only [Hw.fget, e, Hw.reg_fset_same h f v hw, bitsOf_setBitsOf_apart _ _ _ _ _ _ h2]
  · simp only [Hw.fget, Hw.reg_fset_ne h f v g.a e]

theorem Hw.fget_setReg_ne (a : Nat) (v : Word) (g : Fld) (hne : g.a ≠ a) : (h.setReg a v).fget g = h.fget g := by
  simp only [Hw.fget, Hw.reg_setReg_ne h a g.a v hne]

theorem Hw.fget_lt (f : Fld) : h.fget f < 2 ^ f.w := Nat.mod_lt _ (Nat.two_pow_pos _)

theorem satInc_lt (w n : Nat) : satInc w n < 2 ^ w := by
  unfold satInc; have := Nat.two_pow_pos w; split <;> omega

/-- A counter counts by one, or stays at its largest value. -/
theorem Hw.fget_finc_same (f : Fld) (hw : f.lo + f.w ≤ 32) : (h.finc f).fget f = satInc f.w (h.fget f) := by
  rw [Hw.finc, Hw.fget_fset_same h f _ hw, Nat.mod_eq_of_lt (satInc_lt _ _)]

theorem Hw.fget_finc_apart (f g : Fld) (hw : f.lo + f.w ≤ 32)
    (hap : g.a ≠ f.a ∨ g.lo + g.w ≤ f.lo ∨ f.lo + f.w ≤ g.lo) : (h.finc f).fget g = h.fget g := Hw.fget_fset_apart h f g _ hw hap

theorem Hw.fbit_eq (f : Fld) : h.fbit f = decide (h.fget f = 1) := rfl

/-! ## What a change of other fields leaves -/

/-- The registers depend on the register table alone. -/
theorem Hw.reg_congr (h g : Hw) (a : Nat) (e : h.regs = g.regs) : h.reg a = g.reg a := by simp only [Hw.reg, e]
theorem Hw.fget_congr (h g : Hw) (f : Fld) (e : h.regs = g.regs) : h.fget f = g.fget f := by simp only [Hw.fget, Hw.reg, e]
theorem Hw.fbit_congr (h g : Hw) (f : Fld) (e : h.regs = g.regs) : h.fbit f = g.fbit f := by simp only [Hw.fbit, Hw.fget, Hw.reg, e]
theorem Hw.mb_congr (h g : Hw) (a : Nat) (e : h.mem = g.mem) : h.mb a = g.mb a := by simp only [Hw.mb, e]

/-! ## Events -/

/-- An event request touches no register but EVR_LOST. -/
theorem Hw.reg_raiseEv (e : Ev) (a : Nat) (hne : a ≠ R.EVR_LOST) : (h.raiseEv e).reg a = h.reg a := by
  unfold Hw.raiseEv
  split
  · rfl
  · exact Hw.reg_finc_ne h _ a hne

theorem Hw.reg_raise (c p0 p1 p2 a : Nat) (hne : a ≠ R.EVR_LOST) : (h.raise c p0 p1 p2).reg a = h.reg a := Hw.reg_raiseEv h _ a hne

theorem Hw.fget_raise (c p0 p1 p2 : Nat) (f : Fld) (hne : f.a ≠ R.EVR_LOST) : (h.raise c p0 p1 p2).fget f = h.fget f := by
  simp only [Hw.fget, Hw.reg_raise h c p0 p1 p2 f.a hne]

/-- With room in the queue the request is its last entry. -/
theorem Hw.raiseEv_inq (e : Ev) (hq : h.evr.inq.length < 512) (hi : h.evr.injFull = false) :
    (h.raiseEv e).evr.inq = h.evr.inq ++ [e] := by
  unfold Hw.raiseEv; rw [if_pos ⟨hq, hi⟩]

/-! ## Memory -/

@[simp] theorem Hw.mb_setMb_same (a : Nat) (b : Byte) : (h.setMb a b).mb a = b := by simp [Hw.mb]

theorem Hw.mb_setMb_ne (a c : Nat) (b : Byte) (hne : c ≠ a) : (h.setMb a b).mb c = h.mb c := by
  simp only [Hw.mb, Hw.setMb_mem]; exact tget_tset_ne _ _ _ _ _ _ hne

/-- A byte outside a block of bytes written is unchanged. -/
theorem Hw.mb_setMbs_out (bs : List Byte) : ∀ (h : Hw) (a c : Nat), (c < a ∨ a + bs.length ≤ c) → (h.setMbs a bs).mb c = h.mb c := by
  induction bs with
  | nil => intro h a c _; rfl
  | cons b r ih =>
    intro h a c hc
    simp only [List.length_cons] at hc
    rw [Hw.setMbs, ih _ _ _ (by omega), Hw.mb_setMb_ne _ _ _ _ (by omega)]

/-- A byte inside a block of bytes written is the block's. -/
theorem Hw.mb_setMbs_in (bs : List Byte) : ∀ (h : Hw) (a i : Nat), (hi : i < bs.length) → (h.setMbs a bs).mb (a + i) = bs[i] := by
  induction bs with
  | nil => intro h a i hi; simp at hi
  | cons b r ih =>
    intro h a i hi
    cases i with
    | zero => rw [Hw.setMbs, Hw.mb_setMbs_out _ _ _ _ (by omega)]; simp
    | succ n =>
      simp only [List.length_cons] at hi
      have e : a + (n + 1) = (a + 1) + n := by omega
      rw [Hw.setMbs, e, ih _ _ n (by omega)]; rfl

theorem leBytes_length (n v : Nat) : (leBytes n v).length = n := by
  induction n generalizing v with
  | zero => rfl
  | succ n ih => simp [leBytes, ih]

theorem Hw.mb_setMl_out (a n v c : Nat) (hc : c < a ∨ a + n ≤ c) : (h.setMl a n v).mb c = h.mb c := by
  rw [Hw.setMl, Hw.mb_setMbs_out _ _ _ _ (by rw [leBytes_length]; exact hc)]

/-! ## The canonical form of memory -/

theorem Hw.setMb_wf (a : Nat) (b : Byte) (w : Memory.wf h.mem = true) : Memory.wf (h.setMb a b).mem = true :=
  twf_tset memDefault h.mem a b w

theorem Hw.setMbs_wf (bs : List Byte) : ∀ (h : Hw) (a : Nat), Memory.wf h.mem = true → Memory.wf (h.setMbs a bs).mem = true := by
  induction bs with
  | nil => intro h a w; exact w
  | cons b r ih => intro h a w; exact ih _ _ (Hw.setMb_wf h a b w)

theorem Hw.setMl_wf (a n v : Nat) (w : Memory.wf h.mem = true) : Memory.wf (h.setMl a n v).mem = true := Hw.setMbs_wf _ h a w

theorem Memory.wf_tfilter (p : Nat → Bool) (m : List (Nat × Byte)) (w : Memory.wf m = true) : Memory.wf (tfilter p m) = true :=
  twf_tfilter memDefault p m w

theorem Memory.wf_reset : Memory.wf State.reset.hw.mem = true := rfl

end Sys2Proof.Machine
end

