-- ==== Sys2Proof/Laws/Run.lean ====
section
/-! SUPPORT. What running an instruction on a core, a pair or the SUP core does, for instructions that neither trap nor close a window. -/

namespace Sys2Proof.Machine

theorem Hw.cpu_setCpu_same (h : Hw) (i : Nat) (c : Cpu) : (h.setCpu i c).cpu i = c := by simp [Hw.cpu, Hw.setCpu]
theorem Hw.cpu_setCpu_ne (h : Hw) (i j : Nat) (c : Cpu) (hne : j ≠ i) : (h.setCpu i c).cpu j = h.cpu j := by
  simp only [Hw.cpu, Hw.setCpu]; exact tget_tset_ne _ _ _ _ _ _ hne
theorem Hw.tgt_setTgt_ne (h : Hw) (i j : Nat) (c : Target) (hne : j ≠ i) : (h.setTgt i c).tgt j = h.tgt j := by
  simp only [Hw.tgt, Hw.setTgt]; exact tget_tset_ne _ _ _ _ _ _ hne

/-- What completing a command leaves of the cores and the memory. -/
theorem Hw.finish_exe (h : Hw) (d : Desc) (c : Compl) : (h.finish d c).exe = h.exe := by
  unfold Hw.finish; dsimp only; split
  · rfl
  · split
    · split <;> rfl
    · rfl
    · rfl
theorem Hw.finish_mem (h : Hw) (d : Desc) (c : Compl) : (h.finish d c).mem = h.mem := by
  unfold Hw.finish; dsimp only; split
  · rfl
  · split
    · split <;> rfl
    · rfl
    · rfl
theorem Hw.complete_exe (h : Hw) (d : Desc) (st : Nat) (ch : Bool) (a b c e f : Nat) (o : List Byte) : (h.complete d st ch a b c e f o).exe = h.exe := by
  unfold Hw.complete; dsimp only
  split
  · rfl
  · rw [Hw.finish_exe]
    split
    · exact Hw.raiseEv_exe _ _
    · split
      · exact Hw.raiseEv_exe _ _
      · rfl
theorem Hw.complete_mem (h : Hw) (d : Desc) (st : Nat) (ch : Bool) (a b c e f : Nat) (o : List Byte) : (h.complete d st ch a b c e f o).mem = h.mem := by
  unfold Hw.complete; dsimp only
  split
  · rfl
  · rw [Hw.finish_mem]
    split
    · exact Hw.raiseEv_mem _ _
    · split
      · exact Hw.raiseEv_mem _ _
      · rfl

theorem foldl_keep {α β γ : Type} (f : α → β → α) (g : α → γ) (hk : ∀ a b, g (f a b) = g a) : ∀ (l : List β) (a : α), g (l.foldl f a) = g a := by
  intro l; induction l with
  | nil => intro a; rfl
  | cons b r ih => intro a; exact (ih _).trans (hk a b)

/-- A debugger's halt leaves the cores, the SUP core and the memory. -/
theorem Hw.dbgHalted_keeps (h : Hw) (p : Nat) :
    (∀ j, (h.dbgHalted p).cpu j = h.cpu j) ∧ (h.dbgHalted p).exe.sup = h.exe.sup ∧ (h.dbgHalted p).mem = h.mem := by
  unfold Hw.dbgHalted; dsimp only
  split
  · exact ⟨fun _ => rfl, rfl, rfl⟩
  · exact ⟨fun j => foldl_keep _ (fun (x : Hw) => x.cpu j) (fun a b => by simp only [Hw.cpu, Hw.complete_exe]) _ _,
      foldl_keep _ (fun (x : Hw) => x.exe.sup) (fun a b => by simp only [Hw.complete_exe]) _ _,
      foldl_keep _ (fun (x : Hw) => x.mem) (fun a b => by simp only [Hw.complete_mem]) _ _⟩

/-- What the caches' part in a fetch or a read changes: the caches, and the error that the open window of target `i` has met. -/
def CacheOnly (h k : Hw) (i : Nat) : Prop :=
  ∃ c g, k = { h with exe := { h.exe with caches := c, tgts := g } } ∧ ∀ j, j ≠ i → tget {} g j = h.tgt j

theorem CacheOnly.refl (h : Hw) (i : Nat) : CacheOnly h h i := ⟨_, _, rfl, fun _ _ => rfl⟩
theorem CacheOnly.trans {h k l : Hw} {i : Nat} (a : CacheOnly h k i) (b : CacheOnly k l i) : CacheOnly h l i := by
  obtain ⟨c, g, rfl, e⟩ := a; obtain ⟨c', g', rfl, e'⟩ := b
  exact ⟨c', g', rfl, fun j hj => (e' j hj).trans (e j hj)⟩
theorem CacheOnly.setCache (h : Hw) (i k : Nat) (c : Caches) : CacheOnly h (h.setCache k c) i := ⟨_, _, rfl, fun _ _ => rfl⟩
theorem CacheOnly.setTgt (h : Hw) (i : Nat) (g : Target) : CacheOnly h (h.setTgt i g) i := ⟨_, _, rfl, fun j hj => Hw.tgt_setTgt_ne h i j g hj⟩
theorem CacheOnly.inval (h : Hw) (i : Nat) (k : Option Nat) (a n : Nat) : CacheOnly h (h.inval k a n) i := ⟨_, _, rfl, fun _ _ => rfl⟩
theorem CacheOnly.noteErr (h : Hw) (i : Nat) (b : Bool) : CacheOnly h (h.noteErr i b) i := by
  unfold Hw.noteErr; split
  · exact .refl h i
  · exact .setTgt h i _
theorem CacheOnly.foldl {β : Type} (f : Hw → β → Hw) (i : Nat) (hf : ∀ h b, CacheOnly h (f h b) i) : ∀ (l : List β) (h : Hw), CacheOnly h (l.foldl f h) i := by
  intro l; induction l with
  | nil => exact fun h => .refl h i
  | cons b r ih => exact fun h => (hf h b).trans (ih _)
theorem CacheOnly.fetchLine (h : Hw) (i a : Nat) : CacheOnly h (h.fetchLine i a) i := .foldl _ i (fun h _ => .setCache h i _ _) _ _
theorem CacheOnly.dataLine (h : Hw) (i a : Nat) : CacheOnly h (h.dataLine i a) i :=
  .foldl _ i (fun h k => by dsimp only; split <;> first | exact .refl h i | exact .setCache h i _ _) _ _
theorem CacheOnly.eccLine (h : Hw) (i a : Nat) : CacheOnly h (h.eccLine i a).1 i := by
  unfold Hw.eccLine; dsimp only; split
  · split
    · exact .refl h i
    · split
      · exact .setCache h i i _
      · exact .refl h i
  · split
    · exact .noteErr h i _
    · split
      · exact .noteErr h i _
      · exact .refl h i
theorem CacheOnly.shadowStore (g h : Hw) (i : Nat) (l m : List (Nat × Byte)) : CacheOnly h (Hw.shadowStore g h i l m) i := by
  unfold Hw.shadowStore; dsimp only; split
  · exact .refl h i
  · exact .setCache h i _ _
theorem CacheOnly.cpu {h k : Hw} {i : Nat} (c : CacheOnly h k i) (j : Nat) : k.cpu j = h.cpu j := by obtain ⟨_, _, rfl, _⟩ := c; rfl
theorem CacheOnly.sup {h k : Hw} {i : Nat} (c : CacheOnly h k i) : k.exe.sup = h.exe.sup := by obtain ⟨_, _, rfl, _⟩ := c; rfl
theorem CacheOnly.mem {h k : Hw} {i : Nat} (c : CacheOnly h k i) : k.mem = h.mem := by obtain ⟨_, _, rfl, _⟩ := c; rfl
theorem CacheOnly.mode {h k : Hw} {i : Nat} (c : CacheOnly h k i) : k.mode = h.mode := by obtain ⟨_, _, rfl, _⟩ := c; rfl
theorem CacheOnly.split {h k : Hw} {i : Nat} (c : CacheOnly h k i) (p : Nat) : k.split p = h.split p := by obtain ⟨_, _, rfl, _⟩ := c; rfl
theorem CacheOnly.profile {h k : Hw} {i : Nat} (c : CacheOnly h k i) (p : Nat) : k.profile p = h.profile p := by obtain ⟨_, _, rfl, _⟩ := c; rfl
theorem CacheOnly.fetchPoison {h k : Hw} {i : Nat} (c : CacheOnly h k i) (x : Cpu) : k.fetchPoison x = h.fetchPoison x := by obtain ⟨_, _, rfl, _⟩ := c; rfl
theorem CacheOnly.loadFault {h k : Hw} {i : Nat} (c : CacheOnly h k i) (t a n : Nat) : k.loadFault t a n = h.loadFault t a n := by obtain ⟨_, _, rfl, _⟩ := c; rfl

/-- Noting an error leaves the window's count of commits. -/
theorem Hw.eccLine_commits (h : Hw) (i a j : Nat) : ((h.eccLine i a).1.tgt j).commits = (h.tgt j).commits := by
  have n : ∀ b, ((h.noteErr i b).tgt j).commits = (h.tgt j).commits := by
    intro b; unfold Hw.noteErr; split
    · rfl
    · by_cases e : j = i
      · subst e; simp [Hw.tgt, Hw.setTgt]
      · rw [Hw.tgt_setTgt_ne _ _ _ _ e]
  unfold Hw.eccLine; dsimp only; split
  · split
    · rfl
    · split <;> rfl
  · split
    · exact n _
    · split
      · exact n _
      · rfl
theorem Hw.fetchLine_tgt (h : Hw) (i a j : Nat) : (h.fetchLine i a).tgt j = h.tgt j :=
  foldl_keep (fun (x : Hw) k => x.setCache k { x.cache k with icode := cacheFill k (lineOf a) (x.cache k).icode }) (fun x => x.tgt j)
    (fun _ _ => rfl) _ _

/-- The caches' part in the fetch of an instruction. -/
def Hw.afterFetch (h : Hw) (i : Nat) : Hw :=
  if (h.cpu i).fetchBad then h else ((h.eccLine i (h.cpu i).pc.toNat).1).fetchLine i (h.cpu i).pc.toNat
theorem CacheOnly.afterFetch (h : Hw) (i : Nat) : CacheOnly h (h.afterFetch i) i := by
  unfold Hw.afterFetch; split
  · exact .refl h i
  · exact (CacheOnly.eccLine h i _).trans (.fetchLine _ i _)
theorem Hw.afterFetch_commits (h : Hw) (i j : Nat) : ((h.afterFetch i).tgt j).commits = (h.tgt j).commits := by
  unfold Hw.afterFetch; split
  · rfl
  · rw [Hw.fetchLine_tgt, Hw.eccLine_commits]

/-- Retirement without a close leaves the cores and the memory. -/
theorem Hw.retire_none (h : Hw) (i t n : Nat) :
    (∀ j, (h.retire i t n none).cpu j = h.cpu j) ∧ (h.retire i t n none).exe.sup = h.exe.sup ∧ (h.retire i t n none).mem = h.mem ∧
    (h.mode ≠ .debug → h.retire i t n none = h ∨ ∃ g, h.retire i t n none = h.setTgt i g) := by
  unfold Hw.retire; dsimp only
  by_cases hs : h.split (i / 2) = true
  · simp only [hs, if_true]
    by_cases hd : (h.dbgStop (i / 2) (h.cpu i).pc && i % 2 == 0) = true
    · simp only [hd, if_true]
      obtain ⟨d1, d2, d3⟩ := Hw.dbgHalted_keeps h (i / 2)
      refine ⟨d1, d2, d3, fun hm => ?_⟩
      simp only [Hw.dbgStop, Bool.and_eq_true, beq_iff_eq] at hd
      exact absurd hd.1.1.1.1 hm
    · simp only [hd]
      exact ⟨fun _ => rfl, rfl, rfl, fun _ => .inl rfl⟩
  · simp only [hs, Bool.false_eq_true, if_false]
    by_cases hd : (h.dbgStop (i / 2) (h.cpu i).pc && i % 2 == 0) = true
    · simp only [hd, if_true]
      exact ⟨fun _ => rfl, rfl, rfl, fun _ => .inr ⟨_, rfl⟩⟩
    · simp only [hd, Bool.false_eq_true, if_false]
      by_cases hl : windowLen (h.profile (i / 2)) ≤ (h.tgt i).commits + n
      · simp only [hl, if_true]
        exact ⟨fun _ => rfl, rfl, rfl, fun _ => .inr ⟨_, rfl⟩⟩
      · simp only [hl, if_false]
        exact ⟨fun _ => rfl, rfl, rfl, fun _ => .inr ⟨_, rfl⟩⟩

/-- What retirement with an answer `a`, `b` makes of the cores, memory and the rest, where neither core traps. -/
structure Retired (h k g : Hw) (i : Nat) (o : Op) (a b : Nat) : Prop where
  lead : g.cpu i = o.fin (h.cpu i) a b
  shadow : h.split (i / 2) = false → g.cpu (i + 1) = o.fin (h.cpu (i + 1)) a b
  other : ∀ j, j ≠ i → (h.split (i / 2) = true ∨ j ≠ i + 1) → g.cpu j = k.cpu j
  sup : g.exe.sup = k.exe.sup
  mem : g.mem = k.mem
  rest : k.mode ≠ .debug → ∃ e, g = { k with exe := e, free := k.free + 1 } ∧ (∀ j, j ≠ i → g.tgt j = k.tgt j) ∧ e.held = k.exe.held

/-- Retirement with an answer, where neither core traps and no window is cut between the two commits of an SD. -/
theorem Hw.retireWith_val (h k : Hw) (i t : Nat) (o : Op) (a b : Nat) (hc : ∀ c, o.close c = none)
    (hs : h.split (i / 2) = false → h.ownCause (i + 1) o = none)
    (ha : h.split (i / 2) = false → k.shadowAns i (o.req (h.cpu (i + 1))) (a, b) = (a, b))
    (hw : o.two = none ∨ h.split (i / 2) = true ∨ (h.tgt i).commits + 1 ≠ windowLen (h.profile (i / 2))) :
    Retired h k (h.retireWith i t o none (k, .val a b)) i o a b := by
  have done : ∀ X : Hw, Retired h k (X.retire i t ((o.fin (h.cpu i) a b).commits - (h.cpu i).commits) none) i o a b →
      Retired h k (match o.two with
        | some f => if (!h.split (i / 2) && true && (h.tgt i).commits + 1 == windowLen (h.profile (i / 2))) = true then
            (X.cutWindow i f (h.cpu i) (h.cpu (i + 1)) true).retire i t 1 (some .length)
          else X.retire i t ((o.fin (h.cpu i) a b).commits - (h.cpu i).commits) none
        | none => X.retire i t ((o.fin (h.cpu i) a b).commits - (h.cpu i).commits) none) i o a b := by
    intro X r
    cases e : o.two with
    | none => exact r
    | some f =>
      have : (!h.split (i / 2) && true && (h.tgt i).commits + 1 == windowLen (h.profile (i / 2))) = false := by
        rcases hw with w | w | w
        · exact absurd (e.symm.trans w) (by simp)
        · simp [w]
        · simp [w]
      dsimp only; rw [this]; exact r
  unfold Hw.retireWith
  dsimp only [Cpu.double, Cpu.outcome]
  by_cases sp : h.split (i / 2) = true
  · obtain ⟨r1, r2, r3, r4⟩ := Hw.retire_none ((k.bump).setCpu i (o.fin (h.cpu i) a b)) i t ((o.fin (h.cpu i) a b).commits - (h.cpu i).commits)
    have r : Retired h k (((k.bump).setCpu i (o.fin (h.cpu i) a b)).retire i t ((o.fin (h.cpu i) a b).commits - (h.cpu i).commits) none) i o a b := by
      refine ⟨(r1 i).trans (Hw.cpu_setCpu_same _ _ _), fun e => absurd e (by simp [sp]), fun j hj _ => (r1 j).trans (Hw.cpu_setCpu_ne _ _ _ _ hj),
        r2, r3, fun hm => ?_⟩
      rcases r4 hm with e | ⟨g, e⟩
      · rw [e]; exact ⟨_, rfl, fun _ _ => rfl, rfl⟩
      · rw [e]; exact ⟨_, rfl, fun j hj => (Hw.tgt_setTgt_ne _ _ _ _ hj), rfl⟩
    have d := done _ r
    simp only [sp, Bool.false_eq_true, if_false, if_true, Option.isNone_none, Option.isSome_none, hc, Bool.not_true, Bool.false_and] at d ⊢
    exact d
  · have sp' : h.split (i / 2) = false := by simpa using sp
    simp only [sp', hs sp', ha sp', Bool.false_eq_true, if_false, Option.isNone_none, Option.isSome_none, hc]
    simp only [sp'] at done
    refine done _ ?_
    generalize hl : storeBytes _ = l
    generalize hm : storeBytes _ = m
    have c := CacheOnly.shadowStore h (((k.bump).setCpu i (o.fin (h.cpu i) a b)).setCpu (i + 1) (o.fin (h.cpu (i + 1)) a b)) i l m
    obtain ⟨r1, r2, r3, r4⟩ := Hw.retire_none (Hw.shadowStore h (((k.bump).setCpu i (o.fin (h.cpu i) a b)).setCpu (i + 1) (o.fin (h.cpu (i + 1)) a b)) i l m) i t
      ((o.fin (h.cpu i) a b).commits - (h.cpu i).commits)
    have q : ∀ j, _ := fun j => (r1 j).trans (c.cpu j)
    refine ⟨(q i).trans ((Hw.cpu_setCpu_ne _ _ _ _ (by omega)).trans (Hw.cpu_setCpu_same _ _ _)),
      fun _ => (q _).trans (Hw.cpu_setCpu_same _ _ _),
      fun j hj hj' => (q j).trans ((Hw.cpu_setCpu_ne _ _ _ _ (hj'.resolve_left (by simp [sp']))).trans (Hw.cpu_setCpu_ne _ _ _ _ hj)),
      r2.trans c.sup, r3.trans c.mem, fun hm => ?_⟩
    obtain ⟨e1, e2, e3, e4⟩ := c
    rcases r4 (by rw [e3]; exact hm) with e | ⟨g, e⟩
    · rw [e, e3]; exact ⟨_, rfl, fun j hj => e4 j hj, rfl⟩
    · rw [e, e3]; exact ⟨_, rfl, fun j hj => (Hw.tgt_setTgt_ne _ _ _ _ hj).trans (e4 j hj), rfl⟩

theorem Hw.canRun_split (h : Hw) (i : Nat) (ls : Bool) (t : Nat) (e : h.canRun i ls = some t) : h.split (i / 2) = !ls := by
  unfold Hw.canRun at e; dsimp only at e
  split at e
  · rename_i c; simp only [Bool.and_eq_true, bne_iff_ne, ne_eq] at c
    have := c.1.1.1.2; revert this; cases h.split (i / 2) <;> cases ls <;> simp
  · exact absurd e (by simp)

theorem Hw.ownCause_ok (h : Hw) (x : Nat) (o : Op) (hf : (h.cpu x).fetchBad = false) (hp : h.fetchPoison (h.cpu x) = false)
    (h2 : h.split (x / 2) = true → (h.cache x).two.contains (lineOf (h.cpu x).pc.toNat) = false) : h.ownCause x o = o.chk (h.cpu x) := by
  unfold Hw.ownCause
  by_cases sp : h.split (x / 2) = true
  · dsimp only; rw [h2 sp]; simp [hf, hp]
  · simp [hf, hp, sp]

/-- The caches' part changes no cause that a lockstep pair's core finds. -/
theorem CacheOnly.ownCause {h k : Hw} {i x : Nat} {o : Op} (c : CacheOnly h k i) (sp : h.split (x / 2) = false) : k.ownCause x o = h.ownCause x o := by
  unfold Hw.ownCause; dsimp only
  rw [c.cpu, c.fetchPoison, c.split, sp]; simp
theorem CacheOnly.freeBits {h k : Hw} {i : Nat} (c : CacheOnly h k i) : k.freeBits = h.freeBits := by obtain ⟨_, _, rfl, _⟩ := c; rfl

/-- A shadow's answer is the lead's where its request reads nothing of a cached line, or its cache holds nothing of its own. -/
theorem Hw.shadowAns_same (h : Hw) (i : Nat) (r : Req) (ab : Nat × Nat) (e : r.reads = none ∨ (h.cache (i + 1)).own = []) :
    h.shadowAns i r ab = ab := by
  unfold Hw.shadowAns
  rcases e with e | e
  · split
    · rfl
    · simp [e]
  · simp [e]

theorem Frame.of_rec (s : State) (e : Exe) (n : Nat) : Frame [.exe, .free] [] s { s with hw := { s.hw with exe := e, free := n } } := by
  refine ⟨fun p hp => ?_, fun _ _ => rfl, rfl, rfl⟩
  cases p <;> first | rfl | exact absurd hp (by simp)

/-- Running an instruction whose check passes on target `i` is the retirement of its request's answer, after the fetch. -/
theorem Hw.runOn_ok (h : Hw) (i t : Nat) (o : Op) (ho : h.ownCause i o = none) :
    h.runOn i t o = (h.afterFetch i).retireWith i t o none ((h.afterFetch i).lead i t (o.req ((h.afterFetch i).cpu i))) := by
  simp only [Hw.runOn, ho, Hw.brkHalts, Hw.afterFetch, Bool.false_eq_true, if_false]

/-- What an instruction makes of the hardware before its fetch, from what it makes after it. -/
theorem Retired.before {h k l g : Hw} {i : Nat} {o : Op} {a b : Nat} (c : CacheOnly h l i) (r : Retired l k g i o a b) : Retired h k g i o a b :=
  ⟨by rw [r.lead, c.cpu], fun sp => by rw [r.shadow ((c.split _).trans sp), c.cpu], fun j hj hj' => r.other j hj (by rw [c.split]; exact hj'),
    r.sup, r.mem, r.rest⟩

/-- The same, where the request leaves nothing of its own. -/
theorem Retired.plain {h l g : Hw} {i : Nat} {o : Op} {a b : Nat} (c : CacheOnly h l i) (r : Retired l l g i o a b) : Retired h h g i o a b := by
  have q := r.before c
  refine ⟨q.lead, q.shadow, fun j hj hj' => (q.other j hj hj').trans (c.cpu j), q.sup.trans c.sup, q.mem.trans c.mem, fun hm => ?_⟩
  obtain ⟨e, he, hg, hh⟩ := q.rest (by rw [c.mode]; exact hm)
  obtain ⟨x, y, rfl, z⟩ := c
  exact ⟨e, he, fun j hj => (hg j hj).trans (z j hj), hh⟩

/-- On a selector with a task, a command runs on its target. -/
theorem runOp_eq (s : State) (sel : CoreSel) (o : Op) (t : Nat) (ht : s.taskOf sel = some t) :
    runOp s sel o = .next { s with hw := s.hw.runOn sel.target t o } := by
  cases sel <;> simp only [State.taskOf] at ht
  · simp only [runOp, ht, onHw, CoreSel.target]
  · simp only [runOp, ht, onHw, CoreSel.target]
  · exact absurd ht (by simp)

/-- One side of a SPLIT pair. -/
def CoreSel.lone : CoreSel → Bool
  | .side _ _ => true
  | _ => false

theorem State.split_of (s : State) (sel : CoreSel) (t : Nat) (ht : s.taskOf sel = some t) :
    s.hw.split (sel.target / 2) = sel.lone := by
  cases sel <;> simp only [State.taskOf] at ht
  · exact Hw.canRun_split _ _ _ _ ht
  · exact Hw.canRun_split _ _ _ _ ht
  · exact absurd ht (by simp)

theorem State.pair_of (s : State) (sel : CoreSel) (t : Nat) (ht : s.taskOf sel = some t) (sp : s.hw.split (sel.target / 2) = false) :
    s.hw.split ((sel.target + 1) / 2) = false := by
  have e := s.split_of sel t ht
  cases sel with
  | pair n => rw [show (CoreSel.target (.pair n) + 1) / 2 = CoreSel.target (.pair n) / 2 by simp only [CoreSel.target]; omega]; exact sp
  | side n b => exact absurd (e.symm.trans sp) (by simp [CoreSel.lone])
  | sup => exact absurd ht (by simp [State.taskOf])

/-- Where an instruction is ready, each core finds only the causes of its own checks. -/
theorem State.ready_own (s : State) (sel : CoreSel) (o : Op) (t : Nat) (hr : s.ready sel) (ht : s.taskOf sel = some t) :
    s.hw.ownCause sel.target o = o.chk (s.core sel false) ∧
    (s.hw.split (sel.target / 2) = false → s.hw.ownCause (sel.target + 1) o = o.chk (s.core sel true)) := by
  have sp := s.split_of sel t ht
  cases sel with
  | pair n =>
    obtain ⟨_, hf, _⟩ := hr
    have sp' : s.hw.split (n.val) = false := by simpa [CoreSel.target, CoreSel.lone, Nat.mul_div_cancel_left] using sp
    refine ⟨Hw.ownCause_ok _ _ _ (hf false).1 (hf false).2 (fun e => ?_), fun _ => Hw.ownCause_ok _ _ _ (hf true).1 (hf true).2 (fun e => ?_)⟩
    · exact absurd (sp.symm.trans e) (by simp [CoreSel.lone])
    · rw [show (CoreSel.target (.pair n) + 1) / 2 = n.val by simp [CoreSel.target]; omega] at e
      exact absurd (sp'.symm.trans e) (by simp)
  | side n b =>
    obtain ⟨_, hf, hd⟩ := hr
    exact ⟨Hw.ownCause_ok _ _ _ (hf false).1 (hf false).2 (fun _ => hd n b rfl), fun e => absurd (sp.symm.trans e) (by simp [CoreSel.lone])⟩
  | sup => exact absurd ht (by simp [State.taskOf])

/-- A retirement on a selector's target, core by core. -/
theorem Retired.cores {s : State} {sel : CoreSel} {t : Nat} {k g : Hw} {o : Op} {a b : Nat} (ht : s.taskOf sel = some t)
    (r : Retired s.hw k g sel.target o a b) :
    (∀ x, State.core { s with hw := g } sel x = o.fin (s.core sel x) a b) ∧ ∀ j, j ∉ sel.cores → g.cpu j = k.cpu j := by
  have sp := s.split_of sel t ht
  cases sel with
  | pair n =>
    refine ⟨fun x => ?_, fun j hj => ?_⟩
    · cases x
      · exact r.lead
      · exact r.shadow sp
    · simp only [CoreSel.cores, List.mem_cons, List.not_mem_nil, or_false, not_or] at hj
      exact r.other j hj.1 (.inr hj.2)
  | side n b =>
    refine ⟨fun _ => r.lead, fun j hj => ?_⟩
    simp only [CoreSel.cores, List.mem_cons, List.not_mem_nil, or_false] at hj
    exact r.other j hj (.inl sp)
  | sup => exact absurd ht (by simp [State.taskOf])

/-- A retirement that leaves nothing of its own beside the cores. -/
theorem Retired.around {s : State} {sel : CoreSel} {t : Nat} {g : Hw} {o : Op} {a b : Nat} (ht : s.taskOf sel = some t)
    (r : Retired s.hw s.hw g sel.target o a b) : Around sel s { s with hw := g } := by
  have hn : sel ≠ .sup := fun e => by subst e; exact absurd ht (by simp [State.taskOf])
  refine ⟨⟨(r.cores ht).2, fun _ => r.sup, rfl, rfl, fun hm => ?_⟩, fun a => Hw.mb_congr _ _ _ r.mem, fun hm => ?_⟩
  · obtain ⟨e, he, hg, hh⟩ := r.rest (hm.resolve_left hn)
    refine ⟨?_, hg⟩
    subst he; exact Frame.of_rec s e _
  · obtain ⟨e, he, hg, hh⟩ := r.rest (hm.resolve_left hn)
    subst he; exact hh

/-- An instruction that neither traps, nor asks anything of memory, nor closes a window completes on any selector where it can run. -/
theorem runOp_plain (s : State) (sel : CoreSel) (o : Op) (hr : s.ready sel) (hc : ∀ b, o.chk (s.core sel b) = none)
    (hq : ∀ c, o.req c = .none) (hx : ∀ c, o.close c = none) (hw : o.two = none) :
    ∃ t, runOp s sel o = .next t ∧ (∀ b, t.core sel b = o.fin (s.core sel b) 0 0) ∧ Around sel s t := by
  by_cases hn : sel = .sup
  · subst hn
    obtain ⟨h1, h2, h3⟩ := hr
    have e : runSup s o = { s with hw := { s.hw with exe := { s.hw.exe with sup := o.fin s.hw.exe.sup 0 0 } } } := by
      have := hc false
      simp only [State.core] at this
      simp only [runSup, h2, h3, this, hq, Hw.supCheckMem, supReq, Bool.false_eq_true, if_false]
    refine ⟨runSup s o, by simp only [runOp, h1, if_true], fun b => ?_, ?_⟩
    · rw [e]; rfl
    · rw [e]
      exact ⟨⟨fun _ _ => rfl, fun hn => absurd rfl hn, rfl, rfl, fun _ => ⟨Frame.of_rec s _ _, fun _ _ => rfl⟩⟩, fun _ => rfl, fun _ => rfl⟩
  · have hi : (s.taskOf sel).isSome = true := by cases sel <;> first | exact hr.1 | exact absurd rfl hn
    obtain ⟨t, ht⟩ := Option.isSome_iff_exists.1 hi
    obtain ⟨o1, o2⟩ := s.ready_own sel o t hr ht
    have c := CacheOnly.afterFetch s.hw sel.target
    have r : Retired s.hw s.hw (s.hw.runOn sel.target t o) sel.target o 0 0 := by
      rw [Hw.runOn_ok _ _ _ _ (o1.trans (hc false)), hq]
      refine Retired.plain c (Hw.retireWith_val _ _ _ _ _ _ _ hx (fun sp => ?_) (fun _ => Hw.shadowAns_same _ _ _ _ (.inl (by rw [hq]; rfl))) (.inl hw))
      rw [c.split] at sp
      exact (c.ownCause (s.pair_of sel t ht sp)).trans ((o2 sp).trans (hc true))
    exact ⟨_, runOp_eq s sel o t ht, (r.cores ht).1, r.around ht⟩

/-- A trap that both cores find, entered outside an exception, is retired as any instruction is: each core enters it. -/
theorem Hw.retireWith_trap (h : Hw) (i t : Nat) (o : Op) (x : Trap) (hi : (h.cpu i).inexc = false) (hx : x.cause ≠ 12)
    (hj : h.split (i / 2) = false → (h.cpu (i + 1)).inexc = false)
    (hs : h.split (i / 2) = false → h.ownCause (i + 1) o = some x) :
    Retired h h (h.retireWith i t o (some x) (h, .trap x)) i
      { word := o.word, fin := fun c _ _ => c.trapIn x o.word (o.slot1 (some x) (h.freeBits % 2 == 1)) } 0 0 := by
  generalize hsl : o.slot1 (some x) (h.freeBits % 2 == 1) = sl
  cases htwo : o.two
  all_goals
    unfold Hw.retireWith
    dsimp only [Cpu.double, Cpu.outcome, Hw.mcheckEv]
    simp only [hi, Bool.false_and, Bool.false_eq_true, if_false, Option.isSome_some, if_true, hx, hsl, Option.isNone_some, Bool.and_false, htwo]
    by_cases sp : h.split (i / 2) = true
    · simp only [sp, if_true]
      obtain ⟨r1, r2, r3, r4⟩ := Hw.retire_none ((h.bump).setCpu i ((h.cpu i).trapIn x o.word sl)) i t
        (((h.cpu i).trapIn x o.word sl).commits - (h.cpu i).commits)
      refine ⟨(r1 i).trans (Hw.cpu_setCpu_same _ _ _), fun e => absurd e (by simp [sp]), fun j hj _ => (r1 j).trans (Hw.cpu_setCpu_ne _ _ _ _ hj),
        r2, r3, fun hm => ?_⟩
      rcases r4 hm with e | ⟨g, e⟩
      · rw [e]; exact ⟨_, rfl, fun _ _ => rfl, rfl⟩
      · rw [e]; exact ⟨_, rfl, fun j hj => (Hw.tgt_setTgt_ne _ _ _ _ hj), rfl⟩
    · have sp' : h.split (i / 2) = false := by simpa using sp
      simp only [sp', hs sp', hj sp', Bool.false_eq_true, Bool.false_and, if_false, Option.isSome_some, if_true, hsl]
      generalize hl : h.shadowAns i (o.req (h.cpu (i + 1))) _ = an
      have c := CacheOnly.shadowStore h (((h.bump).setCpu i ((h.cpu i).trapIn x o.word sl)).setCpu (i + 1) ((h.cpu (i + 1)).trapIn x o.word sl)) i [] []
      obtain ⟨r1, r2, r3, r4⟩ := Hw.retire_none (Hw.shadowStore h (((h.bump).setCpu i ((h.cpu i).trapIn x o.word sl)).setCpu (i + 1)
        ((h.cpu (i + 1)).trapIn x o.word sl)) i [] []) i t (((h.cpu i).trapIn x o.word sl).commits - (h.cpu i).commits)
      have q : ∀ j, _ := fun j => (r1 j).trans (c.cpu j)
      refine ⟨(q i).trans ((Hw.cpu_setCpu_ne _ _ _ _ (by omega)).trans (Hw.cpu_setCpu_same _ _ _)),
        fun _ => (q _).trans (Hw.cpu_setCpu_same _ _ _),
        fun j hj hj' => (q j).trans ((Hw.cpu_setCpu_ne _ _ _ _ (hj'.resolve_left (by simp [sp']))).trans (Hw.cpu_setCpu_ne _ _ _ _ hj)),
        r2.trans c.sup, r3.trans c.mem, fun hm => ?_⟩
      obtain ⟨e1, e2, e3, e4⟩ := c
      rcases r4 (by rw [e3]; exact hm) with e | ⟨g, e⟩
      · rw [e, e3]; exact ⟨_, rfl, fun j hj => e4 j hj, rfl⟩
      · rw [e, e3]; exact ⟨_, rfl, fun j hj => (Hw.tgt_setTgt_ne _ _ _ _ hj).trans (e4 j hj), rfl⟩

/-- An instruction that raises the same exception on each core of a selector, outside an exception, enters it there, with one SLOT1 for all. -/
theorem runOp_trap (s : State) (sel : CoreSel) (o : Op) (x : Trap) (hr : s.ready sel) (hi : s.calm sel) (hc : ∀ b, o.chk (s.core sel b) = some x)
    (hx : x.cause ≠ 12) (hd : s.hw.mode ≠ .debug ∨ x.cause ≠ 14) :
    ∃ t, runOp s sel o = .next t ∧ (∀ b, t.core sel b = (s.core sel b).trapIn x o.word (o.slot1 (some x) (s.hw.freeBits % 2 == 1))) ∧
      Around sel s t := by
  by_cases hn : sel = .sup
  · subst hn
    obtain ⟨h1, h2, h3⟩ := hr
    have hin : s.hw.exe.sup.inexc = false := hi false
    have hc' : o.chk s.hw.exe.sup = some x := hc false
    have e : runSup s o = { s with hw := { s.hw with exe := { s.hw.exe with sup := s.hw.exe.sup.trapIn x o.word (o.slot1 (some x) (s.hw.freeBits % 2 == 1)) },
                                                     free := s.hw.free + 1 } } := by
      simp only [runSup, h2, h3, hc', Hw.supTrap, Hw.bump, hin, Bool.false_and, Bool.false_eq_true, if_false]
    refine ⟨runSup s o, by simp only [runOp, h1, if_true], fun b => ?_, ?_⟩
    · rw [e]; rfl
    · rw [e]
      exact ⟨⟨fun _ _ => rfl, fun hn => absurd rfl hn, rfl, rfl, fun _ => ⟨Frame.of_rec s _ _, fun _ _ => rfl⟩⟩, fun _ => rfl, fun _ => rfl⟩
  · have hi' : (s.taskOf sel).isSome = true := by cases sel <;> first | exact hr.1 | exact absurd rfl hn
    obtain ⟨t, ht⟩ := Option.isSome_iff_exists.1 hi'
    obtain ⟨o1, o2⟩ := s.ready_own sel o t hr ht
    have sp := s.split_of sel t ht
    have c := CacheOnly.afterFetch s.hw sel.target
    have k0 : (s.hw.cpu sel.target).inexc = false := by cases sel <;> first | exact hi false | exact absurd rfl hn
    have k1 : s.hw.split (sel.target / 2) = false → (s.hw.cpu (sel.target + 1)).inexc = false := by
      cases sel <;> first | exact absurd rfl hn | exact fun _ => hi true | exact fun e => absurd (sp.symm.trans e) (by simp [CoreSel.lone])
    have hb : (s.hw.afterFetch sel.target).brkHalts (some x) = false := by rcases hd with hd | hd <;> simp [Hw.brkHalts, c.mode, hd]
    have r : Retired s.hw s.hw (s.hw.runOn sel.target t o) sel.target
        { word := o.word, fin := fun c _ _ => c.trapIn x o.word (o.slot1 (some x) (s.hw.freeBits % 2 == 1)) } 0 0 := by
      have e : s.hw.runOn sel.target t o = (s.hw.afterFetch sel.target).retireWith sel.target t o (some x) (s.hw.afterFetch sel.target, .trap x) := by
        unfold Hw.afterFetch at hb ⊢
        simp only [Hw.runOn, o1.trans (hc false), hb, Bool.false_eq_true, if_false]
      have q := Hw.retireWith_trap (s.hw.afterFetch sel.target) sel.target t o x (by rw [c.cpu]; exact k0) hx
        (fun sp => by rw [c.cpu]; rw [c.split] at sp; exact k1 sp)
        (fun sp => by rw [c.split] at sp; exact (c.ownCause (s.pair_of sel t ht sp)).trans ((o2 sp).trans (hc true)))
      rw [c.freeBits] at q
      rw [e]; exact q.plain c
    exact ⟨_, runOp_eq s sel o t ht, (r.cores ht).1, r.around ht⟩

/-- Running an instruction whose request the hardware answers with `a` and `b` after the fetch, leaving `k`: every core ends it with that
answer, and nothing changes beside `k` but the cores, the caches and their target. -/
theorem runOp_req (s : State) (sel : CoreSel) (o : Op) (t : Nat) (hr : s.ready sel) (ht : s.taskOf sel = some t) (hc : ∀ b, o.chk (s.core sel b) = none)
    (hx : ∀ c, o.close c = none) (k : Hw) (a b : Nat)
    (hq : (s.hw.afterFetch sel.target).lead sel.target t (o.req (s.core sel false)) = (k, .val a b))
    (ha : (k.cache (sel.target + 1)).own = [] ∨ (o.req (s.core sel true)).reads = none)
    (hw : o.two = none ∨ s.hw.split (sel.target / 2) = true ∨ (s.hw.tgt sel.target).commits + 1 ≠ windowLen (s.hw.profile (sel.target / 2))) :
    ∃ u, runOp s sel o = .next u ∧ (∀ x, u.core sel x = o.fin (s.core sel x) a b) ∧ (∀ j, j ∉ sel.cores → u.hw.cpu j = k.cpu j) ∧
      u.hw.exe.sup = k.exe.sup ∧ u.hw.mem = k.mem ∧ u.otp = s.otp ∧ u.pending = s.pending ∧
      (k.mode ≠ .debug → ∃ e, u.hw = { k with exe := e, free := k.free + 1 } ∧ (∀ j, j ≠ sel.target → u.hw.tgt j = k.tgt j) ∧ e.held = k.exe.held) := by
  have hn : sel ≠ .sup := fun e => by subst e; exact absurd ht (by simp [State.taskOf])
  obtain ⟨o1, o2⟩ := s.ready_own sel o t hr ht
  have sp := s.split_of sel t ht
  have c := CacheOnly.afterFetch s.hw sel.target
  have k0 : s.core sel false = s.hw.cpu sel.target := by cases sel <;> first | rfl | exact absurd rfl hn
  have k1 : s.hw.split (sel.target / 2) = false → s.core sel true = s.hw.cpu (sel.target + 1) := by
    cases sel <;> first | exact absurd rfl hn | exact fun _ => rfl | exact fun e => absurd (sp.symm.trans e) (by simp [CoreSel.lone])
  have r : Retired s.hw k (s.hw.runOn sel.target t o) sel.target o a b := by
    rw [Hw.runOn_ok _ _ _ _ (o1.trans (hc false)), c.cpu, ← k0, hq]
    refine Retired.before c (Hw.retireWith_val _ _ _ _ _ _ _ hx (fun sp => ?_) (fun sp => ?_) ?_)
    · rw [c.split] at sp
      exact (c.ownCause (s.pair_of sel t ht sp)).trans ((o2 sp).trans (hc true))
    · rw [c.split] at sp
      exact Hw.shadowAns_same _ _ _ _ (by rw [c.cpu, ← k1 sp]; exact ha.symm)
    · rw [c.split, c.profile, Hw.afterFetch_commits]; exact hw
  exact ⟨_, runOp_eq s sel o t ht, (r.cores ht).1, (r.cores ht).2, r.sup, r.mem, rfl, rfl, r.rest⟩

end Sys2Proof.Machine
end

