-- ==== Sys2Proof/Laws/Core.lean ====
section
/-! SUPPORT. What the operations on one core do: register, condition and accumulator results, control transfers, traps. -/

namespace Sys2Proof.Machine

theorem Cpu.rd_wr_same (c : Cpu) (r : Reg) (v : Word) : (c.wr r v).rd r = if r = 0#5 then 0#32 else v := by
  unfold Cpu.wr Cpu.rd; split <;> simp_all

theorem Cpu.rd_wr_ne (c : Cpu) (r q : Reg) (v : Word) (hne : q ≠ r) : (c.wr r v).rd q = c.rd q := by
  unfold Cpu.wr Cpu.rd; split
  · rfl
  · split
    · rfl
    · dsimp only; rw [tget_tset_ne]; exact fun e => hne (BitVec.eq_of_toNat_eq e)

theorem Cpu.puts_wr (c : Cpu) (r : Reg) (v : Word) : c.puts (c.wr r v) r v := ⟨Cpu.rd_wr_same c r v, fun q hq => Cpu.rd_wr_ne c r q v hq⟩

theorem Cpu.rd_congr (c d : Cpu) (r : Reg) (hk : d.k = c.k) : d.rd r = c.rd r := by simp only [Cpu.rd, hk]

theorem Cpu.puts_of (c d e : Cpu) (r : Reg) (v : Word) (h : c.puts d r v) (hk : e.k = d.k) : c.puts e r v :=
  ⟨(Cpu.rd_congr d e r hk).trans h.1, fun q hq => (Cpu.rd_congr d e q hk).trans (h.2 q hq)⟩

/-- A write of a general register touches nothing else of the core. -/
theorem Cpu.wr_rest (c : Cpu) (r : Reg) (v : Word) : ∃ k, c.wr r v = { c with k := k } := by
  unfold Cpu.wr; split
  · exact ⟨c.k, rfl⟩
  · exact ⟨_, rfl⟩

theorem Cpu.gives_result (c : Cpu) (rd : Reg) (v : Word) : c.gives rd v (c.result rd v) := by
  have hp := Cpu.puts_wr c rd v
  obtain ⟨k, e⟩ := Cpu.wr_rest c rd v
  rw [e] at hp
  unfold Cpu.result; rw [e]
  exact ⟨Cpu.puts_of _ _ _ _ _ hp rfl, ⟨⟨rfl, rfl⟩, rfl, rfl, rfl, by simp [Cpu.sameStatus, Cpu.next, Cpu.commitReg, Cpu.commit]⟩, rfl⟩

/-- Writing a condition bit: that bit, and no other. -/
theorem Cpu.cb_setC (c : Cpu) (i j : CBit) (b : Bool) : (c.setC i b).cb j = if j = i then b else c.cb j := by
  unfold Cpu.setC Cpu.cb
  have hi := i.isLt; have hj := j.isLt
  have hc := c.c.isLt
  simp only [BitVec.getLsbD_ofNat, testBit_setBitsOf]
  by_cases e : j = i
  · subst e
    rw [if_pos (by omega)]
    cases b <;> simp <;> omega
  · have : ¬ (i.toNat ≤ j.toNat ∧ j.toNat < i.toNat + 1) := fun h => e (BitVec.eq_of_toNat_eq (by omega))
    simp only [if_neg this, if_neg e]
    simp [BitVec.getLsbD]; intro; omega

theorem Cpu.givesC_setC (c : Cpu) (cd : CBit) (b : Bool) : c.givesC cd b ((c.setC cd b).commitReg c.pc 0#5 0#32).next := by
  refine ⟨fun r => rfl, ⟨rfl, rfl⟩, ?_, fun i hi => ?_, rfl, rfl, by simp [Cpu.sameStatus, Cpu.next, Cpu.commitReg, Cpu.commit, Cpu.setC]⟩
  · exact (Cpu.cb_setC c cd cd b).trans (if_pos rfl)
  · exact (Cpu.cb_setC c cd i b).trans (if_neg hi)

theorem Cpu.givesAcc_of (c : Cpu) (b : Bool) : c.givesAcc b (({ c with acc := b }).commitReg c.pc 0#5 0#32).next :=
  ⟨fun _ => rfl, ⟨rfl, rfl⟩, rfl, rfl, rfl, by simp [Cpu.sameStatus, Cpu.next, Cpu.commitReg, Cpu.commit]⟩

/-! ## Status words -/

theorem psrOf_toNat (pl : Nat) (ie ix nm : Bool) (w : Word) :
    (psrOf pl ie ix nm w).toNat = pl % 4 + b2n ie * 4 + b2n ix * 8 + b2n nm * 16 + w.toNat / 32 % 8 * 32 := by
  simp only [psrOf, w32, bitsOf, BitVec.toNat_ofNat]
  have := b2n_le ie; have := b2n_le ix; have := b2n_le nm
  rw [Nat.mod_eq_of_lt] <;> omega

theorem getLsbD_div (x : Word) (i : Nat) : x.getLsbD i = decide (x.toNat / 2 ^ i % 2 = 1) := by
  rw [BitVec.getLsbD, Nat.testBit_eq_decide_div_mod_eq]

theorem psrOf_bits (pl : Nat) (ie ix nm : Bool) (w : Word) :
    bitsOf (psrOf pl ie ix nm w).toNat 0 2 = pl % 4 ∧ (psrOf pl ie ix nm w).getLsbD 2 = ie ∧ (psrOf pl ie ix nm w).getLsbD 3 = ix ∧
    (psrOf pl ie ix nm w).getLsbD 4 = nm ∧ (psrOf pl ie ix nm w).getLsbD 5 = w.getLsbD 5 ∧ (psrOf pl ie ix nm w).getLsbD 6 = w.getLsbD 6 ∧
    (psrOf pl ie ix nm w).getLsbD 7 = w.getLsbD 7 := by
  have hp : pl % 4 < 4 := Nat.mod_lt _ (by decide)
  simp only [getLsbD_div, psrOf_toNat, bitsOf]
  generalize pl % 4 = p at hp
  refine ⟨?_, ?_, ?_, ?_, ?_, ?_, ?_⟩ <;> cases ie <;> cases ix <;> cases nm <;> simp <;> omega

/-- What a trap entry does to one core. -/
theorem Cpu.traps_trapIn (c : Cpu) (x : Trap) (w : Word) (sl : Bool) (hc : x.cause < 256) (hd : x.detail < 256) :
    c.traps x.cause x.detail x.eaddr x.next (if x.cause = 3 then 0#32 else w) (c.trapIn x w sl) := by
  obtain ⟨p1, p2, p3, p4, p5, _, p7⟩ := psrOf_bits (if c.isSup then 2 else 1) false true c.nmiact c.psr
  have hec : ∀ b : Bool, (w32 (x.cause + x.detail * 256 + b2n b * 65536)).toNat = x.cause + x.detail * 256 + b2n b * 65536 := by
    intro b; simp only [w32, BitVec.toNat_ofNat]; apply Nat.mod_eq_of_lt; cases b <;> simp <;> omega
  refine ⟨?_, rfl, rfl, ?_, ?_, rfl, rfl, ?_, p2, p3, p4, p5, p7, fun _ => rfl, rfl, rfl, rfl, rfl, rfl, rfl, rfl, rfl⟩
  · show c.vbase + w32 (x.cause * 16) = _; rw [Nat.mul_comm]
  · show bitsOf (w32 (x.cause + x.detail * 256 + b2n sl * 65536)).toNat 0 8 = _; rw [hec]; unfold bitsOf; cases sl <;> simp <;> omega
  · show bitsOf (w32 (x.cause + x.detail * 256 + b2n sl * 65536)).toNat 8 8 = _; rw [hec]; unfold bitsOf; cases sl <;> simp <;> omega
  · show bitsOf (psrOf _ _ _ _ _).toNat 0 2 = _; rw [p1]; split <;> rfl

end Sys2Proof.Machine
end

