-- ==== Sys2Proof/Laws/Store.lean ====
section
/-! SUPPORT. What the undo log and a checked store leave as it was. -/

namespace Sys2Proof.Machine

/-- What a checked store on target `i` may touch beside memory where no injection point is armed: the undo log's count, the overflow flags,
the lost-record count; the cores' bookkeeping and caches, the task's overflow mark, the pair unit's and the recorder's parts. -/
structure Journalled (h k : Hw) (i : Nat) : Prop where
  reg : ∀ a, a ∉ [R.CMP_EPn_STATUS (i / 2), R.CMP_EPn_UNDO (i / 2), R.EVR_LOST] → k.reg a = h.reg a
  part : ∀ p : Part, p ∉ [Part.exe, .tsk, .pair, .evr] → p.same h k
  cpus : k.exe.cpus = h.exe.cpus
  sup : k.exe.sup = h.exe.sup
  held : k.exe.held = h.exe.held
  tgt : ∀ j, j ≠ i → k.tgt j = h.tgt j
  prime : k.tsk.prime = h.tsk.prime
  timers : k.tsk.timers = h.tsk.timers

theorem Journalled.refl (h : Hw) (i : Nat) : Journalled h h i :=
  ⟨fun _ _ => rfl, fun p _ => by cases p <;> rfl, rfl, rfl, rfl, fun _ _ => rfl, rfl, rfl⟩

theorem Journalled.trans {h k l : Hw} {i : Nat} (a : Journalled h k i) (b : Journalled k l i) : Journalled h l i := by
  refine ⟨fun x hx => (b.reg x hx).trans (a.reg x hx), fun p hp => ?_, b.cpus.trans a.cpus, b.sup.trans a.sup, b.held.trans a.held,
    fun j hj => (b.tgt j hj).trans (a.tgt j hj), b.prime.trans a.prime, b.timers.trans a.timers⟩
  have h1 := a.part p hp; have h2 := b.part p hp
  cases p <;> exact Eq.trans h2 h1

theorem Journalled.setTgt (h : Hw) (i : Nat) (g : Target) : Journalled h (h.setTgt i g) i :=
  ⟨fun _ _ => rfl, fun p hp => by cases p <;> first | rfl | exact absurd hp (by simp), rfl, rfl, rfl, fun j hj => Hw.tgt_setTgt_ne h i j g hj, rfl, rfl⟩

theorem Journalled.fset (h : Hw) (i : Nat) (f : Fld) (v : Nat) (hf : f.a ∈ [R.CMP_EPn_STATUS (i / 2), R.CMP_EPn_UNDO (i / 2), R.EVR_LOST]) :
    Journalled h (h.fset f v) i := by
  refine ⟨fun a ha => Hw.reg_fset_ne h f v a (fun e => ha (e ▸ hf)), fun p hp => ?_, rfl, rfl, rfl, fun _ _ => rfl, rfl, rfl⟩
  cases p <;> rfl

theorem Journalled.raise (h : Hw) (i c p0 p1 p2 : Nat) : Journalled h (h.raise c p0 p1 p2) i := by
  refine ⟨fun a ha => Hw.reg_raise h c p0 p1 p2 a (fun e => ha (by simp [e])), fun p hp => ?_, ?_, ?_, ?_, fun j _ => ?_, ?_, ?_⟩
  · unfold Hw.raise Hw.raiseEv; split <;> cases p <;> first | rfl | exact absurd hp (by simp)
  all_goals (unfold Hw.raise Hw.raiseEv; split <;> rfl)

theorem Journalled.evr (h : Hw) (i : Nat) (e : Evr) : Journalled h { h with evr := e } i :=
  ⟨fun _ _ => rfl, fun p hp => by cases p <;> first | rfl | exact absurd hp (by simp), rfl, rfl, rfl, fun _ _ => rfl, rfl, rfl⟩

theorem Journalled.setUndo (h : Hw) (i : Nat) (l : List Undo) : Journalled h (h.setUndo i l) i := by
  unfold Hw.setUndo; dsimp only; split
  · exact Journalled.setTgt _ _ _
  · exact ((Journalled.setTgt _ _ _).trans (Journalled.fset _ _ _ _ (by simp [R.CMP_EPn_UNDO_USED]))).trans
      (Journalled.fset _ _ _ _ (by simp [R.CMP_EPn_UNDO_HIGH]))

theorem Journalled.cacheOnly {h k : Hw} {i : Nat} (c : CacheOnly h k i) : Journalled h k i := by
  obtain ⟨x, g, rfl, e⟩ := c
  exact ⟨fun _ _ => rfl, fun p hp => by cases p <;> first | rfl | exact absurd hp (by simp), rfl, rfl, rfl, e, rfl, rfl⟩

/-- What the undo log does before a write (R139 to R141), where no injection makes it report full. -/
theorem Hw.journal_keeps (h : Hw) (i t kind group : Nat) (ha : h.armed 2 = none) : Journalled h (h.journal i t kind group) i := by
  have hi : h.cmpArmed (i / 2) 5 = false := by simp [Hw.cmpArmed, ha]
  unfold Hw.journal; dsimp only
  simp only [hi, Bool.or_false, Bool.false_eq_true, if_false]
  split
  · exact Journalled.refl h i
  · split
    · have b : ∀ (x : Hw) (c : Cycle), Journalled x (({ x with pair := { x.pair with ovfSeen := true } } : Hw).setCyc t c) i := fun x c =>
        ⟨fun _ _ => rfl, fun p hp => by cases p <;> first | rfl | exact absurd hp (by simp), rfl, rfl, rfl, fun _ _ => rfl, rfl, rfl⟩
      have c : Journalled h ((h.fset (R.CMP_EPn_STATUS_OVF (i / 2)) 1).fset (R.CMP_EPn_UNDO_OVF_SEEN (i / 2)) 1) i :=
        (Journalled.fset h i _ 1 (by simp [R.CMP_EPn_STATUS_OVF])).trans (Journalled.fset _ i _ 1 (by simp [R.CMP_EPn_UNDO_OVF_SEEN]))
      split
      · exact c
      · exact c.trans ((b _ _).trans (((Journalled.evr _ i _).trans (Journalled.raise _ i _ _ _ _)).trans (Journalled.evr _ i _)))
    · exact (Journalled.setUndo h i _).trans (Journalled.setTgt _ i _)

/-- The mode is none of the registers the undo log touches. -/
theorem Journalled.mode {h k : Hw} {i : Nat} (j : Journalled h k i) (hp : i < 8) : k.mode = h.mode := by
  have : i / 2 = 0 ∨ i / 2 = 1 ∨ i / 2 = 2 ∨ i / 2 = 3 := by omega
  have e : R.SUP_MODE_STATUS_MODE.a ∉ [R.CMP_EPn_STATUS (i / 2), R.CMP_EPn_UNDO (i / 2), R.EVR_LOST] := by
    rcases this with e | e | e | e <;> rw [e] <;> decide
  simp only [Hw.mode, Hw.fget, j.reg _ e]

theorem leBytes_get (n v i : Nat) (hi : i < n) : (leBytes n v)[i]'(by rw [leBytes_length]; exact hi) = BitVec.ofNat 8 (v / 2 ^ (8 * i)) := by
  induction n generalizing v i with
  | zero => omega
  | succ n ih =>
    cases i with
    | zero => simp [leBytes]
    | succ j =>
      simp only [leBytes, List.getElem_cons_succ]
      rw [ih (v / 256) j (by omega), Nat.div_div_eq_div_mul]
      congr 2
      rw [show 8 * (j + 1) = 8 + 8 * j by omega, Nat.pow_add]

/-- What a write of a little-endian number stores. -/
theorem Hw.setMl_stored (h : Hw) (a n v : Nat) :
    (∀ i, i < n → (h.setMl a n v).mb (a + i) = BitVec.ofNat 8 (v / 2 ^ (8 * i))) ∧ ∀ x, (x < a ∨ a + n ≤ x) → (h.setMl a n v).mb x = h.mb x := by
  refine ⟨fun i hi => ?_, fun x hx => Hw.mb_setMl_out h a n v x hx⟩
  rw [Hw.setMl, Hw.mb_setMbs_in _ h a i (by rw [leBytes_length]; exact hi), leBytes_get n v i hi]

/-- A selector with a task names a dispatch target. -/
theorem State.taskOf_lt (s : State) (sel : CoreSel) (t) (h : s.taskOf sel = some t) : sel.target < 8 ∧ sel ≠ .sup := by
  cases sel with
  | pair n => have := n.isLt; exact ⟨by simp only [CoreSel.target]; omega, by simp⟩
  | side n b => have := n.isLt; have := b2n_le b; exact ⟨by simp only [CoreSel.target]; omega, by simp⟩
  | sup => simp [State.taskOf] at h

/-- A checked store outside the exchange areas journals, takes the line from the other pairs' caches, and writes. -/
theorem Hw.doStore_keeps (h : Hw) (i t a n v : Nat) (hx : exchOf h.prog.exch a = none) (ha : h.armed 2 = none) :
    ∃ k, Journalled h k i ∧ h.doStore i t a n v = k.setMl (coreToSup a) n v := by
  unfold Hw.doStore; dsimp only
  simp only [hx, Option.isSome_none, Bool.false_eq_true, if_false]
  split
  · exact ⟨_, (Hw.journal_keeps _ _ _ _ _ ha).trans (.cacheOnly (.inval _ _ _ _ _)), rfl⟩
  · split
    · exact ⟨_, Hw.journal_keeps _ _ _ _ _ ha, rfl⟩
    · exact ⟨h, Journalled.refl _ _, rfl⟩

/-- The frame of a step that ends in `k` but for the cores and the free counter. -/
theorem Frame.of_req (ps : List Part) (rs : List Nat) (s u : State) (k : Hw) (e : Exe) (he : u.hw = { k with exe := e, free := k.free + 1 })
   (hk : ∀ p, p ∉ ps → p ≠ .exe → p ≠ .free → p.same s.hw k) (hr : ∀ a, a ∉ rs → k.reg a = s.hw.reg a) (ho : u.otp = s.otp) (hp : u.pending = s.pending) :
   Frame (.exe :: .free :: ps) rs s u := by
  refine ⟨fun p hp => ?_, fun a ha => ?_, ho, hp⟩
  · simp only [List.mem_cons, not_or] at hp
    have := hk p hp.2.2 hp.1 hp.2.1
    rw [he]; cases p <;> first | exact this | exact absurd rfl hp.1 | exact absurd rfl hp.2.1
  · rw [he]; exact hr a ha

theorem Hw.setMbs_eq (bs : List Byte) : ∀ (h : Hw) (a : Nat), (h.setMbs a bs) = { h with mem := (h.setMbs a bs).mem } := by
  induction bs with
  | nil => intro h a; rfl
  | cons b r ih => intro h a; simp only [Hw.setMbs]; rw [ih]; rfl

/-- What an instruction leaves whose request stores to memory. -/
theorem AroundBut.of_store (s u : State) (sel : CoreSel) (t : Nat) (k : Hw) (m : List (Nat × Byte)) (ht : s.taskOf sel = some t) (hj : Journalled s.hw k sel.target)
   (u3 : ∀ j, j ∉ sel.cores → u.hw.cpu j = Hw.cpu { k with mem := m } j) (u4 : u.hw.exe.sup = k.exe.sup) (u6 : u.otp = s.otp) (u7 : u.pending = s.pending)
   (u8 : k.mode ≠ .debug → ∃ e, u.hw = { ({ k with mem := m } : Hw) with exe := e, free := k.free + 1 } ∧ (∀ j, j ≠ sel.target → u.hw.tgt j = k.tgt j) ∧ e.held = k.exe.held) :
   AroundBut [.mem, .tsk, .pair, .evr] [R.CMP_EPn_STATUS (sel.target / 2), R.CMP_EPn_UNDO (sel.target / 2), R.EVR_LOST] sel s u := by
  refine ⟨fun j hj' => ?_, fun _ => u4.trans hj.sup, u6, u7, fun hm => ?_⟩
  · rw [u3 j hj']; simp only [Hw.cpu, hj.cpus]
  · obtain ⟨e, e1, e2, e3⟩ := u8 (by rw [hj.mode (State.taskOf_lt s sel t ht).1]; exact hm.resolve_left (State.taskOf_lt s sel t ht).2)
    refine ⟨Frame.of_req _ _ s u { k with mem := m } e e1 (fun p h1 h2 h3 => ?_) (fun a ha => hj.reg a ha) u6 u7, fun j h => (e2 j h).trans (hj.tgt j h)⟩
    simp only [List.mem_cons, List.not_mem_nil, or_false, not_or] at h1
    have := hj.part p (by simp [h1, h2])
    cases p <;> first | exact this | exact absurd rfl h1.1

/-- A foreign read in a task that takes no reads from the partner. -/
theorem Hw.foreignVal_own (h : Hw) (t a n v : Nat) (hf : (h.cyc t).foll = false) :
    ∃ k, h.foreignVal t a n v = (k, .val (v % 2^32) (v / 2^32)) ∧ k.exe = h.exe ∧ k.mem = h.mem ∧ k.mode = h.mode ∧
     (∀ a, k.reg a = h.reg a) ∧ (∀ p : Part, p ≠ .tsk → p ≠ .pair → p.same h k) ∧ (h.leads t = false → k = h) := by
  unfold Hw.foreignVal; simp only [hf, Bool.false_eq_true, if_false]
  by_cases hl : h.leads t = true
  · simp only [hl, if_true]
    refine ⟨_, rfl, ?_⟩
    split
    · exact ⟨rfl, rfl, rfl, fun _ => rfl, fun p h1 h2 => (by cases p <;> first | rfl | exact absurd rfl h1 | exact absurd rfl h2), fun e => by simp at e⟩
    · split
      · exact ⟨rfl, rfl, rfl, fun _ => rfl, fun p h1 h2 => (by cases p <;> first | rfl | exact absurd rfl h1 | exact absurd rfl h2), fun e => by simp at e⟩
      · exact ⟨rfl, rfl, rfl, fun _ => rfl, fun p h1 h2 => (by cases p <;> first | rfl | exact absurd rfl h1 | exact absurd rfl h2), fun e => by simp at e⟩
  · simp only [hl]
    exact ⟨h, rfl, rfl, rfl, rfl, fun _ => rfl, fun p _ _ => by cases p <;> rfl, fun _ => rfl⟩

/-- Where a core's cache holds nothing of its own, the caches' part in a read or a fetch leaves it so. -/
theorem Hw.own_setCache (h : Hw) (j k : Nat) (c : Caches) (e : (h.cache j).own = []) (hc : j = k → c.own = []) : ((h.setCache k c).cache j).own = [] := by
  simp only [Hw.cache, Hw.setCache]
  by_cases q : j = k
  · subst q; rw [tget_tset_same]; exact hc rfl
  · rw [tget_tset_ne _ _ _ _ _ _ q]; exact e
theorem Hw.own_eccLine (h : Hw) (i a j : Nat) (e : (h.cache j).own = []) : ((h.eccLine i a).1.cache j).own = [] := by
  have n : ∀ b, ((h.noteErr i b).cache j).own = [] := by intro b; unfold Hw.noteErr; split <;> exact e
  unfold Hw.eccLine; dsimp only; split
  · split
    · exact e
    · split
      · exact Hw.own_setCache _ _ _ _ e (fun q => q ▸ e)
      · exact e
  · split
    · exact n _
    · split
      · exact n _
      · exact e
theorem Hw.own_foldl (f : Hw → Nat → Hw) (j : Nat) (hf : ∀ h k, (h.cache j).own = [] → ((f h k).cache j).own = []) :
    ∀ (l : List Nat) (h : Hw), (h.cache j).own = [] → ((l.foldl f h).cache j).own = [] := by
  intro l; induction l with
  | nil => exact fun _ e => e
  | cons b r ih => exact fun h e => ih _ (hf h b e)
theorem Hw.own_fetchLine (h : Hw) (i a j : Nat) (e : (h.cache j).own = []) : ((h.fetchLine i a).cache j).own = [] :=
  Hw.own_foldl _ j (fun h k e => Hw.own_setCache h j k _ e (fun q => q ▸ e)) _ _ e
theorem Hw.own_dataLine (h : Hw) (i a j : Nat) (e : (h.cache j).own = []) : ((h.dataLine i a).cache j).own = [] :=
  Hw.own_foldl _ j (fun h k e => by
    dsimp only; split
    · exact e
    · exact Hw.own_setCache h j k _ e (fun q => by subst q; simp [e])) _ _ e
theorem Hw.own_afterFetch (h : Hw) (i j : Nat) (e : (h.cache j).own = []) : ((h.afterFetch i).cache j).own = [] := by
  unfold Hw.afterFetch; split
  · exact e
  · exact Hw.own_fetchLine _ _ _ _ (Hw.own_eccLine h i _ j e)

/-- A data read that meets no memory error and no machine check on its way, with no injection armed. -/
theorem Hw.dataRead_ok (h : Hw) (i t a : Nat) (ea : Word) (hp : h.poisoned a = none) (ha : h.armed 2 = none)
    (h2 : h.split (i / 2) = true → (h.cache i).two.contains (lineOf a) = false) :
    ∃ k, h.dataRead i t a ea = (k, none) ∧ CacheOnly h k i ∧ ((h.cache (i + 1)).own = [] → (k.cache (i + 1)).own = []) := by
  have hi : h.cmpArmed (i / 2) 4 = false := by simp [Hw.cmpArmed, ha]
  have e : h.plant i t a = h := by simp [Hw.plant, hi]
  have q : (h.eccLine i a).2 = none := by
    unfold Hw.eccLine; dsimp only; split
    · rename_i sp; rw [h2 sp]; simp
    · split
      · rfl
      · split <;> rfl
  unfold Hw.dataRead Hw.cacheRead; dsimp only
  rw [hp, e]; dsimp only
  split
  · have c := CacheOnly.eccLine h i a
    have w := h.own_eccLine i a (i + 1)
    generalize h.eccLine i a = r at q c w
    obtain ⟨k, x⟩ := r
    dsimp only at q; subst q
    exact ⟨_, rfl, c.trans (CacheOnly.dataLine k i a), fun e => Hw.own_dataLine _ _ _ _ (w e)⟩
  · exact ⟨h, rfl, .refl h i, id⟩

/-- What a granted load from memory answers. -/
theorem Hw.lead_load (h : Hw) (i t : Nat) (a : Word) (n : Nat) (h1 : a.toNat < 0x40000000) (h2 : (h.cyc t).foll = false) (h3 : h.poisoned a.toNat = none)
   (h4 : h.loadFault t a.toNat n = none) (h5 : h.armed 2 = none) (h6 : h.split (i / 2) = true → (h.cache i).two.contains (lineOf a.toNat) = false) :
   ∃ k, h.lead i t (.load a n) = (k, .val (h.viewNat (i / 2) t a.toNat n % 2^32) (h.viewNat (i / 2) t a.toNat n / 2^32)) ∧ (∀ j, k.cpu j = h.cpu j) ∧
     k.exe.sup = h.exe.sup ∧ k.exe.held = h.exe.held ∧ (∀ j, j ≠ i → k.tgt j = h.tgt j) ∧ k.mem = h.mem ∧ k.mode = h.mode ∧
     (∀ a, k.reg a = h.reg a) ∧ (∀ p : Part, p ∉ Part.exe :: (if h.foreign t a.toNat n && h.leads t then [Part.tsk, .pair] else []) → p.same h k) ∧
     ((h.cache (i + 1)).own = [] → (k.cache (i + 1)).own = []) := by
  obtain ⟨g, d1, d2, dw⟩ := Hw.dataRead_ok h i t a.toNat a h3 h5 h6
  unfold Hw.lead; dsimp only
  simp only [h4, h2, d1, Bool.false_and, Bool.false_eq_true, if_false, Nat.not_le.2 h1]
  obtain ⟨c, tg, rfl, d3⟩ := d2
  by_cases hf : h.foreign t a.toNat n = true
  · have hf' : Hw.foreign { h with exe := { h.exe with caches := c, tgts := tg } } t a.toNat n = true := hf
    simp only [hf, hf', if_true, Bool.true_and]
    obtain ⟨k, e1, e2, e3, e4, e5, e6, e7⟩ := Hw.foreignVal_own { h with exe := { h.exe with caches := c, tgts := tg } } t a.toNat n
      (Hw.viewNat { h with exe := { h.exe with caches := c, tgts := tg } } (i/2) t a.toNat n) h2
    refine ⟨k, e1, fun j => by simp only [Hw.cpu, e2], by rw [e2], by rw [e2], fun j hj => by simp only [Hw.tgt, e2]; exact d3 j hj, e3, e4, e5, fun p hp => ?_,
      fun w => by have := dw w; simp only [Hw.cache, e2] at this ⊢; exact this⟩
    by_cases hl : h.leads t = true
    · simp only [hl, if_true, List.mem_cons, List.not_mem_nil, or_false, not_or] at hp
      have := e6 p hp.2.1 hp.2.2
      cases p <;> first | exact this | exact absurd rfl hp.1
    · have hl' : h.leads t = false := by simpa using hl
      simp only [List.mem_cons, not_or] at hp
      rw [e7 hl']; cases p <;> first | rfl | exact absurd rfl hp.1
  · have hf' : Hw.foreign { h with exe := { h.exe with caches := c, tgts := tg } } t a.toNat n = false := Bool.eq_false_iff.2 hf
    simp only [hf', Bool.false_eq_true, if_false]
    refine ⟨_, rfl, fun _ => rfl, rfl, rfl, d3, rfl, rfl, fun _ => rfl, fun p hp => ?_, dw⟩
    simp only [List.mem_cons, not_or] at hp
    cases p <;> first | rfl | exact absurd rfl hp.1

end Sys2Proof.Machine
end

