-- ==== Sys2Proof/Laws/Updates.lean ====
section
/-! SUPPORT. What the keyed updates (a core, a dispatch target, a core's caches, a cycle, a timer, a force, a session, a link, a field
side, an image, a ring, a bucket) leave as it was, and what reading the same or another entry gives afterwards. -/

namespace Sys2Proof.Machine

variable (h : Hw)

/-! ## setCpu -/

@[simp] theorem Hw.setCpu_clk (i : Nat) (c : Cpu) : (h.setCpu i c).clk = h.clk := rfl
@[simp] theorem Hw.setCpu_regs (i : Nat) (c : Cpu) : (h.setCpu i c).regs = h.regs := rfl
@[simp] theorem Hw.setCpu_pend (i : Nat) (c : Cpu) : (h.setCpu i c).pend = h.pend := rfl
@[simp] theorem Hw.setCpu_mem (i : Nat) (c : Cpu) : (h.setCpu i c).mem = h.mem := rfl
@[simp] theorem Hw.setCpu_sup (i : Nat) (c : Cpu) : (h.setCpu i c).sup = h.sup := rfl
@[simp] theorem Hw.setCpu_tsk (i : Nat) (c : Cpu) : (h.setCpu i c).tsk = h.tsk := rfl
@[simp] theorem Hw.setCpu_hif (i : Nat) (c : Cpu) : (h.setCpu i c).hif = h.hif := rfl
@[simp] theorem Hw.setCpu_nvs (i : Nat) (c : Cpu) : (h.setCpu i c).nvs = h.nvs := rfl
@[simp] theorem Hw.setCpu_net (i : Nat) (c : Cpu) : (h.setCpu i c).net = h.net := rfl
@[simp] theorem Hw.setCpu_fld (i : Nat) (c : Cpu) : (h.setCpu i c).fld = h.fld := rfl
@[simp] theorem Hw.setCpu_pair (i : Nat) (c : Cpu) : (h.setCpu i c).pair = h.pair := rfl
@[simp] theorem Hw.setCpu_evr (i : Nat) (c : Cpu) : (h.setCpu i c).evr = h.evr := rfl
@[simp] theorem Hw.setCpu_wdg (i : Nat) (c : Cpu) : (h.setCpu i c).wdg = h.wdg := rfl
@[simp] theorem Hw.setCpu_cal (i : Nat) (c : Cpu) : (h.setCpu i c).cal = h.cal := rfl
@[simp] theorem Hw.setCpu_prog (i : Nat) (c : Cpu) : (h.setCpu i c).prog = h.prog := rfl
@[simp] theorem Hw.setCpu_free (i : Nat) (c : Cpu) : (h.setCpu i c).free = h.free := rfl

/-! ## setTgt -/

@[simp] theorem Hw.setTgt_clk (i : Nat) (g : Target) : (h.setTgt i g).clk = h.clk := rfl
@[simp] theorem Hw.setTgt_regs (i : Nat) (g : Target) : (h.setTgt i g).regs = h.regs := rfl
@[simp] theorem Hw.setTgt_pend (i : Nat) (g : Target) : (h.setTgt i g).pend = h.pend := rfl
@[simp] theorem Hw.setTgt_mem (i : Nat) (g : Target) : (h.setTgt i g).mem = h.mem := rfl
@[simp] theorem Hw.setTgt_sup (i : Nat) (g : Target) : (h.setTgt i g).sup = h.sup := rfl
@[simp] theorem Hw.setTgt_tsk (i : Nat) (g : Target) : (h.setTgt i g).tsk = h.tsk := rfl
@[simp] theorem Hw.setTgt_hif (i : Nat) (g : Target) : (h.setTgt i g).hif = h.hif := rfl
@[simp] theorem Hw.setTgt_nvs (i : Nat) (g : Target) : (h.setTgt i g).nvs = h.nvs := rfl
@[simp] theorem Hw.setTgt_net (i : Nat) (g : Target) : (h.setTgt i g).net = h.net := rfl
@[simp] theorem Hw.setTgt_fld (i : Nat) (g : Target) : (h.setTgt i g).fld = h.fld := rfl
@[simp] theorem Hw.setTgt_pair (i : Nat) (g : Target) : (h.setTgt i g).pair = h.pair := rfl
@[simp] theorem Hw.setTgt_evr (i : Nat) (g : Target) : (h.setTgt i g).evr = h.evr := rfl
@[simp] theorem Hw.setTgt_wdg (i : Nat) (g : Target) : (h.setTgt i g).wdg = h.wdg := rfl
@[simp] theorem Hw.setTgt_cal (i : Nat) (g : Target) : (h.setTgt i g).cal = h.cal := rfl
@[simp] theorem Hw.setTgt_prog (i : Nat) (g : Target) : (h.setTgt i g).prog = h.prog := rfl
@[simp] theorem Hw.setTgt_free (i : Nat) (g : Target) : (h.setTgt i g).free = h.free := rfl
@[simp] theorem Hw.tgt_setTgt (i : Nat) (g : Target) : (h.setTgt i g).tgt i = g := by simp [Hw.tgt, Hw.setTgt]

/-! ## setCache -/

@[simp] theorem Hw.setCache_clk (i : Nat) (c : Caches) : (h.setCache i c).clk = h.clk := rfl
@[simp] theorem Hw.setCache_regs (i : Nat) (c : Caches) : (h.setCache i c).regs = h.regs := rfl
@[simp] theorem Hw.setCache_pend (i : Nat) (c : Caches) : (h.setCache i c).pend = h.pend := rfl
@[simp] theorem Hw.setCache_mem (i : Nat) (c : Caches) : (h.setCache i c).mem = h.mem := rfl
@[simp] theorem Hw.setCache_sup (i : Nat) (c : Caches) : (h.setCache i c).sup = h.sup := rfl
@[simp] theorem Hw.setCache_tsk (i : Nat) (c : Caches) : (h.setCache i c).tsk = h.tsk := rfl
@[simp] theorem Hw.setCache_hif (i : Nat) (c : Caches) : (h.setCache i c).hif = h.hif := rfl
@[simp] theorem Hw.setCache_nvs (i : Nat) (c : Caches) : (h.setCache i c).nvs = h.nvs := rfl
@[simp] theorem Hw.setCache_net (i : Nat) (c : Caches) : (h.setCache i c).net = h.net := rfl
@[simp] theorem Hw.setCache_fld (i : Nat) (c : Caches) : (h.setCache i c).fld = h.fld := rfl
@[simp] theorem Hw.setCache_pair (i : Nat) (c : Caches) : (h.setCache i c).pair = h.pair := rfl
@[simp] theorem Hw.setCache_evr (i : Nat) (c : Caches) : (h.setCache i c).evr = h.evr := rfl
@[simp] theorem Hw.setCache_wdg (i : Nat) (c : Caches) : (h.setCache i c).wdg = h.wdg := rfl
@[simp] theorem Hw.setCache_cal (i : Nat) (c : Caches) : (h.setCache i c).cal = h.cal := rfl
@[simp] theorem Hw.setCache_prog (i : Nat) (c : Caches) : (h.setCache i c).prog = h.prog := rfl
@[simp] theorem Hw.setCache_free (i : Nat) (c : Caches) : (h.setCache i c).free = h.free := rfl
@[simp] theorem Hw.cache_setCache (i : Nat) (c : Caches) : (h.setCache i c).cache i = c := by simp [Hw.cache, Hw.setCache]
theorem Hw.cache_setCache_ne (i : Nat) (c : Caches) (j : Nat) (hne : j ≠ i) : (h.setCache i c).cache j = h.cache j := by
  unfold Hw.cache Hw.setCache; exact tget_tset_ne _ _ _ _ _ _ hne

/-! ## setCyc -/

@[simp] theorem Hw.setCyc_clk (t : Nat) (c : Cycle) : (h.setCyc t c).clk = h.clk := rfl
@[simp] theorem Hw.setCyc_regs (t : Nat) (c : Cycle) : (h.setCyc t c).regs = h.regs := rfl
@[simp] theorem Hw.setCyc_pend (t : Nat) (c : Cycle) : (h.setCyc t c).pend = h.pend := rfl
@[simp] theorem Hw.setCyc_mem (t : Nat) (c : Cycle) : (h.setCyc t c).mem = h.mem := rfl
@[simp] theorem Hw.setCyc_sup (t : Nat) (c : Cycle) : (h.setCyc t c).sup = h.sup := rfl
@[simp] theorem Hw.setCyc_exe (t : Nat) (c : Cycle) : (h.setCyc t c).exe = h.exe := rfl
@[simp] theorem Hw.setCyc_hif (t : Nat) (c : Cycle) : (h.setCyc t c).hif = h.hif := rfl
@[simp] theorem Hw.setCyc_nvs (t : Nat) (c : Cycle) : (h.setCyc t c).nvs = h.nvs := rfl
@[simp] theorem Hw.setCyc_net (t : Nat) (c : Cycle) : (h.setCyc t c).net = h.net := rfl
@[simp] theorem Hw.setCyc_fld (t : Nat) (c : Cycle) : (h.setCyc t c).fld = h.fld := rfl
@[simp] theorem Hw.setCyc_pair (t : Nat) (c : Cycle) : (h.setCyc t c).pair = h.pair := rfl
@[simp] theorem Hw.setCyc_evr (t : Nat) (c : Cycle) : (h.setCyc t c).evr = h.evr := rfl
@[simp] theorem Hw.setCyc_wdg (t : Nat) (c : Cycle) : (h.setCyc t c).wdg = h.wdg := rfl
@[simp] theorem Hw.setCyc_cal (t : Nat) (c : Cycle) : (h.setCyc t c).cal = h.cal := rfl
@[simp] theorem Hw.setCyc_prog (t : Nat) (c : Cycle) : (h.setCyc t c).prog = h.prog := rfl
@[simp] theorem Hw.setCyc_free (t : Nat) (c : Cycle) : (h.setCyc t c).free = h.free := rfl
@[simp] theorem Hw.cyc_setCyc (t : Nat) (c : Cycle) : (h.setCyc t c).cyc t = c := by simp [Hw.cyc, Hw.setCyc]
theorem Hw.cyc_setCyc_ne (t : Nat) (c : Cycle) (j : Nat) (hne : j ≠ t) : (h.setCyc t c).cyc j = h.cyc j := by
  unfold Hw.cyc Hw.setCyc; exact tget_tset_ne _ _ _ _ _ _ hne

/-! ## setTimer -/

@[simp] theorem Hw.setTimer_clk (i : Nat) (e : Timer) : (h.setTimer i e).clk = h.clk := rfl
@[simp] theorem Hw.setTimer_regs (i : Nat) (e : Timer) : (h.setTimer i e).regs = h.regs := rfl
@[simp] theorem Hw.setTimer_pend (i : Nat) (e : Timer) : (h.setTimer i e).pend = h.pend := rfl
@[simp] theorem Hw.setTimer_mem (i : Nat) (e : Timer) : (h.setTimer i e).mem = h.mem := rfl
@[simp] theorem Hw.setTimer_sup (i : Nat) (e : Timer) : (h.setTimer i e).sup = h.sup := rfl
@[simp] theorem Hw.setTimer_exe (i : Nat) (e : Timer) : (h.setTimer i e).exe = h.exe := rfl
@[simp] theorem Hw.setTimer_hif (i : Nat) (e : Timer) : (h.setTimer i e).hif = h.hif := rfl
@[simp] theorem Hw.setTimer_nvs (i : Nat) (e : Timer) : (h.setTimer i e).nvs = h.nvs := rfl
@[simp] theorem Hw.setTimer_net (i : Nat) (e : Timer) : (h.setTimer i e).net = h.net := rfl
@[simp] theorem Hw.setTimer_fld (i : Nat) (e : Timer) : (h.setTimer i e).fld = h.fld := rfl
@[simp] theorem Hw.setTimer_pair (i : Nat) (e : Timer) : (h.setTimer i e).pair = h.pair := rfl
@[simp] theorem Hw.setTimer_evr (i : Nat) (e : Timer) : (h.setTimer i e).evr = h.evr := rfl
@[simp] theorem Hw.setTimer_wdg (i : Nat) (e : Timer) : (h.setTimer i e).wdg = h.wdg := rfl
@[simp] theorem Hw.setTimer_cal (i : Nat) (e : Timer) : (h.setTimer i e).cal = h.cal := rfl
@[simp] theorem Hw.setTimer_prog (i : Nat) (e : Timer) : (h.setTimer i e).prog = h.prog := rfl
@[simp] theorem Hw.setTimer_free (i : Nat) (e : Timer) : (h.setTimer i e).free = h.free := rfl
@[simp] theorem Hw.timer_setTimer (i : Nat) (e : Timer) : (h.setTimer i e).timer i = e := by simp [Hw.timer, Hw.setTimer]
theorem Hw.timer_setTimer_ne (i : Nat) (e : Timer) (j : Nat) (hne : j ≠ i) : (h.setTimer i e).timer j = h.timer j := by
  unfold Hw.timer Hw.setTimer; exact tget_tset_ne _ _ _ _ _ _ hne

/-! ## setForce -/

@[simp] theorem Hw.setForce_clk (i : Nat) (f : Force) : (h.setForce i f).clk = h.clk := rfl
@[simp] theorem Hw.setForce_regs (i : Nat) (f : Force) : (h.setForce i f).regs = h.regs := rfl
@[simp] theorem Hw.setForce_pend (i : Nat) (f : Force) : (h.setForce i f).pend = h.pend := rfl
@[simp] theorem Hw.setForce_mem (i : Nat) (f : Force) : (h.setForce i f).mem = h.mem := rfl
@[simp] theorem Hw.setForce_sup (i : Nat) (f : Force) : (h.setForce i f).sup = h.sup := rfl
@[simp] theorem Hw.setForce_exe (i : Nat) (f : Force) : (h.setForce i f).exe = h.exe := rfl
@[simp] theorem Hw.setForce_hif (i : Nat) (f : Force) : (h.setForce i f).hif = h.hif := rfl
@[simp] theorem Hw.setForce_nvs (i : Nat) (f : Force) : (h.setForce i f).nvs = h.nvs := rfl
@[simp] theorem Hw.setForce_net (i : Nat) (f : Force) : (h.setForce i f).net = h.net := rfl
@[simp] theorem Hw.setForce_fld (i : Nat) (f : Force) : (h.setForce i f).fld = h.fld := rfl
@[simp] theorem Hw.setForce_pair (i : Nat) (f : Force) : (h.setForce i f).pair = h.pair := rfl
@[simp] theorem Hw.setForce_evr (i : Nat) (f : Force) : (h.setForce i f).evr = h.evr := rfl
@[simp] theorem Hw.setForce_wdg (i : Nat) (f : Force) : (h.setForce i f).wdg = h.wdg := rfl
@[simp] theorem Hw.setForce_cal (i : Nat) (f : Force) : (h.setForce i f).cal = h.cal := rfl
@[simp] theorem Hw.setForce_prog (i : Nat) (f : Force) : (h.setForce i f).prog = h.prog := rfl
@[simp] theorem Hw.setForce_free (i : Nat) (f : Force) : (h.setForce i f).free = h.free := rfl
@[simp] theorem Hw.force_setForce (i : Nat) (f : Force) : (h.setForce i f).force i = f := by simp [Hw.force, Hw.setForce]
theorem Hw.force_setForce_ne (i : Nat) (f : Force) (j : Nat) (hne : j ≠ i) : (h.setForce i f).force j = h.force j := by
  unfold Hw.force Hw.setForce; exact tget_tset_ne _ _ _ _ _ _ hne

/-! ## setSess -/

@[simp] theorem Hw.setSess_clk (i : Nat) (x : Sess) : (h.setSess i x).clk = h.clk := rfl
@[simp] theorem Hw.setSess_regs (i : Nat) (x : Sess) : (h.setSess i x).regs = h.regs := rfl
@[simp] theorem Hw.setSess_pend (i : Nat) (x : Sess) : (h.setSess i x).pend = h.pend := rfl
@[simp] theorem Hw.setSess_mem (i : Nat) (x : Sess) : (h.setSess i x).mem = h.mem := rfl
@[simp] theorem Hw.setSess_sup (i : Nat) (x : Sess) : (h.setSess i x).sup = h.sup := rfl
@[simp] theorem Hw.setSess_exe (i : Nat) (x : Sess) : (h.setSess i x).exe = h.exe := rfl
@[simp] theorem Hw.setSess_tsk (i : Nat) (x : Sess) : (h.setSess i x).tsk = h.tsk := rfl
@[simp] theorem Hw.setSess_hif (i : Nat) (x : Sess) : (h.setSess i x).hif = h.hif := rfl
@[simp] theorem Hw.setSess_nvs (i : Nat) (x : Sess) : (h.setSess i x).nvs = h.nvs := rfl
@[simp] theorem Hw.setSess_fld (i : Nat) (x : Sess) : (h.setSess i x).fld = h.fld := rfl
@[simp] theorem Hw.setSess_pair (i : Nat) (x : Sess) : (h.setSess i x).pair = h.pair := rfl
@[simp] theorem Hw.setSess_evr (i : Nat) (x : Sess) : (h.setSess i x).evr = h.evr := rfl
@[simp] theorem Hw.setSess_wdg (i : Nat) (x : Sess) : (h.setSess i x).wdg = h.wdg := rfl
@[simp] theorem Hw.setSess_cal (i : Nat) (x : Sess) : (h.setSess i x).cal = h.cal := rfl
@[simp] theorem Hw.setSess_prog (i : Nat) (x : Sess) : (h.setSess i x).prog = h.prog := rfl
@[simp] theorem Hw.setSess_free (i : Nat) (x : Sess) : (h.setSess i x).free = h.free := rfl
@[simp] theorem Hw.sess_setSess (i : Nat) (x : Sess) : (h.setSess i x).sess i = x := by simp [Hw.sess, Hw.setSess]
theorem Hw.sess_setSess_ne (i : Nat) (x : Sess) (j : Nat) (hne : j ≠ i) : (h.setSess i x).sess j = h.sess j := by
  unfold Hw.sess Hw.setSess; exact tget_tset_ne _ _ _ _ _ _ hne

/-! ## setLnk -/

@[simp] theorem Hw.setLnk_clk (g : Nat) (x : Lnk) : (h.setLnk g x).clk = h.clk := rfl
@[simp] theorem Hw.setLnk_regs (g : Nat) (x : Lnk) : (h.setLnk g x).regs = h.regs := rfl
@[simp] theorem Hw.setLnk_pend (g : Nat) (x : Lnk) : (h.setLnk g x).pend = h.pend := rfl
@[simp] theorem Hw.setLnk_mem (g : Nat) (x : Lnk) : (h.setLnk g x).mem = h.mem := rfl
@[simp] theorem Hw.setLnk_sup (g : Nat) (x : Lnk) : (h.setLnk g x).sup = h.sup := rfl
@[simp] theorem Hw.setLnk_exe (g : Nat) (x : Lnk) : (h.setLnk g x).exe = h.exe := rfl
@[simp] theorem Hw.setLnk_tsk (g : Nat) (x : Lnk) : (h.setLnk g x).tsk = h.tsk := rfl
@[simp] theorem Hw.setLnk_hif (g : Nat) (x : Lnk) : (h.setLnk g x).hif = h.hif := rfl
@[simp] theorem Hw.setLnk_nvs (g : Nat) (x : Lnk) : (h.setLnk g x).nvs = h.nvs := rfl
@[simp] theorem Hw.setLnk_net (g : Nat) (x : Lnk) : (h.setLnk g x).net = h.net := rfl
@[simp] theorem Hw.setLnk_pair (g : Nat) (x : Lnk) : (h.setLnk g x).pair = h.pair := rfl
@[simp] theorem Hw.setLnk_evr (g : Nat) (x : Lnk) : (h.setLnk g x).evr = h.evr := rfl
@[simp] theorem Hw.setLnk_wdg (g : Nat) (x : Lnk) : (h.setLnk g x).wdg = h.wdg := rfl
@[simp] theorem Hw.setLnk_cal (g : Nat) (x : Lnk) : (h.setLnk g x).cal = h.cal := rfl
@[simp] theorem Hw.setLnk_prog (g : Nat) (x : Lnk) : (h.setLnk g x).prog = h.prog := rfl
@[simp] theorem Hw.setLnk_free (g : Nat) (x : Lnk) : (h.setLnk g x).free = h.free := rfl
@[simp] theorem Hw.lnk_setLnk (g : Nat) (x : Lnk) : (h.setLnk g x).lnk g = x := by simp [Hw.lnk, Hw.setLnk]
theorem Hw.lnk_setLnk_ne (g : Nat) (x : Lnk) (j : Nat) (hne : j ≠ g) : (h.setLnk g x).lnk j = h.lnk j := by
  unfold Hw.lnk Hw.setLnk; exact tget_tset_ne _ _ _ _ _ _ hne

/-! ## setFs -/

@[simp] theorem Hw.setFs_clk (g : Nat) (x : Fs) : (h.setFs g x).clk = h.clk := rfl
@[simp] theorem Hw.setFs_regs (g : Nat) (x : Fs) : (h.setFs g x).regs = h.regs := rfl
@[simp] theorem Hw.setFs_pend (g : Nat) (x : Fs) : (h.setFs g x).pend = h.pend := rfl
@[simp] theorem Hw.setFs_mem (g : Nat) (x : Fs) : (h.setFs g x).mem = h.mem := rfl
@[simp] theorem Hw.setFs_sup (g : Nat) (x : Fs) : (h.setFs g x).sup = h.sup := rfl
@[simp] theorem Hw.setFs_exe (g : Nat) (x : Fs) : (h.setFs g x).exe = h.exe := rfl
@[simp] theorem Hw.setFs_tsk (g : Nat) (x : Fs) : (h.setFs g x).tsk = h.tsk := rfl
@[simp] theorem Hw.setFs_hif (g : Nat) (x : Fs) : (h.setFs g x).hif = h.hif := rfl
@[simp] theorem Hw.setFs_nvs (g : Nat) (x : Fs) : (h.setFs g x).nvs = h.nvs := rfl
@[simp] theorem Hw.setFs_net (g : Nat) (x : Fs) : (h.setFs g x).net = h.net := rfl
@[simp] theorem Hw.setFs_pair (g : Nat) (x : Fs) : (h.setFs g x).pair = h.pair := rfl
@[simp] theorem Hw.setFs_evr (g : Nat) (x : Fs) : (h.setFs g x).evr = h.evr := rfl
@[simp] theorem Hw.setFs_wdg (g : Nat) (x : Fs) : (h.setFs g x).wdg = h.wdg := rfl
@[simp] theorem Hw.setFs_cal (g : Nat) (x : Fs) : (h.setFs g x).cal = h.cal := rfl
@[simp] theorem Hw.setFs_prog (g : Nat) (x : Fs) : (h.setFs g x).prog = h.prog := rfl
@[simp] theorem Hw.setFs_free (g : Nat) (x : Fs) : (h.setFs g x).free = h.free := rfl
@[simp] theorem Hw.fs_setFs (g : Nat) (x : Fs) : (h.setFs g x).fs g = x := by simp [Hw.fs, Hw.setFs]
theorem Hw.fs_setFs_ne (g : Nat) (x : Fs) (j : Nat) (hne : j ≠ g) : (h.setFs g x).fs j = h.fs j := by
  unfold Hw.fs Hw.setFs; exact tget_tset_ne _ _ _ _ _ _ hne

/-! ## setImg -/

@[simp] theorem Hw.setImg_clk (g : Nat) (x : GImg) : (h.setImg g x).clk = h.clk := rfl
@[simp] theorem Hw.setImg_regs (g : Nat) (x : GImg) : (h.setImg g x).regs = h.regs := rfl
@[simp] theorem Hw.setImg_pend (g : Nat) (x : GImg) : (h.setImg g x).pend = h.pend := rfl
@[simp] theorem Hw.setImg_mem (g : Nat) (x : GImg) : (h.setImg g x).mem = h.mem := rfl
@[simp] theorem Hw.setImg_sup (g : Nat) (x : GImg) : (h.setImg g x).sup = h.sup := rfl
@[simp] theorem Hw.setImg_exe (g : Nat) (x : GImg) : (h.setImg g x).exe = h.exe := rfl
@[simp] theorem Hw.setImg_tsk (g : Nat) (x : GImg) : (h.setImg g x).tsk = h.tsk := rfl
@[simp] theorem Hw.setImg_hif (g : Nat) (x : GImg) : (h.setImg g x).hif = h.hif := rfl
@[simp] theorem Hw.setImg_nvs (g : Nat) (x : GImg) : (h.setImg g x).nvs = h.nvs := rfl
@[simp] theorem Hw.setImg_net (g : Nat) (x : GImg) : (h.setImg g x).net = h.net := rfl
@[simp] theorem Hw.setImg_pair (g : Nat) (x : GImg) : (h.setImg g x).pair = h.pair := rfl
@[simp] theorem Hw.setImg_evr (g : Nat) (x : GImg) : (h.setImg g x).evr = h.evr := rfl
@[simp] theorem Hw.setImg_wdg (g : Nat) (x : GImg) : (h.setImg g x).wdg = h.wdg := rfl
@[simp] theorem Hw.setImg_cal (g : Nat) (x : GImg) : (h.setImg g x).cal = h.cal := rfl
@[simp] theorem Hw.setImg_prog (g : Nat) (x : GImg) : (h.setImg g x).prog = h.prog := rfl
@[simp] theorem Hw.setImg_free (g : Nat) (x : GImg) : (h.setImg g x).free = h.free := rfl
@[simp] theorem Hw.img_setImg (g : Nat) (x : GImg) : (h.setImg g x).img g = x := by simp [Hw.img, Hw.setImg]
theorem Hw.img_setImg_ne (g : Nat) (x : GImg) (j : Nat) (hne : j ≠ g) : (h.setImg g x).img j = h.img j := by
  unfold Hw.img Hw.setImg; exact tget_tset_ne _ _ _ _ _ _ hne

/-! ## setAimg -/

@[simp] theorem Hw.setAimg_clk (c : Nat) (x : AImg) : (h.setAimg c x).clk = h.clk := rfl
@[simp] theorem Hw.setAimg_regs (c : Nat) (x : AImg) : (h.setAimg c x).regs = h.regs := rfl
@[simp] theorem Hw.setAimg_pend (c : Nat) (x : AImg) : (h.setAimg c x).pend = h.pend := rfl
@[simp] theorem Hw.setAimg_mem (c : Nat) (x : AImg) : (h.setAimg c x).mem = h.mem := rfl
@[simp] theorem Hw.setAimg_sup (c : Nat) (x : AImg) : (h.setAimg c x).sup = h.sup := rfl
@[simp] theorem Hw.setAimg_exe (c : Nat) (x : AImg) : (h.setAimg c x).exe = h.exe := rfl
@[simp] theorem Hw.setAimg_tsk (c : Nat) (x : AImg) : (h.setAimg c x).tsk = h.tsk := rfl
@[simp] theorem Hw.setAimg_hif (c : Nat) (x : AImg) : (h.setAimg c x).hif = h.hif := rfl
@[simp] theorem Hw.setAimg_nvs (c : Nat) (x : AImg) : (h.setAimg c x).nvs = h.nvs := rfl
@[simp] theorem Hw.setAimg_net (c : Nat) (x : AImg) : (h.setAimg c x).net = h.net := rfl
@[simp] theorem Hw.setAimg_pair (c : Nat) (x : AImg) : (h.setAimg c x).pair = h.pair := rfl
@[simp] theorem Hw.setAimg_evr (c : Nat) (x : AImg) : (h.setAimg c x).evr = h.evr := rfl
@[simp] theorem Hw.setAimg_wdg (c : Nat) (x : AImg) : (h.setAimg c x).wdg = h.wdg := rfl
@[simp] theorem Hw.setAimg_cal (c : Nat) (x : AImg) : (h.setAimg c x).cal = h.cal := rfl
@[simp] theorem Hw.setAimg_prog (c : Nat) (x : AImg) : (h.setAimg c x).prog = h.prog := rfl
@[simp] theorem Hw.setAimg_free (c : Nat) (x : AImg) : (h.setAimg c x).free = h.free := rfl
@[simp] theorem Hw.aimg_setAimg (c : Nat) (x : AImg) : (h.setAimg c x).aimg c = x := by simp [Hw.aimg, Hw.setAimg]
theorem Hw.aimg_setAimg_ne (c : Nat) (x : AImg) (j : Nat) (hne : j ≠ c) : (h.setAimg c x).aimg j = h.aimg j := by
  unfold Hw.aimg Hw.setAimg; exact tget_tset_ne _ _ _ _ _ _ hne

/-! ## setRing -/

@[simp] theorem Hw.setRing_clk (r : Nat) (x : Ring) : (h.setRing r x).clk = h.clk := rfl
@[simp] theorem Hw.setRing_regs (r : Nat) (x : Ring) : (h.setRing r x).regs = h.regs := rfl
@[simp] theorem Hw.setRing_pend (r : Nat) (x : Ring) : (h.setRing r x).pend = h.pend := rfl
@[simp] theorem Hw.setRing_mem (r : Nat) (x : Ring) : (h.setRing r x).mem = h.mem := rfl
@[simp] theorem Hw.setRing_sup (r : Nat) (x : Ring) : (h.setRing r x).sup = h.sup := rfl
@[simp] theorem Hw.setRing_exe (r : Nat) (x : Ring) : (h.setRing r x).exe = h.exe := rfl
@[simp] theorem Hw.setRing_tsk (r : Nat) (x : Ring) : (h.setRing r x).tsk = h.tsk := rfl
@[simp] theorem Hw.setRing_nvs (r : Nat) (x : Ring) : (h.setRing r x).nvs = h.nvs := rfl
@[simp] theorem Hw.setRing_net (r : Nat) (x : Ring) : (h.setRing r x).net = h.net := rfl
@[simp] theorem Hw.setRing_fld (r : Nat) (x : Ring) : (h.setRing r x).fld = h.fld := rfl
@[simp] theorem Hw.setRing_pair (r : Nat) (x : Ring) : (h.setRing r x).pair = h.pair := rfl
@[simp] theorem Hw.setRing_evr (r : Nat) (x : Ring) : (h.setRing r x).evr = h.evr := rfl
@[simp] theorem Hw.setRing_wdg (r : Nat) (x : Ring) : (h.setRing r x).wdg = h.wdg := rfl
@[simp] theorem Hw.setRing_cal (r : Nat) (x : Ring) : (h.setRing r x).cal = h.cal := rfl
@[simp] theorem Hw.setRing_prog (r : Nat) (x : Ring) : (h.setRing r x).prog = h.prog := rfl
@[simp] theorem Hw.setRing_free (r : Nat) (x : Ring) : (h.setRing r x).free = h.free := rfl
@[simp] theorem Hw.ring_setRing (r : Nat) (x : Ring) : (h.setRing r x).ring r = x := by simp [Hw.ring, Hw.setRing]
theorem Hw.ring_setRing_ne (r : Nat) (x : Ring) (j : Nat) (hne : j ≠ r) : (h.setRing r x).ring j = h.ring j := by
  unfold Hw.ring Hw.setRing; exact tget_tset_ne _ _ _ _ _ _ hne

/-! ## setRate -/

@[simp] theorem Hw.setRate_clk (i : Nat) (r : Rate) : (h.setRate i r).clk = h.clk := rfl
@[simp] theorem Hw.setRate_regs (i : Nat) (r : Rate) : (h.setRate i r).regs = h.regs := rfl
@[simp] theorem Hw.setRate_pend (i : Nat) (r : Rate) : (h.setRate i r).pend = h.pend := rfl
@[simp] theorem Hw.setRate_mem (i : Nat) (r : Rate) : (h.setRate i r).mem = h.mem := rfl
@[simp] theorem Hw.setRate_sup (i : Nat) (r : Rate) : (h.setRate i r).sup = h.sup := rfl
@[simp] theorem Hw.setRate_exe (i : Nat) (r : Rate) : (h.setRate i r).exe = h.exe := rfl
@[simp] theorem Hw.setRate_tsk (i : Nat) (r : Rate) : (h.setRate i r).tsk = h.tsk := rfl
@[simp] theorem Hw.setRate_hif (i : Nat) (r : Rate) : (h.setRate i r).hif = h.hif := rfl
@[simp] theorem Hw.setRate_nvs (i : Nat) (r : Rate) : (h.setRate i r).nvs = h.nvs := rfl
@[simp] theorem Hw.setRate_net (i : Nat) (r : Rate) : (h.setRate i r).net = h.net := rfl
@[simp] theorem Hw.setRate_fld (i : Nat) (r : Rate) : (h.setRate i r).fld = h.fld := rfl
@[simp] theorem Hw.setRate_pair (i : Nat) (r : Rate) : (h.setRate i r).pair = h.pair := rfl
@[simp] theorem Hw.setRate_wdg (i : Nat) (r : Rate) : (h.setRate i r).wdg = h.wdg := rfl
@[simp] theorem Hw.setRate_cal (i : Nat) (r : Rate) : (h.setRate i r).cal = h.cal := rfl
@[simp] theorem Hw.setRate_prog (i : Nat) (r : Rate) : (h.setRate i r).prog = h.prog := rfl
@[simp] theorem Hw.setRate_free (i : Nat) (r : Rate) : (h.setRate i r).free = h.free := rfl
@[simp] theorem Hw.rate_setRate (i : Nat) (r : Rate) : (h.setRate i r).rate i = r := by simp [Hw.rate, Hw.setRate]
theorem Hw.rate_setRate_ne (i : Nat) (r : Rate) (j : Nat) (hne : j ≠ i) : (h.setRate i r).rate j = h.rate j := by
  unfold Hw.rate Hw.setRate; exact tget_tset_ne _ _ _ _ _ _ hne

end Sys2Proof.Machine
end

