-- ==== Sys2Proof/Tests/Slice0.lean ====
section
/-! SUPPORT. The author's tests: ill-formed commands that `Instr.wf` turns away, instruction words written out from the spec's
encoding, check values of the spec, single steps, and for each statement with hypotheses states and operands that meet them. -/

namespace Sys2Proof.Tests

-- One test after another: checked side by side they would need more memory than a check has.
set_option Elab.async false

open Sys2Proof Sys2Proof.Machine

/-! ## States -/

/-- A module in mode `m` with its supply valid and the reserve charged. -/
def wt (m : Mode) : State :=
  { hw := ((({ nvs := { vinLost := false, vin := 240, hold := 240 }, clk := { tb := 5000000000, up := 5000000000 }, cal := { tripped := false } } : Hw).fset R.SUP_MODE_STATUS_MODE m.code).fset R.NVS_STATUS_ARMED 1).fset R.SUP_MODE_STATUS_CFG_VALID 1 }
/-- The same with its hardware changed. -/
def up (s : State) (f : Hw → Hw) : State := { s with hw := f s.hw }
/-- A module in RUN with task 3 running on execution pair 0, its two cores changed by `f`. -/
def tk (f : Cpu → Cpu) : State :=
  up (wt .run) (fun h => ((h.setTgt 0 { task := some 3 }).setCpu 0 (f {})).setCpu 1 (f {}))
/-- The same with execution pair 1 SPLIT and the task on its shadow's side. -/
def spl (f : Cpu → Cpu) : State :=
  up (wt .run) (fun h => ((h.setTgt 3 { task := some 3 }).setCpu 3 (f { psr := 0x20#32 })).fset (R.CMP_EPn_STATUS_PROFILE 1) 3)
/-- A module whose SUP core runs. -/
def supS (f : Cpu → Cpu) : State :=
  up (wt .run) (fun h => { h with exe := { h.exe with sup := f { psr := 0x82#32 }, supRunning := true } })

/-- What `f` reads in the state that a command answers. -/
def after {α : Type} (c : Instr) (s : State) (f : State → α) : Option α :=
  match exec c s with
  | .next t => some (f t)
  | _ => none

/-! ## Ill-formed commands -/

/-- Refused: powerOn, bootModeDecision, reserveLatch, vinRestored, holdCharged, vinLoss_us, vinLoss_hold, clkmonWindow. -/
theorem test_ill_formed_1 :
    Instr.wf (.powerOn 512 0 false none) = false ∧
    Instr.wf (.bootModeDecision 0x100000000) = false ∧
    Instr.wf (.reserveLatch 512) = false ∧
    Instr.wf (.vinRestored 512) = false ∧
    Instr.wf (.holdCharged 512) = false ∧
    Instr.wf (.vinLoss 65536 0 none) = false ∧
    Instr.wf (.vinLoss 0 512 none) = false ∧
    Instr.wf (.clkmonWindow 0 0x100000000) = false := by decide +kernel

/-- Refused: selfTestComplete_cmp, selfTestComplete_fails, housekeepingEnd, desc_op, desc_flags, desc_tag, desc_addr, desc_len. -/
theorem test_ill_formed_2 :
    Instr.wf (.selfTestComplete (some (0, 5)) none []) = false ∧
    Instr.wf (.selfTestComplete none none [(0, 12)]) = false ∧
    Instr.wf (.housekeepingEnd 0x100000000) = false ∧
    Instr.wf (.nop { op := 0x10000 }) = false ∧
    Instr.wf (.nop { flags := 0x100 }) = false ∧
    Instr.wf (.nop { tag := 0x100000000 }) = false ∧
    Instr.wf (.nop { addr := 0x10000000000000000 }) = false ∧
    Instr.wf (.nop { len := 0x100000000 }) = false := by decide +kernel

/-- Refused: desc_p0, desc_p1, desc_p2, desc_ring, desc_slot, desc_dir, desc_session, wdgKey. -/
theorem test_ill_formed_3 :
    Instr.wf (.nop { p0 := 0x100000000 }) = false ∧
    Instr.wf (.nop { p1 := 0x100000000 }) = false ∧
    Instr.wf (.nop { p2 := 0x100000000 }) = false ∧
    Instr.wf (.nop { src := .ring 8 0 }) = false ∧
    Instr.wf (.nop { src := .ring 0 0x10000 }) = false ∧
    Instr.wf (.nop { src := .eng 16384 0 }) = false ∧
    Instr.wf (.nop { src := .eng 0 (2 ^ 128) }) = false ∧
    Instr.wf (.wdgKey 65536 0#32) = false := by decide +kernel

/-- Refused: frame_mac, frame_ip, frame_trailer, telegram_ver, telegram_seq, message_session, announce, heartbeat_fseq. -/
theorem test_ill_formed_4 :
    Instr.wf (.igmpQuery { mac := 0x1000000000000 }) = false ∧
    Instr.wf (.arpRequest { ip := 0x100000000 } 0#32) = false ∧
    Instr.wf (.icmpEcho { trailer := some (0x10000, 0xA) } 0#32 []) = false ∧
    Instr.wf (.pdTelegramReceive {} { ver := 0x10000 }) = false ∧
    Instr.wf (.pullRequestReceive {} { seq := 0x100000000 } 0#32) = false ∧
    Instr.wf (.messageReceive {} 0#32 (2 ^ 128) []) = false ∧
    Instr.wf (.ptpAnnounceReceive { domain := 256 }) = false ∧
    Instr.wf (.heartbeatReceive 0x100000000 none {}) = false := by decide +kernel

/-- Refused: heartbeat_mode, time, control, ack_order, snapshot, reads, release, marker. -/
theorem test_ill_formed_5 :
    Instr.wf (.heartbeatReceive 0 none { mode := 16 }) = false ∧
    Instr.wf (.timeReceive 0 0x10000000000000000 0 0) = false ∧
    Instr.wf (.controlReceive 0x100000000 (.ack 0)) = false ∧
    Instr.wf (.ackReceive 0 5 (some 4)) = false ∧
    Instr.wf (.snapshotReceive 0 0 0 0x10000000000000000 0 [] true) = false ∧
    Instr.wf (.readsReceive 0 [{ addr := 0, size := 9, value := 0, task := 0, cycle := 0, exec := 0 }] false) = false ∧
    Instr.wf (.releaseReceive 0x100000000 0 0 0#64) = false ∧
    Instr.wf (.reexecMarker 0 0 0x10000000000000000 0) = false := by decide +kernel

/-- Refused: state, counters, returnFrame, fieldFrame_line, fieldFrame_seen, autonomyFrame, zirekReturn, wirebreakSet. -/
theorem test_ill_formed_6 :
    Instr.wf (.stateReceive 0x100000000 []) = false ∧
    Instr.wf (.countersReceive 0 [(512, 0, 0)] 0) = false ∧
    Instr.wf (.returnFrameCheck 0 (.frame (2 ^ 256))) = false ∧
    Instr.wf (.fieldFrameReceive 0 (.frame (2 ^ 256)) {}) = false ∧
    Instr.wf (.fieldFrameReceive 0 .lost { high := 256 }) = false ∧
    Instr.wf (.autonomyReturnFrame 0 { meas := 0x4000000 }) = false ∧
    Instr.wf (.zirekReturn 0 0x10000000000000000) = false ∧
    Instr.wf (.wirebreakSet 0 0x10000) = false := by decide +kernel

/-- Refused: wirebreakClear, overload, thermal, supply, channelTestEnd, doorbell_rings, doorbell_index, fetch_rings. -/
theorem test_ill_formed_7 :
    Instr.wf (.wirebreakClear 0 0x10000) = false ∧
    Instr.wf (.overloadSwitchOff 0 0x10000) = false ∧
    Instr.wf (.thermalSwitchOff 0 0x10000) = false ∧
    Instr.wf (.supplyMeasurement 0 0x10000) = false ∧
    Instr.wf (.channelTestEnd 0 true 0x10000) = false ∧
    Instr.wf (.doorbellPoll (List.replicate 9 (0, 0))) = false ∧
    Instr.wf (.doorbellPoll [(0x100000000, 0)]) = false ∧
    Instr.wf (.descriptorFetchDone (List.replicate 9 none)) = false := by decide +kernel

/-- Refused: fetch_desc, go_rings, go_ring, jtag_kind, jtag_num. -/
theorem test_ill_formed_8 :
    Instr.wf (.descriptorFetchDone [some [{ op := 0x10000 }]]) = false ∧
    Instr.wf (.go 5#8 (List.replicate 9 {})) = false ∧
    Instr.wf (.go 5#8 [{ w10 := 0x100000000 }]) = false ∧
    Instr.wf (.jtagAccess 5 0 0#32 0xF#4) = false ∧
    Instr.wf (.jtagAccess 0 0x100000000 0#32 0xF#4) = false := by decide +kernel

/-- Commands with operands at the ends of their ranges are well formed. -/
theorem test_well_formed : Instr.wf (.powerOn 511 511 true (some 0#32)) = true ∧ Instr.wf (.nop { op := 0xFFFF, flags := 0xFF, src := .ring 7 0xFFFF }) = true ∧
    Instr.wf (.selfTestComplete (some (3, 4)) (some (.step 2)) [(47, 11)]) = true ∧ Instr.wf (.jtagAccess 4 0xFFFFFFFF 0#32 0xF#4) = true := by decide +kernel

/-! ## Instruction words (Tables 7-1 to 7-17) -/

/-- Words of the compiled rung of Table 7-19. -/
theorem test_words_table_7_19 :
    kyDecode 0x31420010#32 = some (.lui 20 0x20010) ∧
    kyDecode 0x154A0200#32 = some (.ori 20 20 0x200) ∧
    kyDecode 0x700A0005#32 = some (.bld false 20 5) ∧
    kyDecode 0x3550C350#32 = some (.li 21 50000) ∧
    kyDecode 0x35600120#32 = some (.li 22 0x120) ∧
    kyDecode 0xE57B5400#32 = some (.tev 23 22 21) ∧
    kyDecode 0x702A0004#32 = some (.band false 20 4) ∧
    kyDecode 0x703A0002#32 = some (.band true 20 2) ∧
    kyDecode 0x708A3E41#32 = some (.bst false 20 0x3E41) := by decide +kernel

/-- Words of the words that the text names: the no-operation, the return, TEND. -/
theorem test_words_named_words :
    kyDecode 0x10000000#32 = some (.addi 0 0 0) ∧
    kyDecode 0x46008000#32 = some (.jalr 0 1 0) ∧
    kyDecode 0xE0000000#32 = some (.tend) := by decide +kernel

/-- Words of op 1, 2 and 0x0C. -/
theorem test_words_integer :
    kyDecode 0x02110C00#32 = some (.add 1 2 3) ∧
    kyDecode 0x04429802#32 = some (.mulhu 4 5 6) ∧
    kyDecode 0x18110045#32 = some (.srai 1 2 5) := by decide +kernel

/-- Words of op 4, 0x12, 5 and 6. -/
theorem test_words_conditions :
    kyDecode 0x08219000#32 = some (.ceq 2 3 4) ∧
    kyDecode 0x2470FFFF#32 = some (.clti 7 1 0x7FFF) ∧
    kyDecode 0x0A110C00#32 = some (.cand 1 2 3) ∧
    kyDecode 0x0C110C0C#32 = some (.seln 1 2 3 4) := by decide +kernel

/-- Words of op 0x20, 0x21 and 0x22. -/
theorem test_words_branches :
    kyDecode 0x40FFFFFF#32 = some (.bc 3 true 0x1FFFFF) ∧
    kyDecode 0x42000001#32 = some (.j 1) ∧
    kyDecode 0x45FFFFFF#32 = some (.call 0x1FFFFFF) := by decide +kernel

/-- Words of op 0x2C, 0x32 and 0x33. -/
theorem test_words_memory :
    kyDecode 0x58537FFC#32 = some (.lw 5 6 0x7FFC) ∧
    kyDecode 0x64530008#32 = some (.sw 5 6 8) ∧
    kyDecode 0x66300000#32 = some (.sd 3 0 0) := by decide +kernel

/-- Words of op 3. -/
theorem test_words_characters :
    kyDecode 0x06110C00#32 = some (.crcb 1 2 3) ∧
    kyDecode 0x0611000F#32 = some (.popc 1 2) := by decide +kernel

/-- Words of op 0x39 and 0x3A. -/
theorem test_words_bits :
    kyDecode 0x72008003#32 = some (.edgr 1 3) ∧
    kyDecode 0x72208003#32 = some (.edgf 1 3) ∧
    kyDecode 0x74001400#32 = some (.acld 5) ∧
    kyDecode 0x74500001#32 = some (.acst 5) ∧
    kyDecode 0x74018004#32 = some (.aldr 3) ∧
    kyDecode 0x74300005#32 = some (.astr 3) := by decide +kernel

/-- Words of COP0. -/
theorem test_words_system :
    kyDecode 0xE0150010#32 = some (.mfcr 1 10) ∧
    kyDecode 0xE0A08011#32 = some (.mtcr 10 1) ∧
    kyDecode 0xE0008001#32 = some (.tfault 1) := by decide +kernel

/-- Words of COP1, COP3, COP4 and the extension port. -/
theorem test_words_coprocessors :
    kyDecode 0xE2110C00#32 = some (.fadd 1 2 3) ∧
    kyDecode 0xE2110C18#32 = some (.feq 1 2 3) ∧
    kyDecode 0xE6110001#32 = some (.fqry 1 2) ∧
    kyDecode 0xE8110C02#32 = some (.scw 1 2 3) ∧
    kyDecode 0xF8110C05#32 = some (.xq 0 1 2 3 5) ∧
    kyDecode 0xFE010DAA#32 = some (.xp 3 2 3 0xAA) := by decide +kernel

/-- Words that R179 makes undefined: cleared memory, an unused opcode, SHI with bit 7 set, CND with bit 23 set, bop 10, bit 9 of a
coprocessor word, COP0 func 0x1FF, POPC with rs2 not 0. -/
theorem test_words_undefined : kyDecode 0#32 = none ∧ kyDecode 0x0E000000#32 = none ∧ kyDecode 0x18110080#32 = none ∧ kyDecode 0x0A910C00#32 = none ∧
    kyDecode 0x71408000#32 = none ∧ kyDecode 0xE0000200#32 = none ∧ kyDecode 0xE00001FF#32 = none ∧ kyDecode 0x0611040F#32 = none := by decide +kernel

/-- The table gives no row any bits, so no word spells a command. -/
theorem test_table_words : decodeTableWord 32 0x02110C00 = none ∧ State.reset.withFetchWord 32 0x02110C00 = State.reset := by decide +kernel

/-! ## Check values of the spec -/

/-- The nine bytes "123456789" of Table 7-9. -/
def digits : List Word := [0x31#32, 0x32#32, 0x33#32, 0x34#32, 0x35#32, 0x36#32, 0x37#32, 0x38#32, 0x39#32]

/-- Table 7-9. -/
theorem test_crc_check_values :
    digits.foldl (fun x b => overBytes (crcByte 0) x b 1) 0xFFFFFFFF#32 ^^^ 0xFFFFFFFF#32 = 0xE3069283#32 ∧
    digits.foldl (fun x b => overBytes (crcByte 1) x b 1) 0xFFFFFFFF#32 ^^^ 0xFFFFFFFF#32 = 0xCBF43926#32 ∧
    digits.foldl (fun x b => overBytes (crcByte 2) x b 1) 0xFFFF#32 = 0x29B1#32 ∧ digits.foldl (fun x b => overBytes (crcByte 3) x b 1) 0#32 = 0xF4#32 := by
  decide +kernel

/-- R201. -/
theorem test_safety_code_check_value : digits.foldl (fun x b => overBytes scByte x b 1) 0xFFFFFFFF#32 ^^^ 0xFFFFFFFF#32 = 0x1697D06A#32 := by decide +kernel

/-- IEEE 754 values: 1 + 2 = 3, 1/3 rounded to nearest with NX, the square root of 2, 1/0 with DZ, 0/0 the quiet NaN with NV. -/
theorem test_floating_point : (fpAdd 0 (Fp.of 0x3F800000#32) (Fp.of 0x40000000#32)) = (0x40400000#32, ({} : FpFlags)) ∧
    (fpDiv 0 (Fp.of 0x3F800000#32) (Fp.of 0x40400000#32)) = (0x3EAAAAAB#32, ({ nx := true } : FpFlags)) ∧
    (fpSqrt 0 (Fp.of 0x40000000#32)) = (0x3FB504F3#32, ({ nx := true } : FpFlags)) ∧
    (fpDiv 0 (Fp.of 0x3F800000#32) (Fp.of 0#32)) = (0x7F800000#32, ({ dz := true } : FpFlags)) ∧
    (fpDiv 0 (Fp.of 0#32) (Fp.of 0#32)) = (0x7FC00000#32, ({ nv := true } : FpFlags)) := by decide +kernel

/-! ## Single steps -/

/-- ADD wraps, and a result for k0 is discarded. -/
theorem test_add_wraps : after (.add (.pair 0) 3 1 2) (tk (fun c => (c.wr 1 0xFFFFFFFF#32).wr 2 2#32)) (fun t => ((t.hw.cpu 0).rd 3, (t.hw.cpu 1).rd 3, (t.hw.cpu 0).pc)) = some (1#32, 1#32, 4#32) ∧
    after (.add (.pair 0) 0 1 2) (tk (fun c => (c.wr 1 5#32).wr 2 2#32)) (fun t => (t.hw.cpu 0).rd 0) = some 0#32 := by decide +kernel

/-- R184: DIV of 0x80000000 by 0xFFFFFFFF, and DIVZ with TRAPCFG.DZ = 1, slot 10 of the vector table. -/
theorem test_div_corners : after (.div (.pair 0) 3 1 2) (tk (fun c => (c.wr 1 0x80000000#32).wr 2 0xFFFFFFFF#32)) (fun t => (t.hw.cpu 0).rd 3) = some 0x80000000#32 ∧
    after (.div (.pair 0) 3 1 2) (tk (fun c => { c.wr 1 7#32 with trapcfg := 1#32, vbase := 0x1000#32 })) (fun t => ((t.hw.cpu 0).rd 3, (t.hw.cpu 0).pc, (t.hw.cpu 0).epc)) = some (0#32, 0x10A0#32, 0#32) := by decide +kernel

/-- R196: SYSCALL enters slot 13 with EPC the next instruction and saves PSR. -/
theorem test_syscall : after (.syscall (.pair 0)) (tk (fun c => { c with pc := 0x40#32 })) (fun t => ((t.hw.cpu 0).pc, (t.hw.cpu 0).epc, (t.hw.cpu 0).epsr, (t.hw.cpu 0).inexc)) = some (0xD0#32, 0x44#32, 0#32, true) := by decide +kernel

/-- R186: JALR with the link register as its base takes the base before the link is written. -/
theorem test_jalr_same_register : after (.jalr (.pair 0) 1 1 8) (tk (fun c => { c.wr 1 0x200#32 with pc := 0x40#32 })) (fun t => ((t.hw.cpu 0).pc, (t.hw.cpu 0).rd 1)) = some (0x208#32, 0x44#32) := by decide +kernel

/-- R187: SB stores one byte, LB reads it sign-extended. -/
theorem test_sb_lb : after (.sb (.pair 0) 5 4 0) (tk (fun c => (c.wr 4 0x10000000#32).wr 5 0x1234FF80#32)) (fun t => (t.hw.mb 0x90000000, t.hw.mb 0x90000001)) = some (0x80#8, 0#8) ∧
    after (.lb (.pair 0) 6 4 0) (up (tk (fun c => c.wr 4 0x10000000#32)) (fun h => h.setMl 0x90000000 1 0x80)) (fun t => (t.hw.cpu 1).rd 6) = some 0xFFFFFF80#32 := by decide +kernel

/-- R186: BC with its condition false goes to the next instruction, with it true by disp21 words. -/
theorem test_bc : after (.bc (.pair 0) 3 true 0x1FFFFF) (tk (fun c => { c with pc := 0x40#32 })) (fun t => (t.hw.cpu 0).pc) = some 0x44#32 ∧
    after (.bc (.pair 0) 3 false 0x1FFFFF) (tk (fun c => { c with pc := 0x40#32 })) (fun t => (t.hw.cpu 0).pc) = some 0x3C#32 := by decide +kernel

/-- The block idles on an empty queue; a command at the front is taken. -/
theorem test_step : (match step State.reset with | .next t => t.hw.clk.up | _ => 0) = 8 ∧
    (match step { wt .stop with pending := [.goClear 9#8, .calSecond] } with | .next t => (t.hw.fget R.HIF_CTRL_POLL_US, t.pending.length) | _ => (0, 0)) = (9, 1) := by decide +kernel

/-! ## Witnesses of the statements' hypotheses -/

/-- States and operands that meet the hypotheses of each clause of RegisterIntegerResults. -/
theorem test_meets_RegisterIntegerResults :
    (∃ (s : State) (sel : CoreSel), s.ready sel) ∧
    (∃ (s : State) (sel : CoreSel), s.ready sel) ∧
    (∃ (s : State) (sel : CoreSel), s.ready sel) :=
  ⟨⟨tk id, .pair 0, by dsimp only [State.ready, State.calm]; decide +kernel⟩,
   ⟨spl id, .side 1 true, by dsimp only [State.ready, State.calm]; decide +kernel⟩,
   ⟨supS id, .sup, by dsimp only [State.ready, State.calm]; decide +kernel⟩⟩

/-- States and operands that meet the hypotheses of each clause of ImmediateIntegerResults. -/
theorem test_meets_ImmediateIntegerResults :
    (∃ (s : State) (sel : CoreSel), s.ready sel) ∧
    (∃ (s : State) (sel : CoreSel), s.ready sel) ∧
    (∃ (s : State) (sel : CoreSel), s.ready sel) :=
  ⟨⟨tk id, .pair 0, by dsimp only [State.ready, State.calm]; decide +kernel⟩,
   ⟨spl id, .side 1 true, by dsimp only [State.ready, State.calm]; decide +kernel⟩,
   ⟨supS id, .sup, by dsimp only [State.ready, State.calm]; decide +kernel⟩⟩

/-- States and operands that meet the hypotheses of each clause of CompareConditionSelectResults. -/
theorem test_meets_CompareConditionSelectResults :
    (∃ (s : State) (sel : CoreSel), s.ready sel) ∧
    (∃ (s : State) (sel : CoreSel), s.ready sel) ∧
    (∃ (s : State) (sel : CoreSel), s.ready sel) :=
  ⟨⟨tk id, .pair 0, by dsimp only [State.ready, State.calm]; decide +kernel⟩,
   ⟨spl id, .side 1 true, by dsimp only [State.ready, State.calm]; decide +kernel⟩,
   ⟨supS id, .sup, by dsimp only [State.ready, State.calm]; decide +kernel⟩⟩

/-- States and operands that meet the hypotheses of each clause of CharacterResults. -/
theorem test_meets_CharacterResults :
    (∃ (s : State) (sel : CoreSel), s.ready sel) ∧
    (∃ (s : State) (sel : CoreSel), s.ready sel) ∧
    (∃ (s : State) (sel : CoreSel), s.ready sel) :=
  ⟨⟨tk id, .pair 0, by dsimp only [State.ready, State.calm]; decide +kernel⟩,
   ⟨spl id, .side 1 true, by dsimp only [State.ready, State.calm]; decide +kernel⟩,
   ⟨supS id, .sup, by dsimp only [State.ready, State.calm]; decide +kernel⟩⟩

/-- States and operands that meet the hypotheses of each clause of AccumulatorResults. -/
theorem test_meets_AccumulatorResults :
    (∃ (s : State) (sel : CoreSel), s.ready sel) ∧
    (∃ (s : State) (sel : CoreSel), s.ready sel) ∧
    (∃ (s : State) (sel : CoreSel), s.ready sel) :=
  ⟨⟨tk id, .pair 0, by dsimp only [State.ready, State.calm]; decide +kernel⟩,
   ⟨spl id, .side 1 true, by dsimp only [State.ready, State.calm]; decide +kernel⟩,
   ⟨supS id, .sup, by dsimp only [State.ready, State.calm]; decide +kernel⟩⟩

/-- States and operands that meet the hypotheses of each clause of DivisionResults. -/
theorem test_meets_DivisionResults :
    (∃ (s : State) (sel : CoreSel) (rs2 : Reg), s.ready sel ∧ (∀ b, (s.core sel b).rd rs2 ≠ 0#32 ∨ (s.core sel b).trapcfg.getLsbD 0 = false)) ∧
    (∃ (s : State) (sel : CoreSel) (rs2 : Reg), s.ready sel ∧ (∀ b, (s.core sel b).rd rs2 ≠ 0#32 ∨ (s.core sel b).trapcfg.getLsbD 0 = false)) ∧
    (∃ (s : State) (sel : CoreSel) (rs2 : Reg), s.ready sel ∧ s.calm sel ∧ (∀ b, (s.core sel b).rd rs2 = 0#32 ∧ (s.core sel b).trapcfg.getLsbD 0 = true)) :=
  ⟨⟨tk (fun c => { c.wr 5 3#32 with trapcfg := 1#32 }), .pair 0, 5#5, by dsimp only [State.ready, State.calm]; decide +kernel⟩,
   ⟨tk id, .pair 0, 5#5, by dsimp only [State.ready, State.calm]; decide +kernel⟩,
   ⟨tk (fun c => { c with trapcfg := 1#32 }), .pair 0, 5#5, by dsimp only [State.ready, State.calm]; decide +kernel⟩⟩

/-- States and operands that meet the hypotheses of each clause of ControlTransfers. -/
theorem test_meets_ControlTransfers :
    (∃ (s : State) (sel : CoreSel), s.ready sel) ∧
    (∃ (s : State) (sel : CoreSel), s.ready sel) ∧
    (∃ (s : State) (sel : CoreSel), (s.taskOf sel).isSome = true ∧ s.calm sel ∧ (∀ b, (s.core sel b).isSup = false ∧ ((s.core sel b).pc.toNat % 4 ≠ 0 ∨ 0x01000000 ≤ (s.core sel b).pc.toNat))) ∧
    (∃ (s : State) (sel : CoreSel), (s.taskOf sel).isSome = true ∧ s.calm sel ∧ (∀ b, (s.core sel b).isSup = false ∧ ((s.core sel b).pc.toNat % 4 ≠ 0 ∨ 0x01000000 ≤ (s.core sel b).pc.toNat))) :=
  ⟨⟨tk id, .pair 0, by dsimp only [State.ready, State.calm]; decide +kernel⟩,
   ⟨supS id, .sup, by dsimp only [State.ready, State.calm]; decide +kernel⟩,
   ⟨tk (fun c => { c with pc := 0xFFFFFE#32 }), .pair 0, by dsimp only [State.ready, State.calm]; decide +kernel⟩,
   ⟨tk (fun c => { c with pc := 0x01000000#32 }), .pair 0, by dsimp only [State.ready, State.calm]; decide +kernel⟩⟩

/-- States and operands that meet the hypotheses of each clause of CrcAndSafetyCodeSteps. -/
theorem test_meets_CrcAndSafetyCodeSteps :
    (∃ (s : State) (sel : CoreSel), s.ready sel) ∧
    (∃ (s : State) (sel : CoreSel), s.ready sel ∧ (∀ b, (s.core sel b).isSplit = false)) ∧
    (∃ (s : State) (sel : CoreSel), s.ready sel ∧ (∀ b, (s.core sel b).isSplit = true) ∧ s.calm sel) :=
  ⟨⟨tk id, .pair 0, by dsimp only [State.ready, State.calm]; decide +kernel⟩,
   ⟨tk id, .pair 0, by dsimp only [State.ready, State.calm]; decide +kernel⟩,
   ⟨spl id, .side 1 true, by dsimp only [State.ready, State.calm]; decide +kernel⟩⟩

/-- States and operands that meet the hypotheses of each clause of LoadResults. -/
theorem test_meets_LoadResults :
    (∃ (s : State) (sel : CoreSel) (t : Nat) (rs1 : Reg) (d : BitVec 15), s.ready sel ∧ s.taskOf sel = some t ∧ ((s.core sel false).ea rs1 d).toNat < 0x40000000 ∧ (∀ b, isBlock ((s.core sel b).ea rs1 d).toNat = false) ∧ (s.hw.cyc t).foll = false ∧ s.hw.poisoned ((s.core sel false).ea rs1 d).toNat = none ∧ s.noCmpInj ∧ s.cachesAgree sel ∧ s.lineGood sel ((s.core sel false).ea rs1 d).toNat ∧ (∀ b, (s.core sel b).memChk rs1 ((s.core sel b).ea rs1 d) 1 = none) ∧ s.hw.loadFault t ((s.core sel false).ea rs1 d).toNat 1 = none) ∧
    (∃ (s : State) (sel : CoreSel) (t : Nat) (rs1 : Reg) (d : BitVec 15), s.ready sel ∧ s.taskOf sel = some t ∧ ((s.core sel false).ea rs1 d).toNat < 0x40000000 ∧ (∀ b, isBlock ((s.core sel b).ea rs1 d).toNat = false) ∧ (s.hw.cyc t).foll = false ∧ s.hw.poisoned ((s.core sel false).ea rs1 d).toNat = none ∧ s.noCmpInj ∧ s.cachesAgree sel ∧ s.lineGood sel ((s.core sel false).ea rs1 d).toNat ∧ (∀ b, (s.core sel b).memChk rs1 ((s.core sel b).ea rs1 d) 2 = none) ∧ s.hw.loadFault t ((s.core sel false).ea rs1 d).toNat 2 = none) ∧
    (∃ (s : State) (sel : CoreSel) (t : Nat) (rs1 : Reg) (d : BitVec 15), s.ready sel ∧ s.taskOf sel = some t ∧ ((s.core sel false).ea rs1 d).toNat < 0x40000000 ∧ (∀ b, isBlock ((s.core sel b).ea rs1 d).toNat = false) ∧ (s.hw.cyc t).foll = false ∧ s.hw.poisoned ((s.core sel false).ea rs1 d).toNat = none ∧ s.noCmpInj ∧ s.cachesAgree sel ∧ s.lineGood sel ((s.core sel false).ea rs1 d).toNat ∧ (∀ b, (s.core sel b).memChk rs1 ((s.core sel b).ea rs1 d) 4 = none) ∧ s.hw.loadFault t ((s.core sel false).ea rs1 d).toNat 4 = none) ∧
    (∃ (s : State) (sel : CoreSel) (t : Nat) (rs1 : Reg) (d : BitVec 15) (rt : Reg), s.ready sel ∧ s.taskOf sel = some t ∧ ((s.core sel false).ea rs1 d).toNat < 0x40000000 ∧ (∀ b, isBlock ((s.core sel b).ea rs1 d).toNat = false) ∧ (s.hw.cyc t).foll = false ∧ s.hw.poisoned ((s.core sel false).ea rs1 d).toNat = none ∧ s.noCmpInj ∧ s.cachesAgree sel ∧ s.lineGood sel ((s.core sel false).ea rs1 d).toNat ∧ (∀ b, (s.core sel b).memChk rs1 ((s.core sel b).ea rs1 d) 8 = none) ∧ s.hw.loadFault t ((s.core sel false).ea rs1 d).toNat 8 = none ∧ rt.getLsbD 0 = false ∧ rt ≠ 0#5) :=
  ⟨⟨tk (fun c => (c.wr 4 0x107FFFFF#32).wr 5 0x11223344#32), .pair 0, 3, 4#5, 0#15, by dsimp only [State.ready, State.calm]; unfold State.noCmpInj State.cachesAgree State.lineGood; decide +kernel⟩,
   ⟨tk (fun c => (c.wr 4 0x107FFFFE#32).wr 5 0x11223344#32), .pair 0, 3, 4#5, 0#15, by dsimp only [State.ready, State.calm]; unfold State.noCmpInj State.cachesAgree State.lineGood; decide +kernel⟩,
   ⟨tk (fun c => (c.wr 4 0x00FFFFFC#32).wr 5 0x11223344#32), .pair 0, 3, 4#5, 0#15, by dsimp only [State.ready, State.calm]; unfold State.noCmpInj State.cachesAgree State.lineGood; decide +kernel⟩,
   ⟨tk (fun c => (c.wr 4 0x21000000#32).wr 5 0x11223344#32), .pair 0, 3, 4#5, 0#15, 30#5, by dsimp only [State.ready, State.calm]; unfold State.noCmpInj State.cachesAgree State.lineGood; decide +kernel⟩⟩

/-- States and operands that meet the hypotheses of each clause of SupervisorLoadsAndStores. -/
theorem test_meets_SupervisorLoadsAndStores :
    (∃ (s : State) (rs1 : Reg) (d : BitVec 15), s.ready .sup ∧ isBlock ((s.core .sup false).ea rs1 d).toNat = false ∧ (s.core .sup false).memChk rs1 ((s.core .sup false).ea rs1 d) 1 = none ∧ supReadable ((s.core .sup false).ea rs1 d).toNat 1 = true ∧ s.hw.supPoison ((s.core .sup false).ea rs1 d).toNat 1 = none) ∧
    (∃ (s : State) (rs1 : Reg) (d : BitVec 15), s.ready .sup ∧ isBlock ((s.core .sup false).ea rs1 d).toNat = false ∧ (s.core .sup false).memChk rs1 ((s.core .sup false).ea rs1 d) 2 = none ∧ supReadable ((s.core .sup false).ea rs1 d).toNat 2 = true ∧ s.hw.supPoison ((s.core .sup false).ea rs1 d).toNat 2 = none) ∧
    (∃ (s : State) (rs1 : Reg) (d : BitVec 15), s.ready .sup ∧ isBlock ((s.core .sup false).ea rs1 d).toNat = false ∧ (s.core .sup false).memChk rs1 ((s.core .sup false).ea rs1 d) 4 = none ∧ supReadable ((s.core .sup false).ea rs1 d).toNat 4 = true ∧ s.hw.supPoison ((s.core .sup false).ea rs1 d).toNat 4 = none) ∧
    (∃ (s : State) (rs1 : Reg) (d : BitVec 15), s.ready .sup ∧ isBlock ((s.core .sup false).ea rs1 d).toNat = false ∧ (s.core .sup false).memChk rs1 ((s.core .sup false).ea rs1 d) 1 = none ∧ s.hw.supWritable ((s.core .sup false).ea rs1 d).toNat 1 = true) ∧
    (∃ (s : State) (rs1 : Reg) (d : BitVec 15), s.ready .sup ∧ isBlock ((s.core .sup false).ea rs1 d).toNat = false ∧ (s.core .sup false).memChk rs1 ((s.core .sup false).ea rs1 d) 2 = none ∧ s.hw.supWritable ((s.core .sup false).ea rs1 d).toNat 2 = true) ∧
    (∃ (s : State) (rs1 : Reg) (d : BitVec 15), s.ready .sup ∧ isBlock ((s.core .sup false).ea rs1 d).toNat = false ∧ (s.core .sup false).memChk rs1 ((s.core .sup false).ea rs1 d) 4 = none ∧ s.hw.supWritable ((s.core .sup false).ea rs1 d).toNat 4 = true) :=
  ⟨⟨supS (fun c => c.wr 4 0x0003FFFF#32), 4#5, 0#15, by dsimp only [State.ready, State.calm]; decide +kernel⟩,
   ⟨supS (fun c => c.wr 4 0x907FFFFE#32), 4#5, 0#15, by dsimp only [State.ready, State.calm]; decide +kernel⟩,
   ⟨supS (fun c => c.wr 4 0x60000000#32), 4#5, 0#15, by dsimp only [State.ready, State.calm]; decide +kernel⟩,
   ⟨supS (fun c => c.wr 4 0x0101FFFF#32), 4#5, 0#15, by dsimp only [State.ready, State.calm]; decide +kernel⟩,
   ⟨supS (fun c => c.wr 4 0x907FFFFE#32), 4#5, 0#15, by dsimp only [State.ready, State.calm]; decide +kernel⟩,
   ⟨supS (fun c => c.wr 4 0xA103FFFC#32), 4#5, 0#15, by dsimp only [State.ready, State.calm]; decide +kernel⟩⟩

/-- States and operands that meet the hypotheses of each clause of StoreResults. -/
theorem test_meets_StoreResults :
    (∃ (s : State) (sel : CoreSel) (t : Nat) (rs1 : Reg) (d : BitVec 15), s.ready sel ∧ s.taskOf sel = some t ∧ exchOf s.hw.prog.exch ((s.core sel false).ea rs1 d).toNat = none ∧ s.noCmpInj ∧ (∀ b, (s.core sel b).memChk rs1 ((s.core sel b).ea rs1 d) 1 = none) ∧ s.hw.storeFault (s.hw.split (sel.target / 2)) t ((s.core sel false).ea rs1 d).toNat 1 = none) ∧
    (∃ (s : State) (sel : CoreSel) (t : Nat) (rs1 : Reg) (d : BitVec 15), s.ready sel ∧ s.taskOf sel = some t ∧ exchOf s.hw.prog.exch ((s.core sel false).ea rs1 d).toNat = none ∧ s.noCmpInj ∧ (∀ b, (s.core sel b).memChk rs1 ((s.core sel b).ea rs1 d) 2 = none) ∧ s.hw.storeFault (s.hw.split (sel.target / 2)) t ((s.core sel false).ea rs1 d).toNat 2 = none) ∧
    (∃ (s : State) (sel : CoreSel) (t : Nat) (rs1 : Reg) (d : BitVec 15), s.ready sel ∧ s.taskOf sel = some t ∧ exchOf s.hw.prog.exch ((s.core sel false).ea rs1 d).toNat = none ∧ s.noCmpInj ∧ (∀ b, (s.core sel b).memChk rs1 ((s.core sel b).ea rs1 d) 4 = none) ∧ s.hw.storeFault (s.hw.split (sel.target / 2)) t ((s.core sel false).ea rs1 d).toNat 4 = none) ∧
    (∃ (s : State) (sel : CoreSel) (t : Nat) (rs1 : Reg) (d : BitVec 15) (rt : Reg), s.ready sel ∧ s.taskOf sel = some t ∧ exchOf s.hw.prog.exch ((s.core sel false).ea rs1 d).toNat = none ∧ s.noCmpInj ∧ (∀ b, (s.core sel b).memChk rs1 ((s.core sel b).ea rs1 d) 8 = none) ∧ s.hw.storeFault (s.hw.split (sel.target / 2)) t ((s.core sel false).ea rs1 d).toNat 8 = none ∧ rt.getLsbD 0 = false ∧ (s.hw.split (sel.target / 2) = true ∨ (s.hw.tgt sel.target).commits + 1 ≠ windowLen (s.hw.profile (sel.target / 2)))) :=
  ⟨⟨tk (fun c => (c.wr 4 0x107FFFFF#32).wr 5 0x11223344#32), .pair 0, 3, 4#5, 0#15, by dsimp only [State.ready, State.calm]; unfold State.noCmpInj; decide +kernel⟩,
   ⟨tk (fun c => (c.wr 4 0x10000000#32).wr 5 0x11223344#32), .pair 0, 3, 4#5, 0#15, by dsimp only [State.ready, State.calm]; unfold State.noCmpInj; decide +kernel⟩,
   ⟨tk (fun c => (c.wr 4 0x107FFFFC#32).wr 5 0x11223344#32), .pair 0, 3, 4#5, 0#15, by dsimp only [State.ready, State.calm]; unfold State.noCmpInj; decide +kernel⟩,
   ⟨tk (fun c => (c.wr 4 0x107FFFF8#32).wr 5 0x11223344#32), .pair 0, 3, 4#5, 0#15, 0#5, by dsimp only [State.ready, State.calm]; unfold State.noCmpInj; decide +kernel⟩⟩

/-- States and operands that meet the hypotheses of each clause of ExchangeAreaStores. -/
theorem test_meets_ExchangeAreaStores :
    (∃ (s : State) (sel : CoreSel) (t : Nat) (rs1 : Reg) (d : BitVec 15), s.ready sel ∧ s.taskOf sel = some t ∧ within (0x10000000, 0x800000) ((s.core sel false).ea rs1 d).toNat 1 = true ∧ (exchOf s.hw.prog.exch ((s.core sel false).ea rs1 d).toNat).isSome = true ∧ ((s.hw.heldOf (sel.target / 2)).filter Held.takes).length < 1024 ∧ s.noCmpInj ∧ (s.hw.heldOf (sel.target / 2)).countP (fun x => heldHas t (((s.core sel false).ea rs1 d).toNat / 8) [x]) ≤ 1 ∧ (∀ b, (s.core sel b).memChk rs1 ((s.core sel b).ea rs1 d) 1 = none) ∧ s.hw.storeFault (s.hw.split (sel.target / 2)) t ((s.core sel false).ea rs1 d).toNat 1 = none) ∧
    (∃ (s : State) (sel : CoreSel) (t : Nat) (rs1 : Reg) (d : BitVec 15), s.ready sel ∧ s.taskOf sel = some t ∧ within (0x10000000, 0x800000) ((s.core sel false).ea rs1 d).toNat 1 = true ∧ (exchOf s.hw.prog.exch ((s.core sel false).ea rs1 d).toNat).isSome = true ∧ ((s.hw.heldOf (sel.target / 2)).filter Held.takes).length < 1024 ∧ s.noCmpInj ∧ (s.hw.heldOf (sel.target / 2)).countP (fun x => heldHas t (((s.core sel false).ea rs1 d).toNat / 8) [x]) ≤ 1 ∧ (∀ b, (s.core sel b).memChk rs1 ((s.core sel b).ea rs1 d) 2 = none) ∧ s.hw.storeFault (s.hw.split (sel.target / 2)) t ((s.core sel false).ea rs1 d).toNat 2 = none) ∧
    (∃ (s : State) (sel : CoreSel) (t : Nat) (rs1 : Reg) (d : BitVec 15), s.ready sel ∧ s.taskOf sel = some t ∧ within (0x10000000, 0x800000) ((s.core sel false).ea rs1 d).toNat 1 = true ∧ (exchOf s.hw.prog.exch ((s.core sel false).ea rs1 d).toNat).isSome = true ∧ ((s.hw.heldOf (sel.target / 2)).filter Held.takes).length < 1024 ∧ s.noCmpInj ∧ (s.hw.heldOf (sel.target / 2)).countP (fun x => heldHas t (((s.core sel false).ea rs1 d).toNat / 8) [x]) ≤ 1 ∧ (∀ b, (s.core sel b).memChk rs1 ((s.core sel b).ea rs1 d) 4 = none) ∧ s.hw.storeFault (s.hw.split (sel.target / 2)) t ((s.core sel false).ea rs1 d).toNat 4 = none) :=
  ⟨⟨up (tk (fun c => (c.wr 4 0x1000003F#32).wr 5 0x11223344#32)) (fun h => { h with prog := { h.prog with exch := [{ start := 0x10000000, lines := 1, task := 3 }] } }), .pair 0, 3, 4#5, 0#15, by dsimp only [State.ready, State.calm]; unfold State.noCmpInj; decide +kernel⟩,
   ⟨up (tk (fun c => (c.wr 4 0x1000003E#32).wr 5 0x11223344#32)) (fun h => { h with prog := { h.prog with exch := [{ start := 0x10000000, lines := 1, task := 3 }] } }), .pair 0, 3, 4#5, 0#15, by dsimp only [State.ready, State.calm]; unfold State.noCmpInj; decide +kernel⟩,
   ⟨up (tk (fun c => (c.wr 4 0x10000000#32).wr 5 0x11223344#32)) (fun h => { h with prog := { h.prog with exch := [{ start := 0x10000000, lines := 1, task := 3 }] } }), .pair 0, 3, 4#5, 0#15, by dsimp only [State.ready, State.calm]; unfold State.noCmpInj; decide +kernel⟩⟩

/-- States and operands that meet the hypotheses of each clause of MemoryAccessTraps (1 of 2). -/
theorem test_meets_MemoryAccessTraps1 :
    (∃ (s : State) (sel : CoreSel) (rs1 : Reg) (d : BitVec 15), s.ready sel ∧ s.calm sel ∧ (∀ b, ((s.core sel b).ea rs1 d).toNat % 2 ≠ 0)) ∧
    (∃ (s : State) (sel : CoreSel) (rs1 : Reg) (d : BitVec 15), s.ready sel ∧ s.calm sel ∧ (∀ b, ((s.core sel b).ea rs1 d).toNat % 4 ≠ 0)) ∧
    (∃ (s : State) (sel : CoreSel) (d : BitVec 15), s.ready sel ∧ s.calm sel ∧ (∀ b, ((s.core sel b).ea 2#5 d).toNat % 4 = 0 ∧ (s.core sel b).isSup = false ∧ ((s.core sel b).stkHi.toNat ≤ ((s.core sel b).ea 2#5 d).toNat ∨ ((s.core sel b).ea 2#5 d).toNat + (if (s.core sel b).pl = 0 then 0 else 256) < (s.core sel b).stkLo.toNat))) ∧
    (∃ (s : State) (sel : CoreSel) (d : BitVec 15), s.ready sel ∧ s.calm sel ∧ (∀ b, ((s.core sel b).ea 2#5 d).toNat % 4 = 0 ∧ (s.core sel b).isSup = false ∧ ((s.core sel b).stkHi.toNat ≤ ((s.core sel b).ea 2#5 d).toNat ∨ ((s.core sel b).ea 2#5 d).toNat + (if (s.core sel b).pl = 0 then 0 else 256) < (s.core sel b).stkLo.toNat))) ∧
    (∃ (s : State) (sel : CoreSel) (rt : Reg), s.ready sel ∧ s.calm sel ∧ rt.getLsbD 0 = true) ∧
    (∃ (s : State) (sel : CoreSel) (t : Nat) (rs1 : Reg) (d : BitVec 15) (e : Nat), s.ready sel ∧ s.calm sel ∧ s.taskOf sel = some t ∧ (∀ b, (s.core sel b).memChk rs1 ((s.core sel b).ea rs1 d) 1 = none) ∧ s.hw.loadFault t ((s.core sel false).ea rs1 d).toNat 1 = some e) ∧
    (∃ (s : State) (sel : CoreSel) (t : Nat) (rs1 : Reg) (d : BitVec 15) (e : Nat), s.ready sel ∧ s.calm sel ∧ s.taskOf sel = some t ∧ (∀ b, (s.core sel b).memChk rs1 ((s.core sel b).ea rs1 d) 2 = none) ∧ s.hw.loadFault t ((s.core sel false).ea rs1 d).toNat 2 = some e) ∧
    (∃ (s : State) (sel : CoreSel) (t : Nat) (rs1 : Reg) (d : BitVec 15) (e : Nat), s.ready sel ∧ s.calm sel ∧ s.taskOf sel = some t ∧ (∀ b, (s.core sel b).memChk rs1 ((s.core sel b).ea rs1 d) 4 = none) ∧ s.hw.loadFault t ((s.core sel false).ea rs1 d).toNat 4 = some e) ∧
    (∃ (s : State) (sel : CoreSel) (t : Nat) (rs1 : Reg) (d : BitVec 15) (e : Nat), s.ready sel ∧ s.calm sel ∧ s.taskOf sel = some t ∧ (∀ b, (s.core sel b).memChk rs1 ((s.core sel b).ea rs1 d) 1 = none) ∧ s.hw.storeFault (s.hw.split (sel.target / 2)) t ((s.core sel false).ea rs1 d).toNat 1 = some e) :=
  ⟨⟨tk (fun c => (c.wr 4 0x10000001#32).wr 5 0x11223344#32), .pair 0, 4#5, 0#15, by dsimp only [State.ready, State.calm]; decide +kernel⟩,
   ⟨tk (fun c => (c.wr 4 0x10000002#32).wr 5 0x11223344#32), .pair 0, 4#5, 0#15, by dsimp only [State.ready, State.calm]; decide +kernel⟩,
   ⟨tk (fun c => { c.wr 2 0x10001000#32 with stkLo := 0x10000000#32, stkHi := 0x10001000#32 }), .pair 0, 0#15, by dsimp only [State.ready, State.calm]; decide +kernel⟩,
   ⟨tk (fun c => { c.wr 2 0x10000000#32 with stkLo := 0x10000004#32, stkHi := 0x10001000#32 }), .pair 0, 0#15, by dsimp only [State.ready, State.calm]; decide +kernel⟩,
   ⟨tk id, .pair 0, 31#5, by dsimp only [State.ready, State.calm]; decide +kernel⟩,
   ⟨tk (fun c => (c.wr 4 0x01000000#32).wr 5 0x11223344#32), .pair 0, 3, 4#5, 0#15, 1, by dsimp only [State.ready, State.calm]; decide +kernel⟩,
   ⟨tk (fun c => (c.wr 4 0x20001000#32).wr 5 0x11223344#32), .pair 0, 3, 4#5, 0#15, 4, by dsimp only [State.ready, State.calm]; decide +kernel⟩,
   ⟨tk (fun c => (c.wr 4 0x0FFFFFFC#32).wr 5 0x11223344#32), .pair 0, 3, 4#5, 0#15, 1, by dsimp only [State.ready, State.calm]; decide +kernel⟩,
   ⟨tk (fun c => (c.wr 4 0x00FFFFFF#32).wr 5 0x11223344#32), .pair 0, 3, 4#5, 0#15, 7, by dsimp only [State.ready, State.calm]; decide +kernel⟩⟩

/-- States and operands that meet the hypotheses of each clause of MemoryAccessTraps (2 of 2). -/
theorem test_meets_MemoryAccessTraps2 :
    (∃ (s : State) (sel : CoreSel) (t : Nat) (rs1 : Reg) (d : BitVec 15) (e : Nat), s.ready sel ∧ s.calm sel ∧ s.taskOf sel = some t ∧ (∀ b, (s.core sel b).memChk rs1 ((s.core sel b).ea rs1 d) 2 = none) ∧ s.hw.storeFault (s.hw.split (sel.target / 2)) t ((s.core sel false).ea rs1 d).toNat 2 = some e) ∧
    (∃ (s : State) (sel : CoreSel) (t : Nat) (rs1 : Reg) (d : BitVec 15) (e : Nat), s.ready sel ∧ s.calm sel ∧ s.taskOf sel = some t ∧ (∀ b, (s.core sel b).memChk rs1 ((s.core sel b).ea rs1 d) 4 = none) ∧ s.hw.storeFault (s.hw.split (sel.target / 2)) t ((s.core sel false).ea rs1 d).toNat 4 = some e) :=
  ⟨⟨tk (fun c => (c.wr 4 0x21000000#32).wr 5 0x11223344#32), .pair 0, 3, 4#5, 0#15, 5, by dsimp only [State.ready, State.calm]; decide +kernel⟩,
   ⟨tk (fun c => (c.wr 4 0x40000000#32).wr 5 0x11223344#32), .pair 0, 3, 4#5, 0#15, 2, by dsimp only [State.ready, State.calm]; decide +kernel⟩⟩

/-- States and operands that meet the hypotheses of each clause of BitLoadResults. -/
theorem test_meets_BitLoadResults :
    (∃ (s : State) (sel : CoreSel) (t : Nat) (rs1 : Reg) (d : BitVec 15) (x : Nat) (k : Nat), s.ready sel ∧ s.taskOf sel = some t ∧ bitPlace ((s.core sel false).ea rs1 d).toNat = some (x, k) ∧ s.hw.loadFault t x 1 = none ∧ (s.hw.cyc t).foll = false ∧ s.hw.poisoned x = none ∧ s.noCmpInj ∧ s.cachesAgree sel ∧ s.lineGood sel x) ∧
    (∃ (s : State) (sel : CoreSel) (t : Nat) (rs1 : Reg) (d : BitVec 15), s.ready sel ∧ s.taskOf sel = some t ∧ bitPlace ((s.core sel false).ea rs1 d).toNat = none ∧ s.calm sel) :=
  ⟨⟨tk (fun c => (c.wr 4 0x13FFFFFF#32).wr 5 0x11223344#32), .pair 0, 3, 4#5, 0#15, 0x107FFFFF, 7, by dsimp only [State.ready, State.calm]; unfold State.noCmpInj State.cachesAgree State.lineGood; decide +kernel⟩,
   ⟨tk (fun c => (c.wr 4 0x14000000#32).wr 5 0x11223344#32), .pair 0, 3, 4#5, 0#15, by dsimp only [State.ready, State.calm]; decide +kernel⟩⟩

/-- States and operands that meet the hypotheses of each clause of BitStoreResults. -/
theorem test_meets_BitStoreResults :
    (∃ (s : State) (sel : CoreSel) (t : Nat) (rs1 : Reg) (d : BitVec 15) (x : Nat) (k : Nat) (old : Bool), s.ready sel ∧ s.taskOf sel = some t ∧ bitPlace ((s.core sel false).ea rs1 d).toNat = some (x, k) ∧ s.hw.storeFault (s.hw.split (sel.target / 2)) t x 1 = none ∧ exchOf s.hw.prog.exch x = none ∧ s.hw.poisoned x = none ∧ s.noCmpInj ∧ s.lineGood sel x ∧ old = (s.hw.viewByte (sel.target / 2) t x).getLsbD k) ∧
    (∃ (s : State) (sel : CoreSel) (t : Nat) (rs1 : Reg) (d : BitVec 15), s.ready sel ∧ s.taskOf sel = some t ∧ bitPlace ((s.core sel false).ea rs1 d).toNat = none ∧ s.calm sel) :=
  ⟨⟨tk (fun c => (c.wr 4 0x10000000#32).wr 5 0x11223344#32), .pair 0, 3, 4#5, 0#15, 0x10000000, 0, false, by dsimp only [State.ready, State.calm]; unfold State.noCmpInj State.lineGood; decide +kernel⟩,
   ⟨tk (fun c => (c.wr 4 0x50000000#32).wr 5 0x11223344#32), .pair 0, 3, 4#5, 0#15, by dsimp only [State.ready, State.calm]; decide +kernel⟩⟩

/-- States and operands that meet the hypotheses of each clause of EdgeResults. -/
theorem test_meets_EdgeResults :
    (∃ (s : State) (sel : CoreSel) (t : Nat) (rs1 : Reg) (d : BitVec 15) (i : Nat) (old : Bool), s.ready sel ∧ s.taskOf sel = some t ∧ (∀ b, edgeInst ((s.core sel b).ea rs1 d).toNat = some i) ∧ s.hw.exe.poison = [] ∧ s.hw.prog.exch = [] ∧ s.noCmpInj ∧ s.cachesAgree sel ∧ s.lineGood sel (0x107FFC00 + i / 8) ∧ (∀ h ∈ s.hw.heldOf (sel.target / 2), h.takes = false) ∧ old = (s.hw.mb (0x907FFC00 + i / 8)).getLsbD (i % 8)) :=
  ⟨tk (fun c => (c.wr 4 0x40001FFF#32).wr 5 0x11223344#32), .pair 0, 3, 4#5, 0#15, 8191, false, by dsimp only [State.ready, State.calm]; unfold State.noCmpInj State.cachesAgree State.lineGood; decide +kernel⟩

/-- States and operands that meet the hypotheses of each clause of ControlRegisterTransfers. -/
theorem test_meets_ControlRegisterTransfers :
    (∃ (s : State) (sel : CoreSel) (cr : BitVec 5), s.ready sel ∧ (∀ b, ((s.core sel b).cr cr.toNat).isSome = true ∧ ((s.core sel b).isSup = true ∨ 1 ≤ (s.core sel b).pl ∨ cr.toNat ∉ [1, 2, 3, 4, 5, 12, 13]))) ∧
    (∃ (s : State) (sel : CoreSel) (cr : BitVec 5), s.ready sel ∧ (∀ b, ((s.core sel b).cr cr.toNat).isSome = true ∧ ((s.core sel b).isSup = true ∨ 1 ≤ (s.core sel b).pl ∨ cr.toNat ∉ [1, 2, 3, 4, 5, 12, 13]))) ∧
    (∃ (s : State) (sel : CoreSel), s.ready sel ∧ (∀ b, (s.core sel b).isSup = true ∨ 1 ≤ (s.core sel b).pl)) ∧
    (∃ (s : State) (sel : CoreSel), s.ready sel ∧ sel = .sup ∧ s.hw.exe.sup.isSup = true) :=
  ⟨⟨tk id, .pair 0, 20#5, by dsimp only [State.ready, State.calm]; decide +kernel⟩,
   ⟨supS id, .sup, 25#5, by dsimp only [State.ready, State.calm]; decide +kernel⟩,
   ⟨tk (fun c => { c with psr := 1#32 }), .pair 0, by dsimp only [State.ready, State.calm]; decide +kernel⟩,
   ⟨supS id, .sup, by dsimp only [State.ready, State.calm]; decide +kernel⟩⟩

/-- States and operands that meet the hypotheses of each clause of PrivilegeTraps. -/
theorem test_meets_PrivilegeTraps :
    (∃ (s : State) (sel : CoreSel) (cr : BitVec 5), s.ready sel ∧ s.calm sel ∧ (∀ b, (s.core sel b).cr cr.toNat = none)) ∧
    (∃ (s : State) (sel : CoreSel) (cr : BitVec 5), s.ready sel ∧ s.calm sel ∧ cr.toNat ∈ [1, 2, 3, 4, 5, 12, 13] ∧ (∀ b, (s.core sel b).isSup = false ∧ (s.core sel b).pl = 0)) ∧
    (∃ (s : State) (sel : CoreSel) (cr : BitVec 5), s.ready sel ∧ s.calm sel ∧ cr.toNat ∈ [0, 1, 2, 3, 4, 5, 6, 7, 8, 9, 11, 12, 13, 20] ∧ (∀ b, (s.core sel b).isSup = false ∧ (s.core sel b).pl = 0)) ∧
    (∃ (s : State) (sel : CoreSel) (cr : BitVec 5), s.ready sel ∧ s.calm sel ∧ cr.toNat ∈ [0, 2, 3, 4, 6, 8, 9, 11, 20] ∧ (∀ b, (s.core sel b).isSup = false)) ∧
    (∃ (s : State) (sel : CoreSel), s.ready sel ∧ s.calm sel ∧ sel = .sup ∧ s.hw.exe.sup.isSup = true) :=
  ⟨⟨tk id, .pair 0, 22#5, by dsimp only [State.ready, State.calm]; decide +kernel⟩,
   ⟨tk id, .pair 0, 13#5, by dsimp only [State.ready, State.calm]; decide +kernel⟩,
   ⟨tk id, .pair 0, 0#5, by dsimp only [State.ready, State.calm]; decide +kernel⟩,
   ⟨tk (fun c => { c with psr := 1#32 }), .pair 0, 20#5, by dsimp only [State.ready, State.calm]; decide +kernel⟩,
   ⟨supS id, .sup, by dsimp only [State.ready, State.calm]; decide +kernel⟩⟩

/-- States and operands that meet the hypotheses of each clause of SystemInstructionResults. -/
theorem test_meets_SystemInstructionResults :
    (∃ (s : State) (sel : CoreSel), s.ready sel ∧ s.calm sel ∧ s.hw.mode ≠ .debug) ∧
    (∃ (s : State) (sel : CoreSel) (w : Word), s.ready sel ∧ s.calm sel ∧ kyDecode w = none) ∧
    (∃ (s : State) (sel : CoreSel), s.ready sel ∧ (∀ b, (s.core sel b).isSup = true ∨ 1 ≤ (s.core sel b).pl) ∧ (∀ b, (s.core sel b).nmiact = false)) ∧
    (∃ (s : State) (sel : CoreSel), s.ready sel ∧ sel = .sup ∧ s.hw.exe.sup.isSup = true ∧ s.hw.exe.sup.nmiact = true) :=
  ⟨⟨tk id, .pair 0, by dsimp only [State.ready, State.calm]; decide +kernel⟩,
   ⟨tk id, .pair 0, 0#32, by dsimp only [State.ready, State.calm]; decide +kernel⟩,
   ⟨tk (fun c => { c with psr := 9#32, epsr := 0#32 }), .pair 0, by dsimp only [State.ready, State.calm]; decide +kernel⟩,
   ⟨supS (fun c => { c with psr := 0x9A#32 }), .sup, by dsimp only [State.ready, State.calm]; decide +kernel⟩⟩

/-- States and operands that meet the hypotheses of each clause of TaskEndFaultAndCheckIn. -/
theorem test_meets_TaskEndFaultAndCheckIn :
    (∃ (s : State) (n : Fin 4) (g : Target) (t : Nat), s.ready (.pair n) ∧ g = s.hw.tgt (2 * n.val) ∧ (∀ b, (s.core (.pair n) b).isSup = false) ∧ s.taskOf (.pair n) = some t) ∧
    (∃ (s : State) (n : Fin 4) (g : Target), s.ready (.pair n) ∧ g = s.hw.tgt (2 * n.val) ∧ (∀ b, (s.core (.pair n) b).isSup = false) ∧ g.commits + 1 = windowLen (s.hw.profile n.val) ∧ s.hw.mode ≠ .debug) :=
  ⟨⟨tk id, 0, { task := some 3 }, 3, by dsimp only [State.ready, State.calm]; decide +kernel⟩,
   ⟨up (tk id) (fun h => h.setTgt 0 { task := some 3, commits := 1023 }), 0, { task := some 3, commits := 1023 }, by dsimp only [State.ready, State.calm]; decide +kernel⟩⟩

/-- States and operands that meet the hypotheses of each clause of FloatingPointResults (1 of 3). -/
theorem test_meets_FloatingPointResults1 :
    (∃ (s : State) (sel : CoreSel) (rs1 : Reg) (rs2 : Reg), s.ready sel ∧ (∀ b, ((fpAdd (s.core sel b).rm (Fp.of ((s.core sel b).rd rs1)) (Fp.of ((s.core sel b).rd rs2))).2.trapBit (s.core sel b).fpEn) = none)) ∧
    (∃ (s : State) (sel : CoreSel) (rs1 : Reg) (rs2 : Reg), s.ready sel ∧ (∀ b, ((fpAdd (s.core sel b).rm (Fp.of ((s.core sel b).rd rs1)) (Fp.of ((s.core sel b).rd rs2)).neg).2.trapBit (s.core sel b).fpEn) = none)) ∧
    (∃ (s : State) (sel : CoreSel) (rs1 : Reg) (rs2 : Reg), s.ready sel ∧ (∀ b, ((fpMul (s.core sel b).rm (Fp.of ((s.core sel b).rd rs1)) (Fp.of ((s.core sel b).rd rs2))).2.trapBit (s.core sel b).fpEn) = none)) ∧
    (∃ (s : State) (sel : CoreSel) (rs1 : Reg) (rs2 : Reg), s.ready sel ∧ (∀ b, ((fpDiv (s.core sel b).rm (Fp.of ((s.core sel b).rd rs1)) (Fp.of ((s.core sel b).rd rs2))).2.trapBit (s.core sel b).fpEn) = none)) ∧
    (∃ (s : State) (sel : CoreSel) (rs1 : Reg), s.ready sel ∧ (∀ b, ((fpSqrt (s.core sel b).rm (Fp.of ((s.core sel b).rd rs1))).2.trapBit (s.core sel b).fpEn) = none)) ∧
    (∃ (s : State) (sel : CoreSel) (rs1 : Reg) (rs2 : Reg), s.ready sel ∧ (∀ b, ((fpMinMax false ((s.core sel b).rd rs1) ((s.core sel b).rd rs2)).2.trapBit (s.core sel b).fpEn) = none)) ∧
    (∃ (s : State) (sel : CoreSel) (rs1 : Reg) (rs2 : Reg), s.ready sel ∧ (∀ b, ((fpMinMax true ((s.core sel b).rd rs1) ((s.core sel b).rd rs2)).2.trapBit (s.core sel b).fpEn) = none)) ∧
    (∃ (s : State) (sel : CoreSel) (rs1 : Reg), s.ready sel ∧ (∀ b, ((fpOfInt (s.core sel b).rm ((s.core sel b).rd rs1).toInt).2.trapBit (s.core sel b).fpEn) = none)) ∧
    (∃ (s : State) (sel : CoreSel) (rs1 : Reg), s.ready sel ∧ (∀ b, ((fpOfInt (s.core sel b).rm ((s.core sel b).rd rs1).toNat).2.trapBit (s.core sel b).fpEn) = none)) :=
  ⟨⟨tk (fun c => (c.wr 4 0x3F800000#32).wr 5 0x40400000#32), .pair 0, 4#5, 5#5, by dsimp only [State.ready, State.calm]; decide +kernel⟩,
   ⟨tk (fun c => (c.wr 4 0x3F800000#32).wr 5 0x40400000#32), .pair 0, 4#5, 5#5, by dsimp only [State.ready, State.calm]; decide +kernel⟩,
   ⟨tk (fun c => (c.wr 4 0x3F800000#32).wr 5 0x40400000#32), .pair 0, 4#5, 5#5, by dsimp only [State.ready, State.calm]; decide +kernel⟩,
   ⟨tk (fun c => (c.wr 4 0x3F800000#32).wr 5 0x40400000#32), .pair 0, 4#5, 5#5, by dsimp only [State.ready, State.calm]; decide +kernel⟩,
   ⟨tk (fun c => (c.wr 4 0x3F800000#32).wr 5 0x40400000#32), .pair 0, 4#5, by dsimp only [State.ready, State.calm]; decide +kernel⟩,
   ⟨tk (fun c => (c.wr 4 0x3F800000#32).wr 5 0x40400000#32), .pair 0, 4#5, 5#5, by dsimp only [State.ready, State.calm]; decide +kernel⟩,
   ⟨tk (fun c => (c.wr 4 0x3F800000#32).wr 5 0x40400000#32), .pair 0, 4#5, 5#5, by dsimp only [State.ready, State.calm]; decide +kernel⟩,
   ⟨tk (fun c => (c.wr 4 0x3F800000#32).wr 5 0x40400000#32), .pair 0, 4#5, by dsimp only [State.ready, State.calm]; decide +kernel⟩,
   ⟨tk (fun c => (c.wr 4 0x3F800000#32).wr 5 0x40400000#32), .pair 0, 4#5, by dsimp only [State.ready, State.calm]; decide +kernel⟩⟩

/-- States and operands that meet the hypotheses of each clause of FloatingPointResults (2 of 3). -/
theorem test_meets_FloatingPointResults2 :
    (∃ (s : State) (sel : CoreSel) (rs1 : Reg), s.ready sel ∧ (∀ b, ((fpToRange (s.core sel b).rm (-(2 ^ 31)) (2 ^ 31 - 1) (Fp.of ((s.core sel b).rd rs1))).2.trapBit (s.core sel b).fpEn) = none)) ∧
    (∃ (s : State) (sel : CoreSel) (rs1 : Reg), s.ready sel ∧ (∀ b, ((fpToRange (s.core sel b).rm 0 (2 ^ 32 - 1) (Fp.of ((s.core sel b).rd rs1))).2.trapBit (s.core sel b).fpEn) = none)) ∧
    (∃ (s : State) (sel : CoreSel) (rs1 : Reg) (rs2 : Reg) (k : Nat), s.ready sel ∧ s.calm sel ∧ (∀ b, ((fpAdd (s.core sel b).rm (Fp.of ((s.core sel b).rd rs1)) (Fp.of ((s.core sel b).rd rs2))).2.trapBit (s.core sel b).fpEn) = some k)) ∧
    (∃ (s : State) (sel : CoreSel) (rs1 : Reg) (rs2 : Reg) (k : Nat), s.ready sel ∧ s.calm sel ∧ (∀ b, ((fpAdd (s.core sel b).rm (Fp.of ((s.core sel b).rd rs1)) (Fp.of ((s.core sel b).rd rs2)).neg).2.trapBit (s.core sel b).fpEn) = some k)) ∧
    (∃ (s : State) (sel : CoreSel) (rs1 : Reg) (rs2 : Reg) (k : Nat), s.ready sel ∧ s.calm sel ∧ (∀ b, ((fpMul (s.core sel b).rm (Fp.of ((s.core sel b).rd rs1)) (Fp.of ((s.core sel b).rd rs2))).2.trapBit (s.core sel b).fpEn) = some k)) ∧
    (∃ (s : State) (sel : CoreSel) (rs1 : Reg) (rs2 : Reg) (k : Nat), s.ready sel ∧ s.calm sel ∧ (∀ b, ((fpDiv (s.core sel b).rm (Fp.of ((s.core sel b).rd rs1)) (Fp.of ((s.core sel b).rd rs2))).2.trapBit (s.core sel b).fpEn) = some k)) ∧
    (∃ (s : State) (sel : CoreSel) (rs1 : Reg) (k : Nat), s.ready sel ∧ s.calm sel ∧ (∀ b, ((fpSqrt (s.core sel b).rm (Fp.of ((s.core sel b).rd rs1))).2.trapBit (s.core sel b).fpEn) = some k)) ∧
    (∃ (s : State) (sel : CoreSel) (rs1 : Reg) (rs2 : Reg) (k : Nat), s.ready sel ∧ s.calm sel ∧ (∀ b, ((fpMinMax false ((s.core sel b).rd rs1) ((s.core sel b).rd rs2)).2.trapBit (s.core sel b).fpEn) = some k)) ∧
    (∃ (s : State) (sel : CoreSel) (rs1 : Reg) (rs2 : Reg) (k : Nat), s.ready sel ∧ s.calm sel ∧ (∀ b, ((fpMinMax true ((s.core sel b).rd rs1) ((s.core sel b).rd rs2)).2.trapBit (s.core sel b).fpEn) = some k)) :=
  ⟨⟨tk (fun c => (c.wr 4 0x3F800000#32).wr 5 0x40400000#32), .pair 0, 4#5, by dsimp only [State.ready, State.calm]; decide +kernel⟩,
   ⟨tk (fun c => (c.wr 4 0x3F800000#32).wr 5 0x40400000#32), .pair 0, 4#5, by dsimp only [State.ready, State.calm]; decide +kernel⟩,
   ⟨tk (fun c => { (c.wr 4 0x7F800001#32).wr 5 0x40400000#32 with fpcsr := 0x1F0000#32 }), .pair 0, 4#5, 5#5, 12, by dsimp only [State.ready, State.calm]; decide +kernel⟩,
   ⟨tk (fun c => { (c.wr 4 0x7F800001#32).wr 5 0x40400000#32 with fpcsr := 0x1F0000#32 }), .pair 0, 4#5, 5#5, 12, by dsimp only [State.ready, State.calm]; decide +kernel⟩,
   ⟨tk (fun c => { (c.wr 4 0x7F800001#32).wr 5 0x40400000#32 with fpcsr := 0x1F0000#32 }), .pair 0, 4#5, 5#5, 12, by dsimp only [State.ready, State.calm]; decide +kernel⟩,
   ⟨tk (fun c => { (c.wr 4 0x7F800001#32).wr 5 0x40400000#32 with fpcsr := 0x1F0000#32 }), .pair 0, 4#5, 5#5, 12, by dsimp only [State.ready, State.calm]; decide +kernel⟩,
   ⟨tk (fun c => { (c.wr 4 0x7F800001#32).wr 5 0x40400000#32 with fpcsr := 0x1F0000#32 }), .pair 0, 4#5, 12, by dsimp only [State.ready, State.calm]; decide +kernel⟩,
   ⟨tk (fun c => { (c.wr 4 0x7F800001#32).wr 5 0x40400000#32 with fpcsr := 0x1F0000#32 }), .pair 0, 4#5, 5#5, 12, by dsimp only [State.ready, State.calm]; decide +kernel⟩,
   ⟨tk (fun c => { (c.wr 4 0x7F800001#32).wr 5 0x40400000#32 with fpcsr := 0x1F0000#32 }), .pair 0, 4#5, 5#5, 12, by dsimp only [State.ready, State.calm]; decide +kernel⟩⟩

/-- States and operands that meet the hypotheses of each clause of FloatingPointResults (3 of 3). -/
theorem test_meets_FloatingPointResults3 :
    (∃ (s : State) (sel : CoreSel) (rs1 : Reg) (k : Nat), s.ready sel ∧ s.calm sel ∧ (∀ b, ((fpOfInt (s.core sel b).rm ((s.core sel b).rd rs1).toInt).2.trapBit (s.core sel b).fpEn) = some k)) ∧
    (∃ (s : State) (sel : CoreSel) (rs1 : Reg) (k : Nat), s.ready sel ∧ s.calm sel ∧ (∀ b, ((fpOfInt (s.core sel b).rm ((s.core sel b).rd rs1).toNat).2.trapBit (s.core sel b).fpEn) = some k)) ∧
    (∃ (s : State) (sel : CoreSel) (rs1 : Reg) (k : Nat), s.ready sel ∧ s.calm sel ∧ (∀ b, ((fpToRange (s.core sel b).rm (-(2 ^ 31)) (2 ^ 31 - 1) (Fp.of ((s.core sel b).rd rs1))).2.trapBit (s.core sel b).fpEn) = some k)) ∧
    (∃ (s : State) (sel : CoreSel) (rs1 : Reg) (k : Nat), s.ready sel ∧ s.calm sel ∧ (∀ b, ((fpToRange (s.core sel b).rm 0 (2 ^ 32 - 1) (Fp.of ((s.core sel b).rd rs1))).2.trapBit (s.core sel b).fpEn) = some k)) ∧
    (∃ (s : State) (sel : CoreSel), s.ready sel ∧ (∀ b, (s.core sel b).fpEn.testBit 4 = false)) :=
  ⟨⟨tk (fun c => { (c.wr 4 0x01000001#32).wr 5 0x40400000#32 with fpcsr := 0x1F0000#32 }), .pair 0, 4#5, 8, by dsimp only [State.ready, State.calm]; decide +kernel⟩,
   ⟨tk (fun c => { (c.wr 4 0x01000001#32).wr 5 0x40400000#32 with fpcsr := 0x1F0000#32 }), .pair 0, 4#5, 8, by dsimp only [State.ready, State.calm]; decide +kernel⟩,
   ⟨tk (fun c => { (c.wr 4 0x7F800001#32).wr 5 0x40400000#32 with fpcsr := 0x1F0000#32 }), .pair 0, 4#5, 12, by dsimp only [State.ready, State.calm]; decide +kernel⟩,
   ⟨tk (fun c => { (c.wr 4 0x7F800001#32).wr 5 0x40400000#32 with fpcsr := 0x1F0000#32 }), .pair 0, 4#5, 12, by dsimp only [State.ready, State.calm]; decide +kernel⟩,
   ⟨tk (fun c => { c with fpcsr := 0x0F0000#32 }), .pair 0, by dsimp only [State.ready, State.calm]; decide +kernel⟩⟩

/-- States and operands that meet the hypotheses of each clause of TimerInstructionResults. -/
theorem test_meets_TimerInstructionResults :
    (∃ (s : State) (sel : CoreSel) (t : Nat) (x : Nat) (rs1 : Reg) (rs2 : Reg) (r : Timer × Nat), s.ready sel ∧ s.taskOf sel = some t ∧ (∀ b, (s.core sel b).isSup = false) ∧ x = ((s.core sel false).rd rs1).toNat ∧ x < 8192 ∧ (s.hw.timer x).alloc = true ∧ (s.hw.timer x).owner = t ∧ s.noCmpInj ∧ r = (s.hw.timer x).eval ((s.hw.cyc t).due / 1000) (s.core sel false).acc (((s.core sel false).rd rs2).toNat) ∧ (s.hw.timer x).typ ≠ 3) ∧
    (∃ (s : State) (sel : CoreSel) (t : Nat) (x : Nat) (rs1 : Reg) (rs2 : Reg), s.ready sel ∧ s.taskOf sel = some t ∧ (∀ b, (s.core sel b).isSup = false) ∧ x = ((s.core sel false).rd rs1).toNat ∧ x < 8192 ∧ (s.hw.timer x).alloc = true ∧ (s.hw.timer x).owner = t ∧ s.noCmpInj ∧ rs2.getLsbD 0 = false ∧ (s.hw.timer x).typ ≠ 3) ∧
    (∃ (s : State) (sel : CoreSel) (t : Nat) (x : Nat) (rs1 : Reg), s.ready sel ∧ s.taskOf sel = some t ∧ (∀ b, (s.core sel b).isSup = false) ∧ x = ((s.core sel false).rd rs1).toNat ∧ x < 8192 ∧ (s.hw.timer x).alloc = true ∧ (s.hw.timer x).owner = t ∧ s.noCmpInj) :=
  ⟨⟨up (tk (fun c => c.wr 4 8191#32)) (fun h => h.setTimer 8191 { w0 := 450 }), .pair 0, 3, 8191, 4#5, 0#5, ({ w0 := 450 }, 0), by dsimp only [State.ready, State.calm]; unfold State.noCmpInj; decide +kernel⟩,
   ⟨up (tk (fun c => c.wr 4 8191#32)) (fun h => h.setTimer 8191 { w0 := 448 }), .pair 0, 3, 8191, 4#5, 30#5, by dsimp only [State.ready, State.calm]; unfold State.noCmpInj; decide +kernel⟩,
   ⟨up (tk (fun c => c)) (fun h => h.setTimer 0 { w0 := 451 }), .pair 0, 3, 0, 4#5, by dsimp only [State.ready, State.calm]; unfold State.noCmpInj; decide +kernel⟩⟩

/-- States and operands that meet the hypotheses of each clause of ImageForceInstructionResults. -/
theorem test_meets_ImageForceInstructionResults :
    (∃ (s : State) (sel : CoreSel) (t : Nat) (x : Nat) (rs1 : Reg), s.ready sel ∧ s.taskOf sel = some t ∧ (∀ b, (s.core sel b).isSup = false) ∧ x = ((s.core sel false).rd rs1).toNat) ∧
    (∃ (s : State) (sel : CoreSel) (t : Nat) (x : Nat) (rs1 : Reg), s.ready sel ∧ s.taskOf sel = some t ∧ (∀ b, (s.core sel b).isSup = false) ∧ x = ((s.core sel false).rd rs1).toNat ∧ 4096 ≤ x) ∧
    (∃ (s : State) (sel : CoreSel) (t : Nat) (x : Nat) (rs1 : Reg), s.ready sel ∧ s.calm sel ∧ s.taskOf sel = some t ∧ (∀ b, (s.core sel b).isSup = false) ∧ x = ((s.core sel false).rd rs1).toNat ∧ (8192 ≤ x ∨ (s.hw.timer x).alloc = false ∨ (s.hw.timer x).owner ≠ t)) ∧
    (∃ (s : State) (sel : CoreSel) (t : Nat) (x : Nat) (rs1 : Reg), s.ready sel ∧ s.calm sel ∧ s.taskOf sel = some t ∧ (∀ b, (s.core sel b).isSup = false) ∧ x = ((s.core sel false).rd rs1).toNat ∧ (8192 ≤ x ∨ (s.hw.timer x).alloc = false ∨ (s.hw.timer x).owner ≠ t)) ∧
    (∃ (s : State) (sel : CoreSel) (t : Nat) (x : Nat) (rs1 : Reg), s.ready sel ∧ s.calm sel ∧ s.taskOf sel = some t ∧ (∀ b, (s.core sel b).isSup = false) ∧ x = ((s.core sel false).rd rs1).toNat ∧ x < 8192 ∧ (s.hw.timer x).alloc = true ∧ (s.hw.timer x).owner = t ∧ (s.hw.timer x).typ = 3) :=
  ⟨⟨tk (fun c => c.wr 4 4095#32), .pair 0, 3, 4095, 4#5, by dsimp only [State.ready, State.calm]; decide +kernel⟩,
   ⟨tk (fun c => c.wr 4 4096#32), .pair 0, 3, 4096, 4#5, by dsimp only [State.ready, State.calm]; decide +kernel⟩,
   ⟨up (tk (fun c => c.wr 4 8192#32)) (fun h => h.setTimer 8191 { w0 := 448 }), .pair 0, 3, 8192, 4#5, by dsimp only [State.ready, State.calm]; decide +kernel⟩,
   ⟨up (tk (fun c => c.wr 4 8191#32)) (fun h => h.setTimer 8191 { w0 := 64 }), .pair 0, 3, 8191, 4#5, by dsimp only [State.ready, State.calm]; decide +kernel⟩,
   ⟨up (tk (fun c => c.wr 4 8191#32)) (fun h => h.setTimer 8191 { w0 := 451 }), .pair 0, 3, 8191, 4#5, by dsimp only [State.ready, State.calm]; decide +kernel⟩⟩

/-- States and operands that meet the hypotheses of each clause of ExtensionPortInstructions. -/
theorem test_meets_ExtensionPortInstructions :
    (∃ (s : State) (sel : CoreSel) (t : Nat) (slot : BitVec 2), s.ready sel ∧ s.taskOf sel = some t ∧ (∀ b, (s.core sel b).isSup = false) ∧ (s.hw.fget R.EXE_EXT_CFG_SLOT_EN).testBit slot.toNat = true ∧ (s.hw.cyc t).foll = false ∧ s.hw.exe.extBusy = false ∧ s.hw.exe.extWait = []) ∧
    (∃ (s : State) (sel : CoreSel) (t : Nat) (slot : BitVec 2), s.ready sel ∧ s.taskOf sel = some t ∧ (∀ b, (s.core sel b).isSup = false) ∧ (s.hw.fget R.EXE_EXT_CFG_SLOT_EN).testBit slot.toNat = true ∧ ((s.hw.heldOf (sel.target / 2)).filter Held.takes).length < 1024) ∧
    (∃ (s : State) (sel : CoreSel) (t : Nat) (slot : BitVec 2), s.ready sel ∧ s.taskOf sel = some t ∧ (∀ b, (s.core sel b).isSup = false) ∧ s.calm sel ∧ (s.hw.fget R.EXE_EXT_CFG_SLOT_EN).testBit slot.toNat = false) ∧
    (∃ (s : State) (sel : CoreSel) (t : Nat) (slot : BitVec 2), s.ready sel ∧ s.taskOf sel = some t ∧ (∀ b, (s.core sel b).isSup = false) ∧ s.calm sel ∧ (s.hw.fget R.EXE_EXT_CFG_SLOT_EN).testBit slot.toNat = false ∧ ((s.hw.heldOf (sel.target / 2)).filter Held.takes).length < 1024) ∧
    (∃ (s : State) (sel : CoreSel) (t : Nat), s.ready sel ∧ s.taskOf sel = some t ∧ (∀ b, (s.core sel b).isSup = false) ∧ s.calm sel ∧ s.evRoom 1 ∧ 1024 ≤ ((s.hw.heldOf (sel.target / 2)).filter Held.takes).length) :=
  ⟨⟨up (tk id) (fun h => h.fset R.EXE_EXT_CFG_SLOT_EN 8), .pair 0, 3, 3#2, by dsimp only [State.ready, State.calm]; decide +kernel⟩,
   ⟨up (tk id) (fun h => h.fset R.EXE_EXT_CFG_SLOT_EN 8), .pair 0, 3, 3#2, by dsimp only [State.ready, State.calm]; decide +kernel⟩,
   ⟨up (tk id) (fun h => h.fset R.EXE_EXT_CFG_SLOT_EN 8), .pair 0, 3, 2#2, by dsimp only [State.ready, State.calm]; decide +kernel⟩,
   ⟨up (tk id) (fun h => h.fset R.EXE_EXT_CFG_SLOT_EN 8), .pair 0, 3, 2#2, by dsimp only [State.ready, State.calm]; decide +kernel⟩,
   ⟨up (tk id) (fun h => { h.fset R.EXE_EXT_CFG_SLOT_EN 8 with exe := { (h.fset R.EXE_EXT_CFG_SLOT_EN 8).exe with held := [(0, List.replicate 1024 (.post 3 12 0 0#32 0#32))] } }), .pair 0, 3, by dsimp only [State.ready, State.calm]; unfold State.evRoom; decide +kernel⟩⟩

/-- States and operands that meet the hypotheses of each clause of PowerOnAndResets. -/
theorem test_meets_PowerOnAndResets :
    (∃ (s : State), s.hw.nvs.vinLost = true ∧ s.hw.mode ≠ .parked) ∧
    (∃ (s : State), s.hw.nvs.vinLost = true ∧ s.hw.mode = Mode.parked) ∧
    (∃ (s : State), s.hw.powered = true) ∧
    (∃ (s : State) (x : Nat), s.hw.sup.coreResetDue = some x) ∧
    (∃ (s : State) (x : Nat), s.hw.nvs.vinLost = false ∧ s.hw.wdg.hardDue = some x) ∧
    (∃ (s : State) (x : Nat), s.hw.sup.resetDue = some x) ∧
    (∃ (s : State), s.hw.mode = Mode.parked ∧ s.hw.nvs.vinLost = false) :=
  ⟨⟨State.reset, by decide +kernel⟩,
   ⟨up (wt .parked) (fun h => { h with nvs := { h.nvs with vinLost := true } }), by decide +kernel⟩,
   ⟨wt .run, by decide +kernel⟩,
   ⟨up (wt .run) (fun h => { h with sup := { h.sup with coreResetDue := some 6000000000 } }), 6000000000, by decide +kernel⟩,
   ⟨up (wt .run) (fun h => { h with wdg := { h.wdg with hardDue := some 6000000000 } }), 6000000000, by decide +kernel⟩,
   ⟨up (wt .stop) (fun h => { h with sup := { h.sup with resetDue := some 6000000000 } }), 6000000000, by decide +kernel⟩,
   ⟨wt .parked, by decide +kernel⟩⟩

/-- States and operands that meet the hypotheses of each clause of ModeDecisionAfterBoot. -/
theorem test_meets_ModeDecisionAfterBoot :
    (∃ (s : State), s.hw.sup.booting = true ∧ s.hw.mode = .boot ∧ s.hw.sup.waitTo = none ∧ s.hw.nvs.vinLost = false ∧ s.hw.sup.romOnly = true) ∧
    (∃ (s : State), s.hw.sup.booting = true ∧ s.hw.mode = .boot ∧ s.hw.sup.waitTo = none ∧ s.hw.nvs.vinLost = false ∧ s.hw.sup.romOnly = false ∧ s.hw.fbit R.SUP_MODE_STATUS_SAFE_LATCH = true) ∧
    (∃ (s : State), s.hw.sup.booting = true ∧ s.hw.mode = .boot ∧ s.hw.sup.waitTo = none ∧ s.hw.nvs.vinLost = false ∧ s.hw.sup.romOnly = false ∧ s.hw.fbit R.SUP_MODE_STATUS_SAFE_LATCH = false ∧ (s.otp.rooted = false ∨ (s.hw.fbit R.SUP_MODE_STATUS_CFG_VALID = false ∧ s.hw.fbit R.SUP_CFG_STATUS_CONFLICT = false))) ∧
    (∃ (s : State), s.hw.sup.booting = true ∧ s.hw.mode = .boot ∧ s.hw.sup.waitTo = none ∧ s.hw.nvs.vinLost = false ∧ s.hw.sup.romOnly = false ∧ s.hw.fbit R.SUP_MODE_STATUS_SAFE_LATCH = false ∧ s.otp.rooted = true ∧ s.hw.fbit R.SUP_MODE_STATUS_CFG_VALID = true ∧ s.hw.fbit R.SUP_MODE_CFG_AUTOSTART = false) :=
  ⟨⟨up (wt .boot) (fun h => { h with sup := { h.sup with booting := true, romOnly := true } }), by decide +kernel⟩,
   ⟨up (wt .boot) (fun h => ({ h with sup := { h.sup with booting := true } }).fset R.SUP_MODE_STATUS_SAFE_LATCH 1), by decide +kernel⟩,
   ⟨up (wt .boot) (fun h => { h with sup := { h.sup with booting := true } }), by decide +kernel⟩,
   ⟨{ (up (wt .boot) (fun h => { h with sup := { h.sup with booting := true } })) with otp := { bytes := [(0x13F, 0xA5#8)] } }, by decide +kernel⟩⟩

/-- States and operands that meet the hypotheses of each clause of SupplyAndBackup. -/
theorem test_meets_SupplyAndBackup :
    (∃ (s : State), s.hw.nvs.vinLost = false ∧ s.hw.fbit R.NVS_STATUS_VIN_LOW = false ∧ s.evRoom 1) ∧
    (∃ (s : State), s.hw.nvs.vinLost = false ∧ s.hw.fbit R.NVS_STATUS_VIN_LOW = true) ∧
    (∃ (s : State), s.hw.nvs.vinLost = false ∧ s.hw.nvs.holdInj = none ∧ 95 ≤ s.hw.nvs.vin) ∧
    (∃ (s : State) (v : Nat), s.hw.nvs.vinLost = false ∧ s.hw.nvs.holdLowSince = some v ∧ s.hw.fbit R.NVS_STATUS_RESERVE_FAULT = false ∧ s.evRoom 1) ∧
    (∃ (s : State), s.hw.nvs.vinLost = false ∧ s.hw.nvs.busy = none) ∧
    (∃ (s : State), s.hw.nvs.vinLost = false) ∧
    (∃ (s : State), s.hw.mode = Mode.parked ∧ s.hw.fbit R.CAL_WAKE_EN = true ∧ s.hw.fbit R.SUP_MODE_STATUS_HOUSEKEEP = false ∧ s.hw.nvs.vinLost = false ∧ s.hw.xtalOk = true) ∧
    (∃ (s : State), s.hw.mode = Mode.parked ∧ s.hw.fbit R.CAL_WAKE_EN = true ∧ s.hw.fbit R.SUP_MODE_STATUS_HOUSEKEEP = false ∧ s.hw.nvs.vinLost = true) ∧
    (∃ (s : State), s.hw.mode = Mode.parked ∧ s.hw.fbit R.SUP_MODE_STATUS_HOUSEKEEP = true ∧ s.evRoom 1) :=
  ⟨⟨wt .run, by unfold State.evRoom; decide +kernel⟩,
   ⟨up (wt .run) (fun h => (h.fset R.NVS_STATUS_VIN_LOW 1).fset R.NVS_STATUS_RESERVE 1), by decide +kernel⟩,
   ⟨wt .stop, by decide +kernel⟩,
   ⟨up (wt .stop) (fun h => { h with nvs := { h.nvs with hold := 150, holdLowSince := some 4000000000 } }), 4000000000, by unfold State.evRoom; decide +kernel⟩,
   ⟨wt .stop, by decide +kernel⟩,
   ⟨up (wt .run) (fun h => h.fset R.SUP_MODE_STATUS_LIVE_OUT 1), by decide +kernel⟩,
   ⟨up (wt .parked) (fun h => h.fset R.CAL_WAKE_EN 1), by decide +kernel⟩,
   ⟨up (up (wt .parked) (fun h => h.fset R.CAL_WAKE_EN 1)) (fun h => { h with nvs := { h.nvs with vinLost := true } }), by decide +kernel⟩,
   ⟨up (wt .parked) (fun h => h.fset R.SUP_MODE_STATUS_HOUSEKEEP 1), by unfold State.evRoom; decide +kernel⟩⟩

/-- States and operands that meet the hypotheses of each clause of ModeRequests (1 of 2). -/
theorem test_meets_ModeRequests1 :
    (∃ (s : State) (d : Desc), s.served d 0x0101 ∧ s.hw.sup.romOnly = false ∧ s.hw.sup.waitTo = none ∧ s.hw.mode = .stop ∧ s.hw.fbit R.SUP_MODE_STATUS_PROG_VALID = true ∧ s.hw.fbit R.SUP_MODE_STATUS_CFG_VALID = true ∧ s.hw.notIn .startup = [] ∧ s.hw.startRefusal .startup = none ∧ s.hw.pairOn = false ∧ (List.range 32).any (fun x => s.hw.kind x == 2) = true ∧ s.evRoom 1) ∧
    (∃ (s : State) (d : Desc), s.served d 0x0101 ∧ s.hw.sup.romOnly = false ∧ s.hw.sup.waitTo = none ∧ s.hw.mode = .stop ∧ s.hw.fbit R.SUP_MODE_STATUS_PROG_VALID = true ∧ s.hw.fbit R.SUP_MODE_STATUS_CFG_VALID = true ∧ s.hw.notIn .startup = [] ∧ s.hw.startRefusal .startup = none ∧ s.hw.pairOn = false ∧ (List.range 32).any (fun x => s.hw.kind x == 2) = false) ∧
    (∃ (s : State) (d : Desc), s.served d 0x0101 ∧ s.hw.sup.romOnly = false ∧ s.hw.sup.waitTo = none ∧ s.hw.mode.runsTasks = true ∧ s.logsGood) ∧
    (∃ (s : State) (d : Desc), s.served d 0x0101 ∧ s.hw.sup.romOnly = false ∧ s.hw.sup.waitTo = none ∧ s.hw.mode = .stop ∧ s.hw.fbit R.SUP_MODE_STATUS_PROG_VALID = true ∧ s.hw.fbit R.SUP_MODE_STATUS_CFG_VALID = true ∧ s.hw.liveIn = false ∧ s.hw.notIn .test = [] ∧ s.hw.startRefusal .test = none ∧ s.evRoom 1) ∧
    (∃ (s : State) (d : Desc), s.served d 0x0101 ∧ s.hw.sup.romOnly = false ∧ s.hw.sup.waitTo = none ∧ s.hw.mode = .stop ∧ s.hw.notIn .service = [] ∧ s.evRoom 1) ∧
    (∃ (s : State) (d : Desc), s.served d 0x0101 ∧ s.hw.sup.romOnly = false ∧ s.hw.sup.waitTo = none ∧ s.hw.mode = .safe ∧ s.hw.notIn .service = [] ∧ s.evRoom 1) ∧
    (∃ (s : State) (d : Desc), s.served d 0x0101 ∧ s.hw.sup.romOnly = false ∧ s.hw.sup.waitTo = none ∧ s.hw.mode = .service ∧ s.hw.fbit R.SUP_MODE_STATUS_SAFE_LATCH = false ∧ s.hw.notIn .stop = [] ∧ s.evRoom 1) ∧
    (∃ (s : State) (d : Desc), s.served d 0x0101 ∧ s.hw.sup.romOnly = false ∧ s.hw.sup.waitTo = none ∧ s.hw.mode = .service ∧ s.hw.fbit R.SUP_MODE_STATUS_SAFE_LATCH = true ∧ s.hw.notIn .safe = [] ∧ s.evRoom 1) ∧
    (∃ (s : State) (d : Desc), s.served d 0x0101 ∧ s.hw.sup.romOnly = false ∧ s.hw.sup.waitTo = none ∧ s.hw.mode = .stop) :=
  ⟨⟨up (wt .stop) (fun h => (h.fset R.SUP_MODE_STATUS_PROG_VALID 1).fset (R.TSK_Tn_CTRL_KIND 3) 2), { tag := 7 }, by unfold State.served State.evRoom; decide +kernel⟩,
   ⟨up (wt .stop) (fun h => (h.fset R.SUP_MODE_STATUS_PROG_VALID 1).fset (R.TSK_Tn_CTRL_KIND 3) 1), { tag := 7 }, by unfold State.served; decide +kernel⟩,
   ⟨wt .run, { tag := 7 }, by unfold State.served State.logsGood; decide +kernel⟩,
   ⟨up (wt .stop) (fun h => (h.fset R.SUP_MODE_STATUS_PROG_VALID 1).fset (R.TSK_Tn_CTRL_KIND 3) 1), { tag := 7 }, by unfold State.served State.evRoom; decide +kernel⟩,
   ⟨wt .stop, { tag := 7 }, by unfold State.served State.evRoom; decide +kernel⟩,
   ⟨wt .safe, { tag := 7 }, by unfold State.served State.evRoom; decide +kernel⟩,
   ⟨wt .service, { tag := 7 }, by unfold State.served State.evRoom; decide +kernel⟩,
   ⟨up (wt .service) (fun h => h.fset R.SUP_MODE_STATUS_SAFE_LATCH 1), { tag := 7 }, by unfold State.served State.evRoom; decide +kernel⟩,
   ⟨wt .stop, { tag := 7 }, by unfold State.served; decide +kernel⟩⟩

/-- States and operands that meet the hypotheses of each clause of ModeRequests (2 of 2). -/
theorem test_meets_ModeRequests2 :
    (∃ (s : State) (d : Desc), s.served d 0x0101 ∧ s.hw.sup.romOnly = false ∧ s.hw.sup.waitTo = none ∧ s.hw.mode = .safe) ∧
    (∃ (s : State) (d : Desc), s.served d 0x0101 ∧ s.hw.sup.romOnly = false ∧ s.hw.sup.waitTo = none ∧ s.hw.mode ∉ [Mode.boot, .safe, .parked] ∧ s.hw.nvs.vinLost = false) ∧
    (∃ (s : State) (d : Desc), s.served d 0x0101 ∧ s.hw.sup.romOnly = false ∧ s.hw.sup.waitTo = none ∧ s.hw.mode = .safe ∧ s.hw.notIn .recovery = [] ∧ s.evRoom 1) :=
  ⟨⟨wt .safe, { tag := 7 }, by unfold State.served; decide +kernel⟩,
   ⟨wt .run, { tag := 7 }, by unfold State.served; decide +kernel⟩,
   ⟨wt .safe, { tag := 7 }, by unfold State.served State.evRoom; decide +kernel⟩⟩

/-- States and operands that meet the hypotheses of each clause of ResetRequestsAndRefusals (1 of 2). -/
theorem test_meets_ResetRequestsAndRefusals1 :
    (∃ (s : State) (d : Desc), s.served d 0x0101 ∧ s.hw.sup.romOnly = false ∧ s.hw.sup.waitTo = none ∧ s.hw.mode ∈ [Mode.provision, .stop, .service, .safe] ∧ s.hw.notIn .boot = [] ∧ s.evRoom 1) ∧
    (∃ (s : State) (d : Desc), s.served d 0x0101 ∧ s.hw.sup.romOnly = false ∧ s.hw.sup.waitTo = none ∧ s.hw.mode = .provision ∧ s.hw.notIn .boot = [] ∧ s.evRoom 1) ∧
    (∃ (s : State) (d : Desc), s.served d 0x0101 ∧ s.hw.sup.romOnly = false ∧ s.hw.sup.waitTo = none ∧ s.hw.mode ≠ .stop ∧ s.evRoom 2) ∧
    (∃ (s : State) (d : Desc), s.served d 0x0101 ∧ s.hw.sup.romOnly = false ∧ s.hw.sup.waitTo = none ∧ s.hw.mode.runsTasks = false ∧ s.evRoom 2) ∧
    (∃ (s : State) (d : Desc), s.served d 0x0101 ∧ s.hw.sup.romOnly = false ∧ s.hw.sup.waitTo = none ∧ s.hw.mode ∉ [Mode.stop, .safe] ∧ s.evRoom 2) ∧
    (∃ (s : State) (d : Desc), s.served d 0x0101 ∧ s.hw.sup.romOnly = false ∧ s.hw.sup.waitTo = none ∧ s.hw.mode ≠ .service ∧ s.evRoom 2) ∧
    (∃ (s : State) (d : Desc), s.served d 0x0101 ∧ s.hw.sup.romOnly = false ∧ s.hw.sup.waitTo = none ∧ s.hw.mode = .safe ∧ s.evRoom 2) ∧
    (∃ (s : State) (d : Desc), s.served d 0x0101 ∧ s.hw.sup.romOnly = false ∧ s.hw.sup.waitTo = none ∧ s.hw.mode ≠ .safe ∧ s.evRoom 2) ∧
    (∃ (s : State) (d : Desc), s.served d 0x0101 ∧ s.hw.sup.romOnly = false ∧ s.hw.sup.waitTo = none ∧ s.hw.mode ∉ [Mode.provision, .stop, .service, .safe] ∧ s.evRoom 2) :=
  ⟨⟨wt .stop, { tag := 7 }, by unfold State.served State.evRoom; decide +kernel⟩,
   ⟨wt .provision, { tag := 7 }, by unfold State.served State.evRoom; decide +kernel⟩,
   ⟨wt .run, { tag := 7 }, by unfold State.served State.evRoom; decide +kernel⟩,
   ⟨wt .safe, { tag := 7 }, by unfold State.served State.evRoom; decide +kernel⟩,
   ⟨wt .run, { tag := 7 }, by unfold State.served State.evRoom; decide +kernel⟩,
   ⟨wt .stop, { tag := 7 }, by unfold State.served State.evRoom; decide +kernel⟩,
   ⟨wt .safe, { tag := 7 }, by unfold State.served State.evRoom; decide +kernel⟩,
   ⟨wt .stop, { tag := 7 }, by unfold State.served State.evRoom; decide +kernel⟩,
   ⟨wt .run, { tag := 7 }, by unfold State.served State.evRoom; decide +kernel⟩⟩

/-- States and operands that meet the hypotheses of each clause of ResetRequestsAndRefusals (2 of 2). -/
theorem test_meets_ResetRequestsAndRefusals2 :
    (∃ (s : State) (d : Desc), s.served d 0x0101 ∧ s.hw.sup.romOnly = false ∧ s.hw.sup.waitTo = none ∧ s.hw.mode ≠ .provision ∧ s.evRoom 2) :=
  ⟨wt .stop, { tag := 7 }, by unfold State.served State.evRoom; decide +kernel⟩

/-- States and operands that meet the hypotheses of each clause of TimedTransitions. -/
theorem test_meets_TimedTransitions :
    (∃ (s : State) (m : Mode), s.hw.sup.waitTo = some m ∧ s.hw.sup.heldReqs = [] ∧ s.hw.sup.waitCmd = none ∧ s.hw.mode = .stop ∧ s.hw.pairOn = true ∧ s.hw.liveIn = true ∧ s.evRoom 1) ∧
    (∃ (s : State) (x : Nat), s.hw.mode = .safe ∧ s.hw.fget R.SUP_MODE_STATUS_AUTO_LEFT = x + 1) ∧
    (∃ (s : State), s.hw.mode = .startup ∧ s.hw.nvs.vinLost = false) ∧
    (∃ (s : State), s.hw.mode = .recovery ∧ s.hw.nvs.vinLost = false) ∧
    (∃ (s : State), s.hw.mode = .recovery ∧ s.hw.sup.selfTested = false ∧ s.hw.exe.poison = [] ∧ s.hw.fbit R.SUP_MODE_STATUS_SAFE_LATCH = false ∧ s.hw.pairOn = false ∧ s.hw.sup.intent = false ∧ (List.range 6).any s.hw.zirek = false) ∧
    (∃ (s : State), s.hw.mode = .recovery ∧ s.hw.sup.selfTested = false ∧ s.hw.exe.poison = [] ∧ s.hw.fbit R.SUP_MODE_STATUS_SAFE_LATCH = true ∧ (List.range 6).any s.hw.zirek = false) ∧
    (∃ (s : State) (b : TestFail), s.hw.mode = .recovery ∧ s.hw.sup.selfTested = false ∧ s.hw.nvs.vinLost = false ∧ ((b = .step 0 → s.hw.fbit R.SUP_MODE_STATUS_PROG_VALID = true))) ∧
    (∃ (s : State), s.hw.mode = .recovery ∧ s.hw.sup.selfTested = false ∧ s.hw.nvs.vinLost = false ∧ s.evRoom 5) ∧
    (∃ (s : State) (x : Nat), s.hw.mode = .recovery ∧ s.hw.sup.selfTested = false ∧ s.hw.nvs.vinLost = false ∧ (s.hw.pathTests x).contains 1 = true ∧ x < 48) :=
  ⟨⟨up (wt .stop) (fun h => ({ h with sup := { h.sup with waitTo := some .startup, waitDue := 5000200000, waitCause := 0x11 } }.fset R.PAIR_CFG_ENABLE 1).fset R.SUP_MODE_STATUS_LIVE_IN 1), .startup, by unfold State.evRoom; decide +kernel⟩,
   ⟨up (wt .safe) (fun h => h.fset R.SUP_MODE_STATUS_AUTO_LEFT 2), 1, by decide +kernel⟩,
   ⟨wt .startup, by decide +kernel⟩,
   ⟨wt .recovery, by decide +kernel⟩,
   ⟨wt .recovery, by decide +kernel⟩,
   ⟨up (wt .recovery) (fun h => h.fset R.SUP_MODE_STATUS_SAFE_LATCH 1), by decide +kernel⟩,
   ⟨wt .recovery, .step 1, by decide +kernel⟩,
   ⟨wt .recovery, by unfold State.evRoom; decide +kernel⟩,
   ⟨up (wt .recovery) (fun h => h.fset (R.FLD_CHc_STATUS_MODE_APPLIED 5) 1), 5, by decide +kernel⟩⟩

/-- States and operands that meet the hypotheses of each clause of DroopAndClockMonitor (1 of 2). -/
theorem test_meets_DroopAndClockMonitor1 :
    (∃ (s : State), s.hw.powered = true ∧ s.hw.fbit R.SUP_DROOP_STATUS_STRETCH = false) ∧
    (∃ (s : State) (x : Nat), s.hw.fbit R.SUP_DROOP_STATUS_STRETCH = true ∧ s.hw.sup.injDroop = false ∧ s.hw.sup.railLow = 0 ∧ s.hw.sup.stretchAt ≤ s.hw.clk.up ∧ s.hw.clk.up + x + max 1 (s.hw.fget R.SUP_DROOP_CFG_HOLD_US) * 1000 ≤ s.hw.sup.stretchAt + (max 1 (s.hw.fget R.SUP_DROOP_CFG_LIMIT_MS)) * 1000000 ∧ s.evRoom 1) ∧
    (∃ (s : State), s.hw.fbit R.SUP_DROOP_STATUS_STRETCH = true ∧ s.hw.sup.stretchLim = false ∧ s.evRoom 1 ∧ s.hw.fget R.SUP_DROOP_CFG_ACTION = 0) ∧
    (∃ (s : State), s.hw.fbit R.SUP_DROOP_STATUS_STRETCH = true ∧ s.hw.sup.stretchLim = false ∧ s.evRoom 1 ∧ s.hw.fget R.SUP_DROOP_CFG_ACTION = 1 ∧ s.hw.mode ∈ [Mode.startup, .run, .follow, .test, .debug, .stop, .service, .provision] ∧ s.hw.nvs.vinLost = false) ∧
    (∃ (s : State) (x : Nat), s.hw.monitors 11 = true ∧ (s.hw.sup.injClk.1 ≠ 11 ∨ s.hw.sup.injClk.2 = 0) ∧ x = 3) ∧
    (∃ (s : State) (x : Nat), s.hw.monitors 0 = true ∧ (s.hw.sup.injClk.1 ≠ 0 ∨ s.hw.sup.injClk.2 = 0) ∧ 34000 ≤ x ∧ x ≤ 92000) ∧
    (∃ (s : State) (x : Nat), s.hw.monitors 1 = true ∧ (s.hw.sup.injClk.1 ≠ 1 ∨ s.hw.sup.injClk.2 = 0) ∧ (x < 10600 ∨ 14400 < x) ∧ tget 0 s.hw.sup.oob 1 = 0) ∧
    (∃ (s : State) (x : Nat), s.hw.monitors 11 = true ∧ (s.hw.sup.injClk.1 ≠ 11 ∨ s.hw.sup.injClk.2 = 0) ∧ x ≠ 3 ∧ tget 0 s.hw.sup.oob 11 = 1 ∧ s.evRoom 1) ∧
    (∃ (s : State) (x : Nat), s.hw.monitors 1 = true ∧ (s.hw.sup.injClk.1 ≠ 1 ∨ s.hw.sup.injClk.2 = 0) ∧ (x < 10600 ∨ 14400 < x) ∧ tget 0 s.hw.sup.oob 1 = 1 ∧ s.hw.mode ∈ [Mode.startup, .run, .follow, .test, .debug, .stop, .service, .provision] ∧ s.hw.nvs.vinLost = false) :=
  ⟨⟨wt .run, by decide +kernel⟩,
   ⟨up (wt .run) (fun h => ({ h with sup := { h.sup with stretchAt := 4999999000, stretchMask := 5 } }.fset R.SUP_DROOP_STATUS_STRETCH 1)), 300, by unfold State.evRoom; decide +kernel⟩,
   ⟨up (wt .run) (fun h => ({ h with sup := { h.sup with stretchAt := 4999999000, stretchMask := 5 } }.fset R.SUP_DROOP_STATUS_STRETCH 1).fset R.SUP_DROOP_CFG_ACTION 0), by unfold State.evRoom; decide +kernel⟩,
   ⟨up (wt .run) (fun h => ({ h with sup := { h.sup with stretchAt := 4999999000, stretchMask := 5 } }.fset R.SUP_DROOP_STATUS_STRETCH 1).fset R.SUP_DROOP_CFG_ACTION 1), by unfold State.evRoom; decide +kernel⟩,
   ⟨up (wt .run) (fun h => { h with sup := { h.sup with oob := [(11, 1)] } }), 3, by decide +kernel⟩,
   ⟨wt .run, 80000, by decide +kernel⟩,
   ⟨wt .run, 14401, by decide +kernel⟩,
   ⟨up (wt .run) (fun h => { h with sup := { h.sup with oob := [(11, 1)] } }), 4, by unfold State.evRoom; decide +kernel⟩,
   ⟨up (wt .run) (fun h => { h with sup := { h.sup with oob := [(1, 1)] } }), 10599, by decide +kernel⟩⟩

/-- States and operands that meet the hypotheses of each clause of DroopAndClockMonitor (2 of 2). -/
theorem test_meets_DroopAndClockMonitor2 :
    (∃ (s : State), s.hw.monitors 0 = true ∧ s.hw.sup.coreResetDue = none) ∧
    (∃ (s : State), s.hw.monitors 1 = true ∧ s.hw.mode ∈ [Mode.startup, .run, .follow, .test, .debug, .stop, .service, .provision] ∧ s.hw.nvs.vinLost = false) ∧
    (∃ (s : State) (dev : Int), s.hw.powered = true ∧ s.hw.mode ≠ .parked ∧ s.hw.sup.injMon = 0 ∧ -100 ≤ dev ∧ dev ≤ 100) ∧
    (∃ (s : State) (dev : Int), s.hw.powered = true ∧ s.hw.mode ≠ .parked ∧ s.hw.sup.injMon = 0 ∧ (100 < dev ∨ dev < -100) ∧ s.hw.sup.monBad = 0) ∧
    (∃ (s : State) (dev : Int), s.hw.powered = true ∧ s.hw.mode ≠ .parked ∧ s.hw.sup.injMon = 0 ∧ (100 < dev ∨ dev < -100) ∧ s.hw.sup.monBad = 1 ∧ s.hw.mode ∈ [Mode.startup, .run, .follow, .test, .debug, .stop, .service, .provision] ∧ s.hw.nvs.vinLost = false) :=
  ⟨⟨wt .run, by decide +kernel⟩,
   ⟨wt .run, by decide +kernel⟩,
   ⟨wt .run, 100, by decide +kernel⟩,
   ⟨wt .run, 101, by decide +kernel⟩,
   ⟨up (wt .run) (fun h => { h with sup := { h.sup with monBad := 1 } }), -101, by decide +kernel⟩⟩

/-- States and operands that meet the hypotheses of each clause of WatchdogCommands. -/
theorem test_meets_WatchdogCommands :
    (∃ (s : State) (i : Fin 32) (x : Nat), s.hw.wdgOn = true ∧ s.hw.mode ∈ [Mode.startup, .run, .follow, .test, .debug, .stop, .service, .provision] ∧ s.hw.wdgEn i.val = true ∧ s.hw.wdg.opens.find? (fun (p : Nat × Nat) => p.1 == i.val) = some (i.val, x)) ∧
    (∃ (s : State), s.hw.wdgOn = true ∧ s.hw.mode ∈ [Mode.startup, .run, .follow, .test, .debug, .stop, .service, .provision] ∧ s.hw.wdg.supOver = false) ∧
    (∃ (s : State) (v : Word), s.hw.wdgOn = true ∧ s.hw.mode ∈ [Mode.startup, .run, .follow, .test, .debug, .stop, .service, .provision] ∧ s.hw.wdg.injSup = false ∧ (v ≠ 0xA5C3#32 ∨ s.hw.supCount < s.hw.supMin)) ∧
    (∃ (s : State), s.hw.wdgOn = true ∧ s.hw.mode ≠ .parked ∧ s.hw.wdg.injSup = false ∧ s.hw.supMin ≤ s.hw.supCount) ∧
    (∃ (s : State), s.hw.wdg.keyAt = none) ∧
    (∃ (s : State) (x : Nat), s.hw.wdg.keyAt = some x ∧ s.hw.clk.up ≤ x + 1000000 ∧ s.evRoom 1 ∧ s.hw.fbit R.WDG_CTRL_LOCK = false) ∧
    (∃ (s : State) (x : Nat), s.hw.wdg.keyAt = some x ∧ s.hw.clk.up ≤ x + 1000000 ∧ s.evRoom 1 ∧ s.hw.fbit R.WDG_CTRL_LOCK = true) ∧
    (∃ (s : State) (x : Nat) (v : Word), s.hw.wdg.keyAt = some x ∧ s.hw.clk.up ≤ x + 1000000 ∧ s.evRoom 1 ∧ v ≠ 0xC0DE#32) ∧
    (∃ (s : State) (x : Nat), s.hw.wdg.keyAt = some x) :=
  ⟨⟨up (wt .run) (fun h => { h with wdg := { h.wdg with opens := [(3, 100)] } }.fset (R.WDG_Tn_MIN_EN 3) 1), 3, 100, by decide +kernel⟩,
   ⟨wt .run, by decide +kernel⟩,
   ⟨wt .run, 5#32, by decide +kernel⟩,
   ⟨wt .run, by decide +kernel⟩,
   ⟨wt .service, by decide +kernel⟩,
   ⟨up (wt .service) (fun h => { h with wdg := { h.wdg with keyAt := some 4999500000 } }), 4999500000, by unfold State.evRoom; decide +kernel⟩,
   ⟨up (wt .service) (fun h => { h with wdg := { h.wdg with keyAt := some 4999500000 } }.fset R.WDG_CTRL_LOCK 1), 4999500000, by unfold State.evRoom; decide +kernel⟩,
   ⟨up (wt .service) (fun h => { h with wdg := { h.wdg with keyAt := some 4999500000 } }), 4999500000, 0x5A17#32, by unfold State.evRoom; decide +kernel⟩,
   ⟨up (wt .service) (fun h => { h with wdg := { h.wdg with keyAt := some 4999500000 } }), 4999500000, by decide +kernel⟩⟩

/-- States and operands that meet the hypotheses of each clause of CalendarCommands (1 of 2). -/
theorem test_meets_CalendarCommands1 :
    (∃ (s : State), tSec s.hw.cal.time < 59) ∧
    (∃ (s : State), 59 ≤ tSec s.hw.cal.time ∧ tMin s.hw.cal.time < 59) ∧
    (∃ (s : State), 59 ≤ tSec s.hw.cal.time ∧ 59 ≤ tMin s.hw.cal.time ∧ tHour s.hw.cal.time < 23) ∧
    (∃ (s : State), 59 ≤ tSec s.hw.cal.time ∧ 59 ≤ tMin s.hw.cal.time ∧ 23 ≤ tHour s.hw.cal.time ∧ (dDay s.hw.cal.date < (if dMonth s.hw.cal.date = 2 then (if (dYear s.hw.cal.date % 4 = 0 ∧ dYear s.hw.cal.date % 100 ≠ 0) ∨ dYear s.hw.cal.date % 400 = 0 then 29 else 28) else if dMonth s.hw.cal.date ∈ [4, 6, 9, 11] then 30 else 31))) ∧
    (∃ (s : State), 59 ≤ tSec s.hw.cal.time ∧ 59 ≤ tMin s.hw.cal.time ∧ 23 ≤ tHour s.hw.cal.time ∧ ((if dMonth s.hw.cal.date = 2 then (if (dYear s.hw.cal.date % 4 = 0 ∧ dYear s.hw.cal.date % 100 ≠ 0) ∨ dYear s.hw.cal.date % 400 = 0 then 29 else 28) else if dMonth s.hw.cal.date ∈ [4, 6, 9, 11] then 30 else 31) ≤ dDay s.hw.cal.date) ∧ dMonth s.hw.cal.date = 12) ∧
    (∃ (s : State), 59 ≤ tSec s.hw.cal.time ∧ 59 ≤ tMin s.hw.cal.time ∧ 23 ≤ tHour s.hw.cal.time ∧ ((if dMonth s.hw.cal.date = 2 then (if (dYear s.hw.cal.date % 4 = 0 ∧ dYear s.hw.cal.date % 100 ≠ 0) ∨ dYear s.hw.cal.date % 400 = 0 then 29 else 28) else if dMonth s.hw.cal.date ∈ [4, 6, 9, 11] then 30 else 31) ≤ dDay s.hw.cal.date) ∧ dMonth s.hw.cal.date ≠ 12) ∧
    (∃ (s : State) (te : Int), s.hw.cal.injTemp = false ∧ -440 ≤ te ∧ te ≤ 1200 ∧ te ≤ -320) ∧
    (∃ (s : State) (te : Int), s.hw.cal.injTemp = false ∧ -440 ≤ te ∧ te ≤ 1200 ∧ 960 ≤ te) ∧
    (∃ (s : State) (te : Int) (i : Nat) (k : Nat), s.hw.cal.injTemp = false ∧ -440 ≤ te ∧ te ≤ 1200 ∧ i < 32 ∧ k < 40 ∧ te = 40 * (i : Int) - 320 + k) :=
  ⟨⟨up (wt .run) (fun h => { h with cal := { h.cal with date := dateWord 2024 2 28 3, time := timeWord 23 59 58, secAt := 4500000000 } }), by decide +kernel⟩,
   ⟨up (wt .run) (fun h => { h with cal := { h.cal with date := dateWord 2024 2 28 3, time := timeWord 23 58 59, secAt := 4500000000 } }), by decide +kernel⟩,
   ⟨up (wt .run) (fun h => { h with cal := { h.cal with date := dateWord 2024 2 28 3, time := timeWord 22 59 59, secAt := 4500000000 } }), by decide +kernel⟩,
   ⟨up (wt .run) (fun h => { h with cal := { h.cal with date := dateWord 2024 2 28 3, time := timeWord 23 59 59, secAt := 4500000000 } }), by decide +kernel⟩,
   ⟨up (wt .run) (fun h => { h with cal := { h.cal with date := dateWord 2024 12 31 6, time := timeWord 23 59 59, secAt := 4500000000 } }), by decide +kernel⟩,
   ⟨up (wt .run) (fun h => { h with cal := { h.cal with date := dateWord 2100 2 28 3, time := timeWord 23 59 59, secAt := 4500000000 } }), by decide +kernel⟩,
   ⟨up (wt .run) (fun h => ((h.fset (R.CAL_CURVEi_POINT 0) 100).fset (R.CAL_CURVEi_POINT 1) 65535).fset (R.CAL_CURVEi_POINT 32) 777), -321, by decide +kernel⟩,
   ⟨up (wt .run) (fun h => ((h.fset (R.CAL_CURVEi_POINT 0) 100).fset (R.CAL_CURVEi_POINT 1) 65535).fset (R.CAL_CURVEi_POINT 32) 777), 960, by decide +kernel⟩,
   ⟨up (wt .run) (fun h => ((h.fset (R.CAL_CURVEi_POINT 0) 100).fset (R.CAL_CURVEi_POINT 1) 65535).fset (R.CAL_CURVEi_POINT 32) 777), -300, 0, 20, by decide +kernel⟩⟩

/-- States and operands that meet the hypotheses of each clause of CalendarCommands (2 of 2). -/
theorem test_meets_CalendarCommands2 :
    (∃ (s : State) (x : CalSet), s.hw.cal.sets = [x] ∧ x.d = none ∧ s.evRoom 1) ∧
    (∃ (s : State) (d : Desc), s.served d 0x0701 ∧ s.allows .cal { d with op := 0x0701 }) ∧
    (∃ (s : State) (d : Desc), s.served d 0x0702) ∧
    (∃ (s : State), s.hw.mode ∉ [Mode.boot, .parked] ∧ s.hw.ptpLocked = true ∧ s.hw.cal.ptpNow = true) :=
  ⟨⟨up (wt .run) (fun h => { h with cal := { h.cal with sets := [{ date := dateWord 2025 1 2 4, time := timeWord 3 4 5, source := 2, d := none }] } }), { date := dateWord 2025 1 2 4, time := timeWord 3 4 5, source := 2, d := none }, by unfold State.evRoom; decide +kernel⟩,
   ⟨wt .run, { p0 := 5, p1 := 9 }, by unfold State.served State.allows; decide +kernel⟩,
   ⟨wt .run, {}, by unfold State.served; decide +kernel⟩,
   ⟨up (wt .run) (fun h => { h with cal := { h.cal with ptpNow := true } }.fset R.NET_PTP_STATUS_STATE 2), by decide +kernel⟩⟩

/-- States and operands that meet the hypotheses of each clause of SupInterruptAndDeferredRequests. -/
theorem test_meets_SupInterruptAndDeferredRequests :
    (∃ (s : State) (req : BitVec 12), s.hw.exe.supRunning = true ∧ s.hw.exe.sup.ie = true ∧ s.hw.exe.sup.inexc = false ∧ (req.setWidth 32 &&& s.hw.exe.sup.imask) ≠ 0#32) ∧
    (∃ (s : State) (req : BitVec 12), s.hw.exe.supRunning = true ∧ (s.hw.exe.sup.ie = false ∨ (req.setWidth 32 &&& s.hw.exe.sup.imask) = 0#32)) ∧
    (∃ (s : State) (x : Deferred), s.hw.hif.deferred = [x] ∧ s.hw.freeNow x = true ∧ x.act = .cal ∧ x.d.op = 0x0701) ∧
    (∃ (s : State) (x : Deferred) (rest : List Deferred), s.hw.hif.deferred = x :: rest ∧ x.d.src.isEng = false ∧ x.d.relayed = false ∧ s.hw.hif.lost = [] ∧ s.evRoom 2) :=
  ⟨⟨up (wt .run) (fun h => { h with exe := { h.exe with supRunning := true, sup := { h.exe.sup with psr := 0x86#32, imask := 0xFFF#32 } } }), 4#12, by decide +kernel⟩,
   ⟨up (wt .run) (fun h => { h with exe := { h.exe with supRunning := true } }), 4#12, by decide +kernel⟩,
   ⟨up (wt .run) (fun h => { h with hif := { h.hif with deferred := [{ d := { op := 0x0701, p0 := 5, p1 := 9 }, act := .cal, blocker := 11, since := 4000000000 }] } }), { d := { op := 0x0701, p0 := 5, p1 := 9 }, act := .cal, blocker := 11, since := 4000000000 }, by decide +kernel⟩,
   ⟨up (wt .run) (fun h => { h with hif := { h.hif with deferred := [{ d := { op := 0x0701, p0 := 5, p1 := 9 }, act := .cal, blocker := 11, since := 4000000000 }] } }), { d := { op := 0x0701, p0 := 5, p1 := 9 }, act := .cal, blocker := 11, since := 4000000000 }, [], by unfold State.evRoom; decide +kernel⟩⟩

/-- States and operands that meet the hypotheses of each clause of DispatchAndComparison. -/
theorem test_meets_DispatchAndComparison :
    (∃ (s : State) (i : Fin 8) (x : Nat), s.hw.mode ∈ [Mode.run, .test, .debug] ∧ (s.hw.tgt i.val).task = none ∧ (s.hw.tgt i.val).saved = [] ∧ x ∈ s.hw.readyOf i.val ∧ (∀ y ∈ s.hw.readyOf i.val, y ≠ x → s.hw.before x y = true)) ∧
    (∃ (s : State) (i : Fin 8) (x : Nat) (r : Nat), s.hw.mode ∈ [Mode.run, .test, .debug] ∧ s.hw.split (i.val / 2) = true ∧ (s.hw.tgt i.val).task = some r ∧ s.hw.prio x < s.hw.prio r ∧ s.hw.atBoundary i.val = true ∧ (s.hw.tgt i.val).saved.length < 8 ∧ r ≠ x ∧ x < 32 ∧ r < 32 ∧ x ∈ s.hw.readyOf i.val ∧ (∀ y ∈ s.hw.readyOf i.val, y ≠ x → s.hw.before x y = true)) ∧
    (∃ (s : State) (p : Fin 4) (x : Nat), (s.hw.tgt (2 * p.val)).task = some x ∧ s.hw.exe.injMis = none ∧ s.noCmpInj ∧ s.hw.split p.val = false ∧ (s.hw.tgt (2 * p.val)).cacheErr = none ∧ (s.hw.tgt (2 * p.val)).undoBad = false ∧ (s.hw.tgt (2 * p.val)).rest = ([], []) ∧ (s.hw.cpu (2 * p.val)).mg = (s.hw.cpu (2 * p.val + 1)).mg ∧ (s.hw.tgt (2 * p.val)).closing = some .length) ∧
    (∃ (s : State) (p : Fin 4) (x : Nat), (s.hw.tgt (2 * p.val)).task = some x ∧ s.hw.exe.injMis = none ∧ s.noCmpInj ∧ s.hw.split p.val = false ∧ (s.hw.tgt (2 * p.val)).cacheErr = none ∧ (s.hw.tgt (2 * p.val)).undoBad = false ∧ (s.hw.tgt (2 * p.val)).rest = ([], []) ∧ (s.hw.cpu (2 * p.val)).mg = (s.hw.cpu (2 * p.val + 1)).mg ∧ (s.hw.tgt (2 * p.val)).closing = some .taskEnd ∧ (s.hw.tgt (2 * p.val)).reexec = false ∧ s.hw.heldOf p.val = [] ∧ s.hw.tsk.pendEv = [] ∧ s.hw.mode = .run) ∧
    (∃ (s : State) (p : Fin 4) (x : Nat), (s.hw.tgt (2 * p.val)).task = some x ∧ s.hw.exe.injMis = none ∧ s.noCmpInj ∧ s.hw.split p.val = false ∧ (s.hw.tgt (2 * p.val)).cacheErr = none ∧ (s.hw.tgt (2 * p.val)).undoBad = false ∧ (s.hw.tgt (2 * p.val)).rest = ([], []) ∧ (s.hw.cpu (2 * p.val)).mg ≠ (s.hw.cpu (2 * p.val + 1)).mg ∧ (s.hw.tgt (2 * p.val)).closing.isSome = true ∧ (s.hw.tgt (2 * p.val)).reexec = false ∧ (s.hw.cyc x).ovf = false ∧ s.hw.mode = .run ∧ s.evRoom 1) ∧
    (∃ (s : State) (p : Fin 4) (x : Nat), (s.hw.tgt (2 * p.val)).task = some x ∧ s.hw.exe.injMis = none ∧ s.noCmpInj ∧ s.hw.split p.val = false ∧ (s.hw.tgt (2 * p.val)).cacheErr = none ∧ (s.hw.tgt (2 * p.val)).undoBad = false ∧ (s.hw.tgt (2 * p.val)).rest = ([], []) ∧ (s.hw.cpu (2 * p.val)).mg ≠ (s.hw.cpu (2 * p.val + 1)).mg ∧ (s.hw.tgt (2 * p.val)).closing.isSome = true ∧ (s.hw.tgt (2 * p.val)).reexec = true ∧ s.hw.mode = .run ∧ s.hw.nvs.vinLost = false ∧ s.evRoom 1) ∧
    (∃ (s : State) (p : Fin 4) (x : Nat), (s.hw.tgt (2 * p.val)).task = some x ∧ s.hw.exe.injMis = none ∧ s.noCmpInj ∧ s.hw.split p.val = false ∧ (s.hw.tgt (2 * p.val)).cacheErr = none ∧ (s.hw.tgt (2 * p.val)).undoBad = false ∧ (s.hw.tgt (2 * p.val)).rest = ([], []) ∧ (s.hw.cpu (2 * p.val)).mg ≠ (s.hw.cpu (2 * p.val + 1)).mg ∧ (s.hw.tgt (2 * p.val)).closing.isSome = true ∧ (s.hw.tgt (2 * p.val)).reexec = false ∧ (s.hw.cyc x).ovf = true ∧ s.hw.mode = .run ∧ s.hw.nvs.vinLost = false ∧ s.evRoom 1) :=
  ⟨⟨up (wt .run) (fun h => (h.setTstate 3 2).setCyc 3 { k := 5, due := 4999000000 }), 0, 3, by decide +kernel⟩,
   ⟨up (up (wt .run) (fun h => (h.setTstate 3 2).setCyc 3 { k := 5, due := 4999000000 })) (fun h => (((((h.fset (R.CMP_EPn_STATUS_PROFILE 0) 3).setTgt 0 { h.tgt 0 with task := some 7 }).setTstate 7 3).fset (R.TSK_Tn_CTRL_PRIO 7) 5).fset (R.TSK_Tn_CTRL_PRIO 3) 1)), 0, 3, 7, by decide +kernel⟩,
   ⟨up (wt .run) (fun h => (h.setTgt 2 { task := some 3, window := 4, commits := 64, closing := some .length }).setCyc 3 { k := 5, dead := 9000000000 }), 1, 3, by unfold State.noCmpInj; decide +kernel⟩,
   ⟨up (wt .run) (fun h => (h.setTgt 2 { task := some 3, window := 4, commits := 64, closing := some .taskEnd }).setCyc 3 { k := 5, dead := 9000000000 }), 1, 3, by unfold State.noCmpInj; decide +kernel⟩,
   ⟨up (up (wt .run) (fun h => (h.setTgt 2 { task := some 3, window := 4, commits := 64, closing := some .length }).setCyc 3 { k := 5, dead := 9000000000 })) (fun h => h.setCpu 3 { h.cpu 3 with mg := 77#64 }), 1, 3, by unfold State.evRoom State.noCmpInj; decide +kernel⟩,
   ⟨up (up (wt .run) (fun h => (h.setTgt 2 { task := some 3, window := 4, commits := 64, closing := some .length, reexec := true }).setCyc 3 { k := 5, dead := 9000000000 })) (fun h => h.setCpu 3 { h.cpu 3 with mg := 77#64 }), 1, 3, by unfold State.evRoom State.noCmpInj; decide +kernel⟩,
   ⟨up (up (wt .run) (fun h => (h.setTgt 2 { task := some 3, window := 4, commits := 64, closing := some .length }).setCyc 3 { k := 5, dead := 9000000000, ovf := true })) (fun h => h.setCpu 3 { h.cpu 3 with mg := 77#64 }), 1, 3, by unfold State.evRoom State.noCmpInj; decide +kernel⟩⟩

/-- States and operands that meet the hypotheses of each clause of ReleasesAndDeadlines. -/
theorem test_meets_ReleasesAndDeadlines :
    (∃ (s : State) (i : Fin 32), s.hw.mode ∈ [Mode.run, .test, .debug] ∧ s.hw.kind i.val = 1 ∧ s.hw.tsk.epoch.isSome = true ∧ (s.hw.cyc i.val).passed = 0 ∧ s.tbRoom (s.hw.dueOf i.val (s.hw.cyc i.val).nextK) ∧ s.hw.tstate i.val = 0 ∧ (s.hw.cyc i.val).pdPend = false ∧ s.hw.pair.reverting = 0) ∧
    (∃ (s : State) (i : Fin 32), s.hw.mode ∈ [Mode.run, .test, .debug] ∧ s.hw.kind i.val = 1 ∧ s.hw.tsk.epoch.isSome = true ∧ (s.hw.cyc i.val).passed = 0 ∧ s.hw.tstate i.val ≠ 0 ∧ (s.hw.untilTb (s.hw.dueOf i.val (s.hw.cyc i.val).nextK)).clk.tb < (s.hw.cyc i.val).dead) ∧
    (∃ (s : State) (i : Fin 32), s.tbRoom (s.hw.cyc i.val).dead ∧ s.hw.tstate i.val = 6 ∧ s.hw.tsk.pendEv = []) ∧
    (∃ (s : State) (i : Fin 32), s.tbRoom (s.hw.cyc i.val).dead ∧ s.hw.tstate i.val ∈ [1, 2, 3, 4, 5] ∧ s.hw.kind i.val ≠ 2 ∧ s.hw.mode ∈ [Mode.run, .test] ∧ s.hw.fbit (R.TSK_Tn_STAT_LATE i.val) = false ∧ s.evRoom 1 ∧ s.hw.fget (R.TSK_Tn_CTRL_OVR_POL i.val) = 1 ∧ s.hw.fget (R.TSK_Tn_CTRL_OVR_LIMIT i.val) = 0) ∧
    (∃ (s : State) (i : Fin 32), s.tbRoom (s.hw.cyc i.val).dead ∧ s.hw.tstate i.val ∈ [1, 2, 3, 4, 5] ∧ s.hw.kind i.val ≠ 2 ∧ s.hw.mode ∈ [Mode.run, .test] ∧ s.hw.fbit (R.TSK_Tn_STAT_LATE i.val) = false ∧ s.evRoom 1 ∧ s.hw.fget (R.TSK_Tn_CTRL_OVR_POL i.val) = 0 ∧ s.hw.nvs.vinLost = false) :=
  ⟨⟨up (wt .run) (fun h => ((({ h with tsk := { h.tsk with epoch := some 5000000000 } }.fset (R.TSK_Tn_CTRL_KIND 4) 1).setTstate 4 0).setCyc 4 { nextK := 2 })), 4, by unfold State.tbRoom; decide +kernel⟩,
   ⟨up (up (wt .run) (fun h => ((({ h with tsk := { h.tsk with epoch := some 5000000000 } }.fset (R.TSK_Tn_CTRL_KIND 4) 1).setTstate 4 0).setCyc 4 { nextK := 2, dead := 9000000000 }))) (fun h => h.setTstate 4 3), 4, by decide +kernel⟩,
   ⟨up (wt .run) (fun h => (h.setTstate 4 6).setCyc 4 { dead := 5000100000 }), 4, by unfold State.tbRoom; decide +kernel⟩,
   ⟨up (wt .run) (fun h => (((h.setTstate 4 3).setCyc 4 { dead := 5000100000, k := 9 }).fset (R.TSK_Tn_CTRL_KIND 4) 1).fset (R.TSK_Tn_CTRL_OVR_POL 4) 1), 4, by unfold State.evRoom State.tbRoom; decide +kernel⟩,
   ⟨up (wt .run) (fun h => (((h.setTstate 4 3).setCyc 4 { dead := 5000100000, k := 9 }).fset (R.TSK_Tn_CTRL_KIND 4) 1).fset (R.TSK_Tn_CTRL_OVR_POL 4) 0), 4, by unfold State.evRoom State.tbRoom; decide +kernel⟩⟩

/-- States and operands that meet the hypotheses of each clause of TaskEngineServices. -/
theorem test_meets_TaskEngineServices :
    (∃ (s : State), s.hw.passes = true ∧ s.hw.fbit R.TSK_RETAIN_STATUS_PASS_ACTIVE = false ∧ s.hw.retTasks ≠ []) ∧
    (∃ (s : State) (i : Fin 32), s.hw.fbit R.TSK_RETAIN_STATUS_PASS_ACTIVE = true ∧ s.hw.passOpen = true ∧ i.val ∈ s.hw.nvs.passTasks ∧ s.hw.stretchFits i.val = true) ∧
    (∃ (s : State), s.hw.mode = .safe ∧ s.hw.sup.safeRecorded = false ∧ s.hw.fbit R.NVS_STATUS_ARMED = true ∧ s.hw.evr.inq = [] ∧ s.hw.evr.injFull = false ∧ s.hw.nvs.pairLayout = none) ∧
    (∃ (s : State) (i : Fin 32), s.tbRoom (s.hw.cyc i.val).dead ∧ s.hw.fbit R.PAIR_CFG_ENABLE = true ∧ (s.hw.cyc i.val).pdPend = true ∧ (s.hw.cyc i.val).foll = false) ∧
    (∃ (s : State) (x : Nat) (v : Word), s.tbRoom (s.hw.clk.tb + 1000000) ∧ s.hw.pend = [(x, v)] ∧ chanField x = false ∧ s.hw.pair.pwrites = [] ∧ s.hw.hif.latching = [] ∧ (List.range 12).all (fun b => x != R.BLOCK_STATUS b) = true) ∧
    (∃ (s : State) (x : Nat), s.hw.mode ∈ [Mode.stop, .service] ∧ x = s.hw.fget R.TSK_TMR_INDEX_INDEX) ∧
    (∃ (s : State), s.hw.mode ∉ [Mode.stop, .service] ∧ s.hw.fbit (R.BLOCK_STATUS_REJECT 3) = false) ∧
    (∃ (s : State), s.tbRoom (s.hw.clk.tb + 500000000) ∧ s.hw.fbit R.TSK_FORCE_CFG_FLASH = true ∧ s.hw.fget R.TSK_FORCE_STATUS_COUNT ≠ 0 ∧ s.hw.mode ∉ [Mode.boot, .parked] ∧ s.hw.tbRate = 0) :=
  ⟨⟨up (wt .run) (fun h => ((h.fset R.SUP_MODE_STATUS_PROG_VALID 1).fset (R.TSK_Tn_CTRL_KIND 4) 1).fset (R.TSK_Tn_RETAIN_RET_LINES 4) 2), by decide +kernel⟩,
   ⟨up (wt .run) (fun h => ({ h with nvs := { h.nvs with passTasks := [4, 5] } }.fset R.TSK_RETAIN_STATUS_PASS_ACTIVE 1).setTstate 4 0), 4, by decide +kernel⟩,
   ⟨up (wt .safe) (fun h => { h with sup := { h.sup with safeRecorded := false, safeCause := 0x30 } }), by decide +kernel⟩,
   ⟨up (wt .run) (fun h => (h.setCyc 4 { pdPend := true, dead := 5000100000 }).fset R.PAIR_CFG_ENABLE 1), 4, by unfold State.tbRoom; decide +kernel⟩,
   ⟨up (wt .run) (fun h => { h with pend := [(0x40010014, 7#32)] }), 0x40010014, 7#32, by unfold State.tbRoom; decide +kernel⟩,
   ⟨up (wt .stop) (fun h => (h.fset R.TSK_TMR_INDEX_INDEX 9).setReg (R.TSK_TMR_DATAw 1) 3#32), 9, by decide +kernel⟩,
   ⟨wt .run, by decide +kernel⟩,
   ⟨up (wt .run) (fun h => ({ h with tsk := { h.tsk with forces := [(0, { active := true })] } }.fset R.TSK_FORCE_CFG_FLASH 1).fset R.TSK_FORCE_STATUS_COUNT 1), by unfold State.tbRoom; decide +kernel⟩⟩

/-- States and operands that meet the hypotheses of each clause of NvStoreWrites (1 of 2). -/
theorem test_meets_NvStoreWrites1 :
    (∃ (s : State) (a : Nat) (bs : List Byte) (d : Desc), s.hw.nvs.busy = some (.user (0x50300000 + a) bs (.cmd d true)) ∧ s.hw.nvs.queue = [] ∧ d.src.isEng = false ∧ d.relayed = false ∧ s.hw.hif.lost = [] ∧ s.evRoom 1) ∧
    (∃ (s : State) (b : Nat) (q : Nat) (l : Nat), s.hw.nvs.busy = some (.retCommit b q l) ∧ b < 2 ∧ s.hw.nvs.queue = []) ∧
    (∃ (s : State) (la : Bool) (a : Nat), s.hw.nvs.busy = some (.state la a) ∧ s.hw.nvs.queue = [] ∧ s.hw.mode ≠ .recovery ∧ (s.hw.nvs.stateRec.cur.map (fun (c : Nat × Bool × Nat) => c.1)).getD 0 < 4294967295) ∧
    (∃ (s : State) (a : Nat) (bs : List Byte), s.hw.nvs.busy = some (.record a bs) ∧ bs.length = 32 ∧ leNat (bs.take 2) ≠ 0x9012 ∧ s.hw.nvs.queue = [] ∧ s.hw.evr.freezing = none) ∧
    (∃ (s : State) (a : Nat) (d : Desc), s.hw.nvs.norOps = [NorOp.eraseSlot a d] ∧ s.hw.nvs.norFail = false ∧ d.src.isEng = false ∧ d.relayed = false ∧ s.hw.hif.lost = [] ∧ s.evRoom 1) ∧
    (∃ (s : State) (a : Nat) (d : Desc), s.hw.nvs.norOps = [NorOp.eraseSlot a d] ∧ s.hw.nvs.norFail = false ∧ d.src.isEng = false ∧ d.relayed = false ∧ s.hw.hif.lost = [] ∧ s.evRoom 2 ∧ d.op = 0x0605) ∧
    (∃ (s : State) (a : Nat), s.hw.nvs.scrubCmd = none ∧ s.hw.powered = true ∧ s.hw.mode ≠ .parked ∧ s.hw.fget R.SUP_ADMIT_STATUS_RUNNING = 0 ∧ s.hw.nvs.scrubRef = false ∧ s.hw.fget R.NVS_SCRUB_STATUS_SLICE = a ∧ (s.hw.nvs.corr ++ s.hw.nvs.uncorr).any (inSlice a) = false ∧ a < 127) ∧
    (∃ (s : State) (a : Nat), s.hw.nvs.scrubCmd = none ∧ s.hw.powered = true ∧ s.hw.mode ≠ .parked ∧ s.hw.fget R.SUP_ADMIT_STATUS_RUNNING = 0 ∧ s.hw.nvs.scrubRef = false ∧ s.hw.fget R.NVS_SCRUB_STATUS_SLICE = a ∧ (s.hw.nvs.corr ++ s.hw.nvs.uncorr).any (inSlice a) = false ∧ a = 127 ∧ s.evRoom 1) ∧
    (∃ (s : State) (u : Unlock), s.hw.nvs.unlocks = [u]) :=
  ⟨⟨up (wt .stop) (fun h => { h with nvs := { h.nvs with busy := some (.user 0x50300005 [1#8, 2#8] (.cmd { tag := 3, op := 0x0602 } true)) } }.fset R.NVS_STATUS_BUSY 1), 5, [1#8, 2#8], { tag := 3, op := 0x0602 }, by unfold State.evRoom; decide +kernel⟩,
   ⟨up (wt .stop) (fun h => { h with nvs := { h.nvs with busy := some (.retCommit 1 7 9) } }.fset R.NVS_STATUS_BUSY 1), 1, 7, 9, by decide +kernel⟩,
   ⟨up (wt .stop) (fun h => { h with nvs := { h.nvs with busy := some (.state true 2) } }.fset R.NVS_STATUS_BUSY 1), true, 2, by decide +kernel⟩,
   ⟨up (wt .stop) (fun h => { h with nvs := { h.nvs with busy := some (.record 0x50100020 (List.replicate 32 7#8)) } }.fset R.NVS_STATUS_BUSY 1), 0x50100020, List.replicate 32 7#8, by decide +kernel⟩,
   ⟨up (wt .stop) (fun h => { h with nvs := { h.nvs with norOps := [NorOp.eraseSlot 1 { op := 0x0605 }], norProg := [(1, { retired := true })] } }.actSet .nor true), 1, { op := 0x0605 }, by unfold State.evRoom; decide +kernel⟩,
   ⟨up (wt .stop) (fun h => { h with nvs := { h.nvs with norOps := [NorOp.eraseSlot 1 { op := 0x0605 }], norProg := [(1, { retired := true })] } }.actSet .nor true), 1, { op := 0x0605 }, by unfold State.evRoom; decide +kernel⟩,
   ⟨up (wt .run) (fun h => h.fset R.NVS_SCRUB_STATUS_SLICE 126), 126, by decide +kernel⟩,
   ⟨up (wt .run) (fun h => h.fset R.NVS_SCRUB_STATUS_SLICE 127), 127, by unfold State.evRoom; decide +kernel⟩,
   ⟨up (wt .run) (fun h => { h with nvs := { h.nvs with unlocks := [{ pwd := 3, src := 0, last := 4000000000 }] } }), { pwd := 3, src := 0, last := 4000000000 }, by decide +kernel⟩⟩

/-- States and operands that meet the hypotheses of each clause of NvStoreWrites (2 of 2). -/
theorem test_meets_NvStoreWrites2 :
    (∃ (s : State), s.hw.mode ≠ .parked) ∧
    (∃ (s : State) (y : Xfer), s.hw.hif.xfers = [y] ∧ y.op = 0x0801) :=
  ⟨⟨wt .run, by decide +kernel⟩,
   ⟨up (wt .stop) (fun h => { h with hif := { h.hif with xfers := [{ op := 0x0801, src := .ring 0 0, p0 := 0, next := 4, last := 4000000000 }] } }.actSet .cfg true), { op := 0x0801, src := .ring 0 0, p0 := 0, next := 4, last := 4000000000 }, by decide +kernel⟩⟩

/-- States and operands that meet the hypotheses of each clause of NvStoreCommands (1 of 2). -/
theorem test_meets_NvStoreCommands1 :
    (∃ (s : State) (d : Desc), s.served d 0x0601 ∧ d.p0 ≤ 15 ∧ 1 ≤ d.len ∧ d.p1 + d.len ≤ 0x30000 ∧ s.hw.pwdOpen d.p0 0 d.src = true ∧ s.hw.nvs.injRead = false ∧ ((s.hw.nvs.uncorr ++ s.hw.nvs.corr).all (fun g => decide (g < (0x50300000 + d.p0 * 0x30000 + d.p1) / 8 ∨ ((0x50300000 + d.p0 * 0x30000 + d.p1) + d.len - 1) / 8 < g)) = true) ∧ (pagesOf (0x50300000 + d.p0 * 0x30000 + d.p1) d.len).all s.hw.pageOk = true) ∧
    (∃ (s : State) (d : Desc), s.served d 0x0601 ∧ d.p0 ≤ 15 ∧ 1 ≤ d.len ∧ d.p1 + d.len ≤ 0x30000 ∧ s.hw.pwdOpen d.p0 0 d.src = false ∧ s.evRoom 1) ∧
    (∃ (s : State) (d : Desc), s.served d 0x0602 ∧ d.p0 ≤ 15 ∧ 1 ≤ d.len ∧ d.p1 + d.len ≤ 0x30000 ∧ s.hw.pwdOpen d.p0 1 d.src = true ∧ d.p1 % 256 + d.len ≤ 256 ∧ d.data.length = d.len) ∧
    (∃ (s : State) (d : Desc), s.served d 0x0603 ∧ d.p0 ≤ 15 ∧ d.p1 ≤ 1 ∧ s.hw.fbit R.NVS_STATUS_ARMED = true ∧ s.hw.pwdState.2.testBit (d.p0 * 2 + d.p1) = true ∧ s.evRoom 1) ∧
    (∃ (s : State) (d : Desc), s.served d 0x0603 ∧ d.p0 ≤ 15 ∧ d.p1 ≤ 1 ∧ s.hw.fbit R.NVS_STATUS_ARMED = true ∧ s.hw.pwdState.2.testBit (d.p0 * 2 + d.p1) = false ∧ d.aux = 1 ∧ s.evRoom 1 ∧ tget 0 s.hw.pwdState.1 (d.p0 * 2 + d.p1) = 0) ∧
    (∃ (s : State) (d : Desc), s.served d 0x0603 ∧ d.p0 ≤ 15 ∧ d.p1 ≤ 1 ∧ s.hw.fbit R.NVS_STATUS_ARMED = true ∧ s.hw.pwdState.2.testBit (d.p0 * 2 + d.p1) = false ∧ s.hw.pwdDigest d.p0 d.p1 ≠ 0 ∧ d.aux ≠ 1 ∧ s.evRoom 2 ∧ tget 0 s.hw.pwdState.1 (d.p0 * 2 + d.p1) < 7) ∧
    (∃ (s : State) (d : Desc), s.served d 0x0603 ∧ d.p0 ≤ 15 ∧ d.p1 ≤ 1 ∧ s.hw.fbit R.NVS_STATUS_ARMED = true ∧ s.hw.pwdState.2.testBit (d.p0 * 2 + d.p1) = false ∧ s.hw.pwdDigest d.p0 d.p1 ≠ 0 ∧ d.aux ≠ 1 ∧ s.evRoom 2 ∧ 7 ≤ tget 0 s.hw.pwdState.1 (d.p0 * 2 + d.p1)) ∧
    (∃ (s : State) (d : Desc), s.served d 0x0604 ∧ s.allows .scr { d with op := 0x0604 }) ∧
    (∃ (s : State) (d : Desc), s.served d 0x0605 ∧ s.allows .nor { d with op := 0x0605 } ∧ s.hw.oldSectors = [] ∧ s.evRoom 1) :=
  ⟨⟨up (wt .run) (fun h => { (h.setMb 0x50330002 9#8) with nvs := { h.nvs with writes := [(pageOf 0x50330002, 1)] } }), { p0 := 1, p1 := 2, len := 3 }, by unfold State.served; decide +kernel⟩,
   ⟨up (wt .run) (fun h => { h with nvs := { h.nvs with pwdDigests := [(2, 77)] } }), { p0 := 1, p1 := 2, len := 3 }, by unfold State.served State.evRoom; decide +kernel⟩,
   ⟨wt .run, { p0 := 1, p1 := 2, len := 3, data := [1#8, 2#8, 3#8] }, by unfold State.served; decide +kernel⟩,
   ⟨up (wt .run) (fun h => { h with nvs := { h.nvs with pwdRec := { a := some (1, ([], 8)) } } }), { p0 := 1, p1 := 1 }, by unfold State.served State.evRoom; decide +kernel⟩,
   ⟨up (wt .run) (fun h => { h with nvs := { h.nvs with pwdDigests := [(2, 77)] } }), { p0 := 1, p1 := 0, aux := 1 }, by unfold State.served State.evRoom; decide +kernel⟩,
   ⟨up (wt .run) (fun h => { h with nvs := { h.nvs with pwdDigests := [(2, 77)] } }), { p0 := 1, p1 := 0 }, by unfold State.served State.evRoom; decide +kernel⟩,
   ⟨up (wt .run) (fun h => { h with nvs := { h.nvs with pwdDigests := [(2, 77)], pwdRec := { a := some (1, ([(2, 7)], 0)) } } }), { p0 := 1, p1 := 0 }, by unfold State.served State.evRoom; decide +kernel⟩,
   ⟨wt .run, {}, by unfold State.served State.allows; decide +kernel⟩,
   ⟨wt .stop, {}, by unfold State.served State.allows State.evRoom; decide +kernel⟩⟩

/-- States and operands that meet the hypotheses of each clause of NvStoreCommands (2 of 2). -/
theorem test_meets_NvStoreCommands2 :
    (∃ (s : State) (d : Desc), s.served d 0x0605 ∧ s.allows .nor { d with op := 0x0605 } ∧ s.hw.oldSectors ≠ []) ∧
    (∃ (s : State) (d : Desc), s.served d 0x0605 ∧ s.allows .nor { d with op := 0x0605 } ∧ s.evRoom 1) ∧
    (∃ (s : State) (d : Desc), s.served d 0x0606 ∧ s.allows .fwu { d with op := 0x0606 } ∧ d.p2 = 0 ∧ d.len ≤ 0x7F0000 ∧ d.flags.testBit 2 = true ∧ s.hw.journalNew.st = 0 ∧ s.hw.hif.xfers = [] ∧ s.evRoom 2) :=
  ⟨⟨up (wt .stop) (fun h => { ((h.setMb 0x66000000 1#8).setMb 0x6600001F 0xA5#8) with nvs := { h.nvs with recPtrRec := { a := some (1, { clearSeq := 100 }) } } }), {}, by unfold State.served State.allows; decide +kernel⟩,
   ⟨wt .stop, {}, by unfold State.served State.allows State.evRoom; decide +kernel⟩,
   ⟨wt .service, { flags := 4, len := 4096 }, by unfold State.served State.allows State.evRoom; decide +kernel⟩⟩

/-- States and operands that meet the hypotheses of each clause of Recorder (1 of 3). -/
theorem test_meets_Recorder1 :
    (∃ (s : State) (c : BitVec 16), c.toNat < 0xC000 ∧ s.evRoom 1) ∧
    (∃ (s : State) (c : BitVec 16), 0xC000 ≤ c.toNat) ∧
    (∃ (s : State) (c : BitVec 16), c.toNat < 0xC000 ∧ (512 ≤ s.hw.evr.inq.length ∨ s.hw.evr.injFull = true)) ∧
    (∃ (s : State) (e : Ev) (l : List Ev), s.hw.fbit R.NVS_STATUS_ARMED = true ∧ s.hw.evr.clearing = none ∧ s.hw.evr.freezing = none ∧ s.hw.evr.inq = e :: l ∧ s.hw.evr.lostCount = 0 ∧ s.hw.rateOf e.code = none ∧ s.hw.evr.frozen = none ∧ ((s.hw.fget R.EVR_SEQ_NEXT_SEQ + 2 ^ 32 - s.hw.recPtrNew.offset) % 65536) % 8 ≠ 0 ∧ s.hw.hif.waits = []) ∧
    (∃ (s : State) (e : Ev) (l : List Ev) (y : Src) (x : Nat), s.hw.fbit R.NVS_STATUS_ARMED = true ∧ s.hw.evr.clearing = none ∧ s.hw.evr.freezing = none ∧ s.hw.evr.inq = e :: l ∧ s.hw.evr.lostCount = 0 ∧ s.hw.rateOf e.code = none ∧ s.hw.evr.frozen = some (y, x) ∧ s.hw.evr.heldq.length < 256 ∧ s.hw.evr.injHeld = false) ∧
    (∃ (s : State) (e : Ev) (l : List Ev) (i : Nat), s.hw.fbit R.NVS_STATUS_ARMED = true ∧ s.hw.evr.clearing = none ∧ s.hw.evr.freezing = none ∧ s.hw.evr.inq = e :: l ∧ s.hw.evr.lostCount = 0 ∧ s.hw.rateOf e.code = some i ∧ (s.hw.rate i).tokens = 0) ∧
    (∃ (s : State) (e : Ev) (l : List Ev) (i : Nat), s.hw.fbit R.NVS_STATUS_ARMED = true ∧ s.hw.evr.clearing = none ∧ s.hw.evr.freezing = none ∧ s.hw.evr.inq = e :: l ∧ s.hw.evr.lostCount = 0 ∧ s.hw.rateOf e.code = some i ∧ 0 < (s.hw.rate i).tokens ∧ s.hw.evr.frozen = none ∧ ((s.hw.fget R.EVR_SEQ_NEXT_SEQ + 2 ^ 32 - s.hw.recPtrNew.offset) % 65536) % 8 ≠ 0 ∧ s.hw.hif.waits = []) ∧
    (∃ (s : State) (j : Fin 1024), (s.hw.rate j.val).tokens < (s.hw.rate j.val).burst ∧ (s.hw.rate j.val).code ≠ 0 ∧ (s.hw.rate j.val).supp = 0) ∧
    (∃ (s : State) (j : Fin 1024), (s.hw.rate j.val).tokens < (s.hw.rate j.val).burst ∧ (s.hw.rate j.val).code ≠ 0 ∧ (s.hw.rate j.val).supp ≠ 0 ∧ s.evRoom 1) :=
  ⟨⟨wt .run, 0x4018#16, by unfold State.evRoom; decide +kernel⟩,
   ⟨wt .run, 0xC000#16, by decide +kernel⟩,
   ⟨up (wt .run) (fun h => { h with evr := { h.evr with injFull := true } }), 0x4018#16, by decide +kernel⟩,
   ⟨up (wt .run) (fun h => ({ h with evr := { h.evr with inq := [{ code := 0x8003, p0 := 1 }] } }.fset R.EVR_SEQ_NEXT_SEQ 5)), { code := 0x8003, p0 := 1 }, [], by decide +kernel⟩,
   ⟨up (wt .run) (fun h => { h with evr := { h.evr with inq := [{ code := 0x8003, p0 := 1 }], frozen := some (.ring 0 0, 7) } }), { code := 0x8003, p0 := 1 }, [], .ring 0 0, 7, by decide +kernel⟩,
   ⟨up (wt .run) (fun h => { h with evr := { h.evr with inq := [{ code := 0x4018 }] } }.setRate 0 { code := 0x4018, burst := 4, tokens := 0 }), { code := 0x4018 }, [], 0, by decide +kernel⟩,
   ⟨up (wt .run) (fun h => ({ h with evr := { h.evr with inq := [{ code := 0x4018 }] } }.setRate 0 { code := 0x4018, burst := 4, tokens := 2 }).fset R.EVR_SEQ_NEXT_SEQ 5), { code := 0x4018 }, [], 0, by decide +kernel⟩,
   ⟨up (wt .run) (fun h => h.setRate 0 { code := 0x4018, burst := 4, tokens := 2, since := 4999000000 }), 0, by decide +kernel⟩,
   ⟨up (wt .run) (fun h => h.setRate 0 { code := 0x4018, burst := 4, tokens := 0, since := 4999000000, supp := 3, lastSupp := 4999500000 }), 0, by unfold State.evRoom; decide +kernel⟩⟩

/-- States and operands that meet the hypotheses of each clause of Recorder (2 of 3). -/
theorem test_meets_Recorder2 :
    (∃ (s : State) (y : Src) (x : Nat), s.hw.evr.frozen = some (y, x)) ∧
    (∃ (s : State) (d : Desc), s.served d 0x0501 ∧ d.p2 = 0 ∧ s.hw.nvs.injRead = false ∧ s.hw.nvs.uncorr = [] ∧ 1 ≤ d.p1 ∧ d.p1 ≤ 8192 ∧ s.hw.endedFor d = none ∧ 32 * d.p1 ≤ d.len ∧ d.src.isEng = false) ∧
    (∃ (s : State) (d : Desc), s.served d 0x0501 ∧ d.p2 = 1 ∧ s.allows .rrf { d with op := 0x0501 } ∧ s.hw.hif.waits = [] ∧ 1 ≤ d.p1 ∧ d.p1 ≤ 8192 ∧ s.hw.endedFor d = none ∧ 32 * d.p1 ≤ d.len ∧ d.src.isEng = false) ∧
    (∃ (s : State) (d : Desc) (x : Nat) (i : Nat) (bs : List Byte), s.hw.evr.freezing = some (d, x) ∧ s.hw.nvs.busy = some (.record i bs) ∧ bs.length = 32 ∧ leNat (bs.take 2) = 0x9003 ∧ s.hw.nvs.queue = [] ∧ s.hw.lateErr d = false) ∧
    (∃ (s : State) (d : Desc) (x : Nat), s.served d 0x0501 ∧ s.hw.endedFor d = some x ∧ d.p2 ≤ 1 ∧ 1 ≤ d.p1 ∧ d.p1 ≤ 8192 ∧ 32 * d.p1 ≤ d.len ∧ s.evRoom 1) ∧
    (∃ (s : State) (d : Desc), s.served d 0x0502 ∧ s.hw.endedFor d = none ∧ s.hw.evr.frozen = none ∧ s.evRoom 1) ∧
    (∃ (s : State) (d : Desc) (y : Src) (x : Nat), s.served d 0x0502 ∧ s.hw.endedFor d = none ∧ s.hw.evr.frozen = some (y, x) ∧ y.code ≠ d.src.code ∧ s.evRoom 1) ∧
    (∃ (s : State) (d : Desc) (y : Src) (x : Nat), s.served d 0x0502 ∧ s.hw.endedFor d = none ∧ s.hw.evr.frozen = some (y, x) ∧ y.code = d.src.code ∧ s.hw.hif.waits = []) ∧
    (∃ (s : State) (d : Desc), s.served d 0x0503 ∧ 32 ≤ d.len ∧ s.evRoom 1) :=
  ⟨⟨up (wt .run) (fun h => ({ h with evr := { h.evr with frozen := some (.ring 0 0, 4000000000) } }.fset R.EVR_STATUS_FROZEN 1).actSet .rrf true), .ring 0 0, 4000000000, by decide +kernel⟩,
   ⟨up (wt .run) (fun h => ((h.setMbs 0x50100000 (recBytes { code := 0x8003 } 0 false false false)).fset R.EVR_SEQ_NEXT_SEQ 1).actSet .rcl false), { p0 := 0, p1 := 4, len := 128 }, by unfold State.served; decide +kernel⟩,
   ⟨wt .run, { p0 := 0, p1 := 4, p2 := 1, len := 128 }, by unfold State.served State.allows; decide +kernel⟩,
   ⟨up (wt .run) (fun h => ({ h with evr := { h.evr with freezing := some ({ op := 0x0501, p1 := 4, p2 := 1, len := 128 }, 4000000000) }, nvs := { h.nvs with busy := some (.record 0x50100020 (recBytes { code := 0x9003 } 1 false false false)) } }.fset R.NVS_STATUS_BUSY 1).actSet .rrf true), { op := 0x0501, p1 := 4, p2 := 1, len := 128 }, 4000000000, 0x50100020, recBytes { code := 0x9003 } 1 false false false, by decide +kernel⟩,
   ⟨up (wt .run) (fun h => { h with evr := { h.evr with ended := [(.ring 0 0, 3)] } }), { p1 := 4, len := 128 }, 3, by unfold State.served State.evRoom; decide +kernel⟩,
   ⟨wt .run, {}, by unfold State.served State.evRoom; decide +kernel⟩,
   ⟨up (wt .run) (fun h => ({ h with evr := { h.evr with frozen := some (.ring 0 0, 4000000000) } }.fset R.EVR_STATUS_FROZEN 1).actSet .rrf true), { src := .ring 2 0 }, .ring 0 0, 4000000000, by unfold State.served State.evRoom; decide +kernel⟩,
   ⟨up (wt .run) (fun h => ({ h with evr := { h.evr with frozen := some (.ring 0 0, 4000000000) } }.fset R.EVR_STATUS_FROZEN 1).actSet .rrf true), {}, .ring 0 0, 4000000000, by unfold State.served; decide +kernel⟩,
   ⟨wt .service, { len := 32 }, by unfold State.served State.evRoom; decide +kernel⟩⟩

/-- States and operands that meet the hypotheses of each clause of Recorder (3 of 3). -/
theorem test_meets_Recorder3 :
    (∃ (s : State) (bs : List Byte) (x : Nat), s.hw.evr.challenge = some (bs, x)) ∧
    (∃ (s : State) (d : Desc), s.served d 0x0504 ∧ d.p0 ≤ 15 ∧ d.len = 3309 ∧ s.allows .rcl { d with op := 0x0504 } ∧ s.hw.evr.challenge = none ∧ s.evRoom 2) ∧
    (∃ (s : State) (d : Desc) (bs : List Byte) (x : Nat), s.served d 0x0504 ∧ d.p0 ≤ 15 ∧ d.len = 3309 ∧ s.allows .rcl { d with op := 0x0504 } ∧ s.hw.evr.challenge = some (bs, x) ∧ s.hw.clk.up ≤ x + 60000000000 ∧ s.otp.usable d.p0 2 = true ∧ d.aux = 1 ∧ s.hw.sup.injSig = false) ∧
    (∃ (s : State) (i : Nat), s.hw.fget R.SUP_ADMIT_STATUS_RUNNING &&& 0xFFE = 0 ∧ s.hw.evr.archiving = none ∧ s.hw.powered = true ∧ s.hw.archPage = some i) ∧
    (∃ (s : State), s.hw.powered = true) ∧
    (∃ (s : State) (p : Word), s.hw.stopClass = true ∧ (rateClash (fun a => if a = s.hw.fget R.EVR_RL_INDEX_INDEX then rateOfWords (s.hw.fget R.EVR_RL_INDEX_INDEX) (s.hw.reg R.EVR_RL_DATA0, p) else s.hw.rate a) (List.range 12 ++ (s.hw.evr.rates.map (fun (z : Nat × Rate) => z.1)).filter (fun a => decide (12 ≤ a))) (s.hw.fget R.EVR_RL_INDEX_INDEX) = false)) ∧
    (∃ (s : State) (p : Word), s.hw.stopClass = true ∧ (rateClash (fun a => if a = s.hw.fget R.EVR_RL_INDEX_INDEX then rateOfWords (s.hw.fget R.EVR_RL_INDEX_INDEX) (s.hw.reg R.EVR_RL_DATA0, p) else s.hw.rate a) (List.range 12 ++ (s.hw.evr.rates.map (fun (z : Nat × Rate) => z.1)).filter (fun a => decide (12 ≤ a))) (s.hw.fget R.EVR_RL_INDEX_INDEX) = true) ∧ s.evRoom 1) :=
  ⟨⟨up (wt .service) (fun h => { h with evr := { h.evr with challenge := some ([1#8], 5) } }), [1#8], 5, by decide +kernel⟩,
   ⟨wt .service, { p0 := 1, len := 3309 }, by unfold State.served State.allows State.evRoom; decide +kernel⟩,
   ⟨{ up (wt .service) (fun h => { h with evr := { h.evr with challenge := some ([1#8], 5) } }) with otp := { bytes := [(0x160, 4#8), (0x17F, 0xA5#8)] } }, { p0 := 1, len := 3309, aux := 1 }, [1#8], 5, by unfold State.served State.allows; decide +kernel⟩,
   ⟨up (wt .run) (fun h => { ((h.setMb 0x5010001F 0xA5#8).fset R.EVR_SEQ_NEXT_SEQ 20) with nvs := { h.nvs with recPtrRec := { a := some (1, { page := 2 }) } } }), 0, by decide +kernel⟩,
   ⟨wt .run, by decide +kernel⟩,
   ⟨up (wt .stop) (fun h => (h.fset R.EVR_RL_INDEX_INDEX 20).setReg R.EVR_RL_DATA0 0x00028123#32), 500#32, by decide +kernel⟩,
   ⟨up (wt .stop) (fun h => (h.fset R.EVR_RL_INDEX_INDEX 20).setReg R.EVR_RL_DATA0 0x00024018#32), 500#32, by unfold State.evRoom; decide +kernel⟩⟩

/-- States and operands that meet the hypotheses of each clause of NetworkFrames (1 of 3). -/
theorem test_meets_NetworkFrames1 :
    (∃ (s : State) (b : Bool), s.hw.powered = true ∧ s.hw.mode ≠ .parked ∧ s.evRoom 1 ∧ s.hw.fbit (portLink b) = true) ∧
    (∃ (s : State) (b : Bool), s.hw.powered = true ∧ s.hw.mode ≠ .parked ∧ s.evRoom 1 ∧ s.hw.fbit (portLink b) = false ∧ s.hw.fget (portMode b) ∈ [0, 2] ∧ s.hw.net.injPort = none) ∧
    (∃ (s : State) (f : RxFrame) (t0 : PdTelegram) (i : Nat), s.hw.netOn = true ∧ s.hw.fbit (portLink f.portB) = true ∧ f.full = false ∧ f.size ≤ 1522 ∧ f.trailer = none ∧ f.ok = true ∧ t0.crcOk = true ∧ s.hw.hbTelegram f t0 = false ∧ s.hw.net.sess.filter (fun (p : Nat × Sess) => s.hw.takes p.2 f t0) = [(i, (s.hw.sess i))] ∧ t0.len = (s.hw.sess i).dataLen ∧ (s.hw.sess i).topoChk = false ∧ ((s.hw.sess i).never = true ∨ (s.hw.sess i).valid = false ∨ (let dd := (t0.seq + 2 ^ 32 - (s.hw.sess i).seq) % 2 ^ 32; 1 ≤ dd ∧ dd < 2 ^ 31))) ∧
    (∃ (s : State) (f : RxFrame) (t0 : PdTelegram) (i : Nat), s.hw.netOn = true ∧ s.hw.fbit (portLink f.portB) = true ∧ f.full = false ∧ f.size ≤ 1522 ∧ f.trailer = none ∧ f.ok = true ∧ t0.crcOk = true ∧ s.hw.hbTelegram f t0 = false ∧ s.hw.net.sess.filter (fun (p : Nat × Sess) => s.hw.takes p.2 f t0) = [(i, (s.hw.sess i))] ∧ t0.len = (s.hw.sess i).dataLen ∧ (s.hw.sess i).topoChk = false ∧ (s.hw.sess i).never = false ∧ (s.hw.sess i).valid = true ∧ t0.seq < 2 ^ 32 ∧ (s.hw.sess i).seq = t0.seq) ∧
    (∃ (s : State) (f : RxFrame) (t0 : PdTelegram) (i : Nat), s.hw.netOn = true ∧ s.hw.fbit (portLink f.portB) = true ∧ f.full = false ∧ f.size ≤ 1522 ∧ f.trailer = none ∧ f.ok = true ∧ t0.crcOk = true ∧ s.hw.hbTelegram f t0 = false ∧ s.hw.net.sess.filter (fun (p : Nat × Sess) => s.hw.takes p.2 f t0) = [(i, (s.hw.sess i))] ∧ t0.len = (s.hw.sess i).dataLen ∧ (s.hw.sess i).topoChk = false ∧ (s.hw.sess i).never = false ∧ (s.hw.sess i).valid = true ∧ 2 ^ 31 ≤ (t0.seq + 2 ^ 32 - (s.hw.sess i).seq) % 2 ^ 32 ∧ (s.hw.sess i).restartRun ≠ 0 ∧ t0.seq = ((s.hw.sess i).runSeq + 1) % 2 ^ 32 ∧ 1 ≤ s.hw.fget R.NET_TRDP_CFG_RESTART_N ∧ s.hw.fget R.NET_TRDP_CFG_RESTART_N ≤ (s.hw.sess i).restartRun + 1 ∧ s.evRoom 1) ∧
    (∃ (s : State) (f : RxFrame) (t0 : PdTelegram) (i : Nat), s.hw.netOn = true ∧ s.hw.fbit (portLink f.portB) = true ∧ f.full = false ∧ f.size ≤ 1522 ∧ f.trailer = none ∧ f.ok = true ∧ t0.crcOk = true ∧ s.hw.hbTelegram f t0 = false ∧ s.hw.net.sess.filter (fun (p : Nat × Sess) => s.hw.takes p.2 f t0) = [(i, (s.hw.sess i))] ∧ t0.len ≠ (s.hw.sess i).dataLen ∧ s.evRoom 1) ∧
    (∃ (s : State) (f : RxFrame) (n : Nat) (e : Nat × Nat × Nat) (l : List (Nat × Nat × Nat)), s.hw.netOn = true ∧ s.hw.fbit (portLink f.portB) = true ∧ f.full = false ∧ f.size ≤ 1522 ∧ (f.trailer = some (n, if f.portB then 0xB else 0xA)) ∧ s.hw.net.prp = e :: l ∧ e.1 = f.mac ∧ e.2.1 = n ∧ s.hw.clk.up < e.2.2 + s.hw.forgetNs) ∧
    (∃ (s : State) (e : Nat × Nat × Nat) (l : List (Nat × Nat × Nat)), s.hw.net.prp = e :: l) ∧
    (∃ (s : State), s.hw.netOn = true ∧ s.hw.fbit R.NET_PRP_CFG_SUP_EN = true) :=
  ⟨⟨up (wt .run) (fun h => (h.fset R.NET_PORT_STATUS_A_LINK 1).fset R.NET_PORT_STATUS_A_1000 1), false, by unfold State.evRoom; decide +kernel⟩,
   ⟨wt .run, true, by unfold State.evRoom; decide +kernel⟩,
   ⟨up (up (wt .run) (fun h => (h.fset R.NET_PORT_STATUS_A_LINK 1).fset R.NET_PORT_STATUS_A_1000 1)) (fun h => h.setSess 1 { words := [0x00040002#32, 100#32, 0x00640000#32, 0#32, 0#32, 0x4000#32, 0#32, 0#32] }), {}, { comId := 100, seq := 7, len := 4, bytes := [1#8, 2#8, 3#8, 4#8] }, 1, by decide +kernel⟩,
   ⟨up (up (wt .run) (fun h => (h.fset R.NET_PORT_STATUS_A_LINK 1).fset R.NET_PORT_STATUS_A_1000 1)) (fun h => h.setSess 1 { words := [0x00040002#32, 100#32, 0x00640000#32, 0#32, 0#32, 0x4000#32, 0#32, 0#32], never := false, valid := true, seq := 7 }), {}, { comId := 100, seq := 7, len := 4 }, 1, by decide +kernel⟩,
   ⟨up (up (wt .run) (fun h => (h.fset R.NET_PORT_STATUS_A_LINK 1).fset R.NET_PORT_STATUS_A_1000 1)) (fun h => h.setSess 1 { words := [0x00040002#32, 100#32, 0x00640000#32, 0#32, 0#32, 0x4000#32, 0#32, 0#32], never := false, valid := true, seq := 700, restartRun := 2, runSeq := 6 }), {}, { comId := 100, seq := 7, len := 4, bytes := [9#8] }, 1, by unfold State.evRoom; decide +kernel⟩,
   ⟨up (up (wt .run) (fun h => (h.fset R.NET_PORT_STATUS_A_LINK 1).fset R.NET_PORT_STATUS_A_1000 1)) (fun h => h.setSess 1 { words := [0x00040002#32, 100#32, 0x00640000#32, 0#32, 0#32, 0x4000#32, 0#32, 0#32] }), {}, { comId := 100, seq := 7, len := 5 }, 1, by unfold State.evRoom; decide +kernel⟩,
   ⟨up (up (wt .run) (fun h => (h.fset R.NET_PORT_STATUS_A_LINK 1).fset R.NET_PORT_STATUS_A_1000 1)) (fun h => { h with net := { h.net with prp := [(5, 9, 4999999000)] } }), { mac := 5, trailer := some (9, 10) }, 9, (5, 9, 4999999000), [], by decide +kernel⟩,
   ⟨up (wt .run) (fun h => { h with net := { h.net with prp := [(5, 9, 4999999000), (6, 9, 4999999100)] } }), (5, 9, 4999999000), [(6, 9, 4999999100)], by decide +kernel⟩,
   ⟨wt .run, by decide +kernel⟩⟩

/-- States and operands that meet the hypotheses of each clause of NetworkFrames (2 of 3). -/
theorem test_meets_NetworkFrames2 :
    (∃ (s : State) (j : Fin 512), (s.hw.sess j.val).kind = 2 ∧ (s.hw.sess j.val).valid = true ∧ (s.hw.sess j.val).dropUntil = 0 ∧ s.evRoom 1) ∧
    (∃ (s : State) (j : Fin 512), s.tbRoom (s.hw.nextInstant (s.hw.sess j.val)) ∧ (s.hw.sess j.val).kind = 1 ∧ s.hw.powered = true ∧ s.hw.mode.publishes = true ∧ (s.hw.sess j.val).publishing = true ∧ s.hw.route (s.hw.sess j.val).destIp = true ∧ (s.hw.sess j.val).next = none ∧ s.hw.ahead j.val (s.hw.nextInstant (s.hw.sess j.val)) = []) ∧
    (∃ (s : State) (j : Fin 512), s.tbRoom (s.hw.nextInstant (s.hw.sess j.val)) ∧ (s.hw.sess j.val).kind = 1 ∧ s.hw.powered = true ∧ s.hw.mode.publishes = true ∧ (s.hw.sess j.val).publishing = true ∧ (s.hw.sess j.val).next = none ∧ s.hw.ahead j.val (s.hw.nextInstant (s.hw.sess j.val)) = [] ∧ s.evRoom 1) ∧
    (∃ (s : State) (j : Fin 512), s.tbRoom (s.hw.nextInstant (s.hw.sess j.val)) ∧ (s.hw.sess j.val).kind = 1 ∧ s.hw.powered = true ∧ s.hw.mode.publishes = true ∧ (s.hw.sess j.val).publishing = true ∧ s.hw.route (s.hw.sess j.val).destIp = false ∧ (s.hw.sess j.val).nodir = false ∧ s.evRoom 1 ∧ (s.hw.sess j.val).next = none ∧ s.hw.ahead j.val (s.hw.nextInstant (s.hw.sess j.val)) = []) ∧
    (∃ (s : State) (f : RxFrame) (t0 : PdTelegram) (ip : Word) (i : Nat), s.hw.netOn = true ∧ s.hw.fbit (portLink f.portB) = true ∧ f.full = false ∧ f.size ≤ 1522 ∧ f.trailer = none ∧ f.ok = true ∧ t0.crcOk = true ∧ t0.ver / 256 = 1 ∧ t0.msg = 0x5072 ∧ s.hw.mode.publishes = true ∧ s.hw.mode ≠ .follow ∧ s.hw.net.sess.filter (fun (p : Nat × Sess) => p.2.kind == 1 && p.2.pull && p.2.comId == t0.comId) = [(i, (s.hw.sess i))] ∧ (s.hw.sess i).pullAt = none ∧ (s.hw.route (if ip = 0#32 then f.ip else ip.toNat) = true)) ∧
    (∃ (s : State) (j : Fin 512), s.tbRoom (s.hw.nextInstant (s.hw.sess j.val)) ∧ (s.hw.sess j.val).kind = 2 ∧ (s.hw.sess j.val).pull = true ∧ s.hw.netOn = true ∧ s.hw.route (s.hw.sess j.val).destIp = true) ∧
    (∃ (s : State) (f : RxFrame) (c : Word) (bs : List Byte) (i : Nat) (q : Nat), s.hw.netOn = true ∧ s.hw.fbit (portLink f.portB) = true ∧ f.full = false ∧ f.size ≤ 1522 ∧ f.trailer = none ∧ f.ok = true ∧ bs.length ≤ 16384 ∧ s.hw.net.sess.find? (fun (p : Nat × Sess) => p.2.kind == 3 && p.2.comId == c.toNat && s.hw.fromOk p.2 f.ip) = some (i, (s.hw.sess i)) ∧ (s.hw.sess i).eng = true ∧ s.hw.dirOf f.ip = some q ∧ s.hw.dirEng q = true ∧ s.hw.net.msgs.length < 32 ∧ s.hw.net.msgCount < 500) ∧
    (∃ (s : State) (f : RxFrame) (c : Word) (bs : List Byte), s.hw.netOn = true ∧ s.hw.fbit (portLink f.portB) = true ∧ f.full = false ∧ f.size ≤ 1522 ∧ f.trailer = none ∧ f.ok = true ∧ bs.length ≤ 16384 ∧ s.hw.net.sess.find? (fun (p : Nat × Sess) => p.2.kind == 3 && p.2.comId == c.toNat && s.hw.fromOk p.2 f.ip) = none ∧ s.evRoom 1) ∧
    (∃ (s : State) (f : RxFrame) (ip : Word), s.hw.netOn = true ∧ s.hw.fbit (portLink f.portB) = true ∧ f.full = false ∧ f.size ≤ 1522 ∧ f.trailer = none ∧ f.ok = true ∧ ip ≠ 0#32 ∧ ip = s.hw.reg R.NET_IP) :=
  ⟨⟨up (up (wt .run) (fun h => (h.fset R.NET_PORT_STATUS_A_LINK 1).fset R.NET_PORT_STATUS_A_1000 1)) (fun h => h.setSess 1 { words := [0x00040006#32, 100#32, 0x0064000A#32, 0#32, 0xE0000001#32, 0x4000#32, 0#32, 0#32], valid := true, never := false, rxAt := 4950000000 }), 1, by unfold State.evRoom; decide +kernel⟩,
   ⟨up (up (wt .run) (fun h => (h.fset R.NET_PORT_STATUS_A_LINK 1).fset R.NET_PORT_STATUS_A_1000 1)) (fun h => h.setSess 1 { words := [0x00040005#32, 100#32, 0x0000000A#32, 0#32, 0xE0000001#32, 0x4000#32, 0#32, 0#32], publishing := true, txBuf := [1#8, 2#8] }), 1, by unfold State.tbRoom; decide +kernel⟩,
   ⟨up (up (wt .run) (fun h => (h.fset R.NET_PORT_STATUS_A_LINK 1).fset R.NET_PORT_STATUS_A_1000 1)) (fun h => h.setSess 1 { words := [0x00040005#32, 100#32, 0x0000000A#32, 0#32, 0xE0000001#32, 0x4000#32, 0#32, 0#32], publishing := true }), 1, by unfold State.evRoom State.tbRoom; decide +kernel⟩,
   ⟨up (up (wt .run) (fun h => (h.fset R.NET_PORT_STATUS_A_LINK 1).fset R.NET_PORT_STATUS_A_1000 1)) (fun h => h.setSess 1 { words := [0x00040005#32, 100#32, 0x0000000A#32, 0#32, 0x0A000001#32, 0x4000#32, 0#32, 0#32], publishing := true }), 1, by unfold State.evRoom State.tbRoom; decide +kernel⟩,
   ⟨up (up (wt .run) (fun h => (h.fset R.NET_PORT_STATUS_A_LINK 1).fset R.NET_PORT_STATUS_A_1000 1)) (fun h => h.setSess 1 { words := [0x00040005#32, 100#32, 0x0000000A#32, 0#32, 0xE0000001#32, 0x4000#32, 0#32, 0#32] }), { ip := 0xE0000009 }, { msg := 0x5072, comId := 100 }, 0#32, 1, by decide +kernel⟩,
   ⟨up (up (wt .run) (fun h => (h.fset R.NET_PORT_STATUS_A_LINK 1).fset R.NET_PORT_STATUS_A_1000 1)) (fun h => h.setSess 1 { words := [0x00040006#32, 100#32, 0x0064000A#32, 0#32, 0xE0000001#32, 0x4000#32, 0#32, 0#32] }), 1, by unfold State.tbRoom; decide +kernel⟩,
   ⟨up (up (up (wt .run) (fun h => (h.fset R.NET_PORT_STATUS_A_LINK 1).fset R.NET_PORT_STATUS_A_1000 1)) (fun h => h.setSess 1 { words := [0x00000103#32, 200#32, 0#32, 0#32, 0#32, 0x4000#32, 0#32, 0#32] })) (fun h => h.putDir 4 [77#32, 0#32, 0x00030000#32, 0#32]), { ip := 77 }, 200#32, [1#8], 1, 4, by decide +kernel⟩,
   ⟨up (wt .run) (fun h => (h.fset R.NET_PORT_STATUS_A_LINK 1).fset R.NET_PORT_STATUS_A_1000 1), { ip := 77 }, 200#32, [1#8], by unfold State.evRoom; decide +kernel⟩,
   ⟨up (up (wt .run) (fun h => (h.fset R.NET_PORT_STATUS_A_LINK 1).fset R.NET_PORT_STATUS_A_1000 1)) (fun h => h.setReg R.NET_IP 9#32), {}, 9#32, by decide +kernel⟩⟩

/-- States and operands that meet the hypotheses of each clause of NetworkFrames (3 of 3). -/
theorem test_meets_NetworkFrames3 :
    (∃ (s : State) (f : RxFrame) (i : Nat), s.hw.netOn = true ∧ s.hw.fbit (portLink f.portB) = true ∧ f.full = false ∧ f.size ≤ 1522 ∧ f.trailer = none ∧ f.ok = true ∧ s.hw.net.sess.filter (fun (p : Nat × Sess) => p.2.kind == 2 && multicast p.2.destIp) = [(i, (s.hw.sess i))]) ∧
    (∃ (s : State) (v : Word) (i : Nat), s.hw.stopClass = true ∧ i = s.hw.fget R.NET_SES_INDEX_INDEX ∧ (s.hw.sess i).words ≠ ((List.range 7).map (fun (w : Nat) => s.hw.reg (R.NET_SES_DATAw w)) ++ [v])) ∧
    (∃ (s : State), s.hw.stopClass = false) ∧
    (∃ (s : State) (v : Word) (i : Nat), i = s.hw.fget R.NET_DIR_INDEX_INDEX ∧ v ≠ 0#32) :=
  ⟨⟨up (up (wt .run) (fun h => (h.fset R.NET_PORT_STATUS_A_LINK 1).fset R.NET_PORT_STATUS_A_1000 1)) (fun h => h.setSess 1 { words := [0x00040006#32, 100#32, 0x0064000A#32, 0#32, 0xE0000001#32, 0x4000#32, 0#32, 0#32] }), {}, 1, by decide +kernel⟩,
   ⟨up (wt .stop) (fun h => (h.fset R.NET_SES_INDEX_INDEX 3).setReg (R.NET_SES_DATAw 0) 0x00040002#32), 0#32, 3, by decide +kernel⟩,
   ⟨wt .run, by decide +kernel⟩,
   ⟨up (wt .run) (fun h => (h.fset R.NET_DIR_INDEX_INDEX 3).setReg (R.NET_DIR_DATAw 0) 0x00040002#32), 5#32, 3, by decide +kernel⟩⟩

/-- States and operands that meet the hypotheses of each clause of NetworkTime. -/
theorem test_meets_NetworkTime :
    (∃ (s : State) (b : Bool) (w : Int), s.hw.netOn = true ∧ s.hw.fbit R.NET_PTP_CFG_ENABLE = true ∧ s.hw.fget R.NET_PTP_STATUS_PORT = b2n b ∧ s.hw.net.offA = none ∧ s.hw.net.offB = none ∧ s.hw.mode ≠ .follow ∧ w.natAbs < s.hw.stepNs ∧ 1000 ≤ w.natAbs) ∧
    (∃ (s : State) (b : Bool) (w : Int), s.hw.netOn = true ∧ s.hw.fbit R.NET_PTP_CFG_ENABLE = true ∧ s.hw.fget R.NET_PTP_STATUS_PORT = b2n b ∧ s.hw.net.offA = none ∧ s.hw.net.offB = none ∧ s.hw.mode ≠ .follow ∧ w.natAbs < 1000 ∧ 1000 ≤ s.hw.stepNs ∧ s.hw.net.smallRun = 15 ∧ s.hw.fget R.NET_PTP_STATUS_STATE ≠ 2 ∧ s.evRoom 1) ∧
    (∃ (s : State) (b : Bool) (w : Int) (k : Int), s.hw.netOn = true ∧ s.hw.fbit R.NET_PTP_CFG_ENABLE = true ∧ s.hw.fget R.NET_PTP_STATUS_PORT = b2n b ∧ s.hw.net.offA = none ∧ s.hw.net.offB = none ∧ s.hw.mode.runsTasks = false ∧ s.hw.stepNs ≤ w.natAbs ∧ k = -(8 * ((w + 4) / 8)) ∧ 0 ≤ (s.hw.clk.tb : Int) + k ∧ (s.hw.clk.tb : Int) + k < 2 ^ 64 ∧ s.evRoom 1) ∧
    (∃ (s : State) (b : Bool) (w : Int), s.hw.netOn = true ∧ s.hw.fbit R.NET_PTP_CFG_ENABLE = true ∧ s.hw.fget R.NET_PTP_STATUS_PORT = b2n b ∧ s.hw.net.offA = none ∧ s.hw.net.offB = none ∧ s.hw.stepCause = 0 ∧ s.hw.stepNs ≤ w.natAbs ∧ s.hw.mode ≠ .follow ∧ s.hw.net.slewing = false ∧ s.evRoom 1) ∧
    (∃ (s : State) (b : Bool), s.hw.netOn = true ∧ s.hw.fbit R.NET_PTP_CFG_ENABLE = true ∧ s.hw.fget R.NET_PTP_STATUS_PORT = b2n b ∧ s.hw.net.offA = none ∧ s.hw.net.offB = none ∧ s.hw.mode = .follow) ∧
    (∃ (s : State), s.hw.netOn = true ∧ s.hw.fbit R.NET_PTP_CFG_ENABLE = true ∧ (s.hw.fget R.NET_PTP_STATUS_STATE = 1 ∨ s.hw.fget R.NET_PTP_STATUS_STATE = 2) ∧ s.evRoom 1) ∧
    (∃ (s : State) (a : Announce), s.hw.netOn = true ∧ s.hw.fbit R.NET_PTP_CFG_ENABLE = true ∧ a.domain = s.hw.fget R.NET_PTP_CFG_DOMAIN ∧ s.hw.betterMaster a = true ∧ a.utcValid = true) ∧
    (∃ (s : State) (a : Announce), s.hw.netOn = true ∧ s.hw.fbit R.NET_PTP_CFG_ENABLE = true ∧ a.domain = s.hw.fget R.NET_PTP_CFG_DOMAIN ∧ s.hw.fbit R.NET_PTP_CFG_MASTER_EN = true ∧ s.hw.fget R.NET_PTP_CFG_PRIORITY1 < a.prio1) :=
  ⟨⟨wt .stop, false, 2000, by decide +kernel⟩,
   ⟨up (wt .run) (fun h => { h with net := { h.net with smallRun := 15 } }), false, -20, by unfold State.evRoom; decide +kernel⟩,
   ⟨wt .stop, false, 200003, -200000, by unfold State.evRoom; decide +kernel⟩,
   ⟨up (wt .run) (fun h => h.fset R.NET_TB_CFG_FIRST_STEP 0), false, 200003, by unfold State.evRoom; decide +kernel⟩,
   ⟨wt .follow, false, by decide +kernel⟩,
   ⟨up (wt .run) (fun h => h.fset R.NET_PTP_STATUS_STATE 2), by unfold State.evRoom; decide +kernel⟩,
   ⟨wt .run, { utcValid := true, utc := 38 }, by decide +kernel⟩,
   ⟨up (wt .run) (fun h => h.fset R.NET_PTP_CFG_MASTER_EN 1), { prio1 := 250 }, by decide +kernel⟩⟩

/-- States and operands that meet the hypotheses of each clause of PairLink (1 of 3). -/
theorem test_meets_PairLink1 :
    (∃ (s : State), s.hw.pairUnit = true) ∧
    (∃ (s : State), s.hw.pairUnit = true ∧ s.hw.pair.linkUp = true ∧ s.evRoom 1) ∧
    (∃ (s : State), s.hw.pairUnit = true ∧ s.hw.pair.injA = 0 ∧ s.hw.pair.injB = 0 ∧ s.hw.dirValid (s.hw.fget R.PAIR_PARTNER_PARTNER_DIR) = true ∧ s.hw.pair.revertS = none) ∧
    (∃ (s : State) (n : Nat) (b : Beat), s.hw.pairUnit = true ∧ s.hw.pair.linkUp = true ∧ (s.hw.pair.rxSeq = none ∨ s.hw.pair.rxSeq = some ((n + 2 ^ 32 - 1) % 2 ^ 32)) ∧ s.hw.pair.revertS = none ∧ s.hw.pair.swapped = 0 ∧ (s.hw.guy false).count = none ∧ b.preferred ≠ s.hw.fbit R.PAIR_CFG_PREFERRED ∧ (s.hw.fbit R.SUP_MODE_STATUS_LIVE_OUT = false ∨ b.live = false) ∧ s.hw.fbit R.PAIR_STATUS_GUY_A = true) ∧
    (∃ (s : State) (n : Nat) (b : Beat), s.hw.pairUnit = true ∧ s.hw.pair.linkUp = true ∧ (s.hw.pair.rxSeq = none ∨ s.hw.pair.rxSeq = some ((n + 2 ^ 32 - 1) % 2 ^ 32)) ∧ s.hw.pair.revertS = none ∧ s.hw.pair.swapped = 0 ∧ (s.hw.guy false).count = none ∧ b.preferred ≠ s.hw.fbit R.PAIR_CFG_PREFERRED ∧ (s.hw.fbit R.SUP_MODE_STATUS_LIVE_OUT = false ∨ b.live = false) ∧ s.hw.fbit R.PAIR_STATUS_GUY_A = false ∧ 2 ≤ (s.hw.guy false).goods ∧ s.evRoom 1) ∧
    (∃ (s : State) (n : Nat) (b : Beat), s.hw.pairUnit = true ∧ s.hw.pair.linkUp = true ∧ (s.hw.pair.rxSeq = none ∨ s.hw.pair.rxSeq = some ((n + 2 ^ 32 - 1) % 2 ^ 32)) ∧ s.hw.pair.revertS = none ∧ s.hw.pair.swapped = 0 ∧ (s.hw.guy false).count = none ∧ b.preferred ≠ s.hw.fbit R.PAIR_CFG_PREFERRED ∧ s.hw.fbit R.SUP_MODE_STATUS_LIVE_OUT = true ∧ b.live = true ∧ s.hw.pair.liveRuns = 2 ∧ b.count = (s.hw.pair.hbSeen + 1) % 2 ^ 32 ∧ s.hw.fbit R.PAIR_STATUS_CONFLICT = false ∧ s.hw.fbit R.PAIR_CFG_PREFERRED = false ∧ s.hw.mode = .run ∧ s.hw.nvs.vinLost = false ∧ s.hw.fbit R.PAIR_STATUS_GUY_A = true ∧ s.evRoom 1) ∧
    (∃ (s : State) (l : Bool), s.hw.pairUnit = true ∧ s.hw.pair.revertS = none ∧ (s.hw.guy l).misses < 2) ∧
    (∃ (s : State) (l : Bool), s.hw.pairUnit = true ∧ s.hw.pair.revertS = none ∧ (s.hw.guy l).misses = 2 ∧ s.hw.fbit R.PAIR_STATUS_GUY_A = true ∧ s.hw.fbit R.PAIR_STATUS_GUY_B = true ∧ l = true ∧ s.evRoom 1) ∧
    (∃ (s : State) (l : Bool), s.hw.pairUnit = true ∧ s.hw.pair.revertS = none ∧ (s.hw.guy l).misses = 2 ∧ s.hw.fbit R.PAIR_STATUS_GUY_A = false ∧ s.hw.fbit R.PAIR_STATUS_GUY_B = true ∧ l = true ∧ s.evRoom 2) :=
  ⟨⟨up (wt .run) (fun h => let h := ((((h.fset R.PAIR_CFG_ENABLE 1).fset R.PAIR_STATUS_ROLE 1).fset R.PAIR_STATUS_GUY_A 1).fset R.PAIR_STATUS_GUY_B 1); { h with pair := { h.pair with linkUp := false, rxSeq := some 4 } }), by decide +kernel⟩,
   ⟨up (wt .run) (fun h => let h := ((((h.fset R.PAIR_CFG_ENABLE 1).fset R.PAIR_STATUS_ROLE 1).fset R.PAIR_STATUS_GUY_A 1).fset R.PAIR_STATUS_GUY_B 1); { h with pair := { h.pair with linkUp := true } }), by unfold State.evRoom; decide +kernel⟩,
   ⟨up (wt .run) (fun h => let h := ((((h.fset R.PAIR_CFG_ENABLE 1).fset R.PAIR_STATUS_ROLE 1).fset R.PAIR_STATUS_GUY_A 1).fset R.PAIR_STATUS_GUY_B 1).putDir 0 [77#32, 0#32, 0x00010000#32, 0#32]; { h with pair := { h.pair with linkUp := true } }), by decide +kernel⟩,
   ⟨up (wt .run) (fun h => let h := ((((h.fset R.PAIR_CFG_ENABLE 1).fset R.PAIR_STATUS_ROLE 1).fset R.PAIR_STATUS_GUY_A 1).fset R.PAIR_STATUS_GUY_B 1); { h with pair := { h.pair with linkUp := true } }), 4, { count := 5, mode := 5, preferred := true }, by decide +kernel⟩,
   ⟨up (wt .run) (fun h => let h := ((((h.fset R.PAIR_CFG_ENABLE 1).fset R.PAIR_STATUS_ROLE 1).fset R.PAIR_STATUS_GUY_A 1).fset R.PAIR_STATUS_GUY_B 1).fset R.PAIR_STATUS_GUY_A 0; { h with pair := { h.pair with linkUp := true, lines := [(0, { goods := 2 })] } }), 4, { count := 5, mode := 5, preferred := true }, by unfold State.evRoom; decide +kernel⟩,
   ⟨up (wt .run) (fun h => let h := ((((h.fset R.PAIR_CFG_ENABLE 1).fset R.PAIR_STATUS_ROLE 1).fset R.PAIR_STATUS_GUY_A 1).fset R.PAIR_STATUS_GUY_B 1).fset R.SUP_MODE_STATUS_LIVE_OUT 1; { h with pair := { h.pair with linkUp := true, liveRuns := 2, hbSeen := 4 } }), 4, { count := 5, mode := 4, live := true, preferred := true, mac := 9 }, by unfold State.evRoom; decide +kernel⟩,
   ⟨up (wt .run) (fun h => let h := ((((h.fset R.PAIR_CFG_ENABLE 1).fset R.PAIR_STATUS_ROLE 1).fset R.PAIR_STATUS_GUY_A 1).fset R.PAIR_STATUS_GUY_B 1); { h with pair := { h.pair with linkUp := true } }), true, by decide +kernel⟩,
   ⟨up (wt .run) (fun h => let h := ((((h.fset R.PAIR_CFG_ENABLE 1).fset R.PAIR_STATUS_ROLE 1).fset R.PAIR_STATUS_GUY_A 1).fset R.PAIR_STATUS_GUY_B 1); { h with pair := { h.pair with linkUp := true, lines := [(1, { misses := 2 })] } }), true, by unfold State.evRoom; decide +kernel⟩,
   ⟨up (wt .run) (fun h => let h := ((((h.fset R.PAIR_CFG_ENABLE 1).fset R.PAIR_STATUS_ROLE 1).fset R.PAIR_STATUS_GUY_A 1).fset R.PAIR_STATUS_GUY_B 1).fset R.PAIR_STATUS_GUY_A 0; { h with pair := { h.pair with linkUp := true, lines := [(1, { misses := 2 })] } }), true, by unfold State.evRoom; decide +kernel⟩⟩

/-- States and operands that meet the hypotheses of each clause of PairLink (2 of 3). -/
theorem test_meets_PairLink2 :
    (∃ (s : State) (n : Nat), s.hw.pairUnit = true ∧ s.hw.pair.linkUp = true ∧ (s.hw.pair.rxSeq = none ∨ s.hw.pair.rxSeq = some ((n + 2 ^ 32 - 1) % 2 ^ 32)) ∧ s.hw.mode ≠ .follow ∧ s.hw.mode ≠ .recovery) ∧
    (∃ (s : State) (n : Nat) (own : Nat) (seen : Nat) (sent : Nat), s.hw.pairUnit = true ∧ s.hw.pair.linkUp = true ∧ (s.hw.pair.rxSeq = none ∨ s.hw.pair.rxSeq = some ((n + 2 ^ 32 - 1) % 2 ^ 32)) ∧ s.hw.mode = .follow ∧ seen ≠ 0 ∧ ((((sent : Int) - seen) + ((s.hw.clk.tb : Int) - own)) / 2).natAbs < s.hw.stepNs) ∧
    (∃ (s : State) (n : Nat), s.hw.pairUnit = true ∧ s.hw.pair.linkUp = true ∧ (s.hw.pair.rxSeq = none ∨ s.hw.pair.rxSeq = some ((n + 2 ^ 32 - 1) % 2 ^ 32))) ∧
    (∃ (s : State) (q : Nat) (x : Nat) (k : Nat) (m : SyncMsg) (rest : List (Nat × Nat × Nat × SyncMsg)), s.hw.pair.unacked = (q, x, k, m) :: rest ∧ k < 8) ∧
    (∃ (s : State) (q : Nat) (x : Nat) (k : Nat) (m : SyncMsg) (rest : List (Nat × Nat × Nat × SyncMsg)), s.hw.pair.unacked = (q, x, k, m) :: rest ∧ 8 ≤ k ∧ s.hw.fbit R.PAIR_STATUS_GUY_A = true ∧ s.hw.fbit R.PAIR_STATUS_GUY_B = true ∧ s.hw.pair.relayed = [] ∧ s.hw.mode = .run ∧ s.evRoom 1 ∧ s.hw.pair.revertS = none) ∧
    (∃ (s : State) (n : Nat) (i : Fin 32) (k : Nat), s.hw.pairUnit = true ∧ s.hw.pair.linkUp = true ∧ (s.hw.pair.rxSeq = none ∨ s.hw.pair.rxSeq = some ((n + 2 ^ 32 - 1) % 2 ^ 32)) ∧ s.hw.tstate i.val = 1 ∧ (s.hw.cyc i.val).foll = true ∧ (s.hw.cyc i.val).k = k ∧ s.hw.pair.snaps = [] ∧ s.hw.fget R.PAIR_XCHK_CFG_XCHK_MS = 0) ∧
    (∃ (s : State) (n : Nat) (i : Fin 32) (k : Nat), s.hw.pairUnit = true ∧ s.hw.pair.linkUp = true ∧ (s.hw.pair.rxSeq = none ∨ s.hw.pair.rxSeq = some ((n + 2 ^ 32 - 1) % 2 ^ 32)) ∧ s.hw.tstate i.val = 1 ∧ (s.hw.cyc i.val).foll = true ∧ (s.hw.cyc i.val).k = k ∧ s.hw.pair.snaps = []) ∧
    (∃ (s : State) (n : Nat), s.hw.pairUnit = true ∧ s.hw.pair.linkUp = true ∧ (s.hw.pair.rxSeq = none ∨ s.hw.pair.rxSeq = some ((n + 2 ^ 32 - 1) % 2 ^ 32)) ∧ s.hw.mode = .follow) ∧
    (∃ (s : State) (n : Nat), s.hw.pairUnit = true ∧ s.hw.pair.linkUp = true ∧ (s.hw.pair.rxSeq = none ∨ s.hw.pair.rxSeq = some ((n + 2 ^ 32 - 1) % 2 ^ 32)) ∧ s.hw.mode = .follow ∧ s.evRoom 1) :=
  ⟨⟨up (wt .run) (fun h => let h := ((((h.fset R.PAIR_CFG_ENABLE 1).fset R.PAIR_STATUS_ROLE 1).fset R.PAIR_STATUS_GUY_A 1).fset R.PAIR_STATUS_GUY_B 1); { h with pair := { h.pair with linkUp := true } }), 4, by decide +kernel⟩,
   ⟨up (wt .follow) (fun h => let h := ((((h.fset R.PAIR_CFG_ENABLE 1).fset R.PAIR_STATUS_ROLE 2).fset R.PAIR_STATUS_GUY_A 1).fset R.PAIR_STATUS_GUY_B 1); { h with pair := { h.pair with linkUp := true } }), 4, 4999999000, 500, 700, by decide +kernel⟩,
   ⟨up (wt .run) (fun h => let h := ((((h.fset R.PAIR_CFG_ENABLE 1).fset R.PAIR_STATUS_ROLE 1).fset R.PAIR_STATUS_GUY_A 1).fset R.PAIR_STATUS_GUY_B 1); { h with pair := { h.pair with linkUp := true, unacked := [(3, 1, 0, .join 5), (9, 1, 0, .join 6)] } }), 4, by decide +kernel⟩,
   ⟨up (wt .run) (fun h => let h := ((((h.fset R.PAIR_CFG_ENABLE 1).fset R.PAIR_STATUS_ROLE 1).fset R.PAIR_STATUS_GUY_A 1).fset R.PAIR_STATUS_GUY_B 1); { h with pair := { h.pair with linkUp := true, unacked := [(3, 1, 0, .join 5)] } }), 3, 1, 0, .join 5, [], by decide +kernel⟩,
   ⟨up (wt .run) (fun h => let h := ((((h.fset R.PAIR_CFG_ENABLE 1).fset R.PAIR_STATUS_ROLE 1).fset R.PAIR_STATUS_GUY_A 1).fset R.PAIR_STATUS_GUY_B 1); { h with pair := { h.pair with linkUp := true, unacked := [(3, 1, 8, .join 5)] } }), 3, 1, 8, .join 5, [], by unfold State.evRoom; decide +kernel⟩,
   ⟨up (wt .follow) (fun h => let h := ((((((h.fset R.PAIR_CFG_ENABLE 1).fset R.PAIR_STATUS_ROLE 2).fset R.PAIR_STATUS_GUY_A 1).fset R.PAIR_STATUS_GUY_B 1).fset R.PAIR_XCHK_CFG_XCHK_MS 0).setTstate 4 1).setCyc 4 { foll := true, k := 6, nextK := 7 }; { h with pair := { h.pair with linkUp := true } }), 4, 4, 6, by decide +kernel⟩,
   ⟨up (wt .follow) (fun h => let h := (((((h.fset R.PAIR_CFG_ENABLE 1).fset R.PAIR_STATUS_ROLE 2).fset R.PAIR_STATUS_GUY_A 1).fset R.PAIR_STATUS_GUY_B 1).setTstate 4 1).setCyc 4 { foll := true, k := 6, nextK := 7 }; { h with pair := { h.pair with linkUp := true } }), 4, 4, 6, by decide +kernel⟩,
   ⟨up (wt .follow) (fun h => let h := ((((h.fset R.PAIR_CFG_ENABLE 1).fset R.PAIR_STATUS_ROLE 2).fset R.PAIR_STATUS_GUY_A 1).fset R.PAIR_STATUS_GUY_B 1); { h with pair := { h.pair with linkUp := true } }), 4, by decide +kernel⟩,
   ⟨up (wt .follow) (fun h => let h := ((((h.fset R.PAIR_CFG_ENABLE 1).fset R.PAIR_STATUS_ROLE 2).fset R.PAIR_STATUS_GUY_A 1).fset R.PAIR_STATUS_GUY_B 1).fset R.PAIR_STATUS_SYNC 4; { h with pair := { h.pair with linkUp := true } }), 4, by unfold State.evRoom; decide +kernel⟩⟩

/-- States and operands that meet the hypotheses of each clause of PairLink (3 of 3). -/
theorem test_meets_PairLink3 :
    (∃ (s : State) (n : Nat) (i : Fin 32) (k : Nat), s.hw.pairUnit = true ∧ s.hw.pair.linkUp = true ∧ (s.hw.pair.rxSeq = none ∨ s.hw.pair.rxSeq = some ((n + 2 ^ 32 - 1) % 2 ^ 32)) ∧ ((s.hw.cyc i.val).foll = false ∨ (s.hw.cyc i.val).k ≠ k)) ∧
    (∃ (s : State) (n : Nat) (i : Fin 32) (k : Nat) (dg : BitVec 64), s.hw.pairUnit = true ∧ s.hw.pair.linkUp = true ∧ (s.hw.pair.rxSeq = none ∨ s.hw.pair.rxSeq = some ((n + 2 ^ 32 - 1) % 2 ^ 32)) ∧ s.hw.mode = .follow ∧ (s.hw.cyc i.val).foll = true ∧ (s.hw.cyc i.val).k = k ∧ (tget (0, 0#64) s.hw.pair.ownDig i.val).1 = k + 1 ∧ (tget (0, 0#64) s.hw.pair.ownDig i.val).2 ≠ dg ∧ s.evRoom 1) ∧
    (∃ (s : State) (n : Nat) (i : Fin 32) (k : Nat), s.hw.pairUnit = true ∧ s.hw.pair.linkUp = true ∧ (s.hw.pair.rxSeq = none ∨ s.hw.pair.rxSeq = some ((n + 2 ^ 32 - 1) % 2 ^ 32)) ∧ (s.hw.cyc i.val).foll = true ∧ (s.hw.cyc i.val).k = k ∧ (s.hw.cyc i.val).ovf = false ∧ s.hw.tstate i.val = 3 ∧ (s.hw.tgt (s.hw.targetOf i.val)).task = some i.val ∧ s.hw.mode = .follow) ∧
    (∃ (s : State) (n : Nat) (i : Fin 32) (k : Nat), s.hw.pairUnit = true ∧ s.hw.pair.linkUp = true ∧ (s.hw.pair.rxSeq = none ∨ s.hw.pair.rxSeq = some ((n + 2 ^ 32 - 1) % 2 ^ 32)) ∧ (s.hw.cyc i.val).foll = true ∧ (s.hw.cyc i.val).k = k ∧ s.hw.tstate i.val = 2) ∧
    (∃ (s : State) (n : Nat), s.hw.pairUnit = true ∧ s.hw.pair.linkUp = true ∧ (s.hw.pair.rxSeq = none ∨ s.hw.pair.rxSeq = some ((n + 2 ^ 32 - 1) % 2 ^ 32)) ∧ s.hw.mode = .follow ∧ s.hw.pair.step ≠ 0) ∧
    (∃ (s : State) (n : Nat) (c : Nat × Nat × Nat), s.hw.pairUnit = true ∧ s.hw.pair.linkUp = true ∧ (s.hw.pair.rxSeq = none ∨ s.hw.pair.rxSeq = some ((n + 2 ^ 32 - 1) % 2 ^ 32)) ∧ s.hw.mode = .follow ∧ (s.hw.sess c.1).kind = 1 ∧ (s.hw.sess c.1).publishing = false ∧ (s.hw.sess c.1).seq ≠ c.2.1 % 2 ^ 32 ∧ s.evRoom 1) ∧
    (∃ (s : State), s.hw.pairFormed = true) :=
  ⟨⟨up (wt .follow) (fun h => let h := ((((h.fset R.PAIR_CFG_ENABLE 1).fset R.PAIR_STATUS_ROLE 2).fset R.PAIR_STATUS_GUY_A 1).fset R.PAIR_STATUS_GUY_B 1); { h with pair := { h.pair with linkUp := true } }), 4, 4, 6, by decide +kernel⟩,
   ⟨up (wt .follow) (fun h => let h := ((((h.fset R.PAIR_CFG_ENABLE 1).fset R.PAIR_STATUS_ROLE 2).fset R.PAIR_STATUS_GUY_A 1).fset R.PAIR_STATUS_GUY_B 1).setCyc 4 { foll := true, k := 6 }; { h with pair := { h.pair with linkUp := true, ownDig := [(4, 7, 8#64)] } }), 4, 4, 6, 9#64, by unfold State.evRoom; decide +kernel⟩,
   ⟨up (wt .follow) (fun h => let h := ((((((h.fset R.PAIR_CFG_ENABLE 1).fset R.PAIR_STATUS_ROLE 2).fset R.PAIR_STATUS_GUY_A 1).fset R.PAIR_STATUS_GUY_B 1).setTstate 4 3).setCyc 4 { foll := true, k := 6 }).setTgt 0 { task := some 4, window := 3 }; { h with pair := { h.pair with linkUp := true } }), 4, 4, 6, by decide +kernel⟩,
   ⟨up (wt .follow) (fun h => let h := ((((((h.fset R.PAIR_CFG_ENABLE 1).fset R.PAIR_STATUS_ROLE 2).fset R.PAIR_STATUS_GUY_A 1).fset R.PAIR_STATUS_GUY_B 1).setTstate 4 2).setCyc 4 { foll := true, k := 6 }); { h with pair := { h.pair with linkUp := true } }), 4, 4, 6, by decide +kernel⟩,
   ⟨up (wt .follow) (fun h => let h := ((((h.fset R.PAIR_CFG_ENABLE 1).fset R.PAIR_STATUS_ROLE 2).fset R.PAIR_STATUS_GUY_A 1).fset R.PAIR_STATUS_GUY_B 1); { h with pair := { h.pair with linkUp := true, step := 3 } }), 4, by decide +kernel⟩,
   ⟨up (wt .follow) (fun h => let h := ((((h.fset R.PAIR_CFG_ENABLE 1).fset R.PAIR_STATUS_ROLE 2).fset R.PAIR_STATUS_GUY_A 1).fset R.PAIR_STATUS_GUY_B 1).setSess 3 { words := [0x00040001#32] }; { h with pair := { h.pair with linkUp := true } }), 4, (3, 5, 6), by unfold State.evRoom; decide +kernel⟩,
   ⟨up (wt .run) (fun h => let h := (((((h.fset R.PAIR_CFG_ENABLE 1).fset R.PAIR_STATUS_ROLE 1).fset R.PAIR_STATUS_GUY_A 1).fset R.PAIR_STATUS_GUY_B 1).fset R.PAIR_STATUS_PARTNER_MODE 5).setSess 3 { words := [0x00040001#32] }; { h with pair := { h.pair with linkUp := true } }), by decide +kernel⟩⟩

/-- States and operands that meet the hypotheses of each clause of PairChanges (1 of 3). -/
theorem test_meets_PairChanges1 :
    (∃ (s : State) (q : Nat), s.hw.pair.retryAt = some q ∧ s.hw.mode = .follow ∧ s.hw.fbit R.PAIR_STATUS_GUY_A = true ∧ s.hw.pair.step = 0 ∧ s.hw.clk.tb ≤ q ∧ s.tbRoom q) ∧
    (∃ (s : State) (x : ResyncIn), s.hw.fget R.PAIR_STATUS_ROLE = 2 ∧ s.hw.fget R.PAIR_STATUS_PARTNER_MODE = 4 ∧ s.hw.pair.step = 1 ∧ x.familyEq = true ∧ s.hw.fbit R.PAIR_STATUS_GUY_A = true ∧ x.cfgEq = true ∧ x.progEq = true) ∧
    (∃ (s : State) (x : ResyncIn), s.hw.fget R.PAIR_STATUS_ROLE = 2 ∧ s.hw.fget R.PAIR_STATUS_PARTNER_MODE = 4 ∧ s.hw.pair.step = 1 ∧ x.familyEq = false ∧ s.hw.mode = .follow ∧ s.evRoom 1) ∧
    (∃ (s : State), s.hw.fget R.PAIR_STATUS_ROLE = 2 ∧ s.hw.pair.step = 3) ∧
    (∃ (s : State), s.hw.fget R.PAIR_STATUS_ROLE = 2 ∧ s.hw.pair.step = 4) ∧
    (∃ (s : State), s.hw.fget R.PAIR_STATUS_ROLE = 2 ∧ s.hw.fget R.PAIR_STATUS_PARTNER_MODE = 4 ∧ s.hw.pair.step = 5 ∧ s.hw.pair.joinAt ≠ 0 ∧ s.hw.mode = .follow ∧ s.evRoom 1) ∧
    (∃ (s : State), s.hw.pairFormed = true ∧ s.hw.partnerSync = 2 ∧ s.hw.pair.step = 4 ∧ s.hw.pair.ovfSeen = false) ∧
    (∃ (s : State), s.hw.liveIn = true ∧ s.hw.pairOn = true ∧ s.hw.mode = .follow ∧ s.hw.pair.revertConf = false ∧ s.hw.fget R.PAIR_STATUS_SYNC ∈ [3, 4] ∧ s.hw.notIn .run = [] ∧ s.hw.hif.deferred = [] ∧ s.noInj ∧ s.evRoom 2) ∧
    (∃ (s : State), s.hw.liveIn = true ∧ s.hw.pairOn = true ∧ s.hw.mode = .follow ∧ s.hw.pair.revertConf = false ∧ s.hw.fget R.PAIR_STATUS_SYNC < 3 ∧ s.evRoom 1) :=
  ⟨⟨up (wt .follow) (fun h => let h := ((((h.fset R.PAIR_CFG_ENABLE 1).fset R.PAIR_STATUS_ROLE 2).fset R.PAIR_STATUS_GUY_A 1).fset R.PAIR_STATUS_GUY_B 1); { h with pair := { h.pair with linkUp := true, retryAt := some 6000000000 } }), 6000000000, by unfold State.tbRoom; decide +kernel⟩,
   ⟨up (wt .follow) (fun h => let h := (((((h.fset R.PAIR_CFG_ENABLE 1).fset R.PAIR_STATUS_ROLE 2).fset R.PAIR_STATUS_GUY_A 1).fset R.PAIR_STATUS_GUY_B 1).fset R.PAIR_STATUS_PARTNER_MODE 4); { h with pair := { h.pair with linkUp := true, step := 1 } }), { us := 50, calValid := true }, by decide +kernel⟩,
   ⟨up (wt .follow) (fun h => let h := (((((h.fset R.PAIR_CFG_ENABLE 1).fset R.PAIR_STATUS_ROLE 2).fset R.PAIR_STATUS_GUY_A 1).fset R.PAIR_STATUS_GUY_B 1).fset R.PAIR_STATUS_PARTNER_MODE 4); { h with pair := { h.pair with linkUp := true, step := 1 } }), { us := 50, familyEq := false }, by unfold State.evRoom; decide +kernel⟩,
   ⟨up (wt .follow) (fun h => let h := ((((h.fset R.PAIR_CFG_ENABLE 1).fset R.PAIR_STATUS_ROLE 2).fset R.PAIR_STATUS_GUY_A 1).fset R.PAIR_STATUS_GUY_B 1); { h with pair := { h.pair with linkUp := true, step := 3 } }), by decide +kernel⟩,
   ⟨up (wt .follow) (fun h => let h := ((((h.fset R.PAIR_CFG_ENABLE 1).fset R.PAIR_STATUS_ROLE 2).fset R.PAIR_STATUS_GUY_A 1).fset R.PAIR_STATUS_GUY_B 1); { h with pair := { h.pair with linkUp := true, step := 4 } }), by decide +kernel⟩,
   ⟨up (wt .follow) (fun h => let h := (((((h.fset R.PAIR_CFG_ENABLE 1).fset R.PAIR_STATUS_ROLE 2).fset R.PAIR_STATUS_GUY_A 1).fset R.PAIR_STATUS_GUY_B 1).fset (R.TSK_Tn_CTRL_KIND 4) 1).fset R.PAIR_STATUS_PARTNER_MODE 4; { h with pair := { h.pair with linkUp := true, step := 5, joinAt := 5000000000 } }), by unfold State.evRoom; decide +kernel⟩,
   ⟨up (wt .run) (fun h => let h := (((((h.fset R.PAIR_CFG_ENABLE 1).fset R.PAIR_STATUS_ROLE 1).fset R.PAIR_STATUS_GUY_A 1).fset R.PAIR_STATUS_GUY_B 1).fset R.PAIR_STATUS_PARTNER_MODE 5); { h with pair := { h.pair with linkUp := true, step := 4, partner := some { sync := 2 } } }), by decide +kernel⟩,
   ⟨up (wt .follow) (fun h => let h := { ((((((h.fset R.PAIR_CFG_ENABLE 1).fset R.PAIR_STATUS_ROLE 2).fset R.PAIR_STATUS_GUY_A 1).fset R.PAIR_STATUS_GUY_B 1).fset R.PAIR_STATUS_SYNC 4).fset R.SUP_MODE_STATUS_LIVE_IN 1) with fld := { driven := [(3, true)] } }; { h with pair := { h.pair with linkUp := true } }), by unfold State.evRoom State.noInj; decide +kernel⟩,
   ⟨up (wt .follow) (fun h => let h := ((((h.fset R.PAIR_CFG_ENABLE 1).fset R.PAIR_STATUS_ROLE 2).fset R.PAIR_STATUS_GUY_A 1).fset R.PAIR_STATUS_GUY_B 1).fset R.SUP_MODE_STATUS_LIVE_IN 1; { h with pair := { h.pair with linkUp := true } }), by unfold State.evRoom; decide +kernel⟩⟩

/-- States and operands that meet the hypotheses of each clause of PairChanges (2 of 3). -/
theorem test_meets_PairChanges2 :
    (∃ (s : State), s.hw.liveIn = true ∧ s.evRoom 1) ∧
    (∃ (s : State), s.hw.liveIn = false ∧ s.hw.mode ≠ .test ∧ s.hw.sup.waitTo = none) ∧
    (∃ (s : State), s.hw.liveIn = false ∧ s.hw.mode = .test ∧ s.evRoom 1) ∧
    (∃ (s : State) (c : Fin 48) (q : Nat) (n : Nat), s.hw.pair.dropAt = some q ∧ tget 0 s.hw.fld.held c.val = n ∧ n ≠ 0 ∧ s.hw.kind (s.hw.chOwner c.val) = 1 ∧ s.evRoom 1) ∧
    (∃ (s : State) (q : Nat), s.hw.pair.okSince = some q ∧ s.hw.revertBad = 0) ∧
    (∃ (s : State), s.hw.mode = .run ∧ s.hw.fget R.PAIR_STATUS_ROLE = 1 ∧ s.hw.revertBadActive = 0 ∧ (s.hw.pair.partner.map (fun (z : Beat) => z.revertReady)).getD false = true ∧ s.hw.pair.revertS = none ∧ s.evRoom 1) ∧
    (∃ (s : State) (q : Nat), s.hw.pair.revertS = some q ∧ s.hw.pair.revertConf = false ∧ s.evRoom 1) ∧
    (∃ (s : State) (q : Nat), s.hw.pair.revertS = some q ∧ s.hw.pair.revertConf = true ∧ s.hw.pair.reverting = 0 ∧ s.tbRoom q ∧ s.hw.fget R.PAIR_STATUS_ROLE = 1 ∧ s.hw.revertBadActive = 0 ∧ s.hw.overlap = false ∧ s.hw.mode = .run) ∧
    (∃ (s : State) (q : Nat), s.hw.pair.revertS = some q ∧ s.hw.pair.revertConf = true ∧ s.hw.pair.reverting = 0 ∧ s.tbRoom q ∧ s.hw.fget R.PAIR_STATUS_ROLE = 2 ∧ s.hw.revertBad = 0 ∧ s.hw.overlap = true) :=
  ⟨⟨up (wt .follow) (fun h => let h := ((((h.fset R.PAIR_CFG_ENABLE 1).fset R.PAIR_STATUS_ROLE 2).fset R.PAIR_STATUS_GUY_A 1).fset R.PAIR_STATUS_GUY_B 1).fset R.SUP_MODE_STATUS_LIVE_IN 1; { h with pair := { h.pair with linkUp := true } }), by unfold State.evRoom; decide +kernel⟩,
   ⟨up (wt .follow) (fun h => let h := ((((h.fset R.PAIR_CFG_ENABLE 1).fset R.PAIR_STATUS_ROLE 2).fset R.PAIR_STATUS_GUY_A 1).fset R.PAIR_STATUS_GUY_B 1); { h with pair := { h.pair with linkUp := true } }), by decide +kernel⟩,
   ⟨up (wt .test) (fun h => let h := ((((h.fset R.PAIR_CFG_ENABLE 1).fset R.PAIR_STATUS_ROLE 0).fset R.PAIR_STATUS_GUY_A 1).fset R.PAIR_STATUS_GUY_B 1); { h with pair := { h.pair with linkUp := true } }), by unfold State.evRoom; decide +kernel⟩,
   ⟨up (wt .run) (fun h => let h := { (((((h.fset R.PAIR_CFG_ENABLE 1).fset R.PAIR_STATUS_ROLE 1).fset R.PAIR_STATUS_GUY_A 1).fset R.PAIR_STATUS_GUY_B 1).fset (R.TSK_Tn_CTRL_KIND 0) 1) with prog := { chans := [{ channel := 3, owner := 0 }] }, fld := { driven := [(3, true)], held := [(3, 2)] } }; { h with pair := { h.pair with linkUp := true, dropAt := some 4990000000 } }), 3, 4990000000, 2, by unfold State.evRoom; decide +kernel⟩,
   ⟨up (up (wt .follow) (fun h => let h := ((((((((h.fset R.PAIR_CFG_ENABLE 1).fset R.PAIR_STATUS_ROLE 2).fset R.PAIR_STATUS_GUY_A 1).fset R.PAIR_STATUS_GUY_B 1).fset R.PAIR_CFG_REVERT_EN 1).fset R.PAIR_CFG_PREFERRED 1).fset R.PAIR_STATUS_SYNC 4).fset R.SUP_MODE_STATUS_LIVE_OUT 0); { h with pair := { h.pair with linkUp := true, okSince := some 3000000000 } })) (fun h => { h with sup := { h.sup with fault := false } }), 3000000000, by decide +kernel⟩,
   ⟨up (wt .run) (fun h => let h := ((((h.fset R.PAIR_CFG_ENABLE 1).fset R.PAIR_STATUS_ROLE 1).fset R.PAIR_STATUS_GUY_A 1).fset R.PAIR_STATUS_GUY_B 1).fset R.PAIR_CFG_REVERT_EN 1; { h with pair := { h.pair with linkUp := true, partner := some { mode := 5, sync := 4, revertReady := true } } }), by unfold State.evRoom; decide +kernel⟩,
   ⟨up (wt .run) (fun h => let h := ((((h.fset R.PAIR_CFG_ENABLE 1).fset R.PAIR_STATUS_ROLE 1).fset R.PAIR_STATUS_GUY_A 1).fset R.PAIR_STATUS_GUY_B 1); { h with pair := { h.pair with linkUp := true, revertS := some 5010000000 } }), 5010000000, by unfold State.evRoom; decide +kernel⟩,
   ⟨up (wt .run) (fun h => let h := (((((h.fset R.PAIR_CFG_ENABLE 1).fset R.PAIR_STATUS_ROLE 1).fset R.PAIR_STATUS_GUY_A 1).fset R.PAIR_STATUS_GUY_B 1).fset R.PAIR_CFG_REVERT_EN 1).fset R.SUP_MODE_STATUS_LIVE_OUT 1; { h with pair := { h.pair with linkUp := true, revertS := some 5010000000, revertConf := true, partner := some { mode := 5, sync := 4, revertReady := true } } }), 5010000000, by unfold State.tbRoom; decide +kernel⟩,
   ⟨up (up (up (wt .follow) (fun h => let h := ((((((((h.fset R.PAIR_CFG_ENABLE 1).fset R.PAIR_STATUS_ROLE 2).fset R.PAIR_STATUS_GUY_A 1).fset R.PAIR_STATUS_GUY_B 1).fset R.PAIR_CFG_REVERT_EN 1).fset R.PAIR_CFG_PREFERRED 1).fset R.PAIR_STATUS_SYNC 4).fset R.SUP_MODE_STATUS_LIVE_OUT 0); { h with pair := { h.pair with linkUp := true, okSince := some 3000000000, revertS := some 5010000000, revertConf := true } })) (fun h => { h with sup := { h.sup with fault := false } })) (fun h => h.fset R.PAIR_CFG_OVERLAP 1), 5010000000, by unfold State.tbRoom; decide +kernel⟩⟩

/-- States and operands that meet the hypotheses of each clause of PairChanges (3 of 3). -/
theorem test_meets_PairChanges3 :
    (∃ (s : State) (q : Nat), s.hw.pair.revertS = some q ∧ s.tbRoom (q + 41000) ∧ s.hw.pair.reverting = 2 ∧ s.hw.mode = .follow) ∧
    (∃ (s : State) (q : Nat), s.hw.pair.revertS = some q ∧ s.tbRoom (q + 41000) ∧ s.hw.pair.reverting = 1 ∧ s.hw.mode = .follow ∧ s.hw.liveIn = false) ∧
    (∃ (s : State) (q : Nat), s.hw.pair.revertS = some q ∧ s.tbRoom (q + 41000) ∧ s.hw.pair.reverting = 1 ∧ s.hw.mode = .follow ∧ s.hw.liveIn = true) ∧
    (∃ (s : State) (n : Nat) (ct : Ctl), s.hw.pairUnit = true ∧ s.hw.pair.linkUp = true ∧ (s.hw.pair.rxSeq = none ∨ s.hw.pair.rxSeq = some ((n + 2 ^ 32 - 1) % 2 ^ 32)) ∧ s.hw.fget R.PAIR_STATUS_ROLE = 2 ∧ ct.confirm = false ∧ ct.kind = 3 ∧ ct.inst ≠ 0 ∧ s.hw.revertBad = 0 ∧ s.hw.pair.ready = true ∧ s.hw.clk.tb + 5000000 ≤ ct.inst) ∧
    (∃ (s : State) (n : Nat) (ct : Ctl), s.hw.pairUnit = true ∧ s.hw.pair.linkUp = true ∧ (s.hw.pair.rxSeq = none ∨ s.hw.pair.rxSeq = some ((n + 2 ^ 32 - 1) % 2 ^ 32)) ∧ s.hw.fget R.PAIR_STATUS_ROLE = 2 ∧ ct.confirm = false ∧ ct.kind = 1 ∧ ct.inst ≠ 0) ∧
    (∃ (s : State) (n : Nat) (ct : Ctl), s.hw.pairUnit = true ∧ s.hw.pair.linkUp = true ∧ (s.hw.pair.rxSeq = none ∨ s.hw.pair.rxSeq = some ((n + 2 ^ 32 - 1) % 2 ^ 32)) ∧ s.hw.fget R.PAIR_STATUS_ROLE = 1 ∧ ct.confirm = true ∧ ct.kind = 3 ∧ s.hw.pair.revertS = some ct.inst ∧ s.hw.clk.tb + 5000000 ≤ ct.inst) ∧
    (∃ (s : State) (n : Nat), s.hw.pairUnit = true ∧ s.hw.pair.linkUp = true ∧ (s.hw.pair.rxSeq = none ∨ s.hw.pair.rxSeq = some ((n + 2 ^ 32 - 1) % 2 ^ 32)) ∧ s.hw.fget R.PAIR_STATUS_ROLE = 1) ∧
    (∃ (s : State) (p : PWrite), s.hw.pair.pwrites = [p] ∧ p.confirmed = true ∧ s.hw.pend = [(p.addr, p.val)] ∧ chanField p.addr = false ∧ (List.range 12).all (fun z => p.addr != R.BLOCK_STATUS z) = true ∧ s.hw.hif.latching = [] ∧ s.tbRoom p.eff) ∧
    (∃ (s : State) (p : PWrite), s.hw.pair.pwrites = [p] ∧ p.confirmed = false ∧ p.d = none ∧ s.hw.tsk.feffs = [] ∧ s.hw.tsk.olc.point = 0 ∧ p.eff ≠ 0 ∧ s.evRoom 1 ∧ s.hw.pend = [(p.addr, p.val)]) :=
  ⟨⟨up (up (wt .follow) (fun h => let h := ((((((((h.fset R.PAIR_CFG_ENABLE 1).fset R.PAIR_STATUS_ROLE 2).fset R.PAIR_STATUS_GUY_A 1).fset R.PAIR_STATUS_GUY_B 1).fset R.PAIR_CFG_REVERT_EN 1).fset R.PAIR_CFG_PREFERRED 1).fset R.PAIR_STATUS_SYNC 4).fset R.SUP_MODE_STATUS_LIVE_OUT 0); { h with pair := { h.pair with linkUp := true, okSince := some 3000000000, revertS := some 5010000000, revertConf := true, reverting := 2 } })) (fun h => { h with sup := { h.sup with fault := false } }), 5010000000, by unfold State.tbRoom; decide +kernel⟩,
   ⟨up (up (wt .follow) (fun h => let h := ((((((((h.fset R.PAIR_CFG_ENABLE 1).fset R.PAIR_STATUS_ROLE 2).fset R.PAIR_STATUS_GUY_A 1).fset R.PAIR_STATUS_GUY_B 1).fset R.PAIR_CFG_REVERT_EN 1).fset R.PAIR_CFG_PREFERRED 1).fset R.PAIR_STATUS_SYNC 4).fset R.SUP_MODE_STATUS_LIVE_OUT 0); { h with pair := { h.pair with linkUp := true, okSince := some 3000000000, revertS := some 5010000000, revertConf := true, reverting := 1 } })) (fun h => { h with sup := { h.sup with fault := false } }), 5010000000, by unfold State.tbRoom; decide +kernel⟩,
   ⟨up (up (up (wt .follow) (fun h => let h := ((((((((h.fset R.PAIR_CFG_ENABLE 1).fset R.PAIR_STATUS_ROLE 2).fset R.PAIR_STATUS_GUY_A 1).fset R.PAIR_STATUS_GUY_B 1).fset R.PAIR_CFG_REVERT_EN 1).fset R.PAIR_CFG_PREFERRED 1).fset R.PAIR_STATUS_SYNC 4).fset R.SUP_MODE_STATUS_LIVE_OUT 0); { h with pair := { h.pair with linkUp := true, okSince := some 3000000000, revertS := some 5010000000, revertConf := true, reverting := 1 } })) (fun h => { h with sup := { h.sup with fault := false } })) (fun h => h.fset R.SUP_MODE_STATUS_LIVE_IN 1), 5010000000, by unfold State.tbRoom; decide +kernel⟩,
   ⟨up (up (wt .follow) (fun h => let h := ((((((((h.fset R.PAIR_CFG_ENABLE 1).fset R.PAIR_STATUS_ROLE 2).fset R.PAIR_STATUS_GUY_A 1).fset R.PAIR_STATUS_GUY_B 1).fset R.PAIR_CFG_REVERT_EN 1).fset R.PAIR_CFG_PREFERRED 1).fset R.PAIR_STATUS_SYNC 4).fset R.SUP_MODE_STATUS_LIVE_OUT 0); { h with pair := { h.pair with linkUp := true, okSince := some 3000000000, ready := true } })) (fun h => { h with sup := { h.sup with fault := false } }), 4, { kind := 3, inst := 5010000000 }, by decide +kernel⟩,
   ⟨up (up (wt .follow) (fun h => let h := ((((((((h.fset R.PAIR_CFG_ENABLE 1).fset R.PAIR_STATUS_ROLE 2).fset R.PAIR_STATUS_GUY_A 1).fset R.PAIR_STATUS_GUY_B 1).fset R.PAIR_CFG_REVERT_EN 1).fset R.PAIR_CFG_PREFERRED 1).fset R.PAIR_STATUS_SYNC 4).fset R.SUP_MODE_STATUS_LIVE_OUT 0); { h with pair := { h.pair with linkUp := true, okSince := some 3000000000 } })) (fun h => { h with sup := { h.sup with fault := false } }), 4, { kind := 1, inst := 5010000000, a := 0x40040044, b := 7 }, by decide +kernel⟩,
   ⟨up (wt .run) (fun h => let h := ((((h.fset R.PAIR_CFG_ENABLE 1).fset R.PAIR_STATUS_ROLE 1).fset R.PAIR_STATUS_GUY_A 1).fset R.PAIR_STATUS_GUY_B 1); { h with pair := { h.pair with linkUp := true, revertS := some 5010000000 } }), 4, { confirm := true, kind := 3, inst := 5010000000 }, by decide +kernel⟩,
   ⟨up (wt .run) (fun h => let h := ((((h.fset R.PAIR_CFG_ENABLE 1).fset R.PAIR_STATUS_ROLE 1).fset R.PAIR_STATUS_GUY_A 1).fset R.PAIR_STATUS_GUY_B 1); { h with pair := { h.pair with linkUp := true } }), 4, by decide +kernel⟩,
   ⟨up (wt .run) (fun h => let h := { ((((h.fset R.PAIR_CFG_ENABLE 1).fset R.PAIR_STATUS_ROLE 1).fset R.PAIR_STATUS_GUY_A 1).fset R.PAIR_STATUS_GUY_B 1) with pend := [(0x40060014, 7#32)] }; { h with pair := { h.pair with linkUp := true, pwrites := [{ addr := 0x40060014, val := 7#32, eff := 5010000000, d := none, confirmed := true }] } }), { addr := 0x40060014, val := 7#32, eff := 5010000000, d := none, confirmed := true }, by unfold State.tbRoom; decide +kernel⟩,
   ⟨up (wt .run) (fun h => let h := { ((((h.fset R.PAIR_CFG_ENABLE 1).fset R.PAIR_STATUS_ROLE 1).fset R.PAIR_STATUS_GUY_A 1).fset R.PAIR_STATUS_GUY_B 1) with pend := [(0x40060014, 7#32)] }; { h with pair := { h.pair with linkUp := true, pwrites := [{ addr := 0x40060014, val := 7#32, eff := 5010000000, d := none, confirmed := false }] } }), { addr := 0x40060014, val := 7#32, eff := 5010000000, d := none, confirmed := false }, by unfold State.evRoom; decide +kernel⟩⟩

/-- States and operands that meet the hypotheses of each clause of FieldLinks (1 of 2). -/
theorem test_meets_FieldLinks1 :
    (∃ (s : State) (g : Fin 6), s.hw.fbit (R.FLD_GRPg_STATUS_ZIREK g.val) = false ∧ s.hw.fbit (R.FLD_GRPg_STATUS_CARRIER g.val) = false ∧ s.hw.carrierMay g.val = true ∧ (s.hw.lnk g.val).restartAt = none) ∧
    (∃ (s : State) (g : Fin 6) (x : Nat), s.hw.fbit (R.FLD_GRPg_STATUS_ZIREK g.val) = false ∧ s.hw.fbit (R.FLD_GRPg_STATUS_CARRIER g.val) = true ∧ s.hw.groupUsed g.val = true ∧ s.hw.mode = .run ∧ (s.hw.lnk g.val).startAt = some x ∧ x ≤ s.hw.clk.up ∧ (s.hw.lnk g.val).toSend = [] ∧ (s.hw.lnk g.val).batch = [] ∧ (s.hw.lnk g.val).want = [] ∧ (s.hw.lnk g.val).tests = [] ∧ (s.hw.lnk g.val).await = none ∧ (s.hw.lnk g.val).sent = none ∧ (s.hw.lnk g.val).wasOff = false ∧ s.hw.offFrames g.val = false ∧ (s.hw.lnk g.val).injSupp = 0 ∧ s.hw.pend = [] ∧ (s.hw.lnk g.val).seen = true ∧ s.hw.fbit (R.FLD_GRPg_STATUS_BARRIER_OK g.val) = true ∧ (s.hw.lnk g.val).frames < 63 ∧ s.tbRoom (s.hw.clk.tb + 10000)) ∧
    (∃ (s : State) (g : Fin 6) (x : Nat), s.hw.fbit (R.FLD_GRPg_STATUS_ZIREK g.val) = false ∧ s.hw.fbit (R.FLD_GRPg_STATUS_CARRIER g.val) = true ∧ s.hw.groupUsed g.val = true ∧ s.hw.mode = .run ∧ (s.hw.lnk g.val).startAt = some x ∧ x ≤ s.hw.clk.up ∧ (s.hw.lnk g.val).toSend = [] ∧ (s.hw.lnk g.val).batch = [] ∧ (s.hw.lnk g.val).want = [] ∧ (s.hw.lnk g.val).tests = [] ∧ (s.hw.lnk g.val).await = none ∧ (s.hw.lnk g.val).sent = none ∧ (s.hw.lnk g.val).wasOff = false ∧ s.hw.offFrames g.val = false ∧ (s.hw.lnk g.val).injSupp = 0 ∧ s.hw.pend = [] ∧ (s.hw.lnk g.val).seen = false ∧ (s.hw.lnk g.val).missRun = 2 ∧ (s.hw.lnk g.val).loss.isSome = true ∧ s.hw.fbit (R.FLD_GRPg_STATUS_BARRIER_OK g.val) = true ∧ s.evRoom 1) ∧
    (∃ (s : State) (g : Fin 6), s.hw.fbit (R.FLD_GRPg_STATUS_CARRIER g.val) = true ∧ s.evRoom 1) ∧
    (∃ (s : State) (g : Fin 6) (x : Nat), (s.hw.lnk g.val).restartAt = some x ∧ s.hw.carrierMay g.val = true) ∧
    (∃ (s : State) (g : Fin 6) (w : Nat) (x : Nat), (s.hw.lnk g.val).out = some w ∧ (s.hw.lnk g.val).startAt = some x ∧ (s.hw.fs g.val).powered = true ∧ frameOk w = true ∧ w < 2 ^ 72) ∧
    (∃ (s : State) (g : Fin 6) (w : Nat) (x : Nat), (s.hw.lnk g.val).out = some w ∧ (s.hw.lnk g.val).startAt = some x ∧ (s.hw.fs g.val).powered = true) ∧
    (∃ (s : State) (g : Fin 6) (w : Nat), (s.hw.lnk g.val).ret = some w ∧ (s.hw.lnk g.val).injCrc = 0 ∧ frameOk w = true ∧ w < 2 ^ 72 ∧ frType w = 0 ∧ (s.hw.lnk g.val).await = none ∧ s.hw.mode = .run ∧ s.hw.fbit (R.FLD_GRPg_STATUS_BARRIER_OK g.val) = true) ∧
    (∃ (s : State) (g : Fin 6) (w : Nat) (m : Nat), (s.hw.lnk g.val).ret = some w ∧ (s.hw.lnk g.val).injCrc = 0 ∧ frameOk (w ^^^ m % 2 ^ 72) = false) :=
  ⟨⟨up (wt .run) (fun h => h.fset (R.FLD_CHc_CFG_MODE 8) 2), 1, by decide +kernel⟩,
   ⟨up (wt .run) (fun h => ((((h.fset (R.FLD_CHc_CFG_MODE 8) 2).fset (R.FLD_GRPg_STATUS_CARRIER 1) 1).fset (R.FLD_GRPg_STATUS_BARRIER_OK 1) 1).setLnk 1 { startAt := some 4999996000, seen := true, seq := 3, slot := 5 }).setFs 1 { powered := true }), 1, 4999996000, by unfold State.tbRoom; decide +kernel⟩,
   ⟨up (wt .run) (fun h => ((((h.fset (R.FLD_CHc_CFG_MODE 8) 2).fset (R.FLD_GRPg_STATUS_CARRIER 1) 1).fset (R.FLD_GRPg_STATUS_BARRIER_OK 1) 1).setLnk 1 { startAt := some 4999996000, missRun := 2, loss := some 0 }).setFs 1 { powered := true }), 1, 4999996000, by unfold State.evRoom; decide +kernel⟩,
   ⟨up (wt .run) (fun h => ((((h.fset (R.FLD_CHc_CFG_MODE 8) 2).fset (R.FLD_GRPg_STATUS_CARRIER 1) 1).fset (R.FLD_GRPg_STATUS_BARRIER_OK 1) 1).setLnk 1 {  }).setFs 1 { powered := true }), 1, by unfold State.evRoom; decide +kernel⟩,
   ⟨up (wt .run) (fun h => (h.fset (R.FLD_CHc_CFG_MODE 8) 2).setLnk 1 { restartAt := some 5010000000 }), 1, 5010000000, by decide +kernel⟩,
   ⟨up (wt .run) (fun h => ((((h.fset (R.FLD_CHc_CFG_MODE 8) 2).fset (R.FLD_GRPg_STATUS_CARRIER 1) 1).fset (R.FLD_GRPg_STATUS_BARRIER_OK 1) 1).setLnk 1 { startAt := some 5000000000, out := some (sealFrame (frameBits 0 3 5 0xA5 0xFF 0)) }).setFs 1 { powered := true }), 1, sealFrame (frameBits 0 3 5 0xA5 0xFF 0), 5000000000, by decide +kernel⟩,
   ⟨up (wt .run) (fun h => ((((h.fset (R.FLD_CHc_CFG_MODE 8) 2).fset (R.FLD_GRPg_STATUS_CARRIER 1) 1).fset (R.FLD_GRPg_STATUS_BARRIER_OK 1) 1).setLnk 1 { startAt := some 5000000000, out := some (sealFrame (frameBits 0 3 5 0xA5 0xFF 0)) }).setFs 1 { powered := true }), 1, sealFrame (frameBits 0 3 5 0xA5 0xFF 0), 5000000000, by decide +kernel⟩,
   ⟨up (wt .run) (fun h => ((((h.fset (R.FLD_CHc_CFG_MODE 8) 2).fset (R.FLD_GRPg_STATUS_CARRIER 1) 1).fset (R.FLD_GRPg_STATUS_BARRIER_OK 1) 1).setLnk 1 { ret := some (sealFrame (frameBits 0 3 0 0xA5 0 0)), missRun := 1 }).setFs 1 { powered := true }), 1, sealFrame (frameBits 0 3 0 0xA5 0 0), by decide +kernel⟩,
   ⟨up (wt .run) (fun h => ((((h.fset (R.FLD_CHc_CFG_MODE 8) 2).fset (R.FLD_GRPg_STATUS_CARRIER 1) 1).fset (R.FLD_GRPg_STATUS_BARRIER_OK 1) 1).setLnk 1 { ret := some (sealFrame (frameBits 0 3 0 0xA5 0 0)), missRun := 1 }).setFs 1 { powered := true }), 1, sealFrame (frameBits 0 3 0 0xA5 0 0), 5, by decide +kernel⟩⟩

/-- States and operands that meet the hypotheses of each clause of FieldLinks (2 of 2). -/
theorem test_meets_FieldLinks2 :
    (∃ (s : State) (g : Fin 6), s.hw.fbit (R.FLD_GRPg_STATUS_ZIREK g.val) = true ∧ s.hw.carrierMay g.val = true ∧ s.hw.pend = [] ∧ (s.hw.lnk g.val).startAt.isSome = true ∧ (s.hw.lnk g.val).seen = true) ∧
    (∃ (s : State) (g : Fin 6) (w : Nat), s.hw.fbit (R.FLD_GRPg_STATUS_ZIREK g.val) = true ∧ (s.hw.lnk g.val).startAt.isSome = true ∧ (s.hw.lnk g.val).seen = false ∧ zirekOk w ((s.hw.lnk g.val).seq + 7) = true ∧ w.testBit 43 = false ∧ s.hw.fbit (R.FLD_GRPg_STATUS_BARRIER_OK g.val) = true ∧ s.hw.mode = .run) ∧
    (∃ (s : State) (g : Fin 6) (w : Nat), s.hw.fbit (R.FLD_GRPg_STATUS_ZIREK g.val) = true ∧ (s.hw.lnk g.val).startAt.isSome = true ∧ (s.hw.lnk g.val).seen = false ∧ zirekOk w ((s.hw.lnk g.val).seq + 7) = true ∧ w.testBit 43 = true ∧ s.hw.dirMatch g.val (bitsOf w 32 8) = true ∧ 7 ≤ (s.hw.lnk g.val).goodRun ∧ s.hw.fbit (R.FLD_GRPg_STATUS_BARRIER_OK g.val) = false ∧ s.evRoom 1) ∧
    (∃ (s : State) (g : Fin 6), (s.hw.fs g.val).powered = true ∧ (s.hw.fs g.val).autonomy = true ∧ (s.hw.fs g.val).valid = 0) :=
  ⟨⟨up (wt .run) (fun h => (((h.fset (R.FLD_CHc_CFG_MODE 8) 2).fset (R.FLD_GRPg_STATUS_ZIREK 1) 1)).setLnk 1 { startAt := some 4999980000, seen := true, seq := 2 }), 1, by decide +kernel⟩,
   ⟨up (wt .run) (fun h => (((h.fset (R.FLD_CHc_CFG_MODE 8) 2).fset (R.FLD_GRPg_STATUS_ZIREK 1) 1).fset (R.FLD_GRPg_STATUS_BARRIER_OK 1) 1).setLnk 1 { startAt := some 4999980000, seq := 3 }), 1, 0x22A500C00000 + crc16 0xFFFF (beBytes 4 0x2A500C0), by decide +kernel⟩,
   ⟨up (wt .run) (fun h => (((h.fset (R.FLD_CHc_CFG_MODE 8) 2).fset (R.FLD_GRPg_STATUS_ZIREK 1) 1)).setLnk 1 { startAt := some 4999980000, seq := 3, goodRun := 7 }), 1, 0x2A0107000000 + crc16 0xFFFF (beBytes 4 0xA010700), by unfold State.evRoom; decide +kernel⟩,
   ⟨up (wt .run) (fun h => ((((h.fset (R.FLD_CHc_CFG_MODE 8) 2).fset (R.FLD_GRPg_STATUS_CARRIER 1) 1).fset (R.FLD_GRPg_STATUS_BARRIER_OK 1) 1).setLnk 1 {  }).setFs 1 { powered := true, autonomy := true, retAt := 4999999000 }), 1, by decide +kernel⟩⟩

/-- States and operands that meet the hypotheses of each clause of FieldSideEvents (1 of 3). -/
theorem test_meets_FieldSideEvents1 :
    (∃ (s : State) (g : Fin 6) (f : Fs), s.hw.fs g.val = f ∧ f.powered = true ∧ f.autonomy = false) ∧
    (∃ (s : State) (c : Fin 48) (x : FsCh) (v : Int), s.hw.fch c.val = x ∧ x.mode = 1 ∧ x.level v = x.filt) ∧
    (∃ (s : State) (c : Fin 48) (x : FsCh) (v : Int), s.hw.fch c.val = x ∧ x.mode = 1 ∧ x.level v ≠ x.filt) ∧
    (∃ (s : State) (c : Fin 48) (x : FsCh) (v : Int), s.hw.fch c.val = x ∧ x.mode = 1 ∧ x.level v ≠ x.pcl) ∧
    (∃ (s : State) (c : Fin 48) (x : FsCh) (n : Nat), s.hw.fch c.val = x ∧ x.mode = 1 ∧ (x.cfg 1).testBit 24 = true ∧ x.wb = false ∧ n < 50 ∧ x.inj = none ∧ s.evRoom 1) ∧
    (∃ (s : State) (c : Fin 48) (x : FsCh) (n : Nat), s.hw.fch c.val = x ∧ x.wb = true ∧ 100 ≤ n ∧ x.inj = none ∧ s.evRoom 1) ∧
    (∃ (s : State) (c : Fin 48) (x : FsCh), s.hw.fch c.val = x ∧ x.mode = 2 ∧ x.on = true ∧ x.limiting = true ∧ x.inj = none ∧ s.evRoom 1) ∧
    (∃ (s : State) (c : Fin 48) (x : FsCh), s.hw.fch c.val = x ∧ x.mode = 2 ∧ (s.hw.fs (c.val / 8)).supOk = true ∧ x.therm = false ∧ s.evRoom 1) ∧
    (∃ (s : State) (c : Fin 48) (x : FsCh), s.hw.fch c.val = x ∧ x.mode = 2 ∧ (x.ovl = true ∨ x.therm = true) ∧ x.latched = false ∧ x.hot = false ∧ (s.hw.fs (c.val / 8)).want x = true) :=
  ⟨⟨up (wt .run) (fun h => h.setFs 1 { powered := true, supOk := true, chs := [(3, { w := [10, 0, 0, 0, 0, 0] })] }), 1, { powered := true, supOk := true, chs := [(3, { w := [10, 0, 0, 0, 0, 0] })] }, by decide +kernel⟩,
   ⟨up (wt .run) (fun h => h.setFs 1 { powered := true, supOk := true, chs := [(3, { w := [1, 0x0400B4, 0, 0, 0, 0] })] }), 11, { w := [1, 0x0400B4, 0, 0, 0, 0] }, 0, by decide +kernel⟩,
   ⟨up (wt .run) (fun h => h.setFs 1 { powered := true, supOk := true, chs := [(3, { w := [1, 0x0400B4, 0, 0, 0, 0] })] }), 11, { w := [1, 0x0400B4, 0, 0, 0, 0] }, 2000, by decide +kernel⟩,
   ⟨up (wt .run) (fun h => h.setFs 1 { powered := true, supOk := true, chs := [(3, { w := [1, 0x0400B4, 0, 0, 0, 0] })] }), 11, { w := [1, 0x0400B4, 0, 0, 0, 0] }, 2000, by decide +kernel⟩,
   ⟨up (wt .run) (fun h => h.setFs 1 { powered := true, supOk := true, chs := [(3, { w := [1, 0x10400B4, 0, 0, 0, 0] })] }), 11, { w := [1, 0x10400B4, 0, 0, 0, 0] }, 20, by unfold State.evRoom; decide +kernel⟩,
   ⟨up (wt .run) (fun h => h.setFs 1 { powered := true, supOk := true, chs := [(3, { wb := true })] }), 11, { wb := true }, 200, by unfold State.evRoom; decide +kernel⟩,
   ⟨up (wt .run) (fun h => h.setFs 1 { powered := true, supOk := true, chs := [(3, { w := [2, 0, 0, 0x010A0A, 0, 0], on := true, limiting := true, limAt := 4999000000 })] }), 11, { w := [2, 0, 0, 0x010A0A, 0, 0], on := true, limiting := true, limAt := 4999000000 }, by unfold State.evRoom; decide +kernel⟩,
   ⟨up (wt .run) (fun h => h.setFs 1 { powered := true, supOk := true, chs := [(3, { w := [2, 0, 0, 0x010A0A, 0, 0], on := true })] }), 11, { w := [2, 0, 0, 0x010A0A, 0, 0], on := true }, by unfold State.evRoom; decide +kernel⟩,
   ⟨up (wt .run) (fun h => h.setFs 1 { powered := true, supOk := true, chs := [(3, { w := [2, 0, 0, 0x010A0A, 0, 0], ovl := true, ctl := true, cmd := true, offAt := 4999000000 })] }), 11, { w := [2, 0, 0, 0x010A0A, 0, 0], ovl := true, ctl := true, cmd := true, offAt := 4999000000 }, by decide +kernel⟩⟩

/-- States and operands that meet the hypotheses of each clause of FieldSideEvents (2 of 3). -/
theorem test_meets_FieldSideEvents2 :
    (∃ (s : State) (c : Fin 48) (x : FsCh), s.hw.fch c.val = x ∧ x.inrush = true) ∧
    (∃ (s : State) (g : Fin 6) (f : Fs), s.hw.fs g.val = f ∧ f.powered = true ∧ f.inj = none) ∧
    (∃ (s : State) (g : Fin 6) (f : Fs), s.hw.fs g.val = f ∧ f.powered = true ∧ f.inj = none ∧ 10 ≤ f.supN ∧ f.supInit = true ∧ f.supOk = true ∧ 10 ≤ f.okRun ∧ f.lowRun < 10 ∧ f.overRun < 10 ∧ s.evRoom 1) ∧
    (∃ (s : State) (g : Fin 6) (f : Fs), s.hw.fs g.val = f ∧ f.powered = true ∧ f.inj = none ∧ 10 ≤ f.supN ∧ f.supInit = true ∧ f.okRun < 10 ∧ f.supLow = false ∧ 10 ≤ f.lowRun ∧ f.overRun < 10 ∧ s.evRoom 1) ∧
    (∃ (s : State) (c : Fin 48) (x : FsCh), s.hw.fch c.val = x ∧ x.mode = 3 ∧ x.inj = none ∧ s.tbRoom (x.convAt + x.convN * 5000)) ∧
    (∃ (s : State) (c : Fin 48) (x : FsCh), s.hw.fch c.val = x ∧ x.mode = 3 ∧ x.inj = none ∧ x.adc = false ∧ s.evRoom 1) ∧
    (∃ (s : State) (c : Fin 48) (x : FsCh), s.hw.fch c.val = x ∧ x.mode = 3 ∧ x.disc = false ∧ x.limiting = false ∧ s.evRoom 1) ∧
    (∃ (s : State) (c : Fin 48) (x : FsCh), s.hw.fch c.val = x ∧ x.mode = 3 ∧ x.limiting = true ∧ s.evRoom 1) ∧
    (∃ (s : State) (c : Fin 48) (x : FsCh), s.hw.fch c.val = x ∧ x.disc = true ∧ s.evRoom 1) :=
  ⟨⟨up (wt .run) (fun h => h.setFs 1 { powered := true, supOk := true, chs := [(3, { inrush := true, onAt := 4999000000 })] }), 11, { inrush := true, onAt := 4999000000 }, by decide +kernel⟩,
   ⟨up (wt .run) (fun h => h.setFs 1 { powered := true, supAt := 5000000000, supOk := true, supLow := false, okRun := 4, lowRun := 2 }), 1, { powered := true, supAt := 5000000000, supOk := true, supLow := false, okRun := 4, lowRun := 2 }, by decide +kernel⟩,
   ⟨up (wt .run) (fun h => h.setFs 1 { powered := true, supN := 20, supInit := true, supOk := true, supLow := false, okRun := 10, lplus := 80, chs := [(3, { on := true, w := [2] })] }), 1, { powered := true, supN := 20, supInit := true, supOk := true, supLow := false, okRun := 10, lplus := 80, chs := [(3, { on := true, w := [2] })] }, by unfold State.evRoom; decide +kernel⟩,
   ⟨up (wt .run) (fun h => h.setFs 1 { powered := true, supN := 20, supInit := true, supOk := true, supLow := false, lowRun := 10, lplus := 80 }), 1, { powered := true, supN := 20, supInit := true, supOk := true, supLow := false, lowRun := 10, lplus := 80 }, by unfold State.evRoom; decide +kernel⟩,
   ⟨up (wt .run) (fun h => h.setFs 1 { powered := true, supOk := true, chs := [(3, { w := [3, 0, 0, 0, 0, 0] })] }), 11, { w := [3, 0, 0, 0, 0, 0] }, by unfold State.tbRoom; decide +kernel⟩,
   ⟨up (wt .run) (fun h => h.setFs 1 { powered := true, supOk := true, chs := [(3, { w := [3, 0, 0, 0, 0, 0] })] }), 11, { w := [3, 0, 0, 0, 0, 0] }, by unfold State.evRoom; decide +kernel⟩,
   ⟨up (wt .run) (fun h => h.setFs 1 { powered := true, supOk := true, chs := [(3, { w := [3, 0, 0, 0, 0, 0] })] }), 11, { w := [3, 0, 0, 0, 0, 0] }, by unfold State.evRoom; decide +kernel⟩,
   ⟨up (wt .run) (fun h => h.setFs 1 { powered := true, supOk := true, chs := [(3, { w := [3, 0, 0, 0, 0, 0], limiting := true, limAt := 5000000000 })] }), 11, { w := [3, 0, 0, 0, 0, 0], limiting := true, limAt := 5000000000 }, by unfold State.evRoom; decide +kernel⟩,
   ⟨up (wt .run) (fun h => h.setFs 1 { powered := true, supOk := true, chs := [(3, { w := [3, 0, 0, 0, 0, 0], disc := true, discAt := 5000000000 })] }), 11, { w := [3, 0, 0, 0, 0, 0], disc := true, discAt := 5000000000 }, by unfold State.evRoom; decide +kernel⟩⟩

/-- States and operands that meet the hypotheses of each clause of FieldSideEvents (3 of 3). -/
theorem test_meets_FieldSideEvents3 :
    (∃ (s : State) (c : Fin 48) (x : FsCh), s.hw.fch c.val = x ∧ x.lim = true ∧ x.disc = false ∧ x.inj = none) ∧
    (∃ (s : State) (c : Fin 48) (x : FsCh) (l : Bool), s.hw.fch c.val = x ∧ x.mode = 4 ∧ x.therm ≠ l ∧ s.evRoom 1) ∧
    (∃ (s : State) (c : Fin 48) (x : FsCh) (w : Word), s.hw.fch c.val = x ∧ c.val < 32 ∧ w = BitVec.twoPow 32 c.val ∧ x.latched = true ∧ x.hot = false ∧ s.evRoom 1) ∧
    (∃ (s : State) (c : Fin 48) (x : FsCh), s.hw.fch c.val = x ∧ x.mode = 2 ∧ x.latched = false) :=
  ⟨⟨up (wt .run) (fun h => h.setFs 1 { powered := true, supOk := true, chs := [(3, { w := [3, 0, 0, 0, 0, 0], lim := true })] }), 11, { w := [3, 0, 0, 0, 0, 0], lim := true }, by decide +kernel⟩,
   ⟨up (wt .run) (fun h => h.setFs 1 { powered := true, supOk := true, chs := [(3, { w := [4, 0, 0, 0, 0, 0], drive := 12 })] }), 11, { w := [4, 0, 0, 0, 0, 0], drive := 12 }, true, by unfold State.evRoom; decide +kernel⟩,
   ⟨up (wt .run) (fun h => h.setFs 1 { powered := true, supOk := true, chs := [(3, { w := [2, 0, 0, 0x010A2A, 0, 0], latched := true, ovl := true })] }), 11, { w := [2, 0, 0, 0x010A2A, 0, 0], latched := true, ovl := true }, 0x800#32, by unfold State.evRoom; decide +kernel⟩,
   ⟨up (wt .run) (fun h => h.setFs 1 { powered := true, supOk := true, chs := [(3, { w := [2, 0, 0, 0x010A0A, 0, 0], therm := true, hot := true, retry := true, ctl := true, cmd := true })] }), 11, { w := [2, 0, 0, 0x010A0A, 0, 0], therm := true, hot := true, retry := true, ctl := true, cmd := true }, by decide +kernel⟩⟩

/-- States and operands that meet the hypotheses of each clause of ChannelTestsAndTables (1 of 2). -/
theorem test_meets_ChannelTestsAndTables1 :
    (∃ (s : State) (d : Desc), s.served d 0x0A01 ∧ s.allows .cht { d with op := 0x0A01 } ∧ s.hw.zirek (d.p0 / 8) = false ∧ d.p0 < 48 ∧ ((s.hw.fget (R.FLD_CHc_CFG_MODE d.p0) = 1 ∧ (d.p1 = 1 ∨ d.p1 = 2)) ∨ (s.hw.fget (R.FLD_CHc_CFG_MODE d.p0) = 2 ∧ 3 ≤ d.p1 ∧ d.p1 ≤ 6) ∨ (s.hw.fget (R.FLD_CHc_CFG_MODE d.p0) = 3 ∧ 1 ≤ d.p1 ∧ d.p1 ≤ 3)) ∧ d.p2 < 65536) ∧
    (∃ (s : State) (d : Desc), s.served d 0x0A01 ∧ s.allows .cht { d with op := 0x0A01 } ∧ s.hw.zirek (d.p0 / 8) = false ∧ d.p0 < 48 ∧ s.hw.fget (R.FLD_CHc_CFG_MODE d.p0) = 4 ∧ d.p1 = 0) ∧
    (∃ (s : State) (d : Desc), s.served d 0x0A01 ∧ s.allows .cht { d with op := 0x0A01 } ∧ (48 ≤ d.p0 ∨ s.hw.fget (R.FLD_CHc_CFG_MODE d.p0) = 0 ∨ 7 ≤ d.p1) ∧ s.hw.fld.tests = [] ∧ s.evRoom 1) ∧
    (∃ (s : State) (c : Fin 48) (y : ChTest), s.hw.fld.tests = [(c.val, y)] ∧ y.dur ≠ 0 ∧ s.evRoom 2 ∧ y.d.src.isEng = false ∧ y.d.relayed = false ∧ s.hw.hif.lost = [] ∧ s.hw.fget (R.FLD_CHc_CFG_MODE c.val) = 2) ∧
    (∃ (s : State) (c : Fin 48) (y : ChTest), s.hw.fld.tests = [(c.val, y)] ∧ y.dur ≠ 0 ∧ s.evRoom 2 ∧ y.d.src.isEng = false ∧ y.d.relayed = false ∧ s.hw.hif.lost = [] ∧ s.hw.fget (R.FLD_CHc_CFG_MODE c.val) = 1) ∧
    (∃ (s : State) (c : Fin 48) (y : ChTest), s.hw.fld.tests = [(c.val, y)] ∧ y.dur ≠ 0 ∧ s.evRoom 2 ∧ y.d.src.isEng = false ∧ y.d.relayed = false ∧ s.hw.hif.lost = [] ∧ s.hw.fget (R.FLD_CHc_CFG_MODE c.val) = 3 ∧ y.code = 1) ∧
    (∃ (s : State) (c : Fin 48) (y : ChTest), s.hw.fld.tests = [(c.val, y)] ∧ y.dur ≠ 0 ∧ s.evRoom 2 ∧ y.d.src.isEng = false ∧ y.d.relayed = false ∧ s.hw.hif.lost = [] ∧ s.hw.fget (R.FLD_CHc_CFG_MODE c.val) = 3 ∧ y.code = 2) ∧
    (∃ (s : State) (c : Fin 48) (y : ChTest), s.hw.fld.tests = [(c.val, y)] ∧ y.dur ≠ 0 ∧ s.evRoom 2 ∧ y.d.src.isEng = false ∧ y.d.relayed = false ∧ s.hw.hif.lost = [] ∧ s.hw.fget (R.FLD_CHc_CFG_MODE c.val) = 3 ∧ y.code = 3) ∧
    (∃ (s : State), s.hw.fld.tests = []) :=
  ⟨⟨up (wt .test) (fun h => (h.fset (R.FLD_CHc_CFG_MODE 11) 2)), { p0 := 11, p1 := 4, p2 := 500 }, by unfold State.served State.allows; decide +kernel⟩,
   ⟨up (wt .test) (fun h => (h.fset (R.FLD_CHc_CFG_MODE 11) 4)), { p0 := 11, p2 := 12000000 }, by unfold State.served State.allows; decide +kernel⟩,
   ⟨up (wt .test) (fun h => (h.fset (R.FLD_CHc_CFG_MODE 11) 2)), { p0 := 48, p1 := 4 }, by unfold State.served State.allows State.evRoom; decide +kernel⟩,
   ⟨up (wt .test) (fun h => ({ h with fld := { h.fld with tests := [(11, { d := { op := 0x0A01, p0 := 11 }, code := 4, dur := 500, start := 5000000000 })] } }.fset (R.FLD_CHc_CFG_MODE 11) 2).actSet .cht true), 11, { d := { op := 0x0A01, p0 := 11 }, code := 4, dur := 500, start := 5000000000 }, by unfold State.evRoom; decide +kernel⟩,
   ⟨up (wt .test) (fun h => ({ h with fld := { h.fld with tests := [(11, { d := { op := 0x0A01, p0 := 11 }, code := 2, dur := 500, start := 5000000000 })] } }.fset (R.FLD_CHc_CFG_MODE 11) 1).actSet .cht true), 11, { d := { op := 0x0A01, p0 := 11 }, code := 2, dur := 500, start := 5000000000 }, by unfold State.evRoom; decide +kernel⟩,
   ⟨up (wt .test) (fun h => ({ h with fld := { h.fld with tests := [(11, { d := { op := 0x0A01, p0 := 11 }, code := 1, dur := 500, start := 5000000000 })] } }.fset (R.FLD_CHc_CFG_MODE 11) 3).actSet .cht true), 11, { d := { op := 0x0A01, p0 := 11 }, code := 1, dur := 500, start := 5000000000 }, by unfold State.evRoom; decide +kernel⟩,
   ⟨up (wt .test) (fun h => ({ h with fld := { h.fld with tests := [(11, { d := { op := 0x0A01, p0 := 11 }, code := 2, dur := 500, start := 5000000000 })] } }.fset (R.FLD_CHc_CFG_MODE 11) 3).actSet .cht true), 11, { d := { op := 0x0A01, p0 := 11 }, code := 2, dur := 500, start := 5000000000 }, by unfold State.evRoom; decide +kernel⟩,
   ⟨up (wt .test) (fun h => ({ h with fld := { h.fld with tests := [(11, { d := { op := 0x0A01, p0 := 11 }, code := 3, dur := 500, start := 5000000000 })] } }.fset (R.FLD_CHc_CFG_MODE 11) 3).actSet .cht true), 11, { d := { op := 0x0A01, p0 := 11 }, code := 3, dur := 500, start := 5000000000 }, by unfold State.evRoom; decide +kernel⟩,
   ⟨up (wt .test) (fun h => (h.fset (R.FLD_CHc_CFG_MODE 11) 2)), by decide +kernel⟩⟩

/-- States and operands that meet the hypotheses of each clause of ChannelTestsAndTables (2 of 2). -/
theorem test_meets_ChannelTestsAndTables2 :
    (∃ (s : State) (d : Desc) (y : ChTest), s.served d 0x0A02 ∧ s.hw.fld.tests = [(d.p0, y)] ∧ y.dur = 0 ∧ s.evRoom 3 ∧ s.hw.fget (R.FLD_CHc_CFG_MODE d.p0) = 2 ∧ y.d.src.isEng = false ∧ y.d.relayed = false ∧ s.hw.hif.lost = []) ∧
    (∃ (s : State) (d : Desc) (y : ChTest), s.served d 0x0A02 ∧ s.hw.fld.tests = [(d.p0, y)] ∧ s.evRoom 3 ∧ s.hw.fget (R.FLD_CHc_CFG_MODE d.p0) = 4 ∧ s.hw.fget R.FLD_AN_TEST_CHANNEL = d.p0 ∧ y.d.src.isEng = false ∧ y.d.relayed = false ∧ s.hw.hif.lost = []) ∧
    (∃ (s : State) (d : Desc), s.served d 0x0A02 ∧ s.hw.fld.tests = [] ∧ s.evRoom 1) ∧
    (∃ (s : State), s.hw.stopClass = true) ∧
    (∃ (s : State), s.hw.stopClass = false) ∧
    (∃ (s : State) (c : Fin 48) (w : Word) (y : ChTest), s.hw.fld.tests = [(c.val, y)] ∧ s.hw.fget (R.FLD_CHc_CFG_MODE c.val) = 4 ∧ w.toNat % 64 = c.val) ∧
    (∃ (s : State) (c : Fin 48) (y : ChTest), s.hw.fld.tests = [(c.val, y)] ∧ s.hw.fget (R.FLD_CHc_CFG_MODE c.val) = 4 ∧ s.hw.fget R.FLD_AN_TEST_CHANNEL = c.val) ∧
    (∃ (s : State), s.hw.fld.tests = []) :=
  ⟨⟨up (wt .test) (fun h => ({ h with fld := { h.fld with tests := [(11, { d := { op := 0x0A01, p0 := 11 }, code := 3, dur := 0, start := 5000000000 })] } }.fset (R.FLD_CHc_CFG_MODE 11) 2).actSet .cht true), { p0 := 11, aux := 0x10007 }, { d := { op := 0x0A01, p0 := 11 }, code := 3, dur := 0, start := 5000000000 }, by unfold State.served State.evRoom; decide +kernel⟩,
   ⟨up (wt .test) (fun h => (({ h with fld := { h.fld with tests := [(11, { d := { op := 0x0A01, p0 := 11 }, code := 0, dur := 0, start := 5000000000 })] } }.fset (R.FLD_CHc_CFG_MODE 11) 4).fset R.FLD_AN_TEST_CHANNEL 11).actSet .cht true), { p0 := 11, aux := 0x10007 }, { d := { op := 0x0A01, p0 := 11 }, code := 0, dur := 0, start := 5000000000 }, by unfold State.served State.evRoom; decide +kernel⟩,
   ⟨up (wt .test) (fun h => (h.fset (R.FLD_CHc_CFG_MODE 11) 2)), { p0 := 11 }, by unfold State.served State.evRoom; decide +kernel⟩,
   ⟨up (wt .stop) (fun h => h.fset (R.FLD_TBL_CTRLt_N 2) 2), by decide +kernel⟩,
   ⟨wt .run, by decide +kernel⟩,
   ⟨up (wt .test) (fun h => ({ h with fld := { h.fld with tests := [(11, { d := { op := 0x0A01, p0 := 11 }, code := 0, dur := 0, start := 5000000000 })] } }.fset (R.FLD_CHc_CFG_MODE 11) 4).actSet .cht true), 11, 11#32, { d := { op := 0x0A01, p0 := 11 }, code := 0, dur := 0, start := 5000000000 }, by decide +kernel⟩,
   ⟨up (wt .test) (fun h => (({ h with fld := { h.fld with tests := [(11, { d := { op := 0x0A01, p0 := 11 }, code := 0, dur := 0, start := 5000000000 })] } }.fset (R.FLD_CHc_CFG_MODE 11) 4).fset R.FLD_AN_TEST_CHANNEL 11).actSet .cht true), 11, { d := { op := 0x0A01, p0 := 11 }, code := 0, dur := 0, start := 5000000000 }, by decide +kernel⟩,
   ⟨wt .run, by decide +kernel⟩⟩

/-- States and operands that meet the hypotheses of each clause of HostRings (1 of 2). -/
theorem test_meets_HostRings1 :
    (∃ (s : State), s.hw.fbit R.HIF_CTRL_GO = false ∧ s.evRoom 8) ∧
    (∃ (s : State), s.hw.fbit R.HIF_CTRL_GO = true) ∧
    (∃ (s : State) (r : Fin 8) (is : List (Nat × Nat)) (a : Nat) (b : Nat), s.hw.fbit R.HIF_CTRL_GO = true ∧ s.hw.fbit R.HIF_STATUS_READY = true ∧ s.hw.fbit R.HIF_LINK_UP = true ∧ s.hw.mode ≠ .boot ∧ s.hw.mode ≠ .parked ∧ (s.hw.ring r.val).on = true ∧ s.hw.hif.injPoll = none ∧ is.getD r.val (0, 0) = (a, b) ∧ r.val < is.length ∧ a < 2 ^ 32 ∧ b < 2 ^ 32 ∧ (a + 2 ^ 32 - (s.hw.ring r.val).sqCons) % 2 ^ 32 ≤ 2 ^ (s.hw.ring r.val).sizeLog2) ∧
    (∃ (s : State) (r : Fin 8) (is : List (Nat × Nat)) (a : Nat) (b : Nat), s.hw.fbit R.HIF_CTRL_GO = true ∧ s.hw.fbit R.HIF_STATUS_READY = true ∧ s.hw.fbit R.HIF_LINK_UP = true ∧ s.hw.mode ≠ .boot ∧ s.hw.mode ≠ .parked ∧ (s.hw.ring r.val).on = true ∧ s.hw.hif.injPoll = none ∧ is.getD r.val (0, 0) = (a, b) ∧ r.val < is.length ∧ a < 2 ^ 32 ∧ b < 2 ^ 32 ∧ 2 ^ (s.hw.ring r.val).sizeLog2 < (a + 2 ^ 32 - (s.hw.ring r.val).sqCons) % 2 ^ 32 ∧ s.evRoom 8) ∧
    (∃ (s : State) (r : Fin 8) (fs : List (Option (List Desc))) (ds : List Desc), s.hw.fbit R.HIF_CTRL_GO = true ∧ s.hw.fbit R.HIF_STATUS_READY = true ∧ s.hw.fbit R.HIF_LINK_UP = true ∧ s.hw.mode ≠ .boot ∧ s.hw.mode ≠ .parked ∧ (s.hw.ring r.val).on = true ∧ (∀ z : Fin 8, z ≠ r → (s.hw.ring z.val).on = false) ∧ s.hw.overCompl r.val < 16 ∧ (s.hw.ring r.val).sqCons < 2 ^ 32 ∧ (s.hw.ring r.val).prio < 8 ∧ fs.getD r.val (some []) = some ds ∧ (∀ z : Desc, z ∈ ds → z.unknown = none) ∧ s.hw.hif.queue.length + 8 ≤ 64 ∧ ds.length = (min 8 (((s.hw.ring r.val).sqProd + 2 ^ 32 - (s.hw.ring r.val).sqCons) % 2 ^ 32)) ∧ ds ≠ []) ∧
    (∃ (s : State) (r : Fin 8) (fs : List (Option (List Desc))), s.hw.fbit R.HIF_CTRL_GO = true ∧ s.hw.fbit R.HIF_STATUS_READY = true ∧ s.hw.fbit R.HIF_LINK_UP = true ∧ s.hw.mode ≠ .boot ∧ s.hw.mode ≠ .parked ∧ (s.hw.ring r.val).on = true ∧ (∀ z : Fin 8, z ≠ r → (s.hw.ring z.val).on = false) ∧ (s.hw.ring r.val).sqProd ≠ (s.hw.ring r.val).sqCons ∧ (s.hw.ring r.val).sqProd < 2 ^ 32 ∧ (s.hw.ring r.val).sqCons < 2 ^ 32 ∧ fs.getD r.val (some []) = none ∧ s.evRoom 1) ∧
    (∃ (s : State) (r : Fin 8) (a : Nat) (c : Compl), s.hw.hif.done = [c] ∧ c.src = .ring r.val a ∧ s.hw.hif.injHold = none ∧ (s.hw.ring r.val).sizeLog2 ≠ 0 ∧ (s.hw.ring r.val).holdUntil ≤ s.hw.clk.up ∧ s.hw.sup.resetDue = none ∧ ((s.hw.ring r.val).cqProd + 2 ^ 32 - (s.hw.ring r.val).cqCons) % 2 ^ 32 < 2 ^ (s.hw.ring r.val).sizeLog2 ∧ c.noirq = true) ∧
    (∃ (s : State) (r : Fin 8) (a : Nat) (c : Compl), s.hw.hif.done = [c] ∧ c.src = .ring r.val a ∧ s.hw.hif.injHold = none ∧ (s.hw.ring r.val).sizeLog2 ≠ 0 ∧ (s.hw.ring r.val).holdUntil ≤ s.hw.clk.up ∧ s.hw.sup.resetDue = none ∧ ((s.hw.ring r.val).cqProd + 2 ^ 32 - (s.hw.ring r.val).cqCons) % 2 ^ 32 < 2 ^ (s.hw.ring r.val).sizeLog2 ∧ c.noirq = false ∧ s.hw.msix (4 * (s.hw.ring r.val).vector + 3) = 0#32) ∧
    (∃ (s : State) (r : Fin 8) (a : Nat) (c : Compl) (b : Nat), s.hw.hif.done = [c] ∧ c.src = .ring r.val a ∧ s.hw.hif.injHold = none ∧ (s.hw.ring r.val).sizeLog2 ≠ 0 ∧ (s.hw.ring r.val).holdUntil ≤ s.hw.clk.up ∧ ((s.hw.ring r.val).cqProd + 2 ^ 32 - (s.hw.ring r.val).cqCons) % 2 ^ 32 < 2 ^ (s.hw.ring r.val).sizeLog2 ∧ c.noirq = true ∧ c.op = 0x0101 ∧ s.hw.sup.resetDue = some b) :=
  ⟨⟨wt .run, by unfold State.evRoom; decide +kernel⟩,
   ⟨up (wt .run) (fun h => h.fset R.HIF_CTRL_GO 1), by decide +kernel⟩,
   ⟨up (wt .run) (fun h => ({ (((h.fset R.HIF_CTRL_GO 1).fset R.HIF_STATUS_READY 1).fset R.HIF_LINK_UP 1) with hif := { h.hif with pollAt := 4999999000 } }.setRing 2 { sizeLog2 := 4, on := true, sqCons := 2, sqProd := 2 })), 2, [(0, 0), (0, 0), (6, 3)], 6, 3, by decide +kernel⟩,
   ⟨up (wt .run) (fun h => ({ (((h.fset R.HIF_CTRL_GO 1).fset R.HIF_STATUS_READY 1).fset R.HIF_LINK_UP 1) with hif := { h.hif with pollAt := 4999999000 } }.setRing 2 { sizeLog2 := 4, on := true, sqCons := 2, sqProd := 2 })), 2, [(0, 0), (0, 0), (19, 3)], 19, 3, by unfold State.evRoom; decide +kernel⟩,
   ⟨up (wt .run) (fun h => ({ (((h.fset R.HIF_CTRL_GO 1).fset R.HIF_STATUS_READY 1).fset R.HIF_LINK_UP 1) with hif := { h.hif with pollAt := 4999999000 } }.setRing 2 { sizeLog2 := 4, on := true, sqCons := 15, sqProd := 17 })), 2, [none, some [], some [{ op := 1 }, { op := 2 }]], [{ op := 1 }, { op := 2 }], by decide +kernel⟩,
   ⟨up (wt .run) (fun h => ({ (((h.fset R.HIF_CTRL_GO 1).fset R.HIF_STATUS_READY 1).fset R.HIF_LINK_UP 1) with hif := { h.hif with pollAt := 4999999000 } }.setRing 2 { sizeLog2 := 4, on := true, sqCons := 15, sqProd := 17 })), 2, [none, some [], none], by unfold State.evRoom; decide +kernel⟩,
   ⟨up (wt .run) (fun h => ({ h with hif := { h.hif with done := [{ src := .ring 2 5, op := 2, tag := 9, addr := 64, noirq := true, out := [1#8, 2#8] }] } }.setRing 2 { sizeLog2 := 4, on := true, cqProd := 17, cqCons := 16, start := 16 })), 2, 5, { src := .ring 2 5, op := 2, tag := 9, addr := 64, noirq := true, out := [1#8, 2#8] }, by decide +kernel⟩,
   ⟨up (wt .run) (fun h => ({ h with hif := { h.hif with done := [{ src := .ring 2 5, op := 2, tag := 9 }], msix := [(4, 0xFEE00000#32), (7, 0#32)] } }.setRing 2 { sizeLog2 := 4, on := true, cqProd := 33, cqCons := 30, start := 16, vector := 1 })), 2, 5, { src := .ring 2 5, op := 2, tag := 9 }, by decide +kernel⟩,
   ⟨up (wt .run) (fun h => ({ h with sup := { h.sup with resetDue := some 1 }, hif := { h.hif with done := [{ src := .ring 2 5, op := 0x0101, noirq := true }] } }.setRing 2 { sizeLog2 := 4, on := true })), 2, 5, { src := .ring 2 5, op := 0x0101, noirq := true }, 1, by decide +kernel⟩⟩

/-- States and operands that meet the hypotheses of each clause of HostRings (2 of 2). -/
theorem test_meets_HostRings2 :
    (∃ (s : State) (r : Fin 8) (a : Nat) (c : Compl), s.hw.hif.done = [c] ∧ c.src = .ring r.val a ∧ s.hw.hif.injHold = none ∧ (s.hw.ring r.val).sizeLog2 ≠ 0 ∧ (s.hw.ring r.val).holdUntil ≤ s.hw.clk.up ∧ 2 ^ (s.hw.ring r.val).sizeLog2 ≤ ((s.hw.ring r.val).cqProd + 2 ^ 32 - (s.hw.ring r.val).cqCons) % 2 ^ 32 ∧ (s.hw.ring r.val).fullSeen = false ∧ s.evRoom 1) ∧
    (∃ (s : State) (r : Fin 8) (a : Nat) (c : Compl), s.hw.hif.done = [c] ∧ c.src = .ring r.val a ∧ (s.hw.ring r.val).sizeLog2 ≠ 0 ∧ ((s.hw.ring r.val).cqProd + 2 ^ 32 - (s.hw.ring r.val).cqCons) % 2 ^ 32 < 2 ^ (s.hw.ring r.val).sizeLog2 ∧ c.noirq = true ∧ s.hw.sup.resetDue = none) ∧
    (∃ (s : State) (x : Fin 3), s.hw.hif.lost = [] ∧ s.evRoom 1 ∧ x = 0 ∧ s.hw.fbit R.HIF_LINK_UP = true) ∧
    (∃ (s : State) (x : Fin 3), s.hw.hif.lost = [] ∧ s.evRoom 1 ∧ x = 2) ∧
    (∃ (s : State), s.hw.powered = true ∧ s.evRoom 1) ∧
    (∃ (s : State) (m : Msg) (l : List Msg), s.hw.net.msgs = m :: l ∧ s.hw.mode ≠ .boot ∧ s.hw.mode ≠ .parked ∧ s.hw.hif.queue.length < 64 ∧ m.bytes.length < 32) ∧
    (∃ (s : State) (m : Msg) (l : List Msg) (a : Nat) (e : Compl), s.hw.net.msgs = m :: l ∧ s.hw.mode ≠ .boot ∧ s.hw.mode ≠ .parked ∧ s.hw.hif.queue.length < 64 ∧ 32 ≤ m.bytes.length ∧ s.hw.net.replies.find? (fun (z : Nat × Nat × Option Compl) => z.2.1 == m.sid) = some (a, m.sid, some e)) ∧
    (∃ (s : State) (m : Msg) (l : List Msg) (d : Desc), s.hw.net.msgs = m :: l ∧ s.hw.mode ≠ .boot ∧ s.hw.mode ≠ .parked ∧ s.hw.hif.queue.length < 64 ∧ 32 ≤ m.bytes.length ∧ s.hw.net.replies.find? (fun (z : Nat × Nat × Option Compl) => z.2.1 == m.sid) = none ∧ m.desc .none 0 = d ∧ s.hw.hif.queue = [] ∧ s.hw.sup.waitTo = none ∧ d.malformed = false ∧ s.hw.sup.romOnly = false ∧ d.op = 0x0001) ∧
    (∃ (s : State) (m : Msg) (l : List Msg) (d : Desc), s.hw.net.msgs = m :: l ∧ s.hw.mode ≠ .boot ∧ s.hw.mode ≠ .parked ∧ s.hw.hif.queue.length < 64 ∧ 32 ≤ m.bytes.length ∧ s.hw.net.replies.find? (fun (z : Nat × Nat × Option Compl) => z.2.1 == m.sid) = none ∧ m.desc .none 0 = d ∧ s.hw.hif.queue = [] ∧ s.hw.sup.waitTo = none ∧ d.malformed = false ∧ s.hw.sup.romOnly = false ∧ d.op = 0x0301 ∧ s.hw.fbit R.HIF_ENG_CFG_ENG_WRITE = false ∧ s.evRoom 1) :=
  ⟨⟨up (wt .run) (fun h => ({ h with hif := { h.hif with done := [{ src := .ring 2 5, op := 2, tag := 9, addr := 64, noirq := true, out := [1#8, 2#8] }] } }.setRing 2 { sizeLog2 := 4, on := true, cqProd := 32, cqCons := 16 })), 2, 5, { src := .ring 2 5, op := 2, tag := 9, addr := 64, noirq := true, out := [1#8, 2#8] }, by unfold State.evRoom; decide +kernel⟩,
   ⟨up (wt .run) (fun h => ({ h with hif := { h.hif with done := [{ src := .ring 2 5, op := 2, tag := 9, addr := 64, noirq := true, out := [1#8, 2#8] }] } }.setRing 2 { sizeLog2 := 4, on := true, cqProd := 32, cqCons := 20, fullSeen := true, holdUntil := 5000100000 })), 2, 5, { src := .ring 2 5, op := 2, tag := 9, addr := 64, noirq := true, out := [1#8, 2#8] }, by decide +kernel⟩,
   ⟨up (wt .run) (fun h => (({ h with hif := { h.hif with done := [{ op := 1 }], running := [{ op := 0x0401, tag := 3 }] } }.fset R.HIF_LINK_UP 1).fset R.HIF_CTRL_GO 1).setReg R.HIF_DB_LO 0x1000#32), 0, by unfold State.evRoom; decide +kernel⟩,
   ⟨up (wt .run) (fun h => (({ h with hif := { h.hif with done := [{ op := 1 }], running := [{ op := 0x0401, tag := 3 }] } }.fset R.HIF_LINK_UP 1).fset R.HIF_CTRL_GO 1).setReg R.HIF_DB_LO 0x1000#32), 2, by unfold State.evRoom; decide +kernel⟩,
   ⟨wt .run, by unfold State.evRoom; decide +kernel⟩,
   ⟨up (wt .run) (fun h => { h with net := { h.net with prpSeq := 7, msgs := [{ session := 1, dir := 2, sid := 5, bytes := [1#8] }] } }), { session := 1, dir := 2, sid := 5, bytes := [1#8] }, [], by decide +kernel⟩,
   ⟨up (wt .run) (fun h => { h with net := { h.net with prpSeq := 7, msgs := [{ session := 1, dir := 2, sid := 5, bytes := leBytes 4 1 ++ leBytes 4 77 ++ List.replicate 24 0#8 }], replies := [(2, 5, some { op := 9 })] } }), { session := 1, dir := 2, sid := 5, bytes := leBytes 4 1 ++ leBytes 4 77 ++ List.replicate 24 0#8 }, [], 2, { op := 9 }, by decide +kernel⟩,
   ⟨up (wt .run) (fun h => { h with net := { h.net with prpSeq := 7, msgs := [{ session := 1, dir := 2, sid := 5, bytes := leBytes 4 1 ++ leBytes 4 77 ++ List.replicate 24 0#8 }] } }), { session := 1, dir := 2, sid := 5, bytes := leBytes 4 1 ++ leBytes 4 77 ++ List.replicate 24 0#8 }, [], ({ session := 1, dir := 2, sid := 5, bytes := leBytes 4 1 ++ leBytes 4 77 ++ List.replicate 24 0#8 } : Msg).desc .none 0, by decide +kernel⟩,
   ⟨up (wt .run) (fun h => { h with net := { h.net with prpSeq := 7, msgs := [{ session := 1, dir := 2, sid := 5, bytes := leBytes 4 0x0301 ++ List.replicate 28 0#8 }] } }), { session := 1, dir := 2, sid := 5, bytes := leBytes 4 0x0301 ++ List.replicate 28 0#8 }, [], ({ session := 1, dir := 2, sid := 5, bytes := leBytes 4 0x0301 ++ List.replicate 28 0#8 } : Msg).desc .none 0, by unfold State.evRoom; decide +kernel⟩⟩

/-- States and operands that meet the hypotheses of each clause of RegisterCommands (1 of 2). -/
theorem test_meets_RegisterCommands1 :
    (∃ (s : State) (d : Desc), s.served d 0x0001) ∧
    (∃ (s : State) (d : Desc), s.served d 0x0002 ∧ 64 ≤ d.len) ∧
    (∃ (s : State) (d : Desc), s.served d 0x0002 ∧ d.len < 64) ∧
    (∃ (s : State) (d : Desc), s.served d 0x0003 ∧ d.p0 % 4 = 0 ∧ 4 * d.p1 ≤ d.len ∧ d.p1 = 1 ∧ 0x40000000 ≤ d.p0 ∧ d.p0 < 0x400C0000 ∧ d.p0 ∉ [R.NET_TB_LO, R.CAL_DATE, R.TSK_EPOCH_LO, R.TSK_OLC_POINT_LO, R.HIF_STATUS]) ∧
    (∃ (s : State) (d : Desc), s.served d 0x0003 ∧ d.p0 % 4 = 0 ∧ 4 * d.p1 ≤ d.len ∧ 1 ≤ d.p1 ∧ d.p1 ≤ 256 ∧ 0x90000000 ≤ d.p0 ∧ d.p0 + 4 * d.p1 ≤ 0x90800000) ∧
    (∃ (s : State) (d : Desc), s.served d 0x0003 ∧ d.p0 % 4 = 0 ∧ 4 * d.p1 ≤ d.len ∧ d.p1 = 1 ∧ (d.p0 < 0x40000000 ∨ 0x400C0000 ≤ d.p0) ∧ barredRange d.p0 4 = false ∧ supReadable d.p0 4 = false ∧ s.evRoom 1) ∧
    (∃ (s : State) (d : Desc), s.served d 0x0003 ∧ ((0x50000000 ≤ d.p0 ∧ d.p0 < 0x50800000) ∨ (0x60000000 ≤ d.p0 ∧ d.p0 < 0x70000000) ∨ (0x02000000 ≤ d.p0 ∧ d.p0 < 0x02004000) ∨ d.p1 = 0 ∨ 256 < d.p1)) ∧
    (∃ (s : State) (d : Desc), s.served d 0x0004 ∧ d.p0 = R.NET_TOPO_ETB ∧ s.hw.pend = [] ∧ s.evRoom 1) ∧
    (∃ (s : State) (d : Desc), s.served d 0x0004 ∧ s.allows .cfg { d with op := 0x0004 } ∧ d.p0 = R.NET_IP ∧ BitVec.ofNat 32 d.p2 ≠ 0#32 ∧ s.hw.stopClass = true ∧ s.evRoom 1 ∧ s.hw.pend = [] ∧ s.hw.fbit (R.BLOCK_STATUS_REJECT 5) = false) :=
  ⟨⟨wt .run, { tag := 7 }, by unfold State.served; decide +kernel⟩,
   ⟨up (wt .run) (fun h => { h with cal := { h.cal with date := 0x240101 } }), { len := 64 }, by unfold State.served; decide +kernel⟩,
   ⟨wt .run, { len := 63 }, by unfold State.served; decide +kernel⟩,
   ⟨wt .run, { p0 := 0x40000010, p1 := 1, len := 4 }, by unfold State.served; decide +kernel⟩,
   ⟨up (wt .run) (fun h => h.setMb 0x90000005 7#8), { p0 := 0x90000000, p1 := 3, len := 12 }, by unfold State.served; decide +kernel⟩,
   ⟨wt .run, { p0 := 0x30000000, p1 := 1, len := 4 }, by unfold State.served State.evRoom; decide +kernel⟩,
   ⟨wt .run, { p0 := 0x50000000, p1 := 1, len := 4 }, by unfold State.served; decide +kernel⟩,
   ⟨up (wt .run) (fun h => h.setReg R.NET_TOPO_ETB 0x11223344#32), { p0 := R.NET_TOPO_ETB, p1 := 0xAABBCCDD, p2 := 0xFF00 }, by unfold State.served State.evRoom; decide +kernel⟩,
   ⟨wt .stop, { p0 := R.NET_IP, p1 := 0xAABBCCDD, p2 := 0xFF00 }, by unfold State.served State.allows State.evRoom; decide +kernel⟩⟩

/-- States and operands that meet the hypotheses of each clause of RegisterCommands (2 of 2). -/
theorem test_meets_RegisterCommands2 :
    (∃ (s : State) (d : Desc), s.served d 0x0004 ∧ s.allows .cfg { d with op := 0x0004 } ∧ d.p0 = R.NET_IP ∧ BitVec.ofNat 32 d.p2 ≠ 0#32 ∧ s.hw.stopClass = false ∧ s.evRoom 1) ∧
    (∃ (s : State) (d : Desc), s.served d 0x0004 ∧ s.allows .cfg { d with op := 0x0004 } ∧ d.p0 = R.FLD_CHc_SCALE_LO 11 ∧ d.p2 = 0xFFFF ∧ s.hw.barrier 1 = true ∧ s.hw.pend = [] ∧ s.hw.hif.latching = []) ∧
    (∃ (s : State) (d : Desc), s.served d 0x0005 ∧ 32 ≤ d.len ∧ 1 ≤ d.p2 ∧ d.p2 ≤ 65535 ∧ s.hw.hif.waits.length < 16) ∧
    (∃ (s : State) (d : Desc), s.served d 0x0005 ∧ 32 ≤ d.len ∧ 1 ≤ d.p2 ∧ d.p2 ≤ 65535 ∧ 16 ≤ s.hw.hif.waits.length) ∧
    (∃ (s : State) (e : EWait), s.hw.hif.waits = [e] ∧ e.d.src.isEng = false ∧ e.d.relayed = false ∧ s.hw.hif.lost = []) ∧
    (∃ (s : State) (a : Word), s.hw.powered = true ∧ a.toNat = R.NET_TOPO_OPT) ∧
    (∃ (s : State) (a : Word), s.hw.powered = true ∧ s.hw.fbit R.HIF_LINK_UP = true ∧ a = 0x18#32 ∧ s.hw.pend = [] ∧ s.hw.fbit R.HIF_CTRL_GO = false) ∧
    (∃ (s : State) (a : Word), s.hw.powered = true ∧ s.hw.fbit R.HIF_LINK_UP = true ∧ a = 0x18#32 ∧ s.hw.fbit R.HIF_CTRL_GO = true) ∧
    (∃ (s : State) (a : Word) (n : Nat), s.hw.powered = true ∧ s.hw.fbit R.HIF_LINK_UP = true ∧ n < 64 ∧ n % 4 ≠ 3 ∧ a = BitVec.ofNat 32 (0x8000 + 4 * n)) :=
  ⟨⟨wt .run, { p0 := R.NET_IP, p1 := 0xAABBCCDD, p2 := 0xFF00 }, by unfold State.served State.allows State.evRoom; decide +kernel⟩,
   ⟨up (wt .run) (fun h => h.fset (R.FLD_GRPg_STATUS_BARRIER_OK 1) 1), { p0 := R.FLD_CHc_SCALE_LO 11, p1 := 0x1234, p2 := 0xFFFF }, by unfold State.served State.allows; decide +kernel⟩,
   ⟨wt .run, { p0 := 1, p1 := 1, p2 := 50, len := 32 }, by unfold State.served; decide +kernel⟩,
   ⟨up (wt .run) (fun h => { h with hif := { h.hif with waits := List.replicate 16 { d := {}, limit := 7 } } }), { p0 := 1, p1 := 1, p2 := 50, len := 32 }, by unfold State.served; decide +kernel⟩,
   ⟨up (wt .run) (fun h => { h with hif := { h.hif with waits := [{ d := { op := 5 }, limit := 5000000007 }] } }), { d := { op := 5 }, limit := 5000000007 }, by decide +kernel⟩,
   ⟨wt .run, BitVec.ofNat 32 R.NET_TOPO_OPT, by decide +kernel⟩,
   ⟨up (wt .run) (fun h => h.fset R.HIF_LINK_UP 1), 0x18#32, by decide +kernel⟩,
   ⟨up (wt .run) (fun h => (h.fset R.HIF_LINK_UP 1).fset R.HIF_CTRL_GO 1), 0x18#32, by decide +kernel⟩,
   ⟨up (wt .run) (fun h => h.fset R.HIF_LINK_UP 1), 0x8010#32, 4, by decide +kernel⟩⟩

/-- States and operands that meet the hypotheses of each clause of Forces (1 of 2). -/
theorem test_meets_Forces1 :
    (∃ (s : State) (d : Desc) (f : Force) (i : Nat), s.served d 0x0301 ∧ s.allows .frc { d with op := 0x0301 } ∧ s.hw.fget R.PAIR_STATUS_ROLE ≠ 2 ∧ f = forceOf d.p0 d.p1 d.addr 0 ∧ forceResv d.p0 d.p1 = true ∧ f.idOk = true ∧ f.valueOk = true ∧ s.hw.forceMode f = true ∧ s.hw.tsk.forces.any (fun (z : Nat × Force) => z.2.active && z.2.clash f) = false ∧ s.hw.partnerSynced = false ∧ s.hw.forceHeld f = true ∧ s.hw.forceFind f = none ∧ s.hw.forceFree = some i) ∧
    (∃ (s : State) (d : Desc) (f : Force) (i : Nat), s.served d 0x0301 ∧ s.allows .frc { d with op := 0x0301 } ∧ s.hw.fget R.PAIR_STATUS_ROLE ≠ 2 ∧ f = forceOf d.p0 d.p1 d.addr 0 ∧ forceResv d.p0 d.p1 = true ∧ f.idOk = true ∧ f.valueOk = true ∧ s.hw.forceMode f = true ∧ s.hw.tsk.forces.any (fun (z : Nat × Force) => z.2.active && z.2.clash f) = false ∧ s.hw.partnerSynced = false ∧ s.hw.forceHeld f = true ∧ s.hw.forceFind f = some i) ∧
    (∃ (s : State) (d : Desc) (f : Force), s.served d 0x0301 ∧ s.allows .frc { d with op := 0x0301 } ∧ s.hw.fget R.PAIR_STATUS_ROLE ≠ 2 ∧ f = forceOf d.p0 d.p1 d.addr 0 ∧ forceResv d.p0 d.p1 = true ∧ f.idOk = true ∧ f.valueOk = true ∧ s.hw.forceMode f = true ∧ s.hw.tsk.forces.any (fun (z : Nat × Force) => z.2.active && z.2.clash f) = false ∧ s.hw.forceHeld f = false ∧ s.evRoom 1) ∧
    (∃ (s : State) (d : Desc), s.served d 0x0301 ∧ s.allows .frc { d with op := 0x0301 } ∧ s.hw.fget R.PAIR_STATUS_ROLE ≠ 2 ∧ forceResv d.p0 d.p1 = false ∧ s.evRoom 1) ∧
    (∃ (s : State) (d : Desc) (f : Force) (i : Nat), s.served d 0x0302 ∧ s.allows .frc { d with op := 0x0302 } ∧ s.hw.fget R.PAIR_STATUS_ROLE ≠ 2 ∧ f = forceOf d.p0 d.p1 0 0 ∧ forceResv d.p0 d.p1 = true ∧ f.idOk = true ∧ s.hw.partnerSynced = false ∧ s.hw.forceFind f = some i) ∧
    (∃ (s : State) (d : Desc) (f : Force), s.served d 0x0302 ∧ s.allows .frc { d with op := 0x0302 } ∧ s.hw.fget R.PAIR_STATUS_ROLE ≠ 2 ∧ f = forceOf d.p0 d.p1 0 0 ∧ forceResv d.p0 d.p1 = true ∧ f.idOk = true ∧ s.hw.forceFind f = none) ∧
    (∃ (s : State) (d : Desc) (l : List (Nat × Force)), s.served d 0x0303 ∧ s.allows .frc { d with op := 0x0303 } ∧ s.hw.fget R.PAIR_STATUS_ROLE ≠ 2 ∧ s.hw.partnerSynced = false ∧ s.hw.tsk.forces.filter (fun (z : Nat × Force) => z.2.active) = l ∧ l ≠ []) ∧
    (∃ (s : State) (d : Desc), s.served d 0x0303 ∧ s.allows .frc { d with op := 0x0303 } ∧ s.hw.fget R.PAIR_STATUS_ROLE ≠ 2 ∧ s.hw.tsk.forces.filter (fun (z : Nat × Force) => z.2.active) = []) ∧
    (∃ (s : State) (x : FEff), s.hw.tsk.feffs = [x] ∧ x.confirmed = true ∧ x.d.op = 0x0301 ∧ x.set = true ∧ x.d.src.isEng = false ∧ x.d.relayed = false ∧ s.hw.hif.lost = [] ∧ s.hw.pairFormed = false ∧ s.evRoom 2 ∧ s.tbRoom x.eff) :=
  ⟨⟨up (wt .run) (fun h => (((h.fset (R.TSK_Tn_CTRL_KIND 3) 1).setMl (imgBase + 3 * 32 + 8) 4 0x1000).setReg 0x40038004 1#32).fset (R.FLD_CHc_CFG_MODE 11) 1), { p0 := 0xB00, addr := 1 }, { channel := 11, value := 1 }, 0, by unfold State.served State.allows; decide +kernel⟩,
   ⟨up (wt .run) (fun h => (((h.fset (R.TSK_Tn_CTRL_KIND 3) 1).setMl (imgBase + 3 * 32 + 8) 4 0x1000).setReg 0x40038004 1#32).fset (R.FLD_CHc_CFG_MODE 11) 1|>.setForce 4 { channel := 11, value := 1, active := true }), { p0 := 0xB00, addr := 0 }, { channel := 11 }, 4, by unfold State.served State.allows; decide +kernel⟩,
   ⟨up (wt .run) (fun h => h.fset (R.FLD_CHc_CFG_MODE 11) 1), { p0 := 0xB00, addr := 1 }, { channel := 11, value := 1 }, by unfold State.served State.allows State.evRoom; decide +kernel⟩,
   ⟨wt .run, { p0 := 0x10B00, p1 := 0x10000, addr := 1 }, by unfold State.served State.allows State.evRoom; decide +kernel⟩,
   ⟨up (wt .run) (fun h => (((h.fset (R.TSK_Tn_CTRL_KIND 3) 1).setMl (imgBase + 3 * 32 + 8) 4 0x1000).setReg 0x40038004 1#32).fset (R.FLD_CHc_CFG_MODE 11) 1|>.setForce 4 { channel := 11, value := 1, active := true }), { p0 := 0xB00 }, { channel := 11 }, 4, by unfold State.served State.allows; decide +kernel⟩,
   ⟨wt .run, { p0 := 0xB00 }, { channel := 11 }, by unfold State.served State.allows; decide +kernel⟩,
   ⟨up (wt .run) (fun h => (((h.fset (R.TSK_Tn_CTRL_KIND 3) 1).setMl (imgBase + 3 * 32 + 8) 4 0x1000).setReg 0x40038004 1#32).fset (R.FLD_CHc_CFG_MODE 11) 1|>.setForce 4 { channel := 11, value := 1, active := true } |>.setForce 7 { target := 1, active := true }), {}, [(4, { channel := 11, value := 1, active := true }), (7, { target := 1, active := true })], by unfold State.served State.allows; decide +kernel⟩,
   ⟨wt .run, {}, by unfold State.served State.allows; decide +kernel⟩,
   ⟨up (wt .run) (fun h => (((h.fset (R.TSK_Tn_CTRL_KIND 3) 1).setMl (imgBase + 3 * 32 + 8) 4 0x1000).setReg 0x40038004 1#32).fset (R.FLD_CHc_CFG_MODE 11) 1|> fun h => { h with tsk := { h.tsk with feffs := [{ idx := 4, set := true, new := { channel := 11, value := 1, active := true }, eff := 5000001000, d := { op := 0x0301 }, confirmed := true }] } }.actSet .frc true), { idx := 4, set := true, new := { channel := 11, value := 1, active := true }, eff := 5000001000, d := { op := 0x0301 }, confirmed := true }, by unfold State.evRoom State.tbRoom; decide +kernel⟩⟩

/-- States and operands that meet the hypotheses of each clause of Forces (2 of 2). -/
theorem test_meets_Forces2 :
    (∃ (s : State) (x : FEff), s.hw.tsk.feffs = [x] ∧ x.confirmed = true ∧ x.d.op = 0x0302 ∧ x.set = false ∧ x.d.src.isEng = false ∧ x.d.relayed = false ∧ s.hw.hif.lost = [] ∧ s.hw.pairFormed = false ∧ s.evRoom 2 ∧ s.tbRoom x.eff) ∧
    (∃ (s : State) (d : Desc), s.served d 0x0304 ∧ d.p2 % 16 = 0 ∧ d.p2 ≤ 16384) :=
  ⟨⟨up (wt .run) (fun h => (((h.fset (R.TSK_Tn_CTRL_KIND 3) 1).setMl (imgBase + 3 * 32 + 8) 4 0x1000).setReg 0x40038004 1#32).fset (R.FLD_CHc_CFG_MODE 11) 1|>.setForce 4 { channel := 11, value := 1, active := true }|> fun h => { h with tsk := { h.tsk with feffs := [{ idx := 4, set := false, new := { channel := 11, value := 1, active := true }, eff := 5000001000, d := { op := 0x0302 }, confirmed := true }] } }.actSet .frc true), { idx := 4, set := false, new := { channel := 11, value := 1, active := true }, eff := 5000001000, d := { op := 0x0302 }, confirmed := true }, by unfold State.evRoom State.tbRoom; decide +kernel⟩,
   ⟨up (wt .run) (fun h => (((h.fset (R.TSK_Tn_CTRL_KIND 3) 1).setMl (imgBase + 3 * 32 + 8) 4 0x1000).setReg 0x40038004 1#32).fset (R.FLD_CHc_CFG_MODE 11) 1|>.setForce 4 { channel := 11, value := 1, active := true }), { len := 32 }, by unfold State.served; decide +kernel⟩⟩

/-- States and operands that meet the hypotheses of each clause of OnlineChange. -/
theorem test_meets_OnlineChange :
    (∃ (s : State) (d : Desc) (p : Pitch) (f : CfgImage), s.served d 0x0401 ∧ s.allows .olc { d with op := 0x0401 } ∧ s.hw.fget R.PAIR_STATUS_ROLE ≠ 2 ∧ s.hw.norProg s.hw.progTarget = ({ valid := true, pitch := some p } : NorSlot) ∧ verify s.otp 2 p.hdr true = none ∧ p.layoutOk = true ∧ p.layout ≠ 0 ∧ p.hdr.objId = p.layout ∧ p.hashesOk = true ∧ s.hw.sup.injSig = false ∧ p.cfg = some f ∧ verify s.otp 3 f.common.hdr true = none ∧ verify s.otp 4 f.indiv.hdr true = none ∧ f.common.hdr.objId = f.common.seq ∧ f.indiv.hdr.objId = f.indiv.seq ∧ f.keyRecs = false ∧ f.regs.all (fun (z : Bool × Nat × Word) => decide (z.2.1 ≠ R.HIF_STATUS ∧ z.2.1 ≠ R.SUP_ADMIT_STATUS ∧ z.2.1 ≠ R.TSK_OLC_STATUS)) = true ∧ s.hw.tableRefusal f = none ∧ s.hw.stageCheck p = none ∧ s.hw.partnerSynced = false ∧ s.hw.mode = .run ∧ s.evRoom 2) ∧
    (∃ (s : State) (d : Desc), s.served d 0x0401 ∧ s.allows .olc { d with op := 0x0401 } ∧ s.hw.fget R.PAIR_STATUS_ROLE ≠ 2 ∧ (s.hw.norProg s.hw.progTarget).pitch = none ∧ s.hw.tsk.olc.armCmd = none ∧ s.evRoom 2) ∧
    (∃ (s : State) (d : Desc), s.served d 0x0402 ∧ s.hw.fget R.PAIR_STATUS_ROLE ≠ 2 ∧ s.hw.fget R.TSK_OLC_STATUS_STATE = 2) ∧
    (∃ (s : State) (d : Desc), s.served d 0x0402 ∧ s.hw.fget R.PAIR_STATUS_ROLE ≠ 2 ∧ 3 ≤ s.hw.fget R.TSK_OLC_STATUS_STATE ∧ s.hw.fget R.TSK_OLC_STATUS_STATE ≤ 5 ∧ s.evRoom 1) ∧
    (∃ (s : State) (d : Desc), s.served d 0x0402 ∧ s.hw.fget R.PAIR_STATUS_ROLE ≠ 2 ∧ s.hw.fget R.TSK_OLC_STATUS_STATE < 2 ∧ s.evRoom 1) ∧
    (∃ (s : State) (d : Desc), s.served d 0x0403 ∧ s.hw.fget R.PAIR_STATUS_ROLE ≠ 2 ∧ 1 ≤ s.hw.fget R.TSK_OLC_STATUS_STATE ∧ s.hw.fget R.TSK_OLC_STATUS_STATE ≤ 4 ∧ s.hw.tsk.olc.armCmd = none ∧ s.hw.fbit R.TSK_OLC_STATUS_PAIRED = false ∧ s.evRoom 2) ∧
    (∃ (s : State) (d : Desc), s.served d 0x0403 ∧ s.hw.fget R.PAIR_STATUS_ROLE ≠ 2 ∧ s.hw.fget R.TSK_OLC_STATUS_STATE = 5 ∧ s.evRoom 1) ∧
    (∃ (s : State) (e : Desc) (p : Pitch) (n : Nat), s.hw.fget R.TSK_OLC_STATUS_STATE = 3 ∧ s.hw.tsk.olc.armCmd = some e ∧ e.src.isEng = false ∧ e.relayed = false ∧ s.hw.hif.lost = [] ∧ s.hw.fbit R.TSK_OLC_STATUS_PAIRED = false ∧ s.hw.tsk.olc.staged = some p ∧ s.hw.tsk.olc.point = 0 ∧ s.hw.tsk.olc.cfg = none ∧ s.hw.swapIdle p = true ∧ n = ceilTo 1000 s.hw.clk.tb ∧ s.hw.swapDue p n = none ∧ s.hw.exe.poison = [] ∧ s.evRoom 3 ∧ p.timers = [] ∧ s.hw.tsk.forces = []) ∧
    (∃ (s : State) (e : Desc), s.hw.fget R.TSK_OLC_STATUS_STATE = 3 ∧ s.hw.tsk.olc.armCmd = some e ∧ e.src.isEng = false ∧ e.relayed = false ∧ s.hw.hif.lost = [] ∧ s.hw.fbit R.TSK_OLC_STATUS_PAIRED = false ∧ s.evRoom 2) :=
  ⟨⟨{ (up (wt .run) (fun h => h.setNorProg 1 { valid := true, pitch := some { hdr := { kind := 2, objId := 5, sigOk := true }, layout := 5, affected := 8, cfg := some { common := { hdr := { kind := 3, sigOk := true }, recs := [] }, indiv := { hdr := { kind := 4, sigOk := true }, recs := [] } } } })) with otp := { bytes := [(0x120, 0xF#8), (0x13F, 0xA5#8)] } }, {}, { hdr := { kind := 2, objId := 5, sigOk := true }, layout := 5, affected := 8, cfg := some { common := { hdr := { kind := 3, sigOk := true }, recs := [] }, indiv := { hdr := { kind := 4, sigOk := true }, recs := [] } } }, { common := { hdr := { kind := 3, sigOk := true }, recs := [] }, indiv := { hdr := { kind := 4, sigOk := true }, recs := [] } }, by unfold State.served State.allows State.evRoom; decide +kernel⟩,
   ⟨wt .run, {}, by unfold State.served State.allows State.evRoom; decide +kernel⟩,
   ⟨up (wt .run) (fun h => ({ h with tsk := { h.tsk with olc := { staged := some { hdr := { kind := 2, objId := 5, sigOk := true }, layout := 5, affected := 8 } } } }.fset R.TSK_OLC_STATUS_STATE 2).actSet .olc true), {}, by unfold State.served; decide +kernel⟩,
   ⟨up (wt .run) (fun h => ({ h with tsk := { h.tsk with olc := {  } } }.fset R.TSK_OLC_STATUS_STATE 3).actSet .olc true), {}, by unfold State.served State.evRoom; decide +kernel⟩,
   ⟨wt .run, {}, by unfold State.served State.evRoom; decide +kernel⟩,
   ⟨up (wt .run) (fun h => ({ h with tsk := { h.tsk with olc := { staged := some { hdr := { kind := 2, objId := 5, sigOk := true }, layout := 5, affected := 8 } } } }.fset R.TSK_OLC_STATUS_STATE 2).actSet .olc true), {}, by unfold State.served State.evRoom; decide +kernel⟩,
   ⟨up (wt .run) (fun h => ({ h with tsk := { h.tsk with olc := {  } } }.fset R.TSK_OLC_STATUS_STATE 5).actSet .olc true), {}, by unfold State.served State.evRoom; decide +kernel⟩,
   ⟨up (wt .run) (fun h => ({ h with tsk := { h.tsk with olc := { staged := some { hdr := { kind := 2, objId := 5, sigOk := true }, layout := 5, affected := 8 }, armCmd := some { op := 0x0402 }, armAt := 7 } } }.fset R.TSK_OLC_STATUS_STATE 3).actSet .olc true), { op := 0x0402 }, { hdr := { kind := 2, objId := 5, sigOk := true }, layout := 5, affected := 8 }, 5000000000, by unfold State.evRoom; decide +kernel⟩,
   ⟨up (wt .run) (fun h => ({ h with tsk := { h.tsk with olc := { staged := some { hdr := { kind := 2, objId := 5, sigOk := true }, layout := 5, affected := 8 }, armCmd := some { op := 0x0402 }, armAt := 7 } } }.fset R.TSK_OLC_STATUS_STATE 3).actSet .olc true), { op := 0x0402 }, by unfold State.evRoom; decide +kernel⟩⟩

/-- States and operands that meet the hypotheses of each clause of ProgramsAndConfiguration (1 of 2). -/
theorem test_meets_ProgramsAndConfiguration1 :
    (∃ (s : State) (d : Desc), s.served d 0x0201 ∧ d.p1 = 0 ∧ d.p2 = 0 ∧ s.allows .pdl { d with op := 0x0201, p0 := 0 } ∧ s.hw.tsk.forces = [] ∧ d.flags.testBit 2 = true ∧ s.hw.hif.xfers = [] ∧ s.evRoom 2) ∧
    (∃ (s : State) (d : Desc) (p : Pitch), s.served d 0x0201 ∧ d.p1 = 0 ∧ d.p2 = 0 ∧ s.allows .pdl { d with op := 0x0201, p0 := 0 } ∧ s.hw.tsk.forces = [] ∧ d.flags.testBit 2 = false ∧ d.obj = .pitch p ∧ verify s.otp 2 p.hdr true = none ∧ p.layoutOk = true ∧ p.layout ≠ 0 ∧ p.hdr.objId = p.layout ∧ p.hashesOk = true ∧ s.hw.sup.injSig = false ∧ s.hw.taskCheck p = none ∧ s.evRoom 1) ∧
    (∃ (s : State) (d : Desc) (p : Pitch), s.served d 0x0201 ∧ d.p1 = 0 ∧ d.p2 = 0 ∧ s.allows .pdl { d with op := 0x0201, p0 := 1 } ∧ d.flags.testBit 2 = false ∧ d.obj = .pitch p ∧ verify s.otp 2 p.hdr true = none ∧ p.layoutOk = true ∧ p.layout ≠ 0 ∧ p.hdr.objId = p.layout ∧ p.hashesOk = true ∧ s.hw.sup.injSig = false ∧ s.hw.taskCheck p = none ∧ s.evRoom 1) ∧
    (∃ (s : State) (d : Desc), s.served d 0x0201 ∧ d.p1 = 0 ∧ d.p2 = 0 ∧ s.allows .pdl { d with op := 0x0201, p0 := 1 } ∧ d.flags.testBit 2 = false ∧ d.obj = .bad ∧ s.evRoom 3) ∧
    (∃ (s : State) (d : Desc), s.served d 0x0202 ∧ s.allows .pdl { d with op := 0x0202 } ∧ s.hw.tsk.forces = [] ∧ s.evRoom 1) ∧
    (∃ (s : State) (d : Desc), s.served d 0x0203 ∧ 256 ≤ d.len) ∧
    (∃ (s : State) (d : Desc) (c : CfgImage), s.served d 0x0801 ∧ s.hw.fbit R.SUP_CFG_STATUS_CONFLICT = false ∧ s.allows .cfg { d with op := 0x0801 } ∧ d.p2 = 0 ∧ d.flags.testBit 2 = false ∧ d.obj = .cfg c ∧ s.hw.imageReason s.otp c = 0 ∧ verify s.otp 3 c.common.hdr true = none ∧ verify s.otp 4 c.indiv.hdr true = none ∧ c.common.hdr.objId = c.common.seq ∧ c.indiv.hdr.objId = c.indiv.seq ∧ s.hw.sup.injSig = false ∧ c.keyRecs = false ∧ (s.hw.fget R.SUP_CFG_STATUS_APPLIED = 0 ∨ serialLater c.seq (s.hw.reg R.SUP_CFG_SEQ).toNat = true) ∧ s.hw.tableRefusal c = none ∧ s.hw.cfgFree = true) ∧
    (∃ (s : State) (d : Desc), s.served d 0x0801 ∧ s.hw.fbit R.SUP_CFG_STATUS_CONFLICT = false ∧ s.allows .cfg { d with op := 0x0801 } ∧ d.p2 = 0 ∧ d.flags.testBit 2 = false ∧ d.obj = .bad ∧ s.evRoom 1) ∧
    (∃ (s : State) (d : Desc), s.served d 0x0801 ∧ s.hw.fbit R.SUP_CFG_STATUS_CONFLICT = false ∧ s.allows .cfg { d with op := 0x0801 } ∧ d.p2 = 0 ∧ d.flags.testBit 2 = true ∧ s.hw.hif.xfers = [] ∧ s.evRoom 1) :=
  ⟨⟨up (wt .stop) (fun h => (h.fset R.SUP_MODE_STATUS_PROG_VALID 1).fset (R.TSK_Tn_CTRL_KIND 3) 1), { flags := 4, len := 4096 }, by unfold State.served State.allows State.evRoom; decide +kernel⟩,
   ⟨{ (wt .stop) with otp := { bytes := [(0x120, 0xF#8), (0x13F, 0xA5#8)] } }, { p0 := 0, len := 4096, obj := .pitch { hdr := { kind := 2, objId := 5, sigOk := true }, layout := 5, affected := 8 } }, { hdr := { kind := 2, objId := 5, sigOk := true }, layout := 5, affected := 8 }, by unfold State.served State.allows State.evRoom; decide +kernel⟩,
   ⟨{ (up (wt .run) (fun h => { h with prog := { layout := 9 } })) with otp := { bytes := [(0x120, 0xF#8), (0x13F, 0xA5#8)] } }, { p0 := 1, len := 4096, obj := .pitch { hdr := { kind := 2, objId := 5, sigOk := true }, layout := 5, affected := 8 } }, { hdr := { kind := 2, objId := 5, sigOk := true }, layout := 5, affected := 8 }, by unfold State.served State.allows State.evRoom; decide +kernel⟩,
   ⟨wt .run, { p0 := 1, len := 4, obj := .bad }, by unfold State.served State.allows State.evRoom; decide +kernel⟩,
   ⟨up (wt .stop) (fun h => { (h.fset R.SUP_MODE_STATUS_PROG_VALID 1) with prog := { layout := 9 } }), {}, by unfold State.served State.allows State.evRoom; decide +kernel⟩,
   ⟨wt .run, { len := 256 }, by unfold State.served; decide +kernel⟩,
   ⟨{ (wt .stop) with otp := { bytes := [(0x120, 0xF#8), (0x13F, 0xA5#8)] } }, { len := 4096, obj := .cfg { seq := 3, common := { hdr := { kind := 3, sigOk := true, objId := 3 }, seq := 3 }, indiv := { hdr := { kind := 4, sigOk := true, objId := 3 }, seq := 3 } } }, { seq := 3, common := { hdr := { kind := 3, sigOk := true, objId := 3 }, seq := 3 }, indiv := { hdr := { kind := 4, sigOk := true, objId := 3 }, seq := 3 } }, by unfold State.served State.allows; decide +kernel⟩,
   ⟨wt .stop, { len := 4, obj := .bad }, by unfold State.served State.allows State.evRoom; decide +kernel⟩,
   ⟨wt .run, { flags := 4, len := 4096 }, by unfold State.served State.allows State.evRoom; decide +kernel⟩⟩

/-- States and operands that meet the hypotheses of each clause of ProgramsAndConfiguration (2 of 2). -/
theorem test_meets_ProgramsAndConfiguration2 :
    (∃ (s : State) (d : Desc), s.served d 0x0801 ∧ s.hw.fbit R.SUP_CFG_STATUS_CONFLICT = true ∧ s.evRoom 1) ∧
    (∃ (s : State) (d : Desc), s.served d 0x0802 ∧ d.p0 ≤ 1 ∧ d.p2 % 8 = 0 ∧ d.p2 ≤ 262144 ∧ s.hw.nvs.uncorr = [] ∧ s.hw.nvs.injRead = false) ∧
    (∃ (s : State) (d : Desc) (c : CfgImage), s.served d 0x0803 ∧ s.allows .cfg { d with op := 0x0803 } ∧ s.hw.mode = .stop ∧ d.p0 ≤ 1 ∧ s.hw.slotAuth d.p0 = true ∧ s.hw.cfgSlot d.p0 = some c ∧ s.hw.tableRefusal c = none) ∧
    (∃ (s : State) (d : Desc), s.served d 0x0803 ∧ s.allows .cfg { d with op := 0x0803 } ∧ s.hw.mode ≠ .stop ∧ s.evRoom 1) :=
  ⟨⟨up (wt .stop) (fun h => h.fset R.SUP_CFG_STATUS_CONFLICT 1), {}, by unfold State.served State.evRoom; decide +kernel⟩,
   ⟨up (wt .run) (fun h => h.setMb 0x50040009 7#8), { p0 := 1, p2 := 8, len := 4 }, by unfold State.served; decide +kernel⟩,
   ⟨up (wt .stop) (fun h => { h with nvs := { h.nvs with cfgB := some {} } }.fset R.SUP_CFG_STATUS_B_AUTH 1), { p0 := 1 }, {}, by unfold State.served State.allows; decide +kernel⟩,
   ⟨wt .run, {}, by unfold State.served State.allows State.evRoom; decide +kernel⟩⟩

/-- States and operands that meet the hypotheses of each clause of DebugSession (1 of 2). -/
theorem test_meets_DebugSession1 :
    (∃ (s : State) (d : Desc), s.served d 0x0901 ∧ d.p0 ≤ 3 ∧ s.allows .dbg { d with op := 0x0901 } ∧ s.hw.fget R.SUP_ADMIT_STATUS_RUNNING = 0 ∧ s.hw.startable = true ∧ s.hw.startRefusal .debug = none ∧ s.hw.mode = .stop) ∧
    (∃ (s : State) (d : Desc), s.served d 0x0901 ∧ d.p0 ≤ 3 ∧ s.allows .dbg { d with op := 0x0901 } ∧ s.hw.fget R.SUP_ADMIT_STATUS_RUNNING = 0 ∧ s.hw.startable = true ∧ s.hw.startRefusal .debug = none ∧ s.hw.mode = .run) ∧
    (∃ (s : State) (d : Desc) (e : Nat), s.served d 0x0902 ∧ s.hw.mode = .debug ∧ s.hw.exe.dbgSrc = some d.src ∧ s.hw.fget R.CMP_REPLAY_STATUS_EP = e ∧ e ≤ 3 ∧ s.logsGood) ∧
    (∃ (s : State) (d : Desc) (e : Nat), s.served d 0x0903 ∧ s.hw.mode = .debug ∧ s.hw.exe.dbgSrc = some d.src ∧ s.hw.fget R.CMP_REPLAY_STATUS_EP = e ∧ e ≤ 3 ∧ s.hw.fbit (R.CMP_EPn_STATUS_HALTED e) = true ∧ s.evRoom 1) ∧
    (∃ (s : State) (d : Desc) (e : Nat), s.served d 0x0903 ∧ s.hw.mode = .debug ∧ s.hw.exe.dbgSrc = some d.src ∧ s.hw.fget R.CMP_REPLAY_STATUS_EP = e ∧ e ≤ 3 ∧ s.hw.fbit (R.CMP_EPn_STATUS_HALTED e) = false ∧ (s.hw.tgt (2 * e)).task = none ∧ s.hw.hif.running = [] ∧ s.evRoom 1) ∧
    (∃ (s : State) (d : Desc) (e : Nat) (l : List Replay), s.served d 0x0904 ∧ s.hw.mode = .debug ∧ s.hw.exe.dbgSrc = some d.src ∧ s.hw.fget R.CMP_REPLAY_STATUS_EP = e ∧ e ≤ 3 ∧ s.hw.fbit (R.CMP_EPn_STATUS_HALTED e) = true ∧ s.hw.exe.replay = l ∧ s.evRoom 1) ∧
    (∃ (s : State) (d : Desc) (e : Nat) (l : List Replay), s.served d 0x0905 ∧ s.hw.mode = .debug ∧ s.hw.exe.dbgSrc = some d.src ∧ s.hw.fget R.CMP_REPLAY_STATUS_EP = e ∧ e ≤ 3 ∧ s.hw.fbit (R.CMP_EPn_STATUS_HALTED e) = true ∧ s.hw.exe.replay = l ∧ l.length < 64) ∧
    (∃ (s : State) (d : Desc) (e : Nat), s.served d 0x0905 ∧ s.hw.mode = .debug ∧ s.hw.exe.dbgSrc = some d.src ∧ s.hw.fget R.CMP_REPLAY_STATUS_EP = e ∧ e ≤ 3 ∧ s.hw.fbit (R.CMP_EPn_STATUS_HALTED e) = true ∧ 64 ≤ s.hw.exe.replay.length ∧ s.evRoom 1) ∧
    (∃ (s : State) (d : Desc) (e : Nat), s.served d 0x0906 ∧ s.hw.mode = .debug ∧ s.hw.exe.dbgSrc = some d.src ∧ s.hw.fget R.CMP_REPLAY_STATUS_EP = e ∧ e ≤ 3 ∧ d.p0 % 4 = 0 ∧ d.p0 < 0x01000000 ∧ d.p1 ≤ 1 ∧ s.evRoom 1 ∧ d.p1 = 1 ∧ s.hw.exe.breaks.contains d.p0 = false ∧ s.hw.exe.breaks.length < 16) :=
  ⟨⟨up (wt .stop) (fun h => h.fset R.SUP_MODE_STATUS_PROG_VALID 1), { p0 := 2 }, by unfold State.served State.allows; decide +kernel⟩,
   ⟨up (wt .run) (fun h => ({ h with tsk := { h.tsk with epoch := some 4000000000 } }.fset R.SUP_MODE_STATUS_PROG_VALID 1).fset R.SUP_MODE_CFG_DEBUG_FROM_RUN 1), { p0 := 1 }, by unfold State.served State.allows; decide +kernel⟩,
   ⟨up (wt .debug) (fun h => (({ h with exe := { h.exe with dbgSrc := some (.ring 0 0) } }.fset R.CMP_REPLAY_STATUS_EP 1)).actSet .dbg true), {}, 1, by unfold State.served State.logsGood; decide +kernel⟩,
   ⟨up (wt .debug) (fun h => (({ h with exe := { h.exe with dbgSrc := some (.ring 0 0) } }.fset R.CMP_REPLAY_STATUS_EP 1).fset (R.CMP_EPn_STATUS_HALTED 1) 1).actSet .dbg true), {}, 1, by unfold State.served State.evRoom; decide +kernel⟩,
   ⟨up (wt .debug) (fun h => (({ h with exe := { h.exe with dbgSrc := some (.ring 0 0) } }.fset R.CMP_REPLAY_STATUS_EP 1)).actSet .dbg true), {}, 1, by unfold State.served State.evRoom; decide +kernel⟩,
   ⟨up (wt .debug) (fun h => (({ h with exe := { h.exe with dbgSrc := some (.ring 0 0), replay := [{ action := 0, reg := 5, ep := 1, commit := 0, value := 7 }] } }.fset R.CMP_REPLAY_STATUS_EP 1).fset (R.CMP_EPn_STATUS_HALTED 1) 1).actSet .dbg true), {}, 1, [{ action := 0, reg := 5, ep := 1, commit := 0, value := 7 }], by unfold State.served State.evRoom; decide +kernel⟩,
   ⟨up (wt .debug) (fun h => (({ h with exe := { h.exe with dbgSrc := some (.ring 0 0), replay := [{ action := 0, reg := 5, ep := 1, commit := 0, value := 7 }] } }.fset R.CMP_REPLAY_STATUS_EP 1).fset (R.CMP_EPn_STATUS_HALTED 1) 1).actSet .dbg true), {}, 1, [{ action := 0, reg := 5, ep := 1, commit := 0, value := 7 }], by unfold State.served; decide +kernel⟩,
   ⟨up (wt .debug) (fun h => (({ h with exe := { h.exe with dbgSrc := some (.ring 0 0), replay := List.replicate 64 { action := 0, reg := 5, ep := 1, commit := 0 } } }.fset R.CMP_REPLAY_STATUS_EP 1).fset (R.CMP_EPn_STATUS_HALTED 1) 1).actSet .dbg true), {}, 1, by unfold State.served State.evRoom; decide +kernel⟩,
   ⟨up (wt .debug) (fun h => (({ h with exe := { h.exe with dbgSrc := some (.ring 0 0) } }.fset R.CMP_REPLAY_STATUS_EP 1)).actSet .dbg true), { p0 := 0x100, p1 := 1 }, 1, by unfold State.served State.evRoom; decide +kernel⟩⟩

/-- States and operands that meet the hypotheses of each clause of DebugSession (2 of 2). -/
theorem test_meets_DebugSession2 :
    (∃ (s : State) (d : Desc) (e : Nat), s.served d 0x0906 ∧ s.hw.mode = .debug ∧ s.hw.exe.dbgSrc = some d.src ∧ s.hw.fget R.CMP_REPLAY_STATUS_EP = e ∧ e ≤ 3 ∧ d.p0 % 4 = 0 ∧ d.p0 < 0x01000000 ∧ d.p1 ≤ 1 ∧ s.evRoom 1 ∧ d.p1 = 1 ∧ s.hw.exe.breaks.contains d.p0 = false ∧ 16 ≤ s.hw.exe.breaks.length) ∧
    (∃ (s : State) (d : Desc) (e : Nat), s.served d 0x0906 ∧ s.hw.mode = .debug ∧ s.hw.exe.dbgSrc = some d.src ∧ s.hw.fget R.CMP_REPLAY_STATUS_EP = e ∧ e ≤ 3 ∧ d.p0 % 4 = 0 ∧ d.p0 < 0x01000000 ∧ d.p1 ≤ 1 ∧ s.evRoom 1 ∧ d.p1 = 0) ∧
    (∃ (s : State) (d : Desc) (e : Nat), s.served d 0x0907 ∧ s.hw.mode = .debug ∧ s.hw.exe.dbgSrc = some d.src ∧ s.hw.fget R.CMP_REPLAY_STATUS_EP = e ∧ e ≤ 3 ∧ s.hw.fbit (R.CMP_EPn_STATUS_HALTED e) = true ∧ d.p2 ≤ d.len ∧ d.p0 = 0 ∧ d.p1 < 32) ∧
    (∃ (s : State) (d : Desc) (e : Nat), s.served d 0x0907 ∧ s.hw.mode = .debug ∧ s.hw.exe.dbgSrc = some d.src ∧ s.hw.fget R.CMP_REPLAY_STATUS_EP = e ∧ e ≤ 3 ∧ s.hw.fbit (R.CMP_EPn_STATUS_HALTED e) = true ∧ d.p2 ≤ d.len ∧ d.p0 = 3 ∧ 0x90000000 ≤ d.p1 ∧ d.p1 + d.p2 ≤ 0x90800000) ∧
    (∃ (s : State) (d : Desc) (e : Nat), s.served d 0x0908 ∧ s.hw.mode = .debug ∧ s.hw.exe.dbgSrc = some d.src ∧ s.hw.fget R.CMP_REPLAY_STATUS_EP = e ∧ e ≤ 3 ∧ s.hw.fbit (R.CMP_EPn_STATUS_HALTED e) = true ∧ s.hw.exe.replay.length < 64 ∧ d.p0 = 0 ∧ d.p1 < 32 ∧ d.p1 ≠ 0 ∧ s.evRoom 1) ∧
    (∃ (s : State) (d : Desc) (e : Nat), s.served d 0x0908 ∧ s.hw.mode = .debug ∧ s.hw.exe.dbgSrc = some d.src ∧ s.hw.fget R.CMP_REPLAY_STATUS_EP = e ∧ e ≤ 3 ∧ s.hw.fbit (R.CMP_EPn_STATUS_HALTED e) = true ∧ s.hw.exe.replay.length < 64 ∧ d.p0 = 3 ∧ 0x90000000 ≤ d.p1 ∧ d.p1 + 4 ≤ 0x90800000 ∧ d.p1 % 4 = 0 ∧ (s.hw.tgt (2 * e)).task = none ∧ s.evRoom 1) ∧
    (∃ (s : State) (d : Desc) (e : Nat), s.served d 0x0908 ∧ s.hw.mode = .debug ∧ s.hw.exe.dbgSrc = some d.src ∧ s.hw.fget R.CMP_REPLAY_STATUS_EP = e ∧ e ≤ 3 ∧ s.hw.fbit (R.CMP_EPn_STATUS_HALTED e) = true ∧ d.p0 = 4 ∧ 64 ≤ s.hw.exe.replay.length ∧ s.evRoom 1) ∧
    (∃ (s : State) (e : Nat), s.hw.mode = .debug ∧ s.hw.fget R.CMP_REPLAY_STATUS_EP = e ∧ e ≤ 3 ∧ s.hw.fbit (R.CMP_EPn_STATUS_HALTED e) = true ∧ s.hw.exe.replay.length < 64 ∧ s.otp.jtagOff = false) ∧
    (∃ (s : State) (e : Nat), s.hw.mode = .debug ∧ s.hw.fget R.CMP_REPLAY_STATUS_EP = e ∧ e ≤ 3 ∧ s.hw.fbit (R.CMP_EPn_STATUS_HALTED e) = true ∧ s.hw.exe.replay.length < 64 ∧ s.otp.jtagOff = true) :=
  ⟨⟨up (wt .debug) (fun h => (({ h with exe := { h.exe with dbgSrc := some (.ring 0 0), breaks := (List.range 16).map (fun i => 4 * i) } }.fset R.CMP_REPLAY_STATUS_EP 1)).actSet .dbg true), { p0 := 0x100, p1 := 1 }, 1, by unfold State.served State.evRoom; decide +kernel⟩,
   ⟨up (wt .debug) (fun h => (({ h with exe := { h.exe with dbgSrc := some (.ring 0 0), breaks := [0x100, 0x104] } }.fset R.CMP_REPLAY_STATUS_EP 1)).actSet .dbg true), { p0 := 0x100 }, 1, by unfold State.served State.evRoom; decide +kernel⟩,
   ⟨up (wt .debug) (fun h => (({ h with exe := { h.exe with dbgSrc := some (.ring 0 0) } }.fset R.CMP_REPLAY_STATUS_EP 1).fset (R.CMP_EPn_STATUS_HALTED 1) 1).actSet .dbg true), { p1 := 3, p2 := 4, len := 4 }, 1, by unfold State.served; decide +kernel⟩,
   ⟨up (wt .debug) (fun h => (({ h with exe := { h.exe with dbgSrc := some (.ring 0 0) } }.fset R.CMP_REPLAY_STATUS_EP 1).fset (R.CMP_EPn_STATUS_HALTED 1) 1 |>.setMb 0x90000005 7#8).actSet .dbg true), { p0 := 3, p1 := 0x90000004, p2 := 3, len := 4 }, 1, by unfold State.served; decide +kernel⟩,
   ⟨up (wt .debug) (fun h => (({ h with exe := { h.exe with dbgSrc := some (.ring 0 0) } }.fset R.CMP_REPLAY_STATUS_EP 1).fset (R.CMP_EPn_STATUS_HALTED 1) 1).actSet .dbg true), { p1 := 3, addr := 77 }, 1, by unfold State.served State.evRoom; decide +kernel⟩,
   ⟨up (wt .debug) (fun h => (({ h with exe := { h.exe with dbgSrc := some (.ring 0 0) } }.fset R.CMP_REPLAY_STATUS_EP 1).fset (R.CMP_EPn_STATUS_HALTED 1) 1).actSet .dbg true), { p0 := 3, p1 := 0x90000008, p2 := 5, addr := 0x11223344 }, 1, by unfold State.served State.evRoom; decide +kernel⟩,
   ⟨up (wt .debug) (fun h => (({ h with exe := { h.exe with dbgSrc := some (.ring 0 0), replay := List.replicate 64 { action := 0, reg := 5, ep := 1, commit := 0 } } }.fset R.CMP_REPLAY_STATUS_EP 1).fset (R.CMP_EPn_STATUS_HALTED 1) 1).actSet .dbg true), { p0 := 4 }, 1, by unfold State.served State.evRoom; decide +kernel⟩,
   ⟨up (wt .debug) (fun h => (({ h with exe := { h.exe with dbgSrc := some (.ring 0 0) } }.fset R.CMP_REPLAY_STATUS_EP 1).fset (R.CMP_EPn_STATUS_HALTED 1) 1).actSet .dbg true), 1, by decide +kernel⟩,
   ⟨{ (up (wt .debug) (fun h => (({ h with exe := { h.exe with dbgSrc := some (.ring 0 0) } }.fset R.CMP_REPLAY_STATUS_EP 1).fset (R.CMP_EPn_STATUS_HALTED 1) 1).actSet .dbg true)) with otp := { bytes := [(0x14, 1#8)] } }, 1, by decide +kernel⟩⟩

/-- States and operands that meet the hypotheses of each clause of InjectionAndTrust (1 of 2). -/
theorem test_meets_InjectionAndTrust1 :
    (∃ (s : State) (d : Desc), s.served d 0x0A03 ∧ d.p0 = 0x902 ∧ (s.hw.mode = .test ∨ s.hw.mode = .service) ∧ s.hw.armed 9 = none) ∧
    (∃ (s : State) (d : Desc) (n : Nat), s.served d 0x0A03 ∧ d.p0 = 0x902 ∧ (s.hw.mode = .test ∨ s.hw.mode = .service) ∧ s.hw.armed 9 = some n ∧ s.evRoom 1) ∧
    (∃ (s : State) (d : Desc), s.served d 0x0A03 ∧ d.p0 = 0x902 ∧ s.hw.mode = .run ∧ s.evRoom 1) ∧
    (∃ (s : State) (d : Desc), s.served d 0x0A03 ∧ d.p0 = 0x904 ∧ s.evRoom 1) ∧
    (∃ (s : State) (e : Desc), (s.hw.reg 0x40090030).getLsbD 16 = true ∧ bitsOf (s.hw.reg 0x40090030).toNat 0 4 = 2 ∧ s.hw.hif.running = [e] ∧ e.op = 0x0A03 ∧ e.p0 = 0x902 ∧ e.src.isEng = false ∧ e.relayed = false ∧ s.hw.hif.lost = [] ∧ s.evRoom 2) ∧
    (∃ (s : State) (e : Desc), (s.hw.reg 0x40060030).getLsbD 16 = true ∧ bitsOf (s.hw.reg 0x40060030).toNat 0 4 = 1 ∧ s.hw.hif.running = [e] ∧ e.op = 0x0A03 ∧ e.p0 = 0x601 ∧ e.src.isEng = false ∧ e.relayed = false ∧ s.hw.hif.lost = [] ∧ s.evRoom 2) ∧
    (∃ (s : State) (d : Desc), s.served d 0x0B01 ∧ 9026 ≤ d.len ∧ s.evRoom 1) ∧
    (∃ (s : State) (d : Desc), s.served d 0x0B01 ∧ d.len < 9026) ∧
    (∃ (s : State) (d : Desc), s.served d 0x0B02 ∧ s.hw.mode = .provision ∧ s.hw.fbit R.NVS_STATUS_ARMED = true ∧ d.p0 = 0 ∧ (List.range 16).any s.otp.written = false ∧ 1956 ≤ d.len ∧ d.provPerm < 16 ∧ d.provPerm.testBit 3 = true ∧ s.evRoom 2 ∧ s.otp.bytes = []) :=
  ⟨⟨wt .test, { p0 := 0x902 }, by unfold State.served; decide +kernel⟩,
   ⟨up (wt .test) (fun h => h.setReg 0x40090030 0x10002#32), { p0 := 0x902 }, 0x902, by unfold State.served State.evRoom; decide +kernel⟩,
   ⟨wt .run, { p0 := 0x902 }, by unfold State.served State.evRoom; decide +kernel⟩,
   ⟨wt .test, { p0 := 0x904 }, by unfold State.served State.evRoom; decide +kernel⟩,
   ⟨up (wt .test) (fun h => { h with hif := { h.hif with running := [{ op := 0x0A03, p0 := 0x902, tag := 4 }] } }.setReg 0x40090030 0x10002#32), { op := 0x0A03, p0 := 0x902, tag := 4 }, by unfold State.evRoom; decide +kernel⟩,
   ⟨up (wt .test) (fun h => { h with hif := { h.hif with running := [{ op := 0x0A03, p0 := 0x601, tag := 4 }] } }.setReg 0x40060030 0x10001#32), { op := 0x0A03, p0 := 0x601, tag := 4 }, by unfold State.evRoom; decide +kernel⟩,
   ⟨wt .run, { len := 9026, data := List.replicate 32 0x5A#8 }, by unfold State.served State.evRoom; decide +kernel⟩,
   ⟨wt .run, { len := 9025 }, by unfold State.served; decide +kernel⟩,
   ⟨up (wt .provision) (fun h => h), { len := 1956, aux := 14, data := (List.replicate 1952 0#8 ++ leBytes 4 8 ++ leBytes 4 0) }, by unfold State.served State.evRoom; decide +kernel⟩⟩

/-- States and operands that meet the hypotheses of each clause of InjectionAndTrust (2 of 2). -/
theorem test_meets_InjectionAndTrust2 :
    (∃ (s : State) (d : Desc), s.served d 0x0B02 ∧ s.hw.mode = .provision ∧ s.hw.fbit R.NVS_STATUS_ARMED = true ∧ 1 ≤ d.p0 ∧ d.p0 ≤ 15 ∧ s.otp.written d.p0 = false ∧ 5269 ≤ d.len ∧ d.provPerm < 16 ∧ s.otp.usable d.provSigner 3 = false ∧ s.evRoom 1) :=
  ⟨wt .provision, { p0 := 3, len := 5269, aux := 15, data := (List.replicate 1952 0#8 ++ leBytes 4 1 ++ leBytes 4 0) }, by unfold State.served State.evRoom; decide +kernel⟩

/-- States and operands that meet the hypotheses of each clause of ExtensionPortEvents. -/
theorem test_meets_ExtensionPortEvents :
    (∃ (s : State) (i : Fin 8) (q : Query) (n : Nat), (s.hw.tgt i.val).query = some q ∧ (s.hw.tgt i.val).task = some n ∧ q.started = true ∧ (s.hw.cpu i.val).inexc = false) ∧
    (∃ (s : State) (i : Fin 8) (q : Query) (n : Nat), (s.hw.tgt i.val).query = some q ∧ (s.hw.tgt i.val).task = some n ∧ q.started = false) ∧
    (∃ (s : State) (i : Fin 8) (q : Query) (n : Nat), (s.hw.tgt i.val).query = some q ∧ (s.hw.tgt i.val).task = some n ∧ q.started = true ∧ s.hw.clk.up ≤ q.limit ∧ (s.hw.cyc n).foll = false ∧ (s.hw.cpu i.val).fetchBad = false) ∧
    (∃ (s : State) (i : Fin 8), (s.hw.tgt i.val).query = none) ∧
    (∃ (s : State), s.hw.fget R.EXE_EXT_CFG_SLOT_EN ≠ 0 ∧ s.hw.mode ≠ .boot ∧ s.hw.mode ≠ .parked) ∧
    (∃ (s : State) (w : List (Nat × Bool × List Byte)), s.hw.exe.extWait = w ∧ (∀ z ∈ w, z.2.1 = false)) ∧
    (∃ (s : State) (i : Fin 8) (q : Query) (f : List Byte), s.hw.exe.extWait = [(i.val, true, f)] ∧ (s.hw.tgt i.val).query = some q) :=
  ⟨⟨up (wt .run) (fun h => { h with exe := { h.exe with extBusy := true, extWait := [(3, false, [2#8])] } }.setTgt 2 { task := some 3, query := some { slot := 12, opc := 3, rd := 5#5, a := 1#32, b := 2#32, word := 0xF8A21806#32, started := true, limit := 5001000000 } }), 2, { slot := 12, opc := 3, rd := 5#5, a := 1#32, b := 2#32, word := 0xF8A21806#32, started := true, limit := 5001000000 }, 3, by decide +kernel⟩,
   ⟨up (wt .run) (fun h => { h with exe := { h.exe with extBusy := true, extWait := [(2, true, [1#8])] } }.setTgt 2 { task := some 3, query := some { slot := 12, opc := 3, rd := 5#5, a := 1#32, b := 2#32, word := 0xF8A21806#32, started := false, limit := 5001000000 } }), 2, { slot := 12, opc := 3, rd := 5#5, a := 1#32, b := 2#32, word := 0xF8A21806#32, started := false, limit := 5001000000 }, 3, by decide +kernel⟩,
   ⟨up (wt .run) (fun h => { h with exe := { h.exe with extBusy := true } }.setTgt 2 { task := some 3, query := some { slot := 12, opc := 3, rd := 5#5, a := 1#32, b := 2#32, word := 0xF8A21806#32, started := true, limit := 5001000000 } }), 2, { slot := 12, opc := 3, rd := 5#5, a := 1#32, b := 2#32, word := 0xF8A21806#32, started := true, limit := 5001000000 }, 3, by decide +kernel⟩,
   ⟨wt .run, 2, by decide +kernel⟩,
   ⟨up (wt .run) (fun h => { h with exe := { h.exe with extAt := 5000000000 } }.fset R.EXE_EXT_CFG_SLOT_EN 1), by decide +kernel⟩,
   ⟨up (wt .run) (fun h => { h with exe := { h.exe with extBusy := true, extWait := [(2, false, [1#8]), (3, false, [2#8])] } }), [(2, false, [1#8]), (3, false, [2#8])], by decide +kernel⟩,
   ⟨up (wt .run) (fun h => { h with exe := { h.exe with extBusy := true, extWait := [(2, true, [1#8])] } }.setTgt 2 { task := some 3, query := some { slot := 12, opc := 3, rd := 5#5, a := 1#32, b := 2#32, word := 0xF8A21806#32, started := false, limit := 5001000000 } }), 2, { slot := 12, opc := 3, rd := 5#5, a := 1#32, b := 2#32, word := 0xF8A21806#32, started := false, limit := 5001000000 }, [1#8], by decide +kernel⟩⟩

/-- The entry of a table that maps every number from `a` on, `n` of them, to `v`. -/
theorem tget_full {α : Type} (d v : α) (n : Nat) : ∀ a i, a ≤ i → i < a + n → tget d ((List.range' a n).map (fun j => (j, v))) i = v := by
  induction n with
  | zero => intro a i h1 h2; omega
  | succ n ih =>
    intro a i h1 h2
    simp only [List.range'_succ, List.map_cons, tget]
    split
    · rfl
    · exact ih (a + 1) i (by omega) (by omega)

/-- A module in RUN whose digital channel 11 a task owns, with a force in each entry of the table. -/
def fullForces : State :=
  up (wt .run) (fun h =>
    let g := (((h.fset (R.TSK_Tn_CTRL_KIND 3) 1).setMl (imgBase + 3 * 32 + 8) 4 0x1000).setReg 0x40038004 1#32).fset (R.FLD_CHc_CFG_MODE 11) 1
    { g with tsk := { g.tsk with forces := (List.range' 0 1024).map (fun i => (i, ({ target := 1, active := true } : Force))) } })

/-- The table of forces is full there. -/
theorem test_forces_full : fullForces.hw.forceFree = none := by
  refine List.find?_eq_none.2 (fun i hi => ?_)
  have h : fullForces.hw.force i = { target := 1, active := true } :=
    tget_full _ _ 1024 0 i (Nat.zero_le i) (by simpa using List.mem_range.1 hi)
  simp [h]

/-- States and operands that meet the hypotheses of the clause of Forces on a full table. -/
theorem test_meets_ForcesFull : ∃ (s : State) (d : Desc) (f : Force), s.served d 0x0301 ∧ s.allows .frc { d with op := 0x0301 } ∧ s.hw.fget R.PAIR_STATUS_ROLE ≠ 2 ∧ f = forceOf d.p0 d.p1 d.addr 0 ∧ forceResv d.p0 d.p1 = true ∧ f.idOk = true ∧ f.valueOk = true ∧ s.hw.forceMode f = true ∧ s.hw.tsk.forces.any (fun (z : Nat × Force) => z.2.active && z.2.clash f) = false ∧ s.hw.forceHeld f = true ∧ s.hw.forceFind f = none ∧ s.hw.forceFree = none ∧ s.evRoom 1 :=
  ⟨fullForces, { p0 := 0xB00, addr := 1 }, { channel := 11, value := 1 }, by
    unfold State.served State.allows State.evRoom
    refine ⟨?_, ?_, ?_, ?_, ?_, ?_, ?_, ?_, ?_, ?_, ?_, test_forces_full, ?_⟩ <;> decide +kernel⟩


/-- A word that the decoder accepts, as KyoquelDecodeEncode takes one. -/
theorem test_meets_KyoquelDecodeEncode : ∃ (w : Word) (i : Ky), kyDecode w = some i := ⟨0x10000000#32, .addi 0 0 0, by decide +kernel⟩

/-- A store with a written key slot whose contents a state keeps, and a step of that state, as OtpStoreOnlyGains takes them. -/
theorem test_meets_OtpStoreOnlyGains : ∃ (o : Otp) (s t : State), o.written 1 = true ∧ o.keeps s.otp ∧ step s = .next t :=
  ⟨{ bytes := [(0x17F, 0xA5#8)] }, { State.reset with otp := { bytes := [(0x17F, 0xA5#8)] } }, _, by decide +kernel, ⟨fun _ _ h => h, fun _ _ _ _ => rfl⟩, rfl⟩

/-- An empty queue, as StepRunsFront and EveryCommandAnswers take it. -/
theorem test_meets_StepRunsFront : ∃ s : State, s.pending = [] := ⟨State.reset, rfl⟩

end Sys2Proof.Tests
end

section
/-! PROOFS. The scope family: the machine as delivered, and the commands of every host that belong to no block. -/

namespace Sys2Proof.Machine

/-! ## The machine as delivered -/

/-- A register that nothing has written holds the word of its Reset column (R4). -/
theorem Hw.reg_of_regs_nil (h : Hw) (hr : h.regs = []) (a : Nat) : h.reg a = resetWord a := by
  rw [Hw.reg, hr, tget_nil]

/-- The identification words of the twelve blocks. -/
theorem resetWord_blockId (b : Fin 12) : resetWord (R.BLOCK_ID b) = BitVec.ofNat 32 (0xAE100001 + b.val * 0x1000) := by
  revert b; decide

/-- A key store in which nothing is programmed has no written slot. -/
theorem Otp.written_of_bytes_nil (o : Otp) (ho : o.bytes = []) (k : Nat) : o.written k = false := by
  simp [Otp.written, Otp.b, ho]

theorem Otp.keeps_refl (o : Otp) : o.keeps o := ⟨fun _ _ hbit => hbit, fun _ _ _ _ => rfl⟩

/-- Settles O58: no register of the delivered machine is written, so each reads its Reset column; the rest is the state as it is listed. -/
theorem resetState : Obligations.ResetState := by
  unfold Obligations.ResetState
  have hreg : ∀ a, State.reset.hw.reg a = resetWord a := State.reset.hw.reg_of_regs_nil rfl
  refine ⟨hreg _, fun b => (hreg _).trans (resetWord_blockId b), ?pollUs, ?go, ?extTimeout, rfl, rfl, rfl, Memory.wf_reset, rfl, rfl, rfl,
    State.reset.otp.written_of_bytes_nil rfl, State.reset.otp.keeps_refl⟩
  case pollUs => rw [Hw.fget, hreg]; decide
  case go => rw [Hw.fbit, Hw.fget, hreg]; decide
  case extTimeout => rw [Hw.fget, hreg]; decide

/-! ## The commands of every host -/

/-- Refutes O49: its clause on EVENT_WAIT_TIMEOUT leaves the opcode of the waiting command open, and the quantified states reach beyond
those in which only an EVENT_WAIT (0x0005) waits. Where a REG_WRITE (0x0004) stands in the list of waits, its completion with TIMEOUT
refuses a command that changes state, so it records 0x7010 (R347), and the recorder is outside the clause's frame. -/
theorem not_registerCommands : ¬ Obligations.RegisterCommands := by
  unfold Obligations.RegisterCommands
  intro h
  obtain ⟨-, -, -, -, -, -, -, -, -, -, -, -, -, timeout, -⟩ :=
    h { State.reset with hw := { State.reset.hw with hif := { waits := [{ d := { op := 0x0004 }, limit := 0 }] } } }
      {} { d := { op := 0x0004 }, limit := 0 } false 0#32 0#32 0
  obtain ⟨t, ht, -, -, -, hpart, -⟩ := timeout rfl rfl rfl rfl
  cases ht
  have hevr := hpart .evr (by decide)
  have hrecord : [(0x7010, 0x0004, 0, stTimeout)] = [] := congrArg (fun x : Evr => x.inq.map Ev.brief) hevr
  exact List.cons_ne_nil _ _ hrecord

end Sys2Proof.Machine
end

section
/-! PROOFS. The architecture family: SAFE entry as a claim reads it, the droop detector and the clock monitor. -/

namespace Sys2Proof.Machine

theorem Hw.fbit_of_one {h : Hw} {f : Fld} (hf : h.fget f = 1) : h.fbit f = true := by rw [Hw.fbit, hf]; rfl

theorem Hw.fbit_of_zero {h : Hw} {f : Fld} (hf : h.fget f = 0) : h.fbit f = false := by rw [Hw.fbit, hf]; rfl

/-! ## What follows a mode change leaves the mode fields

A mode change has some twenty operations after it: aborts, disarming, lands, roles, forces. `Aside` is what a claim about the mode needs
of each of them, so that none is looked into twice. -/

/-- The fields of SUP_MODE_STATUS that a claim about a mode change reads (R39, R47). -/
def modeFields : List Fld :=
  [R.SUP_MODE_STATUS_MODE, R.SUP_MODE_STATUS_PREV_MODE, R.SUP_MODE_STATUS_CAUSE, R.SUP_MODE_STATUS_SAFE_LATCH]

/-- From `h` to `k` the mode fields and the clock monitor's flags stand, and the recorder's input queue only grows at its end. -/
structure Aside (h k : Hw) : Prop where
  field : ∀ f ∈ modeFields, k.fget f = h.fget f
  clkmon : k.reg R.SUP_CLKMON_STATUS = h.reg R.SUP_CLKMON_STATUS
  inq : h.evr.inq <+: k.evr.inq

namespace Aside

variable {h k l : Hw}

theorem refl {h : Hw} : Aside h h := ⟨fun _ _ => rfl, rfl, List.prefix_rfl⟩

theorem trans (a : Aside h k) (b : Aside k l) : Aside h l :=
  ⟨fun f hf => (b.field f hf).trans (a.field f hf), b.clkmon.trans a.clkmon, a.inq.trans b.inq⟩

/-- An update of other parts than the registers and the recorder's input queue. -/
theorem rest (a : Aside h k) (hr : l.regs = k.regs) (hq : l.evr.inq = k.evr.inq) : Aside h l :=
  a.trans ⟨fun f _ => Hw.fget_congr l k f hr, Hw.reg_congr l k _ hr, hq ▸ List.prefix_rfl⟩

/-- A machine with the registers of `k`, put together from its parts. -/
theorem parts {clk pend mem sup exe tsk hif nvs net fld pair evr wdg cal prog free} (a : Aside h k) (hq : evr.inq = k.evr.inq) :
    Aside h ⟨clk, k.regs, pend, mem, sup, exe, tsk, hif, nvs, net, fld, pair, evr, wdg, cal, prog, free⟩ := a.rest rfl hq

/-- A write of a field apart from the mode fields. -/
theorem fset_apart {g : Fld} {v : Nat} (a : Aside h k) (hw : g.lo + g.w ≤ 32)
    (hap : ∀ f ∈ modeFields, f.a ≠ g.a ∨ f.lo + f.w ≤ g.lo ∨ g.lo + g.w ≤ f.lo) (hc : R.SUP_CLKMON_STATUS ≠ g.a) : Aside h (k.fset g v) :=
  a.trans ⟨fun f hf => k.fget_fset_apart g f v hw (hap f hf), k.reg_fset_ne g v _ hc, List.prefix_rfl⟩

/-- A write of a register other than SUP_MODE_STATUS and SUP_CLKMON_STATUS. -/
theorem setReg {r : Nat} {v : Word} (a : Aside h k) (hr : r ∉ [R.SUP_MODE_STATUS, R.SUP_CLKMON_STATUS]) : Aside h (k.setReg r v) := by
  simp only [List.mem_cons, List.not_mem_nil, or_false, not_or] at hr
  obtain ⟨hmode, hclk⟩ := hr
  have haddr : ∀ f ∈ modeFields, f.a = R.SUP_MODE_STATUS := by decide
  exact a.trans ⟨fun f hf => k.fget_setReg_ne r v f (haddr f hf ▸ Ne.symm hmode), k.reg_setReg_ne r _ v (Ne.symm hclk), List.prefix_rfl⟩

theorem fset {g : Fld} {v : Nat} (a : Aside h k) (hg : g.a ∉ [R.SUP_MODE_STATUS, R.SUP_CLKMON_STATUS]) : Aside h (k.fset g v) :=
  a.setReg hg

/-- A write of a field in a block after SUP (Table 1-6). -/
theorem fset_block {g : Fld} {v : Nat} (a : Aside h k) (hg : 0x40010000 ≤ g.a) : Aside h (k.fset g v) :=
  a.setReg (by simp [R.SUP_MODE_STATUS, R.SUP_CLKMON_STATUS]; omega)

theorem finc {g : Fld} (a : Aside h k) (hg : g.a ∉ [R.SUP_MODE_STATUS, R.SUP_CLKMON_STATUS]) : Aside h (k.finc g) := a.fset hg

theorem raiseEv {e : Ev} (a : Aside h k) : Aside h (k.raiseEv e) := by
  unfold Hw.raiseEv
  split
  · exact a.trans ⟨fun _ _ => rfl, rfl, List.prefix_append _ _⟩
  · exact rest (a.finc (g := R.EVR_LOST_LOST) (by decide)) rfl rfl

theorem raise {c p0 p1 p2 : Nat} (a : Aside h k) : Aside h (k.raise c p0 p1 p2) := a.raiseEv

theorem foldl {β : Type} {f : Hw → β → Hw} {l : List β} (a : Aside h k) (hf : ∀ x b, Aside x (f x b)) : Aside h (l.foldl f k) := by
  induction l generalizing k with
  | nil => exact a
  | cons b r ih => exact ih (a.trans (hf k b))

/-- An update that is made where a condition holds. -/
theorem onlyIf {c : Prop} [Decidable c] (a : Aside h k) (b : Aside k l) : Aside h (if c then l else k) := by
  split
  · exact a.trans b
  · exact a

/-- An update that is made except where a condition holds. -/
theorem exceptIf {c : Prop} [Decidable c] (a : Aside h k) (b : Aside k l) : Aside h (if c then k else l) := by
  split
  · exact a
  · exact a.trans b

/-! ### The page engine, the sync link, completions -/

theorem nvCount (a : Aside h k) : Aside h k.nvCount := a.fset (g := R.NVS_STATUS_QUEUED) (by decide)

theorem nvKick (a : Aside h k) : Aside h k.nvKick := by
  unfold Hw.nvKick
  split
  · exact a
  · split
    · split
      · exact a
      · exact fset (nvCount (rest a rfl rfl)) (by decide)
    · exact a

theorem nvPush {w : NvWrite} (a : Aside h k) : Aside h (k.nvPush w) := nvKick (nvCount (rest a rfl rfl))

theorem pairSend {m : SyncMsg} (a : Aside h k) : Aside h (k.pairSend m) := a.rest rfl rfl

theorem netSend {x : NetOut} (a : Aside h k) : Aside h (k.netSend x) := a.rest rfl rfl

theorem finish {d : Desc} {c : Compl} (a : Aside h k) : Aside h (k.finish d c) := by
  unfold Hw.finish
  dsimp only
  split
  · exact rest a rfl rfl
  · split
    · split <;> exact rest a rfl rfl
    · exact rest a rfl rfl
    · exact rest a rfl rfl

theorem complete {d : Desc} {st : Nat} {ch : Bool} {r0 r1 r2 de ev : Nat} {o : List Byte} (a : Aside h k) :
    Aside h (k.complete d st ch r0 r1 r2 de ev o) := by
  unfold Hw.complete
  refine exceptIf a (finish ?_)
  split
  · exact raise refl
  · exact onlyIf refl (raise refl)

/-! ### The end of every cycle (R48, R93) -/

theorem block_le_status (p : Nat) : 0x40010000 ≤ R.CMP_EPn_STATUS p := Nat.le_add_right_of_le (by decide)
theorem block_le_undo (p : Nat) : 0x40010000 ≤ R.CMP_EPn_UNDO p := Nat.le_add_right_of_le (by decide)
theorem block_le_held (p : Nat) : 0x40010000 ≤ R.CMP_EPn_HELD p := Nat.le_add_right_of_le (by decide)
theorem block_le_stat (t : Nat) : 0x40010000 ≤ R.TSK_Tn_STAT t := Nat.le_add_right_of_le (by decide)

theorem setMl {x n v : Nat} (a : Aside h k) : Aside h (k.setMl x n v) := by
  rw [Hw.setMl, Hw.setMbs_eq]
  exact a.rest rfl rfl

theorem undoPut {u : Undo} (a : Aside h k) : Aside h (k.undoPut u) := by
  unfold Hw.undoPut
  split
  · exact rest a.setMl rfl rfl
  · exact a.setMl
  · exact rest a rfl rfl
  · exact rest a rfl rfl

theorem setUndo {i : Nat} {l : List Undo} (a : Aside h k) : Aside h (k.setUndo i l) := by
  unfold Hw.setUndo
  exact exceptIf (rest a rfl rfl) (fset_block (fset_block refl (block_le_undo _)) (block_le_undo _))

theorem rollAll {i : Nat} (a : Aside h k) : Aside h (k.rollAll i) := setUndo (foldl a fun _ _ => undoPut refl)

theorem setHeld {p : Nat} {l : List Held} (a : Aside h k) : Aside h (k.setHeld p l) := by
  unfold Hw.setHeld
  exact fset_block (fset_block (rest a rfl rfl) (block_le_held p)) (block_le_held p)

theorem setTstate {t v : Nat} (a : Aside h k) : Aside h (k.setTstate t v) := by
  unfold Hw.setTstate
  exact onlyIf (fset_block a (block_le_stat t)) (rest refl rfl rfl)

theorem taint {t : Nat} (a : Aside h k) : Aside h (k.taint t) := a.rest rfl rfl

theorem endCycles (a : Aside h k) : Aside h k.endCycles := by
  unfold Hw.endCycles
  refine rest (foldl (foldl (foldl (foldl a ?unread) ?targets) ?pairs) ?tasks) rfl rfl
  case unread => exact fun _ _ => foldl (raise refl) fun _ _ => taint refl
  case targets => exact fun _ _ => rest (rollAll refl) rfl rfl
  case pairs =>
    exact fun _ p => fset_block (fset_block (fset_block (setHeld refl) (block_le_status p)) (block_le_status p)) (block_le_status p)
  case tasks =>
    intro x t
    dsimp only
    exact exceptIf (exceptIf (onlyIf refl (taint refl)) (raise refl)) (rest (fset_block (setTstate refl) (block_le_stat t)) rfl rfl)

/-! ### The ends of activities (R62) -/

theorem actSet {x : Act} {on : Bool} (a : Aside h k) : Aside h (k.actSet x on) := a.fset (by decide)

theorem olcRollback {reason detail : Nat} (a : Aside h k) : Aside h (k.olcRollback reason detail) := by
  unfold Hw.olcRollback
  dsimp only
  refine actSet ?_
  have b : Aside h ((k.fset R.TSK_OLC_STATUS_STATE 6).fset R.TSK_OLC_STATUS_REASON reason) := (a.fset (by decide)).fset (by decide)
  split
  · exact complete (raise (onlyIf (rest b rfl rfl) (pairSend refl)))
  · exact raise (onlyIf (rest b rfl rfl) (pairSend refl))

theorem dbgEnd (a : Aside h k) : Aside h k.dbgEnd := by
  unfold Hw.dbgEnd
  exact actSet (fset (fset (rest (foldl a fun _ p => fset_block refl (block_le_status p)) rfl rfl) (by decide)) (by decide))

theorem dropJournal {reason : Nat} (a : Aside h k) : Aside h (k.dropJournal reason) := by
  unfold Hw.dropJournal Hw.setJournal Hw.fwuStatus
  exact raise (raise (fset (fset (fset (nvPush a) (by decide)) (by decide)) (by decide)))

theorem fwuAbort (a : Aside h k) : Aside h k.fwuAbort := by
  unfold Hw.fwuAbort
  exact onlyIf (rest a rfl rfl) (dropJournal refl)

theorem openPage {seq slot : Nat} (a : Aside h k) : Aside h (k.openPage seq slot) := by
  unfold Hw.openPage
  exact nvPush (nvPush (exceptIf a (raise (finc refl (by decide)))))

/-- The recorder notes a record as written; `v` is the recorder as it was. Stated for any `k`: in `ringWrite`, where `k` is an expression,
the kernel would evaluate the slot's arithmetic to see that the queue is the same. -/
theorem logged {v : Evr} {log : List (Nat × Ev)} {crc : Bool} (a : Aside h k) (hv : v = k.evr) :
    Aside h { k with evr := { v with log := log, injCrc := crc } } := a.rest rfl (by rw [hv])

theorem ringWrite {e : Ev} {queued : Bool} (a : Aside h k) : Aside h (k.ringWrite e queued) := by
  unfold Hw.ringWrite
  extract_lets seq slot h1 bs h2 h3 evr h4 hit hif h5
  have b3 : Aside h h3 := fset (nvPush (onlyIf a (openPage refl))) (by decide)
  have b4 : Aside h h4 := logged (v := evr) b3 rfl
  have b5 : Aside h h5 := b4.rest rfl rfl
  exact b5.foldl fun _ _ => complete refl

theorem freezeEnd {reason : Nat} {extra : List Ev} (a : Aside h k) : Aside h (k.freezeEnd reason extra) := by
  unfold Hw.freezeEnd
  split
  · exact a
  · dsimp only
    refine fset (fset (fset (ringWrite (foldl ?_ fun _ _ => ringWrite refl)) (by decide)) (by decide)) (by decide)
    exact fset (fset (fset (rest a rfl rfl) (by decide)) (by decide)) (by decide)

theorem abortAct {x : Act} {m : Mode} (a : Aside h k) : Aside h (k.abortAct x m) := by
  unfold Hw.abortAct Hw.abortCmds
  dsimp only
  refine exceptIf (foldl ?_ fun _ _ => complete refl) (actSet refl)
  split
  case h_1 => exact exceptIf a.raise (olcRollback refl)
  case h_2 => exact fset (rest a.raise rfl rfl) (by decide)
  case h_3 => exact a.raise.dbgEnd
  case h_4 => exact rest a.raise.fwuAbort rfl rfl
  case h_5 => exact fset (rest a.raise rfl rfl) (by decide)
  case h_6 => exact freezeEnd (rest a.raise rfl rfl)
  all_goals exact rest a.raise rfl rfl

theorem abortActs {m : Mode} (a : Aside h k) : Aside h (k.abortActs m) := a.foldl fun _ _ => abortAct refl

theorem recheckDeferred (a : Aside h k) : Aside h k.recheckDeferred := by
  unfold Hw.recheckDeferred
  exact fset (foldl (rest a rfl rfl) fun _ _ => complete (raise refl)) (by decide)

/-- No INJ_CTRL register is a mode or clock monitor register. -/
theorem injReg_spares {n r : Nat} (hn : injReg n = some r) : r ∉ [R.SUP_MODE_STATUS, R.SUP_CLKMON_STATUS] := by
  unfold injReg at hn
  split at hn <;> cases hn <;> decide

theorem disarm {m : Mode} (a : Aside h k) : Aside h (k.disarm m) := by
  refine a.foldl fun x n => ?_
  split
  case h_1 p r _ hr => exact exceptIf refl (foldl (raise (fset refl (injReg_spares hr))) fun _ _ => complete refl)
  case h_2 => exact refl

/-! ### Profiles, lands, roles and forces -/

theorem latchProfiles (a : Aside h k) : Aside h k.latchProfiles := a.foldl fun _ n => fset_block refl (block_le_status n)

theorem setAutoLeft {n : Nat} (a : Aside h k) : Aside h (k.setAutoLeft n) :=
  nvPush (a.fset_apart (by decide) (by decide) (by decide))

theorem lands (a : Aside h k) : Aside h k.lands :=
  rest (a.fset_apart (g := R.SUP_MODE_STATUS_LIVE_OUT) (v := b2n (k.mode.drivesLive && !k.nvs.vinLost && k.sup.coreResetDue.isNone))
    (by decide) (by decide) (by decide)) rfl rfl

theorem garps (a : Aside h k) : Aside h k.garps := a.foldl fun _ _ => netSend refl

theorem roleChange (a : Aside h k) : Aside h k.roleChange := by
  unfold Hw.roleChange
  exact onlyIf (exceptIf (fset a (by decide)) (parts (setReg (fset (fset refl (by decide)) (by decide)) (by decide)) rfl)) (garps refl)

theorem supersede (a : Aside h k) : Aside h k.supersede := by
  unfold Hw.supersede
  refine exceptIf a ?_
  dsimp only
  split
  · exact complete (fset (rest refl rfl rfl) (by decide))
  · exact fset (rest refl rfl rfl) (by decide)

theorem forceStatus (a : Aside h k) : Aside h k.forceStatus := by
  unfold Hw.forceStatus
  exact rest (fset (fset (fset (fset a (by decide)) (by decide)) (by decide)) (by decide)) rfl rfl

theorem clearForces {c : Nat} (a : Aside h k) : Aside h (k.clearForces c) := by
  unfold Hw.clearForces
  exact exceptIf (forceStatus (rest a rfl rfl)) (raise refl)

theorem stopPublishing (a : Aside h k) : Aside h k.stopPublishing := a.rest rfl rfl

theorem safeNote {c d p : Nat} (a : Aside h k) : Aside h (k.safeNote c d p) := by
  unfold Hw.safeNote
  exact onlyIf (rest a rfl rfl) (raise refl)

theorem useInc {i : Nat} (a : Aside h k) : Aside h (k.useInc i) := a.rest rfl rfl

/-- The mode is a mode field. -/
theorem mode (a : Aside h k) : k.mode = h.mode := congrArg Mode.ofCode (a.field R.SUP_MODE_STATUS_MODE (by decide))

end Aside

/-! ## SAFE entry -/

/-- A transition writes PREV_MODE, MODE and CAUSE once; what comes before and after it leaves them. -/
theorem Hw.setMode_fields (h : Hw) (m : Mode) (cause : Nat) : ∃ k, Aside h k ∧
    Aside (((k.fset R.SUP_MODE_STATUS_PREV_MODE h.mode.code).fset R.SUP_MODE_STATUS_MODE m.code).fset R.SUP_MODE_STATUS_CAUSE cause)
      (h.setMode m cause) := by
  refine ⟨if m.runsTasks then h.fset R.WDG_CTRL_LOCK 1 else h, .onlyIf .refl (.fset .refl (by decide)), ?_⟩
  unfold Hw.setMode
  extract_lets old h0 h1 h2 h3 h4 h5 sup tsk nvs h6 h7 wdg h7' h8 h9
  have latched : Aside h1 h4 := .onlyIf (.onlyIf (.raise .refl) (.latchProfiles .refl)) (.setAutoLeft .refl)
  have aborted : Aside h1 h5 := latched.abortActs.recheckDeferred.disarm
  have cleared : Aside h1 h6 := aborted.rest rfl rfl
  have silenced : Aside h1 h7' := .exceptIf (.exceptIf cleared (.stopPublishing .refl)) (.rest .refl rfl rfl)
  have settled : Aside h1 h9 := (silenced.lands.fset (g := R.HIF_STATUS_MODE) (by decide)).roleChange.supersede
  change Aside h1 _
  split
  · exact settled.clearForces
  · exact settled.forceStatus

/-- `k` is what a SAFE entry with this cause makes of `h`: the mode fields (R39), the latch (R47), the clock monitor's flags as they were,
and the recorder's input queue grown at its end. -/
structure SafeEntered (h k : Hw) (cause : Nat) : Prop where
  mode : k.mode = .safe
  prev : k.fget R.SUP_MODE_STATUS_PREV_MODE = h.mode.code
  cause : k.fget R.SUP_MODE_STATUS_CAUSE = cause
  latch : k.fbit R.SUP_MODE_STATUS_SAFE_LATCH = true
  clkmon : k.reg R.SUP_CLKMON_STATUS = h.reg R.SUP_CLKMON_STATUS
  inq : h.evr.inq <+: k.evr.inq

theorem Mode.code_lt (m : Mode) : m.code < 2 ^ 4 := by cases m <;> decide

theorem SafeEntered.aside {h k l : Hw} {c : Nat} (e : SafeEntered h k c) (a : Aside k l) : SafeEntered h l c where
  mode := a.mode.trans e.mode
  prev := (a.field _ (by decide)).trans e.prev
  cause := (a.field _ (by decide)).trans e.cause
  latch := by rw [Hw.fbit, a.field _ (by decide)]; exact e.latch
  clkmon := a.clkmon.trans e.clkmon
  inq := e.inq.trans a.inq

theorem SafeEntered.after {g h k : Hw} {c : Nat} (e : SafeEntered h k c) (hm : h.mode = g.mode)
    (hc : h.reg R.SUP_CLKMON_STATUS = g.reg R.SUP_CLKMON_STATUS) (hq : g.evr.inq <+: h.evr.inq) : SafeEntered g k c where
  mode := e.mode
  prev := hm ▸ e.prev
  cause := e.cause
  latch := e.latch
  clkmon := e.clkmon.trans hc
  inq := hq.trans e.inq

/-- A transition into SAFE of a module whose latch is set. -/
theorem Hw.setMode_safe (h : Hw) (cause : Nat) (hc : cause < 2 ^ 8) (hl : h.fbit R.SUP_MODE_STATUS_SAFE_LATCH = true) :
    SafeEntered h (h.setMode .safe cause) cause := by
  obtain ⟨k, before, after⟩ := h.setMode_fields .safe cause
  refine SafeEntered.aside ?_ after
  refine ⟨congrArg Mode.ofCode (?_ : _ = 9), ?_, ?_, ?_, ?_, before.inq⟩
  · simp (disch := decide) only [Hw.fget_fset_apart, Hw.fget_fset_same]
    rfl
  · simp (disch := decide) only [Hw.fget_fset_apart, Hw.fget_fset_same]
    exact Nat.mod_eq_of_lt h.mode.code_lt
  · rw [Hw.fget_fset_same _ _ _ (by decide)]
    exact Nat.mod_eq_of_lt hc
  · rw [← hl, Hw.fbit, Hw.fbit, ← before.field _ (by decide)]
    simp (disch := decide) only [Hw.fget_fset_apart]
  · rw [Hw.reg_fset_ne _ _ _ _ (by decide), Hw.reg_fset_ne _ _ _ _ (by decide), Hw.reg_fset_ne _ _ _ _ (by decide), before.clkmon]

/-- SAFE entry sets the latch first and leaves the mode for the transition to write (R47). -/
theorem Hw.latchSafe_fields (h : Hw) : h.latchSafe.mode = h.mode ∧ h.latchSafe.fbit R.SUP_MODE_STATUS_SAFE_LATCH = true ∧
    h.latchSafe.reg R.SUP_CLKMON_STATUS = h.reg R.SUP_CLKMON_STATUS ∧ h.evr.inq <+: h.latchSafe.evr.inq := by
  let g := (h.fset R.CAL_BKREC0_SAFE_COPY 1).fset R.SUP_MODE_STATUS_SAFE_LATCH 1
  have a : Aside g h.latchSafe := .nvPush .refl
  refine ⟨a.mode.trans (congrArg Mode.ofCode ?_), ?_, a.clkmon.trans ?_, a.inq⟩
  · simp (disch := decide) only [g, Hw.fget_fset_apart]
  · exact Hw.fbit_of_one ((a.field _ (by decide)).trans (Hw.fget_fset_same _ _ _ (by decide)))
  · rw [Hw.reg_fset_ne _ _ _ _ (by decide), Hw.reg_fset_ne _ _ _ _ (by decide)]

theorem Hw.safeEntry_entered (h : Hw) (cause detail : Nat) (hc : cause < 2 ^ 8) : SafeEntered h (h.safeEntry cause detail) cause := by
  obtain ⟨hmode, hlatch, hclk, hinq⟩ := h.latchSafe_fields
  unfold Hw.safeEntry
  extract_lets h1 h2
  have a : Aside h1 h2.endCycles := .endCycles (.onlyIf .refl (.olcRollback .refl))
  have hl : h2.endCycles.fbit R.SUP_MODE_STATUS_SAFE_LATCH = true := by rw [Hw.fbit, a.field _ (by decide)]; exact hlatch
  have e : SafeEntered h (h2.endCycles.setMode .safe cause) cause :=
    (Hw.setMode_safe _ cause hc hl).after (a.mode.trans hmode) (a.clkmon.trans hclk) (hinq.trans a.inq)
  exact e.aside (.useInc (.safeNote .refl))

/-- The modes from which a SAFE cause leads to SAFE with that cause (Table 2-3): all but BOOT, SAFE, PARKED and RECOVERY. -/
def safeModes : List Mode := [.startup, .run, .follow, .test, .debug, .stop, .service, .provision]

theorem Hw.safe_entered (h : Hw) (cause detail : Nat) (hc : cause < 2 ^ 8) (hm : h.mode ∈ safeModes) (hv : h.nvs.vinLost = false) :
    SafeEntered h (h.safe cause detail) cause := by
  have hgo : ¬ (h.mode = .boot ∨ h.mode = .safe ∨ h.mode = .parked ∨ h.nvs.vinLost = true) ∧ h.mode ≠ .recovery := by
    rw [hv]
    revert hm
    generalize h.mode = m
    cases m <;> decide
  obtain ⟨hstay, hrec⟩ := hgo
  rw [Hw.safe, if_neg hstay, if_neg (fun e => hrec e.1)]
  exact h.safeEntry_entered cause detail hc

/-! ## Frames

`Within` is a frame between two machines, built along a chain of updates; `Frame` is what it says of two states. -/

/-- From `h` to `k` every part outside `ps` and every register outside `rs` is the same. -/
structure Within (ps : List Part) (rs : List Nat) (h k : Hw) : Prop where
  part : ∀ p, p ∉ ps → p.same h k
  reg : ∀ a, a ∉ rs → k.reg a = h.reg a

theorem Part.same_trans {g h k : Hw} (p : Part) (a : p.same g h) (b : p.same h k) : p.same g k := by
  cases p <;> exact Eq.trans b a

namespace Within

variable {ps : List Part} {rs : List Nat} {h k l : Hw}

theorem refl : Within ps rs h h := ⟨fun p _ => by cases p <;> rfl, fun _ _ => rfl⟩

theorem trans (a : Within ps rs h k) (b : Within ps rs k l) : Within ps rs h l :=
  ⟨fun p hp => p.same_trans (a.part p hp) (b.part p hp), fun r hr => (b.reg r hr).trans (a.reg r hr)⟩

/-- An update of one part. -/
theorem update {q : Part} (a : Within ps rs h k) (hq : q ∈ ps) (hl : ∀ p, p ≠ q → p.same k l) (hr : l.regs = k.regs) : Within ps rs h l :=
  a.trans ⟨fun p hp => hl p (fun e => hp (e ▸ hq)), fun r _ => Hw.reg_congr l k r hr⟩

theorem pass {d : Nat} (a : Within ps rs h k) (hq : Part.clk ∈ ps) : Within ps rs h (k.pass d) :=
  a.update hq (fun p hp => by cases p <;> simp [Part.same] at hp ⊢) rfl

theorem untilUp {n : Nat} (a : Within ps rs h k) (hq : Part.clk ∈ ps) : Within ps rs h (k.untilUp n) := a.pass hq

theorem withSup {x : Sup} (a : Within ps rs h k) (hq : Part.sup ∈ ps) : Within ps rs h { k with sup := x } :=
  a.update hq (fun p hp => by cases p <;> simp [Part.same] at hp ⊢) rfl

theorem withEvr {x : Evr} (a : Within ps rs h k) (hq : Part.evr ∈ ps) : Within ps rs h { k with evr := x } :=
  a.update hq (fun p hp => by cases p <;> simp [Part.same] at hp ⊢) rfl

theorem fset {g : Fld} {v : Nat} (a : Within ps rs h k) (hg : g.a ∈ rs) : Within ps rs h (k.fset g v) :=
  a.trans ⟨fun p _ => by cases p <;> rfl, fun r hr => k.reg_fset_ne g v r (fun e => hr (e ▸ hg))⟩

theorem finc {g : Fld} (a : Within ps rs h k) (hg : g.a ∈ rs) : Within ps rs h (k.finc g) := a.fset hg

/-- The frame of a command whose effect is one on the hardware. -/
theorem frame {s : State} {k : Hw} (a : Within ps rs s.hw k) : Frame ps rs s { s with hw := k } := ⟨a.part, a.reg, rfl, rfl⟩

end Within

/-! ## Event requests with room in the queue (R388) -/

/-- The recorder's input queue takes one more event request. -/
def Hw.hasRoom (h : Hw) : Prop := h.evr.inq.length < 512 ∧ h.evr.injFull = false

theorem State.hasRoom {s : State} (hr : s.evRoom 1) : s.hw.hasRoom := hr

theorem Hw.raise_of_room {h : Hw} (hr : h.hasRoom) (c p0 p1 p2 : Nat) :
    h.raise c p0 p1 p2 = { h with evr := { h.evr with inq := h.evr.inq ++ [
      { code := c, p0 := p0, p1 := p1, p2 := p2, time := h.clk.tb, src := h.mode.code, injected := h.evr.injecting, unsync := !h.evr.synced }] } } := by
  rw [Hw.raise, Hw.raiseEv]
  exact if_pos hr

theorem Hw.raise_brief {h : Hw} (hr : h.hasRoom) (c p0 p1 p2 : Nat) :
    (h.raise c p0 p1 p2).evr.inq.map Ev.brief = h.evr.inq.map Ev.brief ++ [(c, p0, p1, p2)] := by
  rw [Hw.raise_of_room hr]; simp [Ev.brief]

theorem Within.raise {ps : List Part} {rs : List Nat} {h k : Hw} {c p0 p1 p2 : Nat} (a : Within ps rs h k) (hr : k.hasRoom)
    (hq : Part.evr ∈ ps) : Within ps rs h (k.raise c p0 p1 p2) := by
  rw [Hw.raise_of_room hr]
  exact a.withEvr hq

/-- Whether the recorder marks what is done next as injected (R446). -/
def Hw.setInjecting (h : Hw) (b : Bool) : Hw := { h with evr := { h.evr with injecting := b } }

theorem Within.setInjecting {ps : List Part} {rs : List Nat} {h k : Hw} {b : Bool} (a : Within ps rs h k) (hq : Part.evr ∈ ps) :
    Within ps rs h (k.setInjecting b) := a.withEvr hq

theorem Hw.asInj_eq (h : Hw) (b : Bool) (f : Hw → Hw) :
    h.asInj b f = (f (h.setInjecting (h.evr.injecting || b))).setInjecting h.evr.injecting := rfl

theorem Hw.asInj_false (h : Hw) (f : Hw → Hw) : h.asInj false f = (f h).setInjecting h.evr.injecting := by
  rw [Hw.asInj_eq, Bool.or_false]
  rfl

theorem Hw.asInj_raise (h : Hw) (c p0 p1 p2 : Nat) : h.asInj false (fun x => x.raise c p0 p1 p2) = h.raise c p0 p1 p2 := by
  rw [Hw.asInj_false, Hw.raise, Hw.raiseEv]
  split <;> rfl

/-! ## Commands that change the hardware only -/

theorem runs_onHw {c : Instr} {s : State} {P : State → Prop} (f : Hw → Hw) (he : exec c s = onHw s f) (hp : P { s with hw := f s.hw }) :
    Runs c s P := ⟨_, he, hp⟩

theorem SafeEntered.entered {s : State} {h k : Hw} {c : Nat} (e : SafeEntered h k c) (hm : h.mode = s.hw.mode) :
    Entered s { s with hw := k } .safe c := ⟨e.mode, e.prev.trans (congrArg Mode.code hm), e.cause⟩

/-- What entered the queue before a SAFE entry is recorded. -/
theorem SafeEntered.records {s : State} {h k : Hw} {c : Nat} {e : Nat × Nat × Nat × Nat} (en : SafeEntered h k c)
    (hb : h.evr.inq.map Ev.brief = s.hw.evr.inq.map Ev.brief ++ [e]) : Records s { s with hw := k } e := by
  obtain ⟨l, hl⟩ := en.inq
  refine ⟨e :: l.map Ev.brief, ?_, List.mem_cons_self⟩
  rw [Raises, ← hl, List.map_append, hb, List.append_assoc, List.singleton_append]

theorem SafeEntered.fget_clkmon {h k : Hw} {c : Nat} (e : SafeEntered h k c) {f : Fld} (hf : f.a = R.SUP_CLKMON_STATUS) :
    k.fget f = h.fget f := by
  rw [Hw.fget, Hw.fget, hf, e.clkmon]

theorem Hw.fget_fset_ne (h : Hw) (g : Fld) (v : Nat) (f : Fld) (hne : f.a ≠ g.a) : (h.fset g v).fget f = h.fget f :=
  Hw.fget_setReg_ne h g.a _ f hne

/-! ## The droop detector -/

theorem droopDetect_stretches (s : State) (hp : s.hw.powered = true) (hs : s.hw.fbit R.SUP_DROOP_STATUS_STRETCH = false) :
    Runs .droopDetect s (fun t =>
      t.hw.fbit R.SUP_DROOP_STATUS_STRETCH = true ∧ t.hw.clk.up = s.hw.clk.up + 2 ∧ t.hw.sup.stretchAt = t.hw.clk.up ∧
      Frame [.clk, .sup] [R.SUP_DROOP_STATUS] s t) := by
  have hd : s.hw.droop = { (s.hw.pass 2).fset R.SUP_DROOP_STATUS_STRETCH 1 with
      sup := { s.hw.sup with stretchAt := s.hw.clk.up + 2, stretchMask := ((s.hw.pass 2).fset R.SUP_DROOP_STATUS_STRETCH 1).runningPairs,
                             stretchLim := false } } := by
    rw [Hw.droop, hp, hs]; rfl
  refine runs_onHw Hw.droop rfl ?_
  rw [hd]
  refine ⟨?_, rfl, rfl, Within.frame (.withSup (.fset (.pass .refl (by decide)) (by decide)) (by decide))⟩
  exact Hw.fbit_of_one ((s.hw.pass 2).fget_fset_same R.SUP_DROOP_STATUS_STRETCH 1 (by decide))

/-- The duration in µs of a stretch that ends now, rounded to the nearest (R32). -/
def Hw.stretchUs (h : Hw) : Nat := (h.clk.up - h.sup.stretchAt + 500) / 1000

/-- 800 MHz returns: STRETCH, LAST_US and COUNT. -/
def Hw.stretchRegs (h : Hw) : Hw :=
  ((h.fset R.SUP_DROOP_STATUS_STRETCH 0).fset R.SUP_DROOP_STATUS_LAST_US (min 4095 h.stretchUs)).finc R.SUP_DROOP_STATUS_COUNT

theorem Hw.stretchRegs_fields (h : Hw) : h.stretchRegs.fget R.SUP_DROOP_STATUS_STRETCH = 0 ∧
    h.stretchRegs.fget R.SUP_DROOP_STATUS_COUNT = satInc R.SUP_DROOP_STATUS_COUNT.w (h.fget R.SUP_DROOP_STATUS_COUNT) ∧
    h.stretchRegs.fget R.SUP_DROOP_STATUS_LAST_US = min 4095 h.stretchUs := by
  unfold Hw.stretchRegs
  refine ⟨?stretch, ?count, ?last⟩
  case stretch => simp (disch := decide) only [Hw.fget_finc_apart, Hw.fget_fset_apart, Hw.fget_fset_same, Nat.zero_mod]
  case count => simp (disch := decide) only [Hw.fget_finc_same, Hw.fget_fset_apart]
  case last =>
    simp (disch := decide) only [Hw.fget_finc_apart, Hw.fget_fset_same]
    exact Nat.mod_eq_of_lt (Nat.lt_of_le_of_lt (Nat.min_le_left _ _) (by decide))

/-- The end of a stretch: the registers, 0x0021, and no injection that holds it (R27, R32). -/
def Hw.stretchOver (h : Hw) : Hw :=
  let k := h.stretchRegs.raise 0x0021 h.stretchUs h.sup.stretchMask
  { k with sup := { k.sup with injDroop := false, railLow := 0 } }

/-- Before its limit a stretch that no injection holds just ends. -/
theorem Hw.droopEnd_of_le_limit (h : Hw) (ns : Nat) (hs : h.fbit R.SUP_DROOP_STATUS_STRETCH = true) (hi : h.droopInj = false)
    (hl : h.stretchEnd ns ≤ h.sup.stretchAt + h.limitMs * 1000000) : h.droopEnd ns = (h.untilUp (h.stretchEnd ns)).stretchOver := by
  simp only [Hw.droopEnd, if_pos hs, if_neg (Nat.not_lt.2 hl), hi, Hw.asInj_raise]
  rfl

theorem Hw.stretchEnd_uninjected (h : Hw) (ns : Nat) (hd : h.sup.injDroop = false) (hr : h.sup.railLow = 0) :
    h.stretchEnd ns = h.clk.up + ns + max 1 (h.fget R.SUP_DROOP_CFG_HOLD_US) * 1000 := by
  simp [Hw.stretchEnd, hd, hr]

theorem Hw.stretchOver_up (h : Hw) : h.stretchOver.clk.up = h.clk.up := by
  simp [Hw.stretchOver, Hw.stretchRegs]

theorem Hw.stretchOver_fget (h : Hw) (f : Fld) (hf : f.a ≠ R.EVR_LOST) : h.stretchOver.fget f = h.stretchRegs.fget f :=
  Hw.fget_raise h.stretchRegs 0x0021 _ _ _ f hf

theorem Hw.stretchOver_brief {h : Hw} (hr : h.hasRoom) :
    h.stretchOver.evr.inq.map Ev.brief = h.evr.inq.map Ev.brief ++ [(0x0021, h.stretchUs, h.sup.stretchMask, 0)] :=
  Hw.raise_brief (h := h.stretchRegs) hr ..

theorem Within.stretchOver {h k : Hw} (a : Within [.clk, .sup, .evr] [R.SUP_DROOP_STATUS] h k) (hr : k.hasRoom) :
    Within [.clk, .sup, .evr] [R.SUP_DROOP_STATUS] h k.stretchOver :=
  .withSup (.raise (.finc (.fset (.fset a (by decide)) (by decide)) (by decide)) hr (by decide)) (by decide)

theorem droopHoldExpiry_ends (s : State) (x : Nat) (hs : s.hw.fbit R.SUP_DROOP_STATUS_STRETCH = true) (hd : s.hw.sup.injDroop = false)
    (hr : s.hw.sup.railLow = 0)
    (hl : s.hw.clk.up + x + max 1 (s.hw.fget R.SUP_DROOP_CFG_HOLD_US) * 1000 ≤
      s.hw.sup.stretchAt + max 1 (s.hw.fget R.SUP_DROOP_CFG_LIMIT_MS) * 1000000)
    (room : s.evRoom 1) : Runs (.droopHoldExpiry x) s (fun t =>
      t.hw.fbit R.SUP_DROOP_STATUS_STRETCH = false ∧
      t.hw.clk.up = s.hw.clk.up + x + max 1 (s.hw.fget R.SUP_DROOP_CFG_HOLD_US) * 1000 ∧
      t.hw.fget R.SUP_DROOP_STATUS_COUNT = satInc R.SUP_DROOP_STATUS_COUNT.w (s.hw.fget R.SUP_DROOP_STATUS_COUNT) ∧
      t.hw.fget R.SUP_DROOP_STATUS_LAST_US = min 4095 ((t.hw.clk.up - s.hw.sup.stretchAt + 500) / 1000) ∧
      Raises s t [(0x0021, (t.hw.clk.up - s.hw.sup.stretchAt + 500) / 1000, s.hw.sup.stretchMask, 0)] ∧
      Frame [.clk, .sup, .evr] [R.SUP_DROOP_STATUS] s t) := by
  have he := s.hw.stretchEnd_uninjected x hd hr
  refine runs_onHw (fun h => h.droopEnd x) rfl ?_
  simp only [s.hw.droopEnd_of_le_limit x hs (by simp [Hw.droopInj, hd, hr]) (he ▸ hl)]
  have hup : (s.hw.untilUp (s.hw.stretchEnd x)).clk.up = s.hw.clk.up + x + max 1 (s.hw.fget R.SUP_DROOP_CFG_HOLD_US) * 1000 := by
    rw [Hw.untilUp_up, he]; omega
  have within : Within [.clk, .sup, .evr] [R.SUP_DROOP_STATUS] s.hw (s.hw.untilUp (s.hw.stretchEnd x)) := .untilUp .refl (by decide)
  have hus : (s.hw.untilUp (s.hw.stretchEnd x)).stretchUs = ((s.hw.untilUp (s.hw.stretchEnd x)).clk.up - s.hw.sup.stretchAt + 500) / 1000 := rfl
  obtain ⟨stretch, count, last⟩ := (s.hw.untilUp (s.hw.stretchEnd x)).stretchRegs_fields
  rw [Hw.stretchOver_up, ← hus]
  refine ⟨?_, hup, ?_, ?_, Hw.stretchOver_brief (State.hasRoom room), (within.stretchOver (State.hasRoom room)).frame⟩
  · exact Hw.fbit_of_zero ((Hw.stretchOver_fget _ _ (by decide)).trans stretch)
  · rw [Hw.stretchOver_fget _ _ (by decide), count]; rfl
  · rw [Hw.stretchOver_fget _ _ (by decide), last]

/-- At its limit a stretch sets LIMIT, once (R32). -/
def Hw.limitReached (h : Hw) : Hw :=
  { (h.untilUp (h.sup.stretchAt + h.limitMs * 1000000)).fset R.SUP_DROOP_STATUS_LIMIT 1 with sup := { h.sup with stretchLim := true } }

/-- The limit of a stretch: LIMIT, 0x0022, and SAFE where ACTION is 1. -/
theorem Hw.droopOver_eq (h : Hw) (hs : h.fbit R.SUP_DROOP_STATUS_STRETCH = true) (hl : h.sup.stretchLim = false) :
    h.droopOver =
      let k := h.limitReached.raise 0x0022 h.limitMs (h.fget R.SUP_DROOP_CFG_ACTION)
      if h.fget R.SUP_DROOP_CFG_ACTION = 1 then k.safe 0x33 0 else k := by
  have other : ∀ f : Fld, f.a ≠ R.SUP_DROOP_STATUS →
      ((h.untilUp (h.sup.stretchAt + h.limitMs * 1000000)).fset R.SUP_DROOP_STATUS_LIMIT 1).fget f = h.fget f :=
    fun f hf => Hw.fget_setReg_ne _ _ _ f hf
  have hgo : (h.fbit R.SUP_DROOP_STATUS_STRETCH && !h.sup.stretchLim) = true := by rw [hs, hl]; rfl
  have hms : ((h.untilUp (h.sup.stretchAt + h.limitMs * 1000000)).fset R.SUP_DROOP_STATUS_LIMIT 1).limitMs = h.limitMs := by
    rw [Hw.limitMs, other _ (by decide)]; rfl
  simp only [Hw.droopOver, if_pos hgo, other R.SUP_DROOP_CFG_ACTION (by decide), hms]
  rfl

theorem Hw.limitReached_limit (h : Hw) : h.limitReached.fget R.SUP_DROOP_STATUS_LIMIT = 1 :=
  Hw.fget_fset_same (h.untilUp (h.sup.stretchAt + h.limitMs * 1000000)) R.SUP_DROOP_STATUS_LIMIT 1 (by decide)

theorem Within.limitReached {h k : Hw} (a : Within [.clk, .sup, .evr] [R.SUP_DROOP_STATUS] h k) :
    Within [.clk, .sup, .evr] [R.SUP_DROOP_STATUS] h k.limitReached := .withSup (.fset (.untilUp a (by decide)) (by decide)) (by decide)

/-- LIMIT and 0x0022 with ACTION, marked as injected where an injection holds the stretch. -/
def Hw.limitNoted (h : Hw) (action : Nat) : Hw :=
  (h.setInjecting (h.evr.injecting || h.droopInj)).limitReached.raise 0x0022 h.limitMs action

theorem Hw.droopLimit_eq (h : Hw) (hs : h.fbit R.SUP_DROOP_STATUS_STRETCH = true) (hl : h.sup.stretchLim = false) :
    h.droopLimit = Hw.setInjecting (if h.fget R.SUP_DROOP_CFG_ACTION = 1 then (h.limitNoted (h.fget R.SUP_DROOP_CFG_ACTION)).safe 0x33 0
      else h.limitNoted (h.fget R.SUP_DROOP_CFG_ACTION)) h.evr.injecting := by
  rw [Hw.droopLimit, Hw.asInj_eq, Hw.droopOver_eq (h.setInjecting (h.evr.injecting || h.droopInj)) hs hl]
  rfl

theorem Hw.limitNoted_fget (h : Hw) (action : Nat) (f : Fld) (hf : f.a ≠ R.EVR_LOST) : (h.limitNoted action).fget f = h.limitReached.fget f :=
  Hw.fget_raise _ _ _ _ _ f hf

theorem Hw.limitNoted_brief {h : Hw} (hr : h.hasRoom) (action : Nat) :
    (h.limitNoted action).evr.inq.map Ev.brief = h.evr.inq.map Ev.brief ++ [(0x0022, h.limitMs, action, 0)] :=
  Hw.raise_brief (h := (h.setInjecting (h.evr.injecting || h.droopInj)).limitReached) hr ..

theorem Within.limitNoted {h k : Hw} {action : Nat} (a : Within [.clk, .sup, .evr] [R.SUP_DROOP_STATUS] h k) (hr : k.hasRoom) :
    Within [.clk, .sup, .evr] [R.SUP_DROOP_STATUS] h (k.limitNoted action) :=
  .raise (.limitReached (.setInjecting a (by decide))) hr (by decide)

theorem Hw.limitNoted_up (h : Hw) (action : Nat) : h.sup.stretchAt + h.limitMs * 1000000 ≤ (h.limitNoted action).clk.up := by
  rw [Hw.limitNoted, Hw.raise_clk]
  change _ ≤ h.clk.up + (h.sup.stretchAt + h.limitMs * 1000000 - h.clk.up)
  omega

theorem droopLimitExpiry_records (s : State) (hs : s.hw.fbit R.SUP_DROOP_STATUS_STRETCH = true) (hl : s.hw.sup.stretchLim = false)
    (room : s.evRoom 1) (ha : s.hw.fget R.SUP_DROOP_CFG_ACTION = 0) : Runs .droopLimitExpiry s (fun t =>
      t.hw.fbit R.SUP_DROOP_STATUS_LIMIT = true ∧
      Raises s t [(0x0022, max 1 (s.hw.fget R.SUP_DROOP_CFG_LIMIT_MS), 0, 0)] ∧
      s.hw.sup.stretchAt + max 1 (s.hw.fget R.SUP_DROOP_CFG_LIMIT_MS) * 1000000 ≤ t.hw.clk.up ∧
      Frame [.clk, .sup, .evr] [R.SUP_DROOP_STATUS] s t) := by
  have hroom := State.hasRoom room
  have hk : s.hw.droopLimit = (s.hw.limitNoted 0).setInjecting s.hw.evr.injecting := by
    rw [s.hw.droopLimit_eq hs hl, ha, if_neg (by decide)]
  refine runs_onHw Hw.droopLimit rfl ?_
  rw [hk]
  refine ⟨?_, Hw.limitNoted_brief hroom 0, s.hw.limitNoted_up 0, (Within.setInjecting (.limitNoted .refl hroom) (by decide)).frame⟩
  exact Hw.fbit_of_one ((s.hw.limitNoted_fget 0 R.SUP_DROOP_STATUS_LIMIT (by decide)).trans s.hw.limitReached_limit)

theorem droopLimitExpiry_safe (s : State) (hs : s.hw.fbit R.SUP_DROOP_STATUS_STRETCH = true) (hl : s.hw.sup.stretchLim = false)
    (room : s.evRoom 1) (ha : s.hw.fget R.SUP_DROOP_CFG_ACTION = 1) (hm : s.hw.mode ∈ safeModes) (hv : s.hw.nvs.vinLost = false) :
    Runs .droopLimitExpiry s (fun t =>
      Entered s t .safe 0x33 ∧ t.hw.fbit R.SUP_MODE_STATUS_SAFE_LATCH = true ∧
      Records s t (0x0022, max 1 (s.hw.fget R.SUP_DROOP_CFG_LIMIT_MS), 1, 0)) := by
  have hk : s.hw.droopLimit = ((s.hw.limitNoted 1).safe 0x33 0).setInjecting s.hw.evr.injecting := by
    rw [s.hw.droopLimit_eq hs hl, ha, if_pos rfl]
  refine runs_onHw Hw.droopLimit rfl ?_
  rw [hk]
  have a : Aside s.hw (s.hw.limitNoted 1) := .raise (.rest (.fset (g := R.SUP_DROOP_STATUS_LIMIT) (v := 1) .refl (by decide)) rfl rfl)
  have e : SafeEntered (s.hw.limitNoted 1) (((s.hw.limitNoted 1).safe 0x33 0).setInjecting s.hw.evr.injecting) 0x33 :=
    ((s.hw.limitNoted 1).safe_entered 0x33 0 (by decide) (a.mode ▸ hm) ((Hw.raise_nvs ..).symm ▸ hv)).aside (.rest .refl rfl rfl)
  exact ⟨e.entered a.mode, e.latch, e.records (Hw.limitNoted_brief (State.hasRoom room) 1)⟩

/-! ## The clock monitor -/

theorem Hw.powered_of_monitors {h : Hw} {dom : Nat} (hm : h.monitors dom = true) : h.powered = true := by
  simp only [Hw.monitors, Bool.and_eq_true] at hm
  exact hm.1.1

/-- The check before a wake belongs to a module without power on its CORE domain (R35). -/
theorem Hw.waking_of_powered {h : Hw} (hp : h.powered = true) : h.waking = false := by
  simp only [Hw.powered, Bool.and_eq_true, Bool.or_eq_true, decide_eq_true_eq] at hp
  obtain ⟨-, hmode | hwake⟩ := hp
  · simp [Hw.waking, hmode]
  · simp [Hw.waking, hwake]

/-- The windows out of band in a row after one with `n` edges. -/
def Hw.clkRun (h : Hw) (dom n : Nat) : Nat :=
  if n < (clkBand dom).1 ∨ (clkBand dom).2 < n then min 3 (tget 0 h.sup.oob dom + 1) else 0

def Hw.setOob (h : Hw) (dom run : Nat) : Hw := { h with sup := { h.sup with oob := tset 0 h.sup.oob dom run } }

/-- A window of a monitored domain in which no injection acts (R33). -/
theorem Hw.clkWindow_eq {h : Hw} {dom : Nat} (n : Nat) (hm : h.monitors dom = true) (hi : h.sup.injClk.1 ≠ dom ∨ h.sup.injClk.2 = 0) :
    h.clkWindow dom n =
      let k := h.setOob dom (h.clkRun dom n)
      if k.clkDue dom (h.clkRun dom n) then (k.clkFault dom n).setInjecting h.evr.injecting else k := by
  have hinj : (h.sup.injClk.1 == dom && h.sup.injClk.2 != 0) = false := by
    rcases hi with hd | hz
    · simp [hd]
    · simp [hz]
  simp only [Hw.clkWindow, Hw.waking_of_powered (Hw.powered_of_monitors hm), hm, hinj, Hw.asInj_false,
    Bool.false_and, Bool.false_or, Bool.not_true, Bool.false_eq_true, if_false, decide_eq_true_eq]
  rfl

theorem Within.setOob {ps : List Part} {rs : List Nat} {h k : Hw} {dom run : Nat} (a : Within ps rs h k) (hq : Part.sup ∈ ps) :
    Within ps rs h (k.setOob dom run) := a.withSup hq

/-- A run shorter than two declares nothing. -/
theorem Hw.clkDue_of_lt (h : Hw) (dom : Nat) {run : Nat} (hr : run < 2) : h.clkDue dom run = false := by
  have h1 : (run == 2) = false := by simp; omega
  have h2 : decide (2 < run) = false := by simp; omega
  rw [Hw.clkDue, h1, h2]
  rfl

theorem clkmonWindow_counts (s : State) (dom : Fin 12) (x run : Nat) (hm : s.hw.monitors dom = true)
    (hi : s.hw.sup.injClk.1 ≠ dom ∨ s.hw.sup.injClk.2 = 0) (hr : s.hw.clkRun dom x = run) (hlt : run < 2) : Runs (.clkmonWindow dom x) s (fun t =>
      tget 0 t.hw.sup.oob dom = run ∧ Frame [.sup] [] s t) := by
  have hk : s.hw.clkWindow dom x = s.hw.setOob dom run := by
    simp only [Hw.clkWindow_eq x hm hi, hr, Hw.clkDue_of_lt _ _ hlt, Bool.false_eq_true, if_false]
  refine runs_onHw (fun h => h.clkWindow dom x) rfl ?_
  simp only [hk]
  exact ⟨tget_tset_same .., (Within.setOob .refl (by decide)).frame⟩

/-- A window in band clears the run of bad ones. -/
theorem Hw.clkRun_inBand (h : Hw) {dom n : Nat} (hlo : (clkBand dom).1 ≤ n) (hhi : n ≤ (clkBand dom).2) : h.clkRun dom n = 0 :=
  if_neg (by omega)

/-- A window out of band makes the run one longer. -/
theorem Hw.clkRun_outOfBand (h : Hw) {dom n k : Nat} (hn : n < (clkBand dom).1 ∨ (clkBand dom).2 < n) (hk : tget 0 h.sup.oob dom = k)
    (hlt : k < 3) : h.clkRun dom n = k + 1 := by
  rw [Hw.clkRun, if_pos hn, hk]; omega

theorem Hw.clkWindow_second {h : Hw} {dom n : Nat} (hm : h.monitors dom = true) (hi : h.sup.injClk.1 ≠ dom ∨ h.sup.injClk.2 = 0)
    (hn : n < (clkBand dom).1 ∨ (clkBand dom).2 < n) (ho : tget 0 h.sup.oob dom = 1) :
    h.clkWindow dom n = ((h.setOob dom 2).clkFault dom n).setInjecting h.evr.injecting := by
  rw [Hw.clkWindow_eq n hm hi, Hw.clkRun_outOfBand h hn ho (by decide)]
  rfl

theorem clkmonWindow_bkp_fault (s : State) (x : Nat) (hm : s.hw.monitors 11 = true) (hi : s.hw.sup.injClk.1 ≠ 11 ∨ s.hw.sup.injClk.2 = 0)
    (hx : x ≠ 3) (ho : tget 0 s.hw.sup.oob 11 = 1) (room : s.evRoom 1) : Runs (.clkmonWindow 11 x) s (fun t =>
      t.hw.fbit (clkBit 11) = true ∧ t.hw.fbit R.CAL_STATUS_VALID = false ∧ Raises s t [(0x0023, 11, x, 0)] ∧
      Frame [.sup, .evr] [R.SUP_CLKMON_STATUS, R.CAL_STATUS] s t) := by
  have hn : x < (clkBand 11).1 ∨ (clkBand 11).2 < x := by simp only [clkBand]; omega
  let g := (s.hw.setOob 11 2).fset (clkBit 11) 1
  have hk : s.hw.clkWindow 11 x = ((g.raise 0x0023 11 x).fset R.CAL_STATUS_VALID 0).setInjecting s.hw.evr.injecting :=
    Hw.clkWindow_second hm hi hn ho
  have hroom : g.hasRoom := State.hasRoom room
  refine runs_onHw (fun h => h.clkWindow 11 x) rfl ?_
  simp only [hk]
  refine ⟨?_, ?_, Hw.raise_brief hroom .., (Within.setInjecting (.fset (.raise (.fset (.setOob .refl (by decide)) (by decide)) hroom (by decide))
    (by decide)) (by decide)).frame⟩
  · have hg : g.fget (clkBit 11) = 1 := Hw.fget_fset_same _ (clkBit 11) 1 (by decide)
    have hf : ((g.raise 0x0023 11 x).fset R.CAL_STATUS_VALID 0).fget (clkBit 11) = 1 := by
      rw [Hw.fget_fset_apart _ _ _ _ (by decide) (by decide), Hw.fget_raise _ _ _ _ _ _ (by decide), hg]
    exact Hw.fbit_of_one hf
  · exact Hw.fbit_of_zero (Hw.fget_fset_same (g.raise 0x0023 11 x) R.CAL_STATUS_VALID 0 (by decide))

/-- A fault of NET leads to SAFE (Table 1-11). -/
theorem Hw.clkFault_net {s : State} {g k : Hw} {count : Nat} (hmode : g.mode = s.hw.mode) (hnvs : g.nvs = s.hw.nvs) (hm : s.hw.mode ∈ safeModes)
    (hv : s.hw.nvs.vinLost = false) (a : Aside (g.clkFault 1 count) k) :
    k.fbit (clkBit 1) = true ∧ Entered s { s with hw := k } .safe 0x32 := by
  have hmode' : (g.fset (clkBit 1) 1).mode = s.hw.mode := (congrArg Mode.ofCode (Hw.fget_setReg_ne _ _ _ _ (by decide))).trans hmode
  have e : SafeEntered (g.fset (clkBit 1) 1) k 0x32 :=
    ((g.fset (clkBit 1) 1).safe_entered 0x32 1 (by decide) (hmode'.symm ▸ hm) ((congrArg Nvs.vinLost hnvs).trans hv)).aside a
  have hbit : k.fget (clkBit 1) = 1 := (e.fget_clkmon rfl).trans (Hw.fget_fset_same g (clkBit 1) 1 (by decide))
  exact ⟨Hw.fbit_of_one hbit, e.entered hmode'⟩

theorem clkmonWindow_net_fault (s : State) (x : Nat) (hm : s.hw.monitors 1 = true) (hi : s.hw.sup.injClk.1 ≠ 1 ∨ s.hw.sup.injClk.2 = 0)
    (hx : x < 10600 ∨ 14400 < x) (ho : tget 0 s.hw.sup.oob 1 = 1) (hmode : s.hw.mode ∈ safeModes) (hv : s.hw.nvs.vinLost = false) :
    Runs (.clkmonWindow 1 x) s (fun t => t.hw.fbit (clkBit 1) = true ∧ Entered s t .safe 0x32) := by
  have hk : s.hw.clkWindow 1 x = ((s.hw.setOob 1 2).clkFault 1 x).setInjecting s.hw.evr.injecting := Hw.clkWindow_second hm hi hx ho
  refine runs_onHw (fun h => h.clkWindow 1 x) rfl ?_
  simp only [hk]
  exact Hw.clkFault_net (g := s.hw.setOob 1 2) rfl rfl hmode hv (.rest .refl rfl rfl)

theorem clockStopDetect_net_fault (s : State) (hm : s.hw.monitors 1 = true) (hmode : s.hw.mode ∈ safeModes) (hv : s.hw.nvs.vinLost = false) :
    Runs (.clockStopDetect false) s (fun t => t.hw.fbit (clkBit 1) = true ∧ Entered s t .safe 0x32) := by
  have hk : (if s.hw.monitors 1 then (s.hw.pass 400).clkFault 1 0 else s.hw) = (s.hw.pass 400).clkFault 1 0 := if_pos hm
  refine runs_onHw (fun h => if h.monitors 1 then (h.pass 400).clkFault 1 0 else h) rfl ?_
  simp only [hk]
  exact Hw.clkFault_net (g := s.hw.pass 400) rfl rfl hmode hv .refl

/-- The registers that a CORE fault sets beside the role (Table 1-11). -/
def Hw.coreRegs (h : Hw) : Hw :=
  (((h.fset R.SUP_CLKMON_STATUS_CORE_F 1).fset R.CAL_BKREC0_SAFE_COPY 1).fset R.CAL_BKREC0_RESET_CAUSE 4).fset R.SUP_MODE_STATUS_LIVE_OUT 0

theorem Hw.coreRegs_fields (h : Hw) : h.coreRegs.fget R.SUP_CLKMON_STATUS_CORE_F = 1 ∧ h.coreRegs.fget R.SUP_MODE_STATUS_LIVE_OUT = 0 ∧
    h.coreRegs.fget R.CAL_BKREC0_RESET_CAUSE = 4 ∧ h.coreRegs.fget R.CAL_BKREC0_SAFE_COPY = 1 := by
  unfold Hw.coreRegs
  simp (disch := decide) only [Hw.fget_fset_apart, Hw.fget_fset_same]
  decide

theorem Hw.coreFault_reg (h : Hw) (r : Nat) (hr : r ≠ R.PAIR_STATUS) : h.coreFault.reg r = h.coreRegs.reg r := by
  unfold Hw.coreFault
  exact (Hw.reg_fset_ne _ R.PAIR_STATUS_ROLE _ r hr).trans (Hw.reg_congr _ _ _ rfl)

theorem Hw.coreFault_fget (h : Hw) (f : Fld) (hf : f.a ≠ R.PAIR_STATUS) : h.coreFault.fget f = h.coreRegs.fget f := by
  rw [Hw.fget, Hw.fget, h.coreFault_reg f.a hf]

theorem Hw.coreFault_parts (h : Hw) : h.coreFault.sup.coreResetDue = some (h.clk.up + 1000000) ∧ h.coreFault.sup.fault = true ∧
    h.coreFault.fld.driven = [] := by
  simp only [Hw.coreFault, Hw.fset_sup, Hw.fset_fld, Hw.fset_clk, and_self]

theorem Within.coreFault {h k : Hw} (a : Within [.clk, .sup, .fld] [R.SUP_CLKMON_STATUS, R.CAL_BKREC0, R.SUP_MODE_STATUS, R.PAIR_STATUS] h k) :
    Within [.clk, .sup, .fld] [R.SUP_CLKMON_STATUS, R.CAL_BKREC0, R.SUP_MODE_STATUS, R.PAIR_STATUS] h k.coreFault := by
  refine a.trans ⟨fun p hp => ?_, fun r hr => ?_⟩
  · cases p <;> simp [Part.same, Hw.coreFault] at hp ⊢
  · simp only [List.mem_cons, List.not_mem_nil, or_false, not_or] at hr
    obtain ⟨hclk, hbk, hmode, hpair⟩ := hr
    rw [k.coreFault_reg r hpair, Hw.coreRegs, Hw.reg_fset_ne _ _ _ _ hmode, Hw.reg_fset_ne _ _ _ _ hbk, Hw.reg_fset_ne _ _ _ _ hbk,
      Hw.reg_fset_ne _ _ _ _ hclk]

theorem clockStopDetect_core_fault (s : State) (hm : s.hw.monitors 0 = true) (hd : s.hw.sup.coreResetDue = none) :
    Runs (.clockStopDetect true) s (fun t =>
      t.hw.fbit (clkBit 0) = true ∧ t.hw.fbit R.SUP_MODE_STATUS_LIVE_OUT = false ∧
      t.hw.sup.coreResetDue = some (s.hw.clk.up + 400 + 1000000) ∧ t.hw.sup.fault = true ∧ t.hw.fld.driven = [] ∧
      t.hw.fget R.CAL_BKREC0_RESET_CAUSE = 4 ∧ t.hw.fbit R.CAL_BKREC0_SAFE_COPY = true ∧
      Frame [.clk, .sup, .fld] [R.SUP_CLKMON_STATUS, R.CAL_BKREC0, R.SUP_MODE_STATUS, R.PAIR_STATUS] s t) := by
  let g := (s.hw.pass 400).fset (clkBit 0) 1
  have hk : (if s.hw.monitors 0 then (s.hw.pass 400).clkFault 0 0 else s.hw) = g.coreFault := by
    rw [if_pos hm, Hw.clkFault, if_pos rfl, Hw.pass_sup, hd]; rfl
  have within : Within [.clk, .sup, .fld] [R.SUP_CLKMON_STATUS, R.CAL_BKREC0, R.SUP_MODE_STATUS, R.PAIR_STATUS] s.hw g :=
    .fset (.pass .refl (by decide)) (by decide)
  obtain ⟨core, live, cause, copy⟩ := g.coreRegs_fields
  obtain ⟨due, fault, driven⟩ := g.coreFault_parts
  refine runs_onHw (fun h => if h.monitors 0 then (h.pass 400).clkFault 0 0 else h) rfl ?_
  simp only [hk]
  refine ⟨?_, ?_, due, fault, driven, (g.coreFault_fget _ (by decide)).trans cause, ?_, within.coreFault.frame⟩
  · exact Hw.fbit_of_one ((g.coreFault_fget (clkBit 0) (by decide)).trans core)
  · exact Hw.fbit_of_zero ((g.coreFault_fget R.SUP_MODE_STATUS_LIVE_OUT (by decide)).trans live)
  · exact Hw.fbit_of_one ((g.coreFault_fget R.CAL_BKREC0_SAFE_COPY (by decide)).trans copy)

/-! ## The check of MON (R36) -/

/-- A check of MON a second after the last one, with the count of bad ones it leaves. -/
def Hw.monChecked (h : Hw) (bad : Nat) : Hw :=
  { h.untilUp (h.sup.monAt + 1000000000) with
    sup := { h.sup with monAt := (h.untilUp (h.sup.monAt + 1000000000)).clk.up, injMon := h.sup.injMon - 1, monBad := bad } }

theorem Within.monChecked {h k : Hw} {bad : Nat} {ps : List Part} {rs : List Nat} (a : Within ps rs h k) (hc : Part.clk ∈ ps) (hs : Part.sup ∈ ps) :
    Within ps rs h (k.monChecked bad) := .withSup (.untilUp a hc) hs

theorem Hw.monCheck_good {h : Hw} {dev : Int} (hp : h.powered = true) (hi : h.sup.injMon = 0) (hd : -100 ≤ dev ∧ dev ≤ 100) :
    h.monCheck dev = h.monChecked 0 := by
  have hbad : ¬ (100 < dev ∨ dev < -100) := by omega
  simp only [Hw.monCheck, hp, hi, if_pos, decide_eq_false hbad, Bool.not_true, Bool.false_and, Bool.false_eq_true, if_false]
  rfl

theorem Hw.monCheck_firstBad {h : Hw} {dev : Int} (hp : h.powered = true) (hi : h.sup.injMon = 0) (hd : 100 < dev ∨ dev < -100)
    (hb : h.sup.monBad = 0) : h.monCheck dev = h.monChecked 1 := by
  have hb' : (h.untilUp (h.sup.monAt + 1000000000)).sup.monBad = 0 := hb
  simp only [Hw.monCheck, hp, hi, hb, hb', if_pos, decide_eq_true hd, show decide (1 ≤ 0) = false from rfl, Bool.not_true, Bool.and_false,
    Bool.false_and, Bool.false_eq_true, if_false]
  rfl

theorem Hw.monCheck_secondBad {h : Hw} {dev : Int} (hp : h.powered = true) (hi : h.sup.injMon = 0) (hd : 100 < dev ∨ dev < -100)
    (hb : h.sup.monBad = 1) : h.monCheck dev =
      ((((h.monChecked 2).fset R.SUP_CLKMON_STATUS_MON_SUSPECT 1).raise 0x0025 (wInt dev).toNat).safe 0x34 0).setInjecting h.evr.injecting := by
  have hb' : (h.untilUp (h.sup.monAt + 1000000000)).sup.monBad = 1 := hb
  simp only [Hw.monCheck, hp, hi, hb, hb', if_pos, decide_eq_true hd, Bool.not_true, Bool.true_and, Bool.false_eq_true, if_false,
    bne_self_eq_false, Hw.asInj_false]
  rfl

theorem monCheck_inBand (s : State) (dev : Int) (hp : s.hw.powered = true) (hi : s.hw.sup.injMon = 0) (hd : -100 ≤ dev ∧ dev ≤ 100) :
    Runs (.monCheck dev) s (fun t => t.hw.sup.monBad = 0 ∧ t.hw.sup.monAt = t.hw.clk.up ∧ Frame [.clk, .sup] [] s t) := by
  refine runs_onHw (fun h => h.monCheck dev) rfl ?_
  simp only [Hw.monCheck_good hp hi hd]
  exact ⟨rfl, rfl, (Within.monChecked .refl (by decide) (by decide)).frame⟩

theorem monCheck_firstOut (s : State) (dev : Int) (hp : s.hw.powered = true) (hi : s.hw.sup.injMon = 0) (hd : 100 < dev ∨ dev < -100)
    (hb : s.hw.sup.monBad = 0) : Runs (.monCheck dev) s (fun t => t.hw.sup.monBad = 1 ∧ Frame [.clk, .sup] [] s t) := by
  refine runs_onHw (fun h => h.monCheck dev) rfl ?_
  simp only [Hw.monCheck_firstBad hp hi hd hb]
  exact ⟨rfl, (Within.monChecked .refl (by decide) (by decide)).frame⟩

theorem monCheck_secondOut (s : State) (dev : Int) (hp : s.hw.powered = true) (hi : s.hw.sup.injMon = 0) (hd : 100 < dev ∨ dev < -100)
    (hb : s.hw.sup.monBad = 1) (hm : s.hw.mode ∈ safeModes) (hv : s.hw.nvs.vinLost = false) : Runs (.monCheck dev) s (fun t =>
      t.hw.fbit R.SUP_CLKMON_STATUS_MON_SUSPECT = true ∧ Entered s t .safe 0x34) := by
  let g := (s.hw.monChecked 2).fset R.SUP_CLKMON_STATUS_MON_SUSPECT 1
  let k := g.raise 0x0025 (wInt dev).toNat
  have a : Aside g k := .raise .refl
  have hmode : k.mode = s.hw.mode :=
    a.mode.trans (congrArg Mode.ofCode (Hw.fget_fset_ne (s.hw.monChecked 2) R.SUP_CLKMON_STATUS_MON_SUSPECT 1 _ (by decide)))
  have e : SafeEntered k ((k.safe 0x34 0).setInjecting s.hw.evr.injecting) 0x34 :=
    (k.safe_entered 0x34 0 (by decide) (hmode.symm ▸ hm) ((Hw.raise_nvs ..).symm ▸ hv)).aside (.rest .refl rfl rfl)
  have hbit : k.fget R.SUP_CLKMON_STATUS_MON_SUSPECT = 1 :=
    (Hw.fget_raise g _ _ _ _ _ (by decide)).trans (Hw.fget_fset_same (s.hw.monChecked 2) R.SUP_CLKMON_STATUS_MON_SUSPECT 1 (by decide))
  refine runs_onHw (fun h => h.monCheck dev) rfl ?_
  simp only [Hw.monCheck_secondBad hp hi hd hb]
  exact ⟨Hw.fbit_of_one ((e.fget_clkmon rfl).trans hbit), e.entered hmode⟩

/-- Settles O31, clause by clause: the droop detector's four, the clock monitor's seven, the three of the check of MON. -/
theorem droopAndClockMonitor : Obligations.DroopAndClockMonitor := by
  unfold Obligations.DroopAndClockMonitor
  intro s x dev
  refine ⟨?detect, ?hold, ?limit, ?limitSafe, ?bkpIn, ?coreIn, ?netFirst, ?bkpSecond, ?netSecond, ?coreStop, ?netStop, ?monIn, ?monFirst, ?monSecond⟩
  case detect => exact droopDetect_stretches s
  case hold => exact fun hs hd hr _ hl room => droopHoldExpiry_ends s x hs hd hr hl room
  case limit => exact droopLimitExpiry_records s
  case limitSafe => exact droopLimitExpiry_safe s
  case bkpIn =>
    exact fun hm hi hx => clkmonWindow_counts s 11 x 0 hm hi (s.hw.clkRun_inBand (Nat.le_of_eq hx.symm) (Nat.le_of_eq hx)) (by decide)
  case coreIn => exact fun hm hi hx => clkmonWindow_counts s 0 x 0 hm hi (s.hw.clkRun_inBand hx.1 hx.2) (by decide)
  case netFirst => exact fun hm hi hx ho => clkmonWindow_counts s 1 x 1 hm hi (s.hw.clkRun_outOfBand hx ho (by decide)) (by decide)
  case bkpSecond => exact clkmonWindow_bkp_fault s x
  case netSecond => exact clkmonWindow_net_fault s x
  case coreStop => exact clockStopDetect_core_fault s
  case netStop => exact clockStopDetect_net_fault s
  case monIn => exact fun hp _ hi hd => monCheck_inBand s dev hp hi hd
  case monFirst => exact fun hp _ hi hd hb => monCheck_firstOut s dev hp hi hd hb
  case monSecond => exact fun hp _ hi hd hb hm hv => monCheck_secondOut s dev hp hi hd hb hm hv

end Sys2Proof.Machine
end

section
/-! PROOFS. The task engine family: dispatch and the comparison at a window close. -/

namespace Sys2Proof.Machine

/-! ## A running task beyond the table

`Target.task` is any number, and the address from which a dispatch takes a task's entry (Table 6-2) is computed from it. Beyond the 32 tasks
of the table that address leaves the EXE block. -/

/-- The entry word of a task 4082 would be word 2 of CMP_EP0_MG, which a mismatch on pair 0 writes with the shadow's marigold. -/
theorem entry_4082_eq_mg : 0x40010200 + 16 * 4082 = R.CMP_EPn_MGw 0 2 := rfl

/-- A module in RUN whose pair 0 runs a task 4082; its window has closed with marigold 0 on the lead and 1 on the shadow. -/
def strayMismatch : State :=
  { State.reset with hw := { State.reset.hw.fset R.SUP_MODE_STATUS_MODE Mode.run.code with
      exe := { tgts := [(0, { task := some 4082, closing := some .length })], cpus := [(1, { mg := 1#64 })] } } }

theorem strayMismatch_mg : strayMismatch.hw.reg (R.CMP_EPn_MGw 0 2) = 0#32 := by decide

/-- The comparison captures the shadow's marigold before the re-execution fetches its entry, so the lead restarts at that marigold. -/
theorem strayMismatch_restarts_at_marigold : ((strayMismatch.hw.windowCompare 0 {} false).cpu 0).pc = 1#32 := by decide +kernel

/-- Refutes O35: its clause on a mismatch outside a re-execution does not bound the number of the running task. On pair 0 with a task 4082
the entry word that the clause reads before the command is a capture register of the mismatch itself: 0 before it, and the shadow's marigold,
here 1, when the re-execution takes it for its pc. -/
theorem not_dispatchAndComparison : ¬ Obligations.DispatchAndComparison := by
  unfold Obligations.DispatchAndComparison
  intro h
  obtain ⟨-, -, -, -, mismatch, -, -⟩ := h strayMismatch 0 0 4082 0 2 none false
  have hdiffer : (strayMismatch.hw.cpu 0).mg ≠ (strayMismatch.hw.cpu 1).mg := by decide
  have hroom : strayMismatch.evRoom 1 := ⟨by decide, rfl⟩
  obtain ⟨t, ht, -, -, -, -, hpc, -⟩ := mismatch rfl rfl rfl rfl rfl rfl rfl hdiffer rfl rfl rfl rfl hroom
  cases ht
  have hsame : 1#32 = 0#32 :=
    calc 1#32 = ((strayMismatch.hw.windowCompare 0 {} false).cpu 0).pc := strayMismatch_restarts_at_marigold.symm
      _ = strayMismatch.hw.reg (0x40010200 + 16 * 4082) := hpc
      _ = strayMismatch.hw.reg (R.CMP_EPn_MGw 0 2) := by rw [entry_4082_eq_mg]
      _ = 0#32 := strayMismatch_mg
  exact absurd hsame (by decide)

end Sys2Proof.Machine
end

section
/-! PROOFS. The comparison family: stores held in an exchange area, check-ins, and what closes a compare window. -/

namespace Sys2Proof.Machine

/-! ## The machine between execution and retirement -/

/-- `g` is the machine `k` that a request left, with the cores of target `i` past the instruction (with answers `a` and `b`) and its
retirement still to come. `h` is the machine before the request. -/
structure Executed (h k g : Hw) (i : Nat) (o : Op) (a b : Nat) : Prop where
  lead : g.cpu i = o.fin (h.cpu i) a b
  shadow : h.split (i / 2) = false → g.cpu (i + 1) = o.fin (h.cpu (i + 1)) a b
  tgt : ∀ j, g.tgt j = k.tgt j
  held : g.exe.held = k.exe.held
  mem : g.mem = k.mem
  regs : g.regs = k.regs

theorem Executed.split {h k g : Hw} {i : Nat} {o : Op} {a b : Nat} (e : Executed h k g i o a b) (p : Nat) : g.split p = k.split p := by
  rw [Hw.split, Hw.split, Hw.profile, Hw.profile, Hw.fget_congr _ _ _ e.regs]

theorem Executed.profile {h k g : Hw} {i : Nat} {o : Op} {a b : Nat} (e : Executed h k g i o a b) (p : Nat) : g.profile p = k.profile p :=
  Hw.fget_congr _ _ _ e.regs

theorem Executed.mode {h k g : Hw} {i : Nat} {o : Op} {a b : Nat} (e : Executed h k g i o a b) : g.mode = k.mode :=
  congrArg Mode.ofCode (Hw.fget_congr _ _ _ e.regs)

theorem Executed.before {h l k g : Hw} {i : Nat} {o : Op} {a b : Nat} (c : CacheOnly h l i) (e : Executed l k g i o a b) :
    Executed h k g i o a b :=
  ⟨by rw [e.lead, c.cpu], fun sp => by rw [e.shadow ((c.split _).trans sp), c.cpu], e.tgt, e.held, e.mem, e.regs⟩

/-- A store's way through the shadow's data cache changes the caches alone. -/
theorem Hw.shadowStore_eq (g h : Hw) (i : Nat) (l m : List (Nat × Byte)) :
    ∃ c, Hw.shadowStore g h i l m = { h with exe := { h.exe with caches := c } } := by
  unfold Hw.shadowStore
  dsimp only
  split
  · exact ⟨_, rfl⟩
  · exact ⟨_, rfl⟩

/-- An instruction of one commit, of which neither core traps, retires with the close that it brings. -/
theorem Hw.retireWith_executed (h k : Hw) (i t : Nat) (o : Op) (a b : Nat) (htwo : o.two = none)
    (hs : h.split (i / 2) = false → h.ownCause (i + 1) o = none) (hq : (o.req (h.cpu (i + 1))).reads = none) :
    ∃ g, Executed h k g i o a b ∧
      h.retireWith i t o none (k, .val a b) = g.retire i t ((o.fin (h.cpu i) a b).commits - (h.cpu i).commits) (o.close (h.cpu i)) := by
  have hans : k.shadowAns i (o.req (h.cpu (i + 1))) (a, b) = (a, b) := Hw.shadowAns_same _ _ _ _ (.inl hq)
  unfold Hw.retireWith
  simp only [Cpu.double, Cpu.outcome, htwo, hans, Option.isSome_none, Bool.false_eq_true, if_false]
  rcases Bool.eq_false_or_eq_true (h.split (i / 2)) with hsp | hsp
  · simp only [hsp, if_true]
    exact ⟨k.bump.setCpu i (o.fin (h.cpu i) a b),
      ⟨Hw.cpu_setCpu_same _ _ _, fun hn => absurd (hsp.symm.trans hn) (by decide), fun _ => rfl, rfl, rfl, rfl⟩, rfl⟩
  · simp only [hsp, hs hsp, Option.isSome_none, Bool.false_eq_true, if_false]
    obtain ⟨c, hc⟩ := Hw.shadowStore_eq h ((k.bump.setCpu i (o.fin (h.cpu i) a b)).setCpu (i + 1) (o.fin (h.cpu (i + 1)) a b)) i
      (storeBytes ((o.req (h.cpu i)).stores a)) (storeBytes ((o.req (h.cpu (i + 1))).stores a))
    refine ⟨_, ?_, congrArg (fun x : Hw => x.retire i t _ _) hc⟩
    refine ⟨?lead, fun _ => Hw.cpu_setCpu_same _ _ _, fun _ => rfl, rfl, rfl, rfl⟩
    case lead => exact (Hw.cpu_setCpu_ne _ _ _ _ (by omega)).trans (Hw.cpu_setCpu_same _ _ _)

theorem State.core_lead {s : State} {sel : CoreSel} {t : Nat} (ht : s.taskOf sel = some t) : s.core sel false = s.hw.cpu sel.target := by
  cases sel with
  | pair n => rfl
  | side n b => rfl
  | sup => exact absurd ht (by simp [State.taskOf])

/-- An instruction of one commit that reads no memory and that no core traps on runs its request, then retires. -/
theorem runOp_executed (s : State) (sel : CoreSel) (o : Op) (t : Nat) (hr : s.ready sel) (ht : s.taskOf sel = some t)
    (hc : ∀ b, o.chk (s.core sel b) = none) (htwo : o.two = none) (hreads : ∀ c, (o.req c).reads = none) (k : Hw) (a b : Nat)
    (hq : (s.hw.afterFetch sel.target).lead sel.target t (o.req (s.core sel false)) = (k, .val a b)) :
    ∃ g, Executed s.hw k g sel.target o a b ∧ runOp s sel o = onHw s (fun _ =>
      g.retire sel.target t ((o.fin (s.core sel false) a b).commits - (s.core sel false).commits) (o.close (s.core sel false))) := by
  obtain ⟨hlead, hshadow⟩ := s.ready_own sel o t hr ht
  have c := CacheOnly.afterFetch s.hw sel.target
  have hown : (s.hw.afterFetch sel.target).split (sel.target / 2) = false → (s.hw.afterFetch sel.target).ownCause (sel.target + 1) o = none := by
    intro sp
    rw [c.split] at sp
    exact (c.ownCause (s.pair_of sel t ht sp)).trans ((hshadow sp).trans (hc true))
  obtain ⟨g, e, hg⟩ := Hw.retireWith_executed (s.hw.afterFetch sel.target) k sel.target t o a b htwo hown (hreads _)
  refine ⟨g, e.before c, ?_⟩
  rw [runOp_eq s sel o t ht, Hw.runOn_ok _ _ _ _ (hlead.trans (hc false)), c.cpu, ← State.core_lead ht, hq, hg, c.cpu, ← State.core_lead ht]
  rfl

/-! ## Retirement -/

theorem Hw.dbgHalted_held (h : Hw) (p : Nat) : (h.dbgHalted p).exe.held = h.exe.held := by
  unfold Hw.dbgHalted
  dsimp only
  split
  · rfl
  · exact foldl_keep _ (fun x : Hw => x.exe.held) (fun x _ => by rw [Hw.complete_exe]) _ _

theorem Hw.retire_none_split (h : Hw) (i t n : Nat) (sp : h.split (i / 2) = true) :
    h.retire i t n none = if h.dbgStop (i / 2) (h.cpu i).pc && i % 2 == 0 then h.dbgHalted (i / 2) else h := by
  unfold Hw.retire
  simp only [sp, if_true]

/-- What closes a lockstep pair's window when an instruction of `n` commits retires that brings no close of its own (R131). -/
def Hw.closeAfter (h : Hw) (i n : Nat) : Option CloseWhy :=
  if h.dbgStop (i / 2) (h.cpu i).pc && i % 2 == 0 then some .halt
  else if windowLen (h.profile (i / 2)) ≤ (h.tgt i).commits + n then some .length else none

theorem Hw.retire_none_lockstep (h : Hw) (i t n : Nat) (sp : h.split (i / 2) = false) :
    h.retire i t n none = h.setTgt i { h.tgt i with commits := (h.tgt i).commits + n, closing := h.closeAfter i n } := by
  unfold Hw.retire Hw.closeAfter
  simp only [sp, Bool.false_eq_true, if_false]
  by_cases hstop : (h.dbgStop (i / 2) (h.cpu i).pc && i % 2 == 0) = true
  · simp only [if_pos hstop]
  · by_cases hlen : windowLen (h.profile (i / 2)) ≤ (h.tgt i).commits + n
    · simp only [if_neg hstop, if_pos hlen]
    · simp only [if_neg hstop, if_neg hlen]

/-- A retirement without a close of its own leaves the held items, also where it shows a SPLIT pair to the debugger as halted. -/
theorem Hw.retire_none_held (h : Hw) (i t n : Nat) : (h.retire i t n none).exe.held = h.exe.held := by
  rcases Bool.eq_false_or_eq_true (h.split (i / 2)) with sp | sp
  · rw [h.retire_none_split i t n sp]
    split
    · exact h.dbgHalted_held _
    · rfl
  · rw [h.retire_none_lockstep i t n sp]
    rfl

/-- Outside DEBUG the commit that brings a lockstep pair's window to the profile's length closes it. -/
theorem Hw.retire_none_length (h : Hw) (i t n : Nat) (sp : h.split (i / 2) = false) (hm : h.mode ≠ .debug)
    (hl : windowLen (h.profile (i / 2)) ≤ (h.tgt i).commits + n) : ((h.retire i t n none).tgt i).closing = some .length := by
  have hstop : h.dbgStop (i / 2) (h.cpu i).pc = false := by simp [Hw.dbgStop, hm]
  rw [h.retire_none_lockstep i t n sp, Hw.tgt_setTgt, Hw.closeAfter, hstop, if_neg (by simp), if_pos hl]

/-- On a lockstep pair the end of a task closes the window, whatever its length (R131), and leaves the cores and memory. -/
theorem Hw.retire_end (h : Hw) (i t n : Nat) {why : CloseWhy} (hw : why = .taskEnd ∨ ∃ r, why = .taskFault r) (sp : h.split (i / 2) = false) :
    (∀ j, (h.retire i t n (some why)).cpu j = h.cpu j) ∧ (h.retire i t n (some why)).mem = h.mem ∧
    (h.retire i t n (some why)).tgt i = { h.tgt i with commits := (h.tgt i).commits + n, closing := some why } := by
  have e : h.retire i t n (some why) =
      (h.setTgt i { h.tgt i with commits := (h.tgt i).commits + n, closing := some why }).fset (R.TSK_Tn_STAT_STATE t) 5 := by
    unfold Hw.retire
    rcases hw with rfl | ⟨r, rfl⟩
    · simp only [sp, Bool.false_eq_true, if_false]
      rfl
    · simp only [sp, Bool.false_eq_true, if_false]
      rfl
  rw [e]
  exact ⟨fun _ => rfl, rfl, Hw.tgt_setTgt ..⟩

/-- The fetch may note a cache error in the open window (R127), and changes nothing else of the target. -/
theorem Hw.afterFetch_tgt (h : Hw) (i : Nat) : ∃ e, (h.afterFetch i).tgt i = { h.tgt i with cacheErr := e } := by
  have note : ∀ b, ∃ e, (h.noteErr i b).tgt i = { h.tgt i with cacheErr := e } := by
    intro b
    unfold Hw.noteErr
    split
    · exact ⟨_, rfl⟩
    · exact ⟨_, Hw.tgt_setTgt ..⟩
  unfold Hw.afterFetch
  split
  · exact ⟨_, rfl⟩
  · rw [Hw.fetchLine_tgt]
    unfold Hw.eccLine
    dsimp only
    split
    · split
      · exact ⟨_, rfl⟩
      · split <;> exact ⟨_, rfl⟩
    · split
      · exact note _
      · split
        · exact note _
        · exact ⟨_, rfl⟩

/-! ## Instructions whose request enters the held-store queue -/

@[simp] theorem Hw.heldOf_setHeld (h : Hw) (p : Nat) (l : List Held) : (h.setHeld p l).heldOf p = l := tget_tset_same ..

theorem Hw.mode_setHeld (h : Hw) (p : Nat) (l : List Held) : (h.setHeld p l).mode = h.mode := (Aside.setHeld .refl).mode

theorem CacheOnly.within {h k : Hw} {i : Nat} {ps : List Part} {rs : List Nat} (c : CacheOnly h k i) (hq : Part.exe ∈ ps) : Within ps rs h k := by
  obtain ⟨_, _, rfl, _⟩ := c
  exact Within.update .refl hq (fun p hp => by cases p <;> simp [Part.same] at hp ⊢) rfl

theorem Within.setHeld {ps : List Part} {rs : List Nat} {h k : Hw} {p : Nat} {l : List Held} (a : Within ps rs h k) (hq : Part.exe ∈ ps)
    (hr : R.CMP_EPn_HELD p ∈ rs) : Within ps rs h (k.setHeld p l) := by
  have b : Within ps rs h { k with exe := { k.exe with held := tset [] k.exe.held p l } } :=
    a.update hq (fun p hp => by cases p <;> simp [Part.same] at hp ⊢) rfl
  exact (b.fset hr).fset hr

/-- An instruction of one commit that only puts its pair's held items: each core ends it, memory stands, and of the rest only CMP_EPn_HELD
changes. -/
theorem runOp_putsHeld (s : State) (sel : CoreSel) (o : Op) (t : Nat) (l : List Held) (hr : s.ready sel) (ht : s.taskOf sel = some t)
    (hc : ∀ b, o.chk (s.core sel b) = none) (hx : ∀ c, o.close c = none) (htwo : o.two = none) (hreads : ∀ c, (o.req c).reads = none)
    (hq : (s.hw.afterFetch sel.target).lead sel.target t (o.req (s.core sel false)) =
      ((s.hw.afterFetch sel.target).setHeld (sel.target / 2) l, .val 0 0)) :
    ∃ u, runOp s sel o = .next u ∧ (∀ b, u.core sel b = o.fin (s.core sel b) 0 0) ∧
      AroundBut [] [R.CMP_EPn_HELD (sel.target / 2)] sel s u ∧ u.hw.heldOf (sel.target / 2) = l ∧ ∀ x, u.hw.mb x = s.hw.mb x := by
  have c := CacheOnly.afterFetch s.hw sel.target
  obtain ⟨u, hu, cores, others, sup, mem, otp, pending, rest⟩ := runOp_req s sel o t hr ht hc hx _ 0 0 hq (.inr (hreads _)) (.inl htwo)
  obtain ⟨g, e, hg⟩ := runOp_executed s sel o t hr ht hc htwo hreads _ 0 0 hq
  have held : u.hw.exe.held = ((s.hw.afterFetch sel.target).setHeld (sel.target / 2) l).exe.held := by
    have huw : Host.Outcome.next u = _ := hu.symm.trans hg
    rw [hx] at huw
    cases huw
    exact (g.retire_none_held _ _ _).trans e.held
  refine ⟨u, hu, cores, ⟨fun j hj => (others j hj).trans (c.cpu j), fun _ => sup.trans c.sup, otp, pending, fun hm => ?frame⟩, ?held,
    fun x => Hw.mb_congr _ _ _ (mem.trans c.mem)⟩
  case frame =>
    have hmode := hm.resolve_left (s.taskOf_lt sel t ht).2
    obtain ⟨x, hux, tgts, -⟩ := rest (by rw [Hw.mode_setHeld, c.mode]; exact hmode)
    have w : Within [.exe] [R.CMP_EPn_HELD (sel.target / 2)] s.hw ((s.hw.afterFetch sel.target).setHeld (sel.target / 2) l) :=
      (c.within (by simp)).setHeld (by simp) (by simp)
    refine ⟨Frame.of_req _ _ s u _ x hux (fun p _ hp _ => w.part p (by simpa using hp)) w.reg otp pending, fun j hj => (tgts j hj).trans ?_⟩
    obtain ⟨_, g, hk, hg⟩ := c
    rw [hk]
    exact hg j hj
  case held =>
    rw [Hw.heldOf, held]
    exact Hw.heldOf_setHeld ..

/-! ## The bytes of a held store (R137) -/

/-- A byte put over part of a number of which it is byte `o + i`. -/
theorem byte_mergeBytes (d o n v i : Nat) (hi : i < n) :
    BitVec.ofNat 8 (mergeBytes d o n v / 2 ^ (8 * (o + i))) = BitVec.ofNat 8 (v / 2 ^ (8 * i)) := by
  ext j hj
  simp only [BitVec.getElem_eq_testBit_toNat, BitVec.toNat_ofNat, Nat.testBit_mod_two_pow, Nat.testBit_div_two_pow, mergeBytes,
    testBit_setBitsOf]
  rw [if_pos (by omega), show j + 8 * (o + i) - 8 * o = j + 8 * i by omega]
  simp [show j + 8 * i < 8 * n by omega]

theorem byte_mod (n v i : Nat) (hi : i < n) : BitVec.ofNat 8 (v % 2 ^ (8 * n) / 2 ^ (8 * i)) = BitVec.ofNat 8 (v / 2 ^ (8 * i)) := by
  ext j hj
  simp only [BitVec.getElem_eq_testBit_toNat, BitVec.toNat_ofNat, Nat.testBit_mod_two_pow, Nat.testBit_div_two_pow]
  simp [show j + 8 * i < 8 * n by omega]

/-- The byte enables of `n` bytes from byte `o` upward. -/
theorem testBit_byteEnables (o n i : Nat) (hi : i < n) : ((2 ^ n - 1) * 2 ^ o).testBit (o + i) = true := by
  rw [Nat.testBit_mul_two_pow]
  simp [Nat.testBit_two_pow_sub_one, hi]

/-- What a held item makes of a byte at `a` as task `t` reads it. -/
def Held.over (t a : Nat) (b : Byte) : Held → Byte
  | .exch t' g be d => if t' = t && (g = a / 8) && be.testBit (a % 8) then BitVec.ofNat 8 (d / 2 ^ (8 * (a % 8))) else b
  | .post _ _ _ _ _ => b
  | .check _ => b

/-- Below the image region a task reads its held bytes over memory. -/
theorem Hw.viewByte_eq (h : Hw) (p t a : Nat) (ha : a < 0x20000000) :
    h.viewByte p t a = (h.heldOf p).foldl (Held.over t a) (h.mb (coreToSup a)) := by
  unfold Hw.viewByte
  dsimp only
  rw [if_neg (by simp; omega), if_neg (by simp; omega), if_neg (by simp; omega)]
  congr 1
  funext b x
  cases x <;> rfl

theorem Held.over_other (t a : Nat) (b : Byte) (x : Held) (hx : heldHas t (a / 8) [x] = false) : x.over t a b = b := by
  cases x with
  | exch t' g be d =>
    have hne : (decide (t' = t) && decide (g = a / 8)) = false := by simpa [heldHas] using hx
    simp [Held.over, hne]
  | post => rfl
  | check => rfl

theorem foldl_over_none (t a : Nat) (b : Byte) (l : List Held) (hl : l.countP (fun x => heldHas t (a / 8) [x]) = 0) :
    l.foldl (Held.over t a) b = b := by
  induction l with
  | nil => rfl
  | cons x r ih =>
    rw [List.countP_eq_zero] at hl
    rw [List.foldl_cons, Held.over_other t a b x (by simpa using hl x (by simp)), ih]
    exact List.countP_eq_zero.2 fun y hy => hl y (by simp [hy])

/-- A store of `n` bytes of `v` at `a`, entered into a queue in which the task holds the group at most once, is what the task then reads. -/
theorem foldl_over_heldPut (t a n v i : Nat) (b : Byte) (l : List Held) (hn : a % 8 + n ≤ 8) (hi : i < n)
    (hl : l.countP (fun x => heldHas t (a / 8) [x]) ≤ 1) :
    (heldPut t (a / 8) (a % 8) n v l).foldl (Held.over t (a + i)) b = BitVec.ofNat 8 (v / 2 ^ (8 * i)) := by
  have hgroup : (a + i) / 8 = a / 8 := by omega
  have hbyte : (a + i) % 8 = a % 8 + i := by omega
  have hput : ∀ be d b', Held.over t (a + i) b' (.exch t (a / 8) (be ||| ((2 ^ n - 1) * 2 ^ (a % 8))) (mergeBytes d (a % 8) n v)) =
      BitVec.ofNat 8 (v / 2 ^ (8 * i)) := by
    intro be d b'
    simp only [Held.over, hgroup, hbyte, Nat.testBit_or, testBit_byteEnables _ _ _ hi, byte_mergeBytes _ _ _ _ _ hi]
    simp
  induction l generalizing b with
  | nil => exact (congrArg (Held.over t (a + i) b) (by rw [Nat.zero_or])).trans (hput 0 0 b)
  | cons x r ih =>
    rw [List.countP_cons] at hl
    cases x with
    | exch t' g be d =>
      rw [heldPut]
      split
      case isTrue hx =>
        have hrest : r.countP (fun x => heldHas t ((a + i) / 8) [x]) = 0 := by
          rw [if_pos (by simpa [heldHas] using hx)] at hl
          rw [hgroup]
          omega
        rw [List.foldl_cons, hput, foldl_over_none _ _ _ _ hrest]
      case isFalse => exact ih _ (by omega)
    | post => exact ih _ (by omega)
    | check => exact ih _ (by omega)

/-! ## Stores into an exchange area -/

/-- A store of `n` bytes at `a` by task `t` on target `i` into an exchange area that the task may write, with an entry free and no CMP
injection armed. -/
structure Hw.HoldsStore (h : Hw) (i t a n : Nat) : Prop where
  area : (exchOf h.prog.exch a).isSome = true
  granted : h.storeFault (h.split (i / 2)) t a n = none
  room : ((h.heldOf (i / 2)).filter Held.takes).length < 1024
  noInj : h.armed 2 = none

theorem CacheOnly.holdsStore {h k : Hw} {i j t a n : Nat} (c : CacheOnly h k i) (hs : h.HoldsStore j t a n) : k.HoldsStore j t a n := by
  obtain ⟨_, _, rfl, _⟩ := c
  exact ⟨hs.area, hs.granted, hs.room, hs.noInj⟩

theorem CacheOnly.heldOf {h k : Hw} {i : Nat} (c : CacheOnly h k i) (p : Nat) : k.heldOf p = h.heldOf p := by
  obtain ⟨_, _, rfl, _⟩ := c
  rfl

/-- Whether or not the task holds the group already, the store enters the queue. -/
theorem Hw.HoldsStore.storeReq_eq {h : Hw} {i t a n : Nat} (hs : h.HoldsStore i t a n) (v : Nat) (ea : Word) : h.storeReq i t a n v ea =
    (h.setHeld (i / 2) (heldPut t (a / 8) (a % 8) n (v % 2 ^ (8 * n)) (h.heldOf (i / 2))), .val 0 0) := by
  obtain ⟨x, hx⟩ := Option.isSome_iff_exists.1 hs.area
  have hstore : h.doStore i t a n v = h.setHeld (i / 2) (heldPut t (a / 8) (a % 8) n (v % 2 ^ (8 * n)) (h.heldOf (i / 2))) := by
    unfold Hw.doStore
    exact if_pos hs.area
  have hroom : h.heldNoRoom (i / 2) = false := decide_eq_false (Nat.not_le.2 hs.room)
  have hinj : h.cmpArmed (i / 2) 6 = false := by simp [Hw.cmpArmed, hs.noInj]
  unfold Hw.storeReq
  simp only [hs.granted, hx, hinj, hroom, hstore, Bool.false_eq_true, if_false, ite_self]

/-- What ends an instruction that only commits. -/
theorem Cpu.quiet_commit (c : Cpu) (ws : List (BitVec 64)) : c.sameK (c.commit ws 1).next ∧ c.quiet (c.commit ws 1).next :=
  ⟨fun _ => rfl, ⟨rfl, rfl⟩, rfl, rfl, rfl, by simp [Cpu.sameStatus, Cpu.next, Cpu.commit]⟩

theorem Cpu.aligned_of_memChk {c : Cpu} {r : Reg} {a : Word} {n : Nat} (hc : c.memChk r a n = none) : a.toNat % n = 0 := by
  by_cases hne : a.toNat % n ≠ 0
  · rw [Cpu.memChk, if_pos hne] at hc
    exact absurd hc (Option.some_ne_none _)
  · exact Decidable.not_not.1 hne

/-- An aligned access of 1, 2, 4 or 8 bytes lies in one group of 8. -/
theorem group_of_aligned {a n : Nat} (hn : n ∣ 8) (ha : a % n = 0) : a % 8 + n ≤ 8 := by
  have hgap : n ∣ 8 - a % 8 := Nat.dvd_sub hn ((Nat.dvd_mod_iff hn).2 (Nat.dvd_of_mod_eq_zero ha))
  have := Nat.le_of_dvd (by omega) hgap
  omega

/-- SB, SH or SW into an exchange area: the bytes are held, and the task reads them there. -/
theorem opSt_held (s : State) (sel : CoreSel) (t n : Nat) (w : Word) (rt rs1 : Reg) (d : BitVec 15) (hn : n ∣ 8) (hr : s.ready sel)
    (ht : s.taskOf sel = some t) (ha : ((s.core sel false).ea rs1 d).toNat < 0x10800000)
    (hs : s.hw.HoldsStore sel.target t ((s.core sel false).ea rs1 d).toNat n)
    (hone : (s.hw.heldOf (sel.target / 2)).countP (fun x => heldHas t (((s.core sel false).ea rs1 d).toNat / 8) [x]) ≤ 1)
    (hc : ∀ b, (s.core sel b).memChk rs1 ((s.core sel b).ea rs1 d) n = none) :
    ∃ u, runOp s sel (opSt w rt rs1 d n) = .next u ∧ (∀ b, (s.core sel b).sameK (u.core sel b) ∧ (s.core sel b).quiet (u.core sel b)) ∧
      AroundBut [] [R.CMP_EPn_HELD (sel.target / 2)] sel s u ∧ (∀ x, u.hw.mb x = s.hw.mb x) ∧
      ∀ i, i < n → u.hw.viewByte (sel.target / 2) t (((s.core sel false).ea rs1 d).toNat + i) = byteOf ((s.core sel false).rd rt) i := by
  have c := CacheOnly.afterFetch s.hw sel.target
  have hlead := (c.holdsStore hs).storeReq_eq (((s.core sel false).rd rt).toNat % 2 ^ (8 * n)) ((s.core sel false).ea rs1 d)
  rw [c.heldOf, Nat.mod_mod] at hlead
  obtain ⟨u, hu, cores, around, held, mem⟩ := runOp_putsHeld s sel (opSt w rt rs1 d n) t _ hr ht hc (fun _ => rfl) rfl (fun _ => rfl) hlead
  refine ⟨u, hu, fun b => ?_, around, mem, fun i hi => ?_⟩
  · rw [cores b]
    exact Cpu.quiet_commit _ _
  · have hle := Nat.le_of_dvd (by decide) hn
    rw [Hw.viewByte_eq _ _ _ _ (by omega), held,
      foldl_over_heldPut _ _ _ _ _ _ _ (group_of_aligned hn (Cpu.aligned_of_memChk (hc false))) hi hone, byte_mod _ _ _ hi]
    rfl

/-- Settles O12: SB, SH and SW are the stores of 1, 2 and 4 bytes. -/
theorem exchangeAreaStores : Obligations.ExchangeAreaStores := by
  unfold Obligations.ExchangeAreaStores
  intro s sel t rt rs1 d hr ht hw hx hroom hinj hone
  have ha : ((s.core sel false).ea rs1 d).toNat < 0x10800000 := by
    simp only [within, Bool.and_eq_true, decide_eq_true_eq] at hw
    omega
  refine ⟨?sb, ?sh, ?sw⟩
  case sb => exact fun hc hf => opSt_held s sel t 1 _ rt rs1 d (by decide) hr ht ha ⟨hx, hf, hroom, hinj⟩ hone hc
  case sh => exact fun hc hf => opSt_held s sel t 2 _ rt rs1 d (by decide) hr ht ha ⟨hx, hf, hroom, hinj⟩ hone hc
  case sw => exact fun hc hf => opSt_held s sel t 4 _ rt rs1 d (by decide) hr ht ha ⟨hx, hf, hroom, hinj⟩ hone hc

/-! ## What closes a window on a lockstep pair -/

/-- `g` is the machine in which lockstep pair `n` has executed an instruction that asks nothing of memory, its retirement still to come.
The fetch may have noted a cache error in the open window (R127). -/
structure LockstepExecuted (s : State) (n : Fin 4) (o : Op) (g : Hw) : Prop where
  core : ∀ b, g.cpu (2 * n.val + b2n b) = o.fin (s.core (.pair n) b) 0 0
  tgt : ∃ e, g.tgt (2 * n.val) = { s.hw.tgt (2 * n.val) with cacheErr := e }
  split : g.split (2 * n.val / 2) = false
  profile : g.profile (2 * n.val / 2) = s.hw.profile n.val
  mode : g.mode = s.hw.mode
  mem : g.mem = s.hw.mem

theorem runOp_lockstep (s : State) (n : Fin 4) (o : Op) (hr : s.ready (.pair n)) (hc : ∀ b, o.chk (s.core (.pair n) b) = none)
    (htwo : o.two = none) (hq : ∀ c, o.req c = .none) (hcommits : ∀ c, (o.fin c 0 0).commits = c.commits + 1) :
    ∃ g t, LockstepExecuted s n o g ∧
      runOp s (.pair n) o = onHw s (fun _ => g.retire (2 * n.val) t 1 (o.close (s.core (.pair n) false))) := by
  obtain ⟨t, ht⟩ := Option.isSome_iff_exists.1 hr.1
  have c := CacheOnly.afterFetch s.hw (2 * n.val)
  have sp : s.hw.split (2 * n.val / 2) = false := Hw.canRun_split s.hw (2 * n.val) true t ht
  obtain ⟨g, e, hg⟩ := runOp_executed s (.pair n) o t hr ht hc htwo (fun c => by rw [hq]; rfl) (s.hw.afterFetch (2 * n.val)) 0 0
    (by rw [hq]; rfl)
  rw [hcommits, Nat.add_sub_cancel_left] at hg
  refine ⟨g, t, ⟨fun b => ?core, ?tgt, (e.split _).trans ((c.split _).trans sp), ?profile, e.mode.trans c.mode, e.mem.trans c.mem⟩, hg⟩
  case core =>
    cases b
    · exact e.lead
    · exact e.shadow sp
  case tgt =>
    rw [e.tgt]
    exact s.hw.afterFetch_tgt _
  case profile => rw [e.profile, c.profile, Nat.mul_div_cancel_left _ (by decide)]

/-- TEND and TFAULT: a commit on each core, and the open window closes with the task's end. -/
theorem opEnd_ends (s : State) (n : Fin 4) (w : Word) (f : Cpu → CloseWhy) (hr : s.ready (.pair n))
    (hsup : ∀ b, (s.core (.pair n) b).isSup = false)
    (hwhy : f (s.core (.pair n) false) = .taskEnd ∨ ∃ r, f (s.core (.pair n) false) = .taskFault r) :
    ∃ u, runOp s (.pair n) (opEnd w f) = .next u ∧
      (∀ b, (s.core (.pair n) b).sameK (u.core (.pair n) b) ∧ (s.core (.pair n) b).quiet (u.core (.pair n) b)) ∧
      u.hw.tgt (2 * n.val) = { s.hw.tgt (2 * n.val) with
        commits := (s.hw.tgt (2 * n.val)).commits + 1, closing := some (f (s.core (.pair n) false)),
        cacheErr := (u.hw.tgt (2 * n.val)).cacheErr } ∧
      ∀ x, u.hw.mb x = s.hw.mb x := by
  obtain ⟨g, t, e, hg⟩ := runOp_lockstep s n (opEnd w f) hr (fun b => by simp [opEnd, Cpu.notSup, hsup b]) rfl (fun _ => rfl) (fun _ => rfl)
  obtain ⟨cpus, mem, tgt⟩ := g.retire_end (2 * n.val) t 1 hwhy e.split
  obtain ⟨err, herr⟩ := e.tgt
  rw [herr] at tgt
  refine ⟨_, hg, fun b => ?core, ?tgt, fun x => Hw.mb_congr _ _ _ (mem.trans e.mem)⟩
  case core =>
    have core : State.core { s with hw := g.retire (2 * n.val) t 1 (some (f (s.core (.pair n) false))) } (.pair n) b = _ :=
      (cpus _).trans (e.core b)
    rw [opEnd, core]
    exact Cpu.quiet_commit _ _
  case tgt =>
    dsimp only [opEnd]
    rw [tgt]

/-- The commit that brings a lockstep pair's window to the profile's length closes it (R131), whatever the instruction that asks nothing of
memory and brings no close of its own. -/
theorem runOp_closesAtLength (s : State) (n : Fin 4) (o : Op) (hr : s.ready (.pair n)) (hc : ∀ b, o.chk (s.core (.pair n) b) = none)
    (htwo : o.two = none) (hq : ∀ c, o.req c = .none) (hclose : ∀ c, o.close c = none)
    (hcommits : ∀ c, (o.fin c 0 0).commits = c.commits + 1)
    (hlen : (s.hw.tgt (2 * n.val)).commits + 1 = windowLen (s.hw.profile n.val)) (hm : s.hw.mode ≠ .debug) :
    ∃ u, runOp s (.pair n) o = .next u ∧ (u.hw.tgt (2 * n.val)).closing = some .length := by
  obtain ⟨g, t, e, hg⟩ := runOp_lockstep s n o hr hc htwo hq hcommits
  obtain ⟨err, herr⟩ := e.tgt
  rw [hclose] at hg
  exact ⟨_, hg, g.retire_none_length (2 * n.val) t 1 e.split (by rw [e.mode]; exact hm) (by rw [e.profile, herr]; exact Nat.le_of_eq hlen.symm)⟩

/-- WDCHK holds a check-in of the running task (R136). -/
theorem wdchk_holds (s : State) (n : Fin 4) (t : Nat) (hr : s.ready (.pair n)) (hsup : ∀ b, (s.core (.pair n) b).isSup = false)
    (ht : s.taskOf (.pair n) = some t) :
    CompletesBut [] [R.CMP_EPn_HELD n.val] (.wdchk (.pair n)) (.pair n) s (fun c e => c.sameK e ∧ c.quiet e)
      (fun u => u.hw.heldOf n.val = s.hw.heldOf n.val ++ [.check t] ∧ ∀ x, u.hw.mb x = s.hw.mb x) := by
  have hpair : CoreSel.target (.pair n) / 2 = n.val := Nat.mul_div_cancel_left _ (by decide)
  have c := CacheOnly.afterFetch s.hw (CoreSel.target (.pair n))
  obtain ⟨u, hu, cores, around, held, mem⟩ := runOp_putsHeld s (.pair n)
    { word := kyEncode .wdchk, chk := Cpu.notSup, req := fun _ => .checkin, fin := fun c _ _ => (c.commitCop c.pc 0 8 0#32 0#32 0).next }
    t (s.hw.heldOf (CoreSel.target (.pair n) / 2) ++ [.check t]) hr ht (fun b => by simp [Cpu.notSup, hsup b]) (fun _ => rfl) rfl (fun _ => rfl)
    (by rw [← c.heldOf]; rfl)
  rw [hpair] at around held
  refine ⟨u, hu, fun b => ?_, around, held, mem⟩
  rw [cores b]
  exact Cpu.quiet_commit _ _

theorem Cpu.result_commits (c : Cpu) (rd : Reg) (v : Word) : (c.result rd v).commits = c.commits + 1 := by
  obtain ⟨-, ⟨⟨-, hcommits⟩, -⟩, -⟩ := c.gives_result rd v
  exact hcommits

/-- Settles O20: TEND, TFAULT, WDCHK, and the instruction that completes the window. -/
theorem taskEndFaultAndCheckIn : Obligations.TaskEndFaultAndCheckIn := by
  unfold Obligations.TaskEndFaultAndCheckIn
  rintro s n rs1 g hr rfl hsup
  refine ⟨?tend, ?tfault, ?wdchk, ?length⟩
  case tend => exact opEnd_ends s n _ (fun _ => .taskEnd) hr hsup (.inl rfl)
  case tfault => exact opEnd_ends s n _ (fun c => .taskFault (tfReason (c.rd rs1))) hr hsup (.inr ⟨_, rfl⟩)
  case wdchk => exact fun t ht => wdchk_holds s n t hr hsup ht
  case length =>
    exact fun k hlen hm => runOp_closesAtLength s n (opR _ 0#5 _) hr (fun _ => rfl) rfl (fun _ => rfl) (fun _ => rfl)
      (fun c => c.result_commits _ _) hlen hm

end Sys2Proof.Machine
end
